-- ==== Sys2Proof/Word.lean ====
section
/-! DEFINITION. The widths of the CSL9740: bytes, 32-bit control registers, 64-bit counters, 72-bit fabric words,
36-bit halves and 144-bit accumulators (R6, R7, R60). -/

namespace Sys2Proof

/-- A byte of host memory, of an image or of a datagram (R7, R190). -/
abbrev Byte := BitVec 8
/-- A 72-bit fabric word (R7, R61). -/
abbrev Word := BitVec 72
/-- A 36-bit half of a fabric word: firn or C36 (R60). -/
abbrev Half := BitVec 36
/-- A 144-bit accumulator or reduction word, Q16.128 (R54, R60). -/
abbrev Acc := BitVec 144
/-- A 32-bit control-space register (R13). -/
abbrev W32 := BitVec 32
/-- A 64-bit register pair, such as the BTC (R14). -/
abbrev W64 := BitVec 64

/-- The high half [71:36] of a word (R61). -/
def Word.hi (w : Word) : Half := w.extractLsb' 36 36
/-- The low half [35:0] of a word (R61). -/
def Word.lo (w : Word) : Half := w.extractLsb' 0 36
/-- A word from its two halves, high first (R61). -/
def Word.pack (h l : Half) : Word := h ++ l
/-- The high half An[143:72] of an accumulator (R54). -/
def Acc.hi (a : Acc) : Word := a.extractLsb' 72 72
/-- The low half An[71:0] of an accumulator (R54). -/
def Acc.lo (a : Acc) : Word := a.extractLsb' 0 72
/-- An accumulator from its two halves (R54). -/
def Acc.pack (h l : Word) : Acc := h ++ l

end Sys2Proof
end

