-- ==== Sys2Proof/Syntax.lean ====
section
/-! DEFINITION. The commands of the device: one constructor per row of the opcode table, with the row's operands. -/

namespace Sys2Proof

/-- What the check bits of a word read find (R73, R254): physical, so a command's operand. -/
inductive Ecc where
  | ok
  | single
  | double
  deriving DecidableEq, Repr

/-- What physics adds to one operation of an instruction issued whole: what its read finds, a transfer-side write to the word in the
read's cycle (R251), a residue mismatch (R68), parity failures of what it sends (R141): here and at an import lane by logical index (64:
the Wellhead inlet), at a bridge input or a contribution register. -/
structure OpFacts where
  ecc : Ecc
  coll : Bool
  mism : Bool
  badHere : List (Fin 65)
  badThere : List (Fin 65)
  badPoint : Bool
  deriving DecidableEq, Repr

/-- How a transfer-side access meets an F-port access to the same word (R251, R252): physical, so a command's operand. -/
inductive Meet where
  /-- No F-port access to the word in the access's cycles. -/
  | none
  /-- The fabric reads the word in the same cycle. -/
  | read
  /-- The fabric's full-word write of the word completes in the same cycle. -/
  | write
  /-- A half-word store of the fabric has the word, in its granted cycle. -/
  | spanRead
  /-- A half-word store of the fabric has the word, later in its span. -/
  | span
  deriving DecidableEq, Repr

/-- One fabric access of a pump or of BAR2: what the check bits find, and how each attempt meets the F port. -/
structure Access where
  ecc : Ecc := .ok
  meets : List Meet := []
  deriving DecidableEq, Repr

/-- Where a received datagram comes from: port, source address (16 bytes, IPv4 mapped), source UDP port, destination UDP port. -/
structure Peer where
  port : Nat := 0
  addr : List Byte := []
  udp : Nat := 0
  dst : Nat := 0
  deriving DecidableEq, Repr

/-- A received Ethernet frame of UDP: what its checks and headers say, and its UDP payload (R322, R331). -/
structure MediaFrame where
  /-- The frame check sequence is right. -/
  fcs : Bool := true
  /-- The UDP checksum is right or, on IPv4, zero; no fragment, no IPv6 extension header, a supported tag. -/
  udp : Bool := true
  whole : Bool := true
  /-- VID of its tag, none untagged. -/
  vid : Option Nat := none
  dst : List Byte := []
  src : List Byte := []
  dport : Nat := 0
  sport : Nat := 0
  payload : List Byte := []
  deriving DecidableEq, Repr

/-- A received PTP message (R339): its fields; times in ns, the correction in 2^-16 ns. -/
structure PtpMsg where
  domain : Nat := 0
  seq : Nat := 0
  /-- Source address of its datagram, and whether it was sent to the device's own address (R339). -/
  addr : List Byte := []
  uni : Bool := false
  /-- sourcePortIdentity. -/
  src : Nat := 0
  twoStep : Bool := false
  corr : Int := 0
  /-- Origin, receive or response time it carries. -/
  time : Nat := 0
  /-- The response time of a two-step Pdelay_Resp; 0 where the turnaround is in the correction. -/
  time2 : Nat := 0
  logInt : Int := 0
  /-- requestingPortIdentity of a response. -/
  req : Nat := 0
  /-- Announce: the grandmaster's data set. -/
  p1 : Nat := 0
  cls : Nat := 0
  acc : Nat := 0
  var : Nat := 0
  p2 : Nat := 0
  gm : Nat := 0
  steps : Nat := 0
  deriving DecidableEq, Repr

/-- A decoded AES3 subframe (R343, R347). -/
structure Subframe where
  /-- Preamble: 0 X, 1 Y, 2 Z, 3 missing, misplaced or malformed; bit cells valid. -/
  pre : Nat := 0
  cells : Bool := true
  audio : BitVec 24 := 0
  v : Bool := false
  u : Bool := false
  c : Bool := false
  /-- Parity is even over the subframe. -/
  parity : Bool := true
  deriving DecidableEq, Repr

/-- What a register write needs beside its value, for the registers whose effect hangs on it: whether it lands after T − 65 of the
coming boundary (R246, R388) or within 2 bit clocks of a frame sync (R361); the cycle and the PTP time of a capture (R35); the bytes
a CRC unit has consumed since the last command to it (R401); whether firmware itself writes (R246, R258). -/
structure WrFacts where
  late : Bool := false
  cyc : Nat := 0
  sec : Nat := 0
  ns : Nat := 0
  ate : Nat := 0
  fw : Bool := false
  deriving DecidableEq, Repr

/-- What physics adds to a boundary: slots whose block instruction was withdrawn at C − 64 (R108), and facts of the cistern accesses of
the port engines, by word address (R251, R254). -/
structure BoundaryFacts where
  wdraw : List (Fin 1088) := []
  acc : List (Nat × Access) := []
  deriving DecidableEq, Repr

/-- What physics adds to a program's first instruction: what the check bits of its word find, and the facts of its operations. -/
structure StartFacts where
  ecc : Ecc := .ok
  ops : List OpFacts := []
  deriving DecidableEq, Repr

/-- What physics adds to the reads of a tap's window (R166, R251, R254): for each of its words what the check bits find, and whether a
transfer-side write meets the read. -/
structure WindowFacts where
  ecc : List Ecc := []
  coll : List Bool := []
  deriving DecidableEq, Repr

/-- What the host has set in the PCIe function by the time the link is up (R292, R294): PME_En and the vector masks. -/
structure PcieSettings where
  pme : Bool
  mask : BitVec 64
  deriving DecidableEq, Repr

/-- One host read of a pump's burst: the pump, and which read of the burst, where it wraps (R266). -/
structure BurstRead where
  n : Fin 64
  part : Fin 8
  deriving DecidableEq, Repr

/-- A grain that a stream writes (R178 step 2): the stream, and the facts of the twelve buffer accesses. -/
structure GrainWrite where
  g : Fin 4096
  acc : List Access := []
  deriving DecidableEq, Repr

/-- What physics adds to a grain read (R178 step 4, R184): the check bits of its six words, and how its head writes meet the F port. -/
structure GrainFacts where
  ecc : List Ecc := []
  meets : List Meet := []
  deriving DecidableEq, Repr

/-- What physics adds to a line copy (R178 step 5): the read of the head word, and the write of the line word. -/
structure LineFacts where
  head : Access := {}
  line : Access := {}
  deriving DecidableEq, Repr

/-- How a retrain ended (R188, R189): the memory answers again; the step that failed last; the duration in 0.1 ms. -/
structure Retrain where
  ok : Bool
  step : Fin 16
  time : BitVec 16
  deriving DecidableEq, Repr

/-- Who accesses a register: firmware or another agent (R258), in an access context (R14). -/
structure Accessor where
  firmware : Bool
  ctx : Fin 9
  deriving DecidableEq, Repr

/-- One command: a constructor for each row of the opcode table, in its order, with the row's operands. Operands that recur:
`c`, `s` a cluster and a physical slot in it; `g` how many issue cycles after the cell's last instruction this operation issues (0:
the same instruction); `ecc` what the check bits of the word read find; `stalls` the stall cycles arbitration gives (R71, R248);
`coll` a read that collides with a transfer-side write; `mism` the product check finds a mismatch (R68); `bad…` lanes or points whose
exchange check fails (R141–R143); `a`, `h` an agent and a command handle; `ctx` an access context (R14); `late` a write that lands
after the last cycle that counts for the coming boundary; `acc` what the check bits find and how an access meets the F port, for the
cistern accesses of the port engines that are named by their word address (`ecc` and the first of `meets`); `cyc`, `sec`, `ns` a cycle in the base tick and the PTP time there. -/
inductive Instr where
  /-- TICK_BOUNDARY (R43): the next boundary at ×4 position `q` of its base tick (0: the base boundary), with every minor
  boundary before it. In power-on reset no tick runs (R405). -/
  | tickBoundary (q : Fin 4) (f : BoundaryFacts)
  /-- COMMIT_DEADLINE (R233). -/
  | commitDeadline (g : Fin 256)
  /-- SAMPLE_PROGRAM_START (R37). -/
  | sampleProgramStart (c : Fin 16) (s : Fin 68) (stalls : Nat) (f : StartFacts)
  /-- CROSSFADE_PROGRAM_START (R238). -/
  | crossfadeProgramStart (c : Fin 16) (s : Fin 68) (stalls : Nat) (f : StartFacts)
  /-- WELLHEAD_CLOSE (R155). -/
  | wellheadClose (c : Fin 16)
  /-- WELLHEAD_TAP (R153, R157). -/
  | wellheadTap (c : Fin 16) (e : Fin 32768) (second : Bool) (tbl : Ecc) (win : WindowFacts)
  /-- WELLHEAD_WRITE_SLOT (R148). -/
  | wellheadWriteSlot (c : Fin 16) (line : Fin 1024) (ecc : Ecc)
  /-- WELLHEAD_LANE_DRIVE (R155). -/
  | wellheadLaneDrive (c : Fin 16) (lane : Fin 256) (bad : List (Fin 65))
  /-- YIELD_REDIRECTION (R112). -/
  | yieldRedirection (c : Fin 16) (s : Fin 68) (withdrawn : Bool)
  /-- YIELD_OVERRUN (R115). -/
  | yieldOverrun (c : Fin 16) (s : Fin 68)
  /-- BLOCK_RESUME (R116). -/
  | blockResume (c : Fin 16) (s : Fin 68)
  /-- CHAIN_ADD (R132, R133). -/
  | chainAdd (ch : Fin 4096) (c : Fin 16) (badUp badDn : Bool) (bad : List (Fin 65))
  /-- BRIDGE_OUTPUT (R136). -/
  | bridgeOutput (c : Fin 16) (k : Fin 32) (bad : List (Fin 65))
  /-- MPY (R62, R68, R81). -/
  | mpy (c : Fin 16) (s : Fin 68) (g : Nat) (mode : Fin 8) (an : Fin 4) (xr : Fin 32) (ysrc : Bool) (yop : Fin 32)
      (ecc : Ecc) (mism : Bool)
  /-- MAC (R62, R68, R81). -/
  | mac (c : Fin 16) (s : Fin 68) (g : Nat) (mode : Fin 8) (an : Fin 4) (xr : Fin 32) (ysrc : Bool) (yop : Fin 32)
      (ecc : Ecc) (mism : Bool)
  /-- MSU (R62, R68, R81). -/
  | msu (c : Fin 16) (s : Fin 68) (g : Nat) (mode : Fin 8) (an : Fin 4) (xr : Fin 32) (ysrc : Bool) (yop : Fin 32)
      (ecc : Ecc) (mism : Bool)
  /-- CELL_NOP: an issue cycle with no effect; an uncorrectable program word issues so and quenches (R73, R79). -/
  | cellNop (c : Fin 16) (s : Fin 68) (g : Nat) (ecc : Ecc)
  /-- LDS (R84, R85). -/
  | lds (c : Fin 16) (s : Fin 68) (g : Nat) (d : Fin 32) (p : Fin 16) (am : Fin 8) (ecc : Ecc)
  /-- LDS_H (R84, R85). -/
  | ldsH (c : Fin 16) (s : Fin 68) (g : Nat) (d : Fin 32) (p : Fin 16) (am : Fin 8) (ecc : Ecc)
  /-- LDS_L (R84, R85). -/
  | ldsL (c : Fin 16) (s : Fin 68) (g : Nat) (d : Fin 32) (p : Fin 16) (am : Fin 8) (ecc : Ecc)
  /-- LDK (R84, R85). -/
  | ldk (c : Fin 16) (s : Fin 68) (g : Nat) (d : Fin 32) (p : Fin 16) (am : Fin 8) (ecc : Ecc)
  /-- LDK_H (R84, R85). -/
  | ldkH (c : Fin 16) (s : Fin 68) (g : Nat) (d : Fin 32) (p : Fin 16) (am : Fin 8) (ecc : Ecc)
  /-- LDK_L (R84, R85). -/
  | ldkL (c : Fin 16) (s : Fin 68) (g : Nat) (d : Fin 32) (p : Fin 16) (am : Fin 8) (ecc : Ecc)
  /-- LDC (R71, R84, R85). -/
  | ldc (c : Fin 16) (s : Fin 68) (g : Nat) (d : Fin 32) (p : Fin 16) (am : Fin 8) (stalls : Nat) (ecc : Ecc) (coll : Bool)
  /-- LDC_H (R71, R84, R85). -/
  | ldcH (c : Fin 16) (s : Fin 68) (g : Nat) (d : Fin 32) (p : Fin 16) (am : Fin 8) (stalls : Nat) (ecc : Ecc) (coll : Bool)
  /-- LDC_L (R71, R84, R85). -/
  | ldcL (c : Fin 16) (s : Fin 68) (g : Nat) (d : Fin 32) (p : Fin 16) (am : Fin 8) (stalls : Nat) (ecc : Ecc) (coll : Bool)
  /-- MOV (R84). -/
  | mov (c : Fin 16) (s : Fin 68) (g : Nat) (d n : Fin 32)
  /-- SWAPH (R84). -/
  | swaph (c : Fin 16) (s : Fin 68) (g : Nat) (d n : Fin 32)
  /-- CMP (R86). -/
  | cmp (c : Fin 16) (s : Fin 68) (g : Nat) (n m : Fin 32) (rel k : Fin 4)
  /-- CMOV_T (R84). -/
  | cmovT (c : Fin 16) (s : Fin 68) (g : Nat) (d n : Fin 32) (k : Fin 4)
  /-- CMOV_F (R84). -/
  | cmovF (c : Fin 16) (s : Fin 68) (g : Nat) (d n : Fin 32) (k : Fin 4)
  /-- SHF (R87). -/
  | shf (c : Fin 16) (s : Fin 68) (g : Nat) (d : Fin 32) (sh : BitVec 7) (fn : Fin 4)
  /-- CLRA (R84). -/
  | clra (c : Fin 16) (s : Fin 68) (g : Nat) (a : Fin 4)
  /-- MVA (R84). -/
  | mva (c : Fin 16) (s : Fin 68) (g : Nat) (a : Fin 4) (n : Fin 32)
  /-- MVAH (R84). -/
  | mvah (c : Fin 16) (s : Fin 68) (g : Nat) (a : Fin 4) (n : Fin 32)
  /-- MVAL (R84). -/
  | mval (c : Fin 16) (s : Fin 68) (g : Nat) (a : Fin 4) (n : Fin 32)
  /-- XRD (R91, R125). -/
  | xrd (c : Fin 16) (s : Fin 68) (g : Nat) (d : Fin 32) (lane : Fin 256)
  /-- XRA (R84, R125). -/
  | xra (c : Fin 16) (s : Fin 68) (g : Nat) (a : Fin 4) (lane : Fin 256)
  /-- XRED (R133). -/
  | xred (c : Fin 16) (s : Fin 68) (g : Nat) (a : Fin 4) (lane : Fin 256) (badPoint : Bool)
  /-- MOVS (R88). -/
  | movs (c : Fin 16) (s : Fin 68) (g : Nat) (wr : Bool) (cls : Fin 8) (idx : Fin 16) (n : Fin 32)
  /-- SETP (R84, R93). -/
  | setp (c : Fin 16) (s : Fin 68) (g : Nat) (cls : Fin 4) (n : Fin 16) (imm : BitVec 20)
  /-- PADD (R84). -/
  | padd (c : Fin 16) (s : Fin 68) (g : Nat) (p : Fin 16) (imm : BitVec 10)
  /-- PMOD (R84). -/
  | pmod (c : Fin 16) (s : Fin 68) (g : Nat) (p : Fin 16) (am : Fin 8)
  /-- LDPT (R89). -/
  | ldpt (c : Fin 16) (s : Fin 68) (g : Nat) (n : Fin 16) (ecc : Ecc)
  /-- STPT (R89). -/
  | stpt (c : Fin 16) (s : Fin 68) (g : Nat) (n : Fin 16)
  /-- STORE_PATH_MOVE: A store-path move (R63, R90). -/
  | storePathMove (c : Fin 16) (s : Fin 68) (g : Nat) (dst fmt : Fin 4) (src : Fin 64) (dop : BitVec 9) (ext : Option
      (BitVec 20)) (stalls : Nat) (ecc : Ecc) (badHere badThere : List (Fin 65)) (badPoint : Bool)
  /-- END (R105). -/
  | cellEnd (c : Fin 16) (s : Fin 68) (g : Nat)
  /-- REP (R96). -/
  | rep (c : Fin 16) (s : Fin 68) (g : Nat) (lp : Fin 4) (len : Fin 512) (count : BitVec 16)
  /-- BXCLR (R95). -/
  | bxclr (c : Fin 16) (s : Fin 68) (g : Nat)
  /-- STSET (R95). -/
  | stset (c : Fin 16) (s : Fin 68) (g : Nat) (mask : BitVec 8)
  /-- STCLR (R95). -/
  | stclr (c : Fin 16) (s : Fin 68) (g : Nat) (mask : BitVec 8)
  /-- BWAIT (R118). -/
  | bwait (c : Fin 16) (s : Fin 68) (g : Nat)
  /-- YEND (R112, R116). -/
  | yend (c : Fin 16) (s : Fin 68) (g : Nat)
  /-- BR (R98). -/
  | br (c : Fin 16) (s : Fin 68) (g : Nat) (off : BitVec 9)
  /-- BRT (R98). -/
  | brt (c : Fin 16) (s : Fin 68) (g : Nat) (k : Fin 4) (off : BitVec 9)
  /-- BRF (R98). -/
  | brf (c : Fin 16) (s : Fin 68) (g : Nat) (k : Fin 4) (off : BitVec 9)
  /-- JMP (R98). -/
  | jmp (c : Fin 16) (s : Fin 68) (g : Nat) (t : BitVec 11)
  /-- JMPP (R98). -/
  | jmpp (c : Fin 16) (s : Fin 68) (g : Nat) (p : Fin 16)
  /-- NOP (R302). -/
  | nop (a : Fin 8) (h : BitVec 16)
  /-- IMAGE_LOAD (R212). -/
  | imageLoad (a : Fin 8) (h : BitVec 16)
  /-- IMAGE_HEADER_CHECK (R212 step 2). -/
  | imageHeaderCheck (bytes : Option (List Byte))
  /-- IMAGE_SECTION_CHECK (R212 step 3). -/
  | imageSectionCheck (bytes : Option (List Byte))
  /-- IMAGE_TRAILER_CHECK (R212 steps 4 to 7). -/
  | imageTrailerCheck (bytes : Option (List Byte))
  /-- IMAGE_FEED_STALL (R302). -/
  | imageFeedStall
  /-- CLEAR (R303). -/
  | clear (a : Fin 8) (h : BitVec 16)
  /-- IMAGE_KEY (R198). -/
  | imageKey (a : Fin 8) (h : BitVec 16)
  /-- SESSION_KEY (R301). -/
  | sessionKey (a : Fin 8) (h : BitVec 16)
  /-- SESSION_CFG (R296). -/
  | sessionCfg (a : Fin 8) (h : BitVec 16)
  /-- COMMIT (R303). -/
  | commit (a : Fin 8) (h : BitVec 16)
  /-- COMMIT_CANCEL (R231). -/
  | commitCancel (a : Fin 8) (h : BitVec 16)
  /-- COMMIT_MEMBER (R227). -/
  | commitMember (a : Fin 8) (h : BitVec 16)
  /-- GLACIER_TRAIN (R186). -/
  | glacierTrain (a : Fin 8) (h : BitVec 16)
  /-- CAPTURE (R302); given again when the stream has ended. -/
  | capture (a : Fin 8) (h : BitVec 16)
  /-- SELF_TEST (R440). -/
  | selfTest (a : Fin 8) (h : BitVec 16)
  /-- TIME (R35): the cycle of the base tick and the PTP time at the capture. -/
  | time (a : Fin 8) (h : BitVec 16) (cyc : Fin 25600) (sec : BitVec 48) (ns : Fin 1000000000)
  /-- REG_RD (R303). -/
  | regRd (a : Fin 8) (h : BitVec 16)
  /-- REG_WR (R303), with the facts of the registers whose effect hangs on them. -/
  | regWr (a : Fin 8) (h : BitVec 16) (f : WrFacts)
  /-- CLOCK_REF (R374). -/
  | clockRef (a : Fin 8) (h : BitVec 16)
  /-- REFERENCE_MEASURED (R374): family, multiplier, pull, or correction for CKI1. -/
  | referenceMeasured (fam : Bool) (mult : Fin 3) (p : Int)
  /-- REFERENCE_LOCKED (R374). -/
  | referenceLocked
  /-- REFERENCE_LOSS (R375). -/
  | referenceLoss
  /-- REFERENCE_RETURN (R375). -/
  | referenceReturn
  /-- CLOCK_HOP (R376). -/
  | clockHop (a : Fin 8) (h : BitVec 16)
  /-- HOP_CANCEL_CHECK (R376). -/
  | hopCancelCheck
  /-- HOP (R48). -/
  | hop
  /-- NET_JOIN (R323). -/
  | netJoin (a : Fin 8) (h : BitVec 16)
  /-- FW_UPDATE (R418): the agent and handle of the command, the package as read, none where the host read fails. -/
  | fwUpdate (a : Fin 8) (h : BitVec 16) (pkg : Option (List Byte))
  /-- FW_UPDATE_DONE (R418). -/
  | fwUpdateDone (ok : Bool)
  /-- FW_TRIAL (R419). -/
  | fwTrial (a : Fin 8) (h : BitVec 16)
  /-- DBG_CHALLENGE (R423). -/
  | dbgChallenge (a : Fin 8) (h : BitVec 16)
  /-- DBG_CHALLENGE_EXPIRY (R423). -/
  | dbgChallengeExpiry
  /-- DBG_UNLOCK (R423). -/
  | dbgUnlock (a : Fin 8) (h : BitVec 16)
  /-- DEV_RESET (R302). -/
  | devReset (a : Fin 8) (h : BitVec 16)
  /-- COMMAND_DOORBELL (R286). -/
  | commandDoorbell (a : Fin 4) (tail : BitVec 12)
  /-- COMMAND_ENTRY_READ (R286, R288): the 64 bytes the read returns. -/
  | commandEntryRead (a : Fin 4) (e : List Byte)
  /-- COMMAND_FETCH_ERROR (R286). -/
  | commandFetchError (a : Fin 4)
  /-- COMPLETION_WRITE (R289, R290). -/
  | completionWrite (a : Fin 8)
  /-- COMPLETION_HEAD_ADVANCE (R290). -/
  | completionHeadAdvance (a : Fin 4) (head : BitVec 12)
  /-- MODERATION_TIMER (R293). -/
  | moderationTimer (a : Fin 8)
  /-- AGENT_AWAKE (R285). -/
  | agentAwake (a : Fin 4)
  /-- AGENT_SLEEP (R294). -/
  | agentSleep (a : Fin 4)
  /-- AGENT_DOWN (R285). -/
  | agentDown (a : Fin 4)
  /-- SLEEP_WAKE_TIMER (R294 step 5). -/
  | sleepWakeTimer (a : Fin 8)
  /-- BAR2_READ (R283): byte offset in the agent's window, bytes, the facts of the words' accesses. -/
  | bar2Read (a : Fin 4) (off : BitVec 22) (len : Fin 4097) (acc : List Access)
  /-- BAR2_READ_TIMEOUT (R283): a Glacier or cell-window read not served in 20 µs. -/
  | bar2ReadTimeout (a : Fin 4) (len : Fin 4097)
  /-- BAR2_WRITE (R283). -/
  | bar2Write (a : Fin 4) (off : BitVec 22) (bytes : List Byte) (acc : List Access)
  /-- PERST (R295, R457): the PCIe function is reset with its PME_En. -/
  | perst
  /-- PCIE_LINK_DOWN (R295). -/
  | pcieLinkDown
  /-- PCIE_LINK_UP (R304, R457): generation, lanes, and the function as the host has set it. -/
  | pcieLinkUp (gen : Fin 16) (width : Fin 32) (set : PcieSettings)
  /-- NS_COMMAND (R300). -/
  | nsCommand (n : Fin 4) (p : Peer) (bytes : List Byte)
  /-- CREDIT (R299). -/
  | credit (n : Fin 4) (p : Peer) (bytes : List Byte)
  /-- STATE (R299). -/
  | state (n : Fin 4) (p : Peer) (bytes : List Byte)
  /-- IMAGE_DATA (R303). -/
  | imageData (n : Fin 4) (p : Peer) (bytes : List Byte)
  /-- COMPLETION_RESEND_TIMER (R299): a sent completion that is not credited is sent again. -/
  | completionResendTimer (n : Fin 4)
  /-- WAKE_REPEAT_TIMER (R299). -/
  | wakeRepeatTimer (n : Fin 4)
  /-- EVENT_REPEAT_TIMER (R310): the EVENT datagram is repeated while an unclaimed event is claimable. -/
  | eventRepeatTimer (n : Fin 4)
  /-- CMT_G_CTL_ARM of the selected group (R231). -/
  | cmtGCtlArm
  /-- CMT_G_CTL_CANCEL of the selected group (R231). -/
  | cmtGCtlCancel
  /-- COMMIT_VALIDATION_DONE (R232). -/
  | commitValidationDone (g : Fin 256)
  /-- CMT_MEM_CTL_ADD (R227). -/
  | cmtMemCtlAdd (kind : Fin 16) (g : Fin 256) (id : BitVec 16)
  /-- CMT_MEM_CTL_REM (R227). -/
  | cmtMemCtlRem (kind : Fin 16) (g : Fin 256) (id : BitVec 16)
  /-- CMT_GLD_IDX_WR (R235). -/
  | cmtGldIdxWr (cell : Fin 1024) (slot : Fin 64)
  /-- CMT_GLD_IDX_RD (R241). -/
  | cmtGldIdxRd (cell : Fin 1024) (slot : Fin 64) (live : Bool)
  /-- RESYNC_DONE (R225). -/
  | resyncDone (cell : Fin 1024)
  /-- CMT_REC_POP (R242). -/
  | cmtRecPop
  /-- CMT_BND_POP (R53). -/
  | cmtBndPop
  /-- CMT_SNAP (R35): the cycle of the base tick and the PTP time at the capture. -/
  | cmtSnap (cyc : Fin 25600) (sec : BitVec 48) (ns : Fin 1000000000)
  /-- CMT_CL_STALL_CLR (R40). -/
  | cmtClStallClr (c : Fin 16)
  /-- CIS_OWNER_WRITE by firmware or an agent, before or after T − 65 of the coming boundary (R246, R248). -/
  | cisOwnerWrite (firmware : Bool) (k : Fin 128) (v : W32) (late : Bool)
  /-- CIS_EADDR_CLR (R257). -/
  | cisEaddrClr (k : Fin 128)
  /-- CLUSTER_ISOLATION_LIFT (R467). -/
  | clusterIsolationLift (c : Fin 16)
  /-- CLUSTER_CLEARING_DONE (R256). -/
  | clusterClearingDone (c : Fin 16)
  /-- PUMP_ENABLE (R259). -/
  | pumpEnable (firmware : Bool) (n : Fin 64)
  /-- PUMP_DISABLE (R277). -/
  | pumpDisable (firmware : Bool) (n : Fin 64)
  /-- PUMP_STOP (R277). -/
  | pumpStop (firmware : Bool) (n : Fin 64)
  /-- PUMP_DOORBELL (R280). -/
  | pumpDoorbell (firmware : Bool) (n : Fin 64)
  /-- PUMP_POLL (R280). -/
  | pumpPoll (n : Fin 64)
  /-- PUMP_DESCRIPTOR_FETCHED (R279). -/
  | pumpDescriptorFetched (n : Fin 64) (d : List Byte)
  /-- PUMP_BURST (R260). -/
  | pumpBurst (n : Fin 64)
  /-- PUMP_READ_COMPLETION (R266, R268): the host beats, the facts of the fabric accesses, the descriptor's latency in ns. -/
  | pumpReadCompletion (n : Fin 64) (bytes : List Byte) (acc : List Access) (lat : Nat)
  /-- PUMP_BUS_ERROR (R275): an Unsupported Request or Completer Abort, a poisoned completion, or an error response, to read `r`. -/
  | pumpBusError (r : BurstRead) (cause : Fin 3)
  /-- PUMP_COMPLETION_TIMEOUT (R274) of read `r`. -/
  | pumpCompletionTimeout (r : BurstRead)
  /-- PUMP_LANDING (R272). -/
  | pumpLanding (n : Fin 64) (lat : Nat)
  /-- WEL_ENT_WR (R164, R170). -/
  | welEntWr (c : Fin 16) (e : Fin 32768)
  /-- WEL_ENT_RD (R164, R170). -/
  | welEntRd (c : Fin 16) (e : Fin 32768)
  /-- WEL_LINE_WRITE (R164). -/
  | welLineWrite (c : Fin 16) (k : Fin 1024) (v : W32)
  /-- WEL_LD_GO (R170). -/
  | welLdGo (c : Fin 16)
  /-- WEL_LOAD_DONE (R170); `bad`: the source word, counted from the first, whose read is uncorrectable. -/
  | welLoadDone (c : Fin 16) (bad : Option (Fin 65536))
  /-- WEL_RUN_CAPTURE (R169). -/
  | welRunCapture (c : Fin 16) (e : Fin 32768)
  /-- GLACIER_GRAIN_WRITE (R178 step 2). -/
  | glacierGrainWrite (w : GrainWrite)
  /-- GLACIER_WRITE_MISS (R183). -/
  | glacierWriteMiss (g : Fin 4096)
  /-- GLACIER_GRAIN_READ (R178 step 4, R184). -/
  | glacierGrainRead (g : Fin 4096) (f : GrainFacts)
  /-- GLACIER_HEAD_LATE (R183). -/
  | glacierHeadLate (g : Fin 4096)
  /-- GLACIER_LINE_COPY (R178 step 5, R183). -/
  | glacierLineCopy (g : Fin 4096) (f : LineFacts)
  /-- GLACIER_TRAINING_DONE (R186): the rate reached, 0 none; the step that failed last; the duration in 0.1 ms; the
  contents were kept. -/
  | glacierTrainingDone (rate : Fin 7) (step : Fin 16) (time : BitVec 16) (retain : Bool)
  /-- GLACIER_TRACKING_FAILURE (R188). -/
  | glacierTrackingFailure
  /-- GLACIER_RETRAIN_DONE (R188). -/
  | glacierRetrainDone (r : Retrain)
  /-- GLACIER_REFRESH_REPORT (R188): the report is above the operating limit. -/
  | glacierRefreshReport
  /-- GLC_STR_WR (R182, R189). -/
  | glcStrWr (g : Fin 4096)
  /-- GLC_STR_RD (R189). -/
  | glcStrRd (g : Fin 4096)
  /-- GLC_STR_CAP (R189). -/
  | glcStrCap (g : Fin 4096)
  /-- GLC_EADDR_CLR (R189). -/
  | glcEaddrClr
  /-- EVENT_PIN_CHANGE (R319). -/
  | eventPinChange (p : Fin 16) (level : Bool) (edges : Nat)
  /-- EVC_CLAIM_READ (R311): the data of the read is put out. -/
  | evcClaimRead (a : Fin 8)
  /-- EVC_EOI (R313). -/
  | evcEoi (a : Fin 8) (src : BitVec 10)
  /-- EVC_RAISE (R320). -/
  | evcRaise (src : BitVec 10)
  /-- EVC_SRC_EN_WRITE (R317). -/
  | evcSrcEnWrite (n : Fin 512) (en : Bool)
  /-- EVC_SRC_MASK_WRITE (R315). -/
  | evcSrcMaskWrite (n : Fin 512) (mask : BitVec 8)
  /-- EVC_SRC_SENSE_WRITE (R306). -/
  | evcSrcSenseWrite (n : Fin 512) (sense : Fin 8)
  /-- EVC_STORM_CLEAR (R318). -/
  | evcStormClear (n : Fin 512)
  /-- EVC_CFG_SPLIT_WRITE (R308): running groups are recomputed. -/
  | evcCfgSplitWrite (split : Fin 8)
  /-- STORM_WINDOW (R318). -/
  | stormWindow
  /-- EVC_PIN_CLR (R321). -/
  | evcPinClr (p : Fin 16)
  /-- MEDIA_PACKET_RECEIVED (R331, R332): port, frame, cycle of the running domain tick, facts of the
  flow-buffer accesses. -/
  | mediaPacketReceived (p : Fin 2) (f : MediaFrame) (cyc : Fin 25600) (acc : List (Nat × Access))
  /-- CONTROL_FRAME_RECEIVED (R323): port, the check sequence, more than the port's rate of such frames, Ethernet header and what follows. -/
  | controlFrameReceived (p : Fin 2) (fcs excess : Bool) (head body : List Byte)
  /-- NETWORK_LINK_DOWN (R339, R341, R426). -/
  | networkLinkDown (p : Fin 2) (cyc : Fin 25600)
  /-- NETWORK_LINK_UP (R426). -/
  | networkLinkUp (p : Fin 2) (speed : Fin 3)
  /-- ALIGN_GROUP_TIMEOUT (R338). -/
  | alignGroupTimeout (g : Fin 64)
  /-- PTP_SYNC (R340): port, message, receive time, PTP time of the next base boundary, boundary error in ps. -/
  | ptpSync (p : Fin 2) (m : PtpMsg) (rx bnd : Nat) (align : Int)
  /-- PTP_ANNOUNCE (R339). -/
  | ptpAnnounce (p : Fin 2) (m : PtpMsg)
  /-- ANNOUNCE_RECEIPT_TIMEOUT (R341). -/
  | announceReceiptTimeout (p : Fin 2)
  /-- AES3_FRAME_RECEIVED (R348). -/
  | aes3FrameReceived (i : Fin 16) (a b : Subframe) (frate : Fin 32768) (next : Bool) (acc : List (Nat × Access))
  /-- AES3_NO_SIGNAL (R347). -/
  | aes3NoSignal (i : Fin 16)
  /-- ASRC_RATIO_LOCK (R350). -/
  | asrcRatioLock (i : Fin 16) (ratio : W32) (gd : BitVec 24)
  /-- AES3_FRAME_START (R354). -/
  | aes3FrameStart (j : Fin 16) (acc : List (Nat × Access))
  /-- ZERO_CROSSING_TIMEOUT (R356). -/
  | zeroCrossingTimeout (j : Fin 16) (ch : Fin 2)
  /-- AES_TX_GAIN_WRITE (R356). -/
  | aesTxGainWrite (j : Fin 16) (ch : Fin 2) (v : W32)
  /-- AES_TX_MUTE_WRITE (R356). -/
  | aesTxMuteWrite (j : Fin 16) (v : BitVec 2)
  /-- AES_TX_CS_COMMIT (R355). -/
  | aesTxCsCommit (j : Fin 16)
  /-- AES_RX_CS_LATCH (R364): the data of the read is put out. -/
  | aesRxCsLatch (ctx : Fin 9)
  /-- AES_RX_CTL_CLR (R364). -/
  | aesRxCtlClr (i : Fin 16)
  /-- TDM_FRAME_START (R359). -/
  | tdmFrameStart (q : Fin 8)
  /-- TDM_FRAME_SYNC (R361). -/
  | tdmFrameSync (q : Fin 8) (acc : List (Nat × Access))
  /-- TDM_FRAME_RECEIVED (R360). -/
  | tdmFrameReceived (q : Fin 8) (words : List W32) (clocks : Nat) (next : Bool) (acc : List (Nat × Access))
  /-- TDM_SYNC_LOSS (R362). -/
  | tdmSyncLoss (q : Fin 8)
  /-- TDM_RXMASK_WRITE (R361). -/
  | tdmRxmaskWrite (q : Fin 8) (v : W32) (late : Bool)
  /-- TDM_TXMASK_WRITE (R361). -/
  | tdmTxmaskWrite (q : Fin 8) (v : W32) (late : Bool)
  /-- TDM_CTL_CLR (R365). -/
  | tdmCtlClr (q : Fin 8)
  /-- SYNTH_LOCK (R368). -/
  | synthLock (x : Fin 2) (err : BitVec 16)
  /-- SYNTH_LOCK_LOSS (R377): the window's count error, the cycle of detection. -/
  | synthLockLoss (x : Fin 2) (err : BitVec 16) (cyc : Fin 25600)
  /-- BAND_SEARCH_DONE (R369); none: no band. -/
  | bandSearchDone (x : Fin 2) (band : Option (BitVec 6))
  /-- SYN_RAMP_GO with the NSEG the write carries (R370). -/
  | synRampGo (nseg : BitVec 5)
  /-- SYN_RAMP_STOP (R370). -/
  | synRampStop
  /-- SYN_PHASE_ADD (R371). -/
  | synPhaseAdd (n : BitVec 16)
  /-- ALIGNER_LOCK (R380). -/
  | alignerLock (o : Fin 4)
  /-- ALIGNER_LOSS (R380). -/
  | alignerLoss (o : Fin 4)
  /-- MTR_SNAP_GO (R388). -/
  | mtrSnapGo (late : Bool)
  /-- MTR_IDX_WRITE (R389). -/
  | mtrIdxWrite (ctx : Fin 9) (m : Fin 4096)
  /-- HIS_CLR (R395). -/
  | hisClr
  /-- HIS_FRZ (R395). -/
  | hisFrz
  /-- HIS_RUN (R395). -/
  | hisRun
  /-- TEMPERATURE_SAMPLE (R469): the sensors in units of 0.25 °C, VDD and VDDM in mV. -/
  | temperatureSample (sens : List (BitVec 16)) (vdd vddm : BitVec 16)
  /-- THERM_RELEASE (R470). -/
  | thermRelease
  /-- THERMAL_TRIP (R470). -/
  | thermalTrip
  /-- PWR_TEMP_CLR (R473). -/
  | pwrTempClr
  /-- CRC_START (R400); `ate`: bytes the unit has consumed since the last command to it (R401). -/
  | crcStart (u : Fin 8) (ate : Nat)
  /-- CRC_FIN (R403). -/
  | crcFin (u : Fin 8) (ate : Nat)
  /-- CRC_DIN8 (R401). -/
  | crcDin8 (u : Fin 8) (ate : Nat) (d : BitVec 8)
  /-- CRC_DIN16 (R401). -/
  | crcDin16 (u : Fin 8) (ate : Nat) (d : BitVec 16)
  /-- CRC_DIN32 (R401). -/
  | crcDin32 (u : Fin 8) (ate : Nat) (d : W32)
  /-- CRC_FEED_WRITE (R402). -/
  | crcFeedWrite (u : Fin 8) (ate : Nat) (w : Word)
  /-- CRC_DONE (R403). -/
  | crcDone (u : Fin 8)
  /-- POWER_GOOD (R407). -/
  | powerGood
  /-- POWER_ON_RESET (R455). -/
  | powerOnReset
  /-- BROWN_OUT (R456): VDDAON, or VDD alone. -/
  | brownOut (aon : Bool)
  /-- WARM_RESET (R407): the one a command has made due. -/
  | warmReset
  /-- VERIFICATION_PASS (R407), with its time in BOT_TIME. -/
  | verificationPass (t : BitVec 16)
  /-- VERIFICATION_FAIL (R410). -/
  | verificationFail
  /-- BOOT_READY (R407). -/
  | bootReady (t : BitVec 16)
  /-- WATCHDOG_EXPIRY (R442). -/
  | watchdogExpiry (k : Fin 4) (now : Nat) (ran : List (Nat × Nat)) (ptp : Bool)
  /-- TAKEOVER_COPY_DONE (R434): the logical cell, the uncorrectable words the copy met. -/
  | takeoverCopyDone (l : Fin 1024) (bad : List (Fin 0x3000))
  /-- SLOT_SELF_TEST_DONE (R440). -/
  | slotSelfTestDone (c : Fin 16) (s : Fin 68) (pass : Bool)
  /-- SCRUB_READ (R441): memory 0 cell, 1 cistern, 2 Wellhead; the unit; the word; what the check bits find; `last`, the
  walk ends; a rewrite that another access disturbs is abandoned without a trace. -/
  | scrubRead (mem : Fin 3) (unit word : Nat) (ecc : Ecc) (abandoned last : Bool)
  /-- FLT_LOG_POP (R448). -/
  | fltLogPop
  /-- REG64_LOWER_READ (R14): access context, control address. -/
  | reg64LowerRead (ctx : Fin 9) (a : Nat)
  /-- REG64_UPPER_READ (R14). -/
  | reg64UpperRead (ctx : Fin 9) (a : Nat)
  /-- REG64_LOWER_WRITE (R14). -/
  | reg64LowerWrite (ctx : Fin 9) (a : Nat) (v : W32)
  /-- REG64_UPPER_WRITE (R14), by firmware or by another agent (R258). -/
  | reg64UpperWrite (who : Accessor) (a : Nat) (v : W32)
  /-- REGISTER_WRITE (R11, R13): a write of `width` bytes; the facts of the registers whose effect hangs on them. -/
  | registerWrite (ctx : Fin 9) (a width : Nat) (v : W32) (f : WrFacts)
  /-- RC_REGISTER_READ (R11, R13): a read of `width` bytes; its data are put out. -/
  | rcRegisterRead (ctx : Fin 9) (a width : Nat)
  /-- AES3_TRANSITIONS_APPEAR (R347). -/
  | aes3TransitionsAppear (i : Fin 16)
  /-- PTP_FOLLOW_UP (R339). -/
  | ptpFollowUp (p : Fin 2) (m : PtpMsg) (bnd : Nat) (align : Int)
  /-- PTP_DELAY_RESP (R340). -/
  | ptpDelayResp (p : Fin 2) (m : PtpMsg) (rx : Nat)
  /-- PTP_DELAY_REQ (R339). -/
  | ptpDelayReq (p : Fin 2) (m : PtpMsg) (rx tx : Nat)
  /-- PTP_DELAY_REQ_INTERVAL (R339). -/
  | ptpDelayReqInterval (p : Fin 2) (tx : Nat)
  /-- PTP_SYNC_INTERVAL (R339). -/
  | ptpSyncInterval (p : Fin 2) (tx : Nat)
  /-- PTP_ANNOUNCE_INTERVAL (R339). -/
  | ptpAnnounceInterval (p : Fin 2)
  /-- REFERENCE_LOCK_TIMEOUT (R374). -/
  | referenceLockTimeout
  /-- CRYSTAL_STABLE (R407). -/
  | crystalStable (t0 t1 : BitVec 16)
  /-- CORE_RESTART_DONE (R442). -/
  | coreRestartDone (k : Fin 4)
  /-- SLOT_CLEARING_DONE (R440). -/
  | slotClearingDone (c : Fin 16) (s : Fin 68)
  /-- THERMAL_TRIP_RELEASE (R470). -/
  | thermalTripRelease
  deriving DecidableEq, Repr

end Sys2Proof
end

