-- ==== Sys2Proof/Decode.lean ====
section
/-! DEFINITION. The words of commands. The opcode table gives no row any bits (every row's field list is empty): the device takes
commands as bus accesses, events and steps, not as words of one encoding. So no word spells a command. The words the device does
decode are a cell's 72-bit instruction words (Machine/CellWord.lean, R79–R94), 64-byte command entries (Machine/HostCat.lean, R284),
pump descriptors (Machine/Pump.lean, R261) and image sections (Machine/Loader.lean, R192). -/

namespace Sys2Proof

/-- The command a word of `nbits` bits spells by the opcode table's bits: none, since the table gives none. -/
def decodeTableWord (_nbits _w : Nat) : Option Instr := none

end Sys2Proof
end

