-- ==== Sys2Proof/Machine/Map.lean ====
section
/-! DEFINITION. Sparse tables in one canonical form: a list of (index, value) pairs, indexes strictly rising, no entry
equal to what an unlisted index reads as. Every bank of registers, every memory and every table of the model is one. -/

namespace Sys2Proof.Machine

/-- A sparse table: index and value pairs. -/
abbrev SMap (α : Type) := List (Nat × α)

/-- The value at index `k`, where `d` says what an unlisted index reads as. -/
def mgetD {α : Type} (d : Nat → α) (m : SMap α) (k : Nat) : α :=
  match m with
  | [] => d k
  | (j, v) :: r => if j = k then v else mgetD d r k

/-- Put the pair (k, v) before the first entry of a larger index. -/
def minsert {α : Type} (m : SMap α) (k : Nat) (v : α) : SMap α :=
  match m with
  | [] => [(k, v)]
  | (j, w) :: r => if j < k then (j, w) :: minsert r k v else (k, v) :: (j, w) :: r

/-- The table without index `k`. -/
def mdrop {α : Type} (m : SMap α) (k : Nat) : SMap α :=
  m.filter (fun e => decide (e.1 ≠ k))

/-- Write `v` at index `k`: the value an unlisted index reads as leaves no entry. -/
def msetD {α : Type} [DecidableEq α] (d : Nat → α) (m : SMap α) (k : Nat) (v : α) : SMap α :=
  if v = d k then mdrop m k else minsert (mdrop m k) k v

/-- The canonical form: indexes strictly rising above `lo`, no entry equal to what an unlisted index reads as. -/
def mwfFrom {α : Type} [DecidableEq α] (d : Nat → α) (lo : Nat) (m : SMap α) : Bool :=
  match m with
  | [] => true
  | (j, v) :: r => decide (lo ≤ j) && decide (v ≠ d j) && mwfFrom d (j + 1) r

/-- The canonical form of a table whose unlisted indexes read as `d` says. -/
def mwfD {α : Type} [DecidableEq α] (d : Nat → α) (m : SMap α) : Bool := mwfFrom d 0 m

/-- The value at index `k` of a table whose unlisted indexes all read as `z`. -/
def mget {α : Type} (z : α) (m : SMap α) (k : Nat) : α := mgetD (fun _ => z) m k
/-- Write `v` at index `k` of a table whose unlisted indexes all read as `z`. -/
def mset {α : Type} [DecidableEq α] (z : α) (m : SMap α) (k : Nat) (v : α) : SMap α := msetD (fun _ => z) m k v
/-- The canonical form of a table whose unlisted indexes all read as `z`. -/
def mwf {α : Type} [DecidableEq α] (z : α) (m : SMap α) : Bool := mwfD (fun _ => z) m

/-- Rewrite the value at index `k` by `f`. -/
def mmod {α : Type} [DecidableEq α] (z : α) (m : SMap α) (k : Nat) (f : α → α) : SMap α := mset z m k (f (mget z m k))

/-- Write the values `vs` at `k`, `k+1`, … -/
def msetMany {α : Type} [DecidableEq α] (z : α) (m : SMap α) (k : Nat) (vs : List α) : SMap α :=
  match vs with
  | [] => m
  | v :: r => msetMany z (mset z m k v) (k + 1) r

/-- The values at `k`, `k+1`, …, `k+n-1`. -/
def mgetMany {α : Type} (z : α) (m : SMap α) (k n : Nat) : List α :=
  (List.range n).map (fun i => mget z m (k + i))

/-- The table without the indexes `k` to `k+n-1`. -/
def mclearRange {α : Type} (m : SMap α) (k n : Nat) : SMap α :=
  m.filter (fun e => decide (e.1 < k) || decide (k + n ≤ e.1))

/-- The entries from index `k` on, counted from there. -/
def mfrom {α : Type} (m : SMap α) (k : Nat) : SMap α := (m.filter (fun e => decide (k ≤ e.1))).map (fun e => (e.1 - k, e.2))

/-- The table with the indexes `lo` to `lo+n-1` holding what `es` lists for 0 to n-1. -/
def mputRange {α : Type} [DecidableEq α] (z : α) (m : SMap α) (lo n : Nat) (es : SMap α) : SMap α :=
  (es.filter (fun e => decide (e.1 < n))).foldl (fun a e => mset z a (lo + e.1) e.2) (mclearRange m lo n)

/-- The entries of `src` with an index from `k` to `k+n-1`, in `m` at `j`, `j+1`, … (`m`'s own there dropped). -/
def mcopyRange {α : Type} [DecidableEq α] (z : α) (src m : SMap α) (k j n : Nat) : SMap α :=
  ((src.filter (fun e => decide (k ≤ e.1) && decide (e.1 < k + n))).foldl
    (fun a e => mset z a (e.1 - k + j) e.2) (mclearRange m j n))

end Sys2Proof.Machine
end

