-- ==== Sys2Proof/Machine/Bits.lean ====
section
/-! DEFINITION. Bit fields, byte order (little-endian, R190), sign extension and saturation, shared by every block. -/

namespace Sys2Proof.Machine

/-- Bits [lo+w-1:lo] of a natural number. -/
def nbits (v lo w : Nat) : Nat := (v / 2 ^ lo) % 2 ^ w
/-- Bit `i` of a natural number. -/
def nbit (v i : Nat) : Bool := nbits v i 1 == 1
/-- `v` with bits [lo+w-1:lo] replaced by the low `w` bits of `f`. -/
def nput (v lo w f : Nat) : Nat := v - nbits v lo w * 2 ^ lo + (f % 2 ^ w) * 2 ^ lo

/-- Field [lo+w-1:lo] of a control register. -/
def fld (v : W32) (lo w : Nat) : Nat := nbits v.toNat lo w
/-- Bit `i` of a control register. -/
def bitOf (v : W32) (i : Nat) : Bool := v.getLsbD i
/-- The mask of field [lo+w-1:lo]. -/
def fmask (lo w : Nat) : W32 := BitVec.ofNat 32 ((2 ^ w - 1) * 2 ^ lo)
/-- A control register with field [lo+w-1:lo] replaced. -/
def fput (v : W32) (lo w f : Nat) : W32 :=
  (v &&& ~~~(fmask lo w)) ||| BitVec.ofNat 32 ((f % 2 ^ w) * 2 ^ lo)
/-- One bit as a number. -/
def b2n (b : Bool) : Nat := if b then 1 else 0

/-- The `n` little-endian bytes of a number (R190). -/
def leBytes (n v : Nat) : List Byte :=
  match n with
  | 0 => []
  | n + 1 => BitVec.ofNat 8 v :: leBytes n (v / 256)
/-- The number little-endian bytes spell (R190). -/
def leNat (bs : List Byte) : Nat :=
  match bs with
  | [] => 0
  | b :: r => b.toNat + 256 * leNat r
/-- The number big-endian bytes spell (network order). -/
def beNat (bs : List Byte) : Nat := leNat bs.reverse
/-- The `n` big-endian bytes of a number. -/
def beBytes (n v : Nat) : List Byte := (leBytes n v).reverse
/-- `n` bytes of a byte string from offset `o`; bytes beyond its end read as zero. -/
def slice (bs : List Byte) (o n : Nat) : List Byte :=
  let t := (bs.drop o).take n
  t ++ List.replicate (n - t.length) 0
/-- Little-endian field of `n` bytes at byte offset `o`. -/
def leAt (bs : List Byte) (o n : Nat) : Nat := leNat (slice bs o n)
/-- Big-endian field of `n` bytes at byte offset `o`. -/
def beAt (bs : List Byte) (o n : Nat) : Nat := beNat (slice bs o n)

/-- Signed clamp to `w` bits (two's complement). -/
def sclamp (w : Nat) (v : Int) : Int :=
  let m : Int := 2 ^ (w - 1)
  if v < -m then -m else if v > m - 1 then m - 1 else v
/-- Signed value in range of `w` bits. -/
def sfits (w : Nat) (v : Int) : Bool := sclamp w v == v
/-- Sign extension of the low `w` bits of a number. -/
def sext (w v : Nat) : Int := if nbits v (w - 1) 1 = 1 then (v % 2 ^ w : Nat) - (2 ^ w : Nat) else ((v % 2 ^ w : Nat) : Int)

/-- Floor square root, by halving: `n` rounds of bisection over [lo, hi). -/
def sqrtBis (n x lo hi : Nat) : Nat :=
  match n with
  | 0 => lo
  | n + 1 => if hi ≤ lo + 1 then lo else
      let m := (lo + hi) / 2
      if m * m ≤ x then sqrtBis n x m hi else sqrtBis n x lo m
/-- Floor square root of a number below 2^(2b). -/
def isqrt (b x : Nat) : Nat := sqrtBis (b + 1) x 0 (2 ^ b)

/-- Division of an integer by 2^k, rounding half to even. -/
def rneShift (v : Int) (k : Nat) : Int :=
  if k = 0 then v else
  let d : Int := 2 ^ k
  let q := v / d
  let r := v % d
  let h : Int := 2 ^ (k - 1)
  if r > h then q + 1 else if r < h then q else if q % 2 = 0 then q else q + 1

/-- Saturating increment of a counter that holds at `m`. -/
def satInc (m v : Nat) : Nat := if v < m then v + 1 else m

end Sys2Proof.Machine
end

