-- ==== Sys2Proof/Machine/Operands.lean ====
section
/-! DEFINITION. Operand forms of the cell (ch. 3, 4): pointer updates, addressing modes, halves and formats. -/

namespace Sys2Proof.Machine

/-- The low `k` bits of a number in reverse order (R59). -/
def revBits (k v : Nat) : Nat :=
  match k with
  | 0 => 0
  | k + 1 => (v % 2) * 2 ^ k + revBits k (v / 2)

/-- K of a Z register: 20–31 are treated as 0 (R58). -/
def zK (z : BitVec 6) : Nat := if z.toNat % 32 ≤ 19 then z.toNat % 32 else 0

/-- Pointer `p` updated by an increment under Zn (R59). -/
def ptrUpdate (z : BitVec 6) (p i : BitVec 20) : BitVec 20 :=
  let k := zK z
  let m := 2 ^ k
  let blk := p.toNat / m * m
  if k = 0 then p + i
  else if z.getLsbD 5 then
    BitVec.ofNat 20 (blk + revBits k ((revBits k (p.toNat % m) + revBits k (i.toNat % m)) % m))
  else BitVec.ofNat 20 (blk + (p + i).toNat % m)

/-- An addressing mode's address and the pointer afterwards; none for a reserved mode (R83). -/
def amAddr (am : Nat) (z : BitVec 6) (p i : BitVec 20) : Option (BitVec 20 × Option (BitVec 20)) :=
  match am with
  | 0 => some (p, none)
  | 1 => some (p, some (ptrUpdate z p i))
  | 2 => some (ptrUpdate z p i, some (ptrUpdate z p i))
  | 3 => some (p, some (ptrUpdate z p 1))
  | 4 => some (p, some (ptrUpdate z p (-1)))
  | 5 => some (ptrUpdate z p i, none)
  | _ => none

/-- A 36-bit half as an exact S72: sign-extended, with 32 zero fraction bits appended (R85). -/
def halfToS72 (h : Half) : Word := (h.signExtend 40) ++ (0 : BitVec 32)

/-- Which part of a word a load delivers: 0 the word, 1 its high half, 2 its low half as S72 (R84, R85). -/
def loadPart (part : Nat) (w : Word) : Word :=
  match part with
  | 0 => w
  | 1 => halfToS72 w.hi
  | _ => halfToS72 w.lo

/-- The Q16.128 value of an S72 (MVA, R84). -/
def s72ToAcc (w : Word) : Acc := (w.signExtend 80) ++ (0 : BitVec 64)

/-- Redundant sign bits of a `w`-bit value: leading bits equal to the sign bit, minus one (R67). -/
def signRun (n w v : Nat) : Nat :=
  match n with
  | 0 => 0
  | n + 1 => if nbit v n == nbit v (w - 1) then signRun n w v + 1 else 0
def redundantSign (w v : Nat) : Nat := signRun (w - 1) w v

/-- Pointer context word of R89. -/
def ptrContext (p i : BitVec 20) (z : BitVec 6) : Word := (0 : BitVec 26) ++ z ++ i ++ p

end Sys2Proof.Machine
end

