-- ==== Sys2Proof/Machine/StCell.lean ====
section
/-! DEFINITION. State of one physical cell slot (ch. 3 to 5): registers, block context, the results in flight. -/

namespace Sys2Proof.Machine

/-- A destination of a result (R76: the parts of a register that instructions write separately). -/
inductive Dst where
  | d (n : Nat) (hi lo : Bool)
  /-- The view of accumulator `n` that accumulating MACs read (latency 1), or every other reader's (latency 4): R100. -/
  | acc (n : Nat) (fwd : Bool) (hi lo : Bool)
  | p (n : Nat)
  | i (n : Nat)
  | z (n : Nat)
  | lp (n : Nat)
  | bx
  /-- Lower BX to the value, if the tracked store issued after the last BX write (R95). -/
  | bxMin
  /-- ST bits under a mask, of the sample copy or the block copy (R110). -/
  | st (blk : Bool) (mask : BitVec 8)
  /-- Sticky OR into ST (R56). -/
  | stOr (blk : Bool)
  deriving DecidableEq, Repr

/-- A result in flight: issued at issue count `at_`, lands when the issue count reaches `due` (R75, R77). -/
structure Landing where
  issued : Nat
  due : Nat
  dst : Dst
  val : Acc
  deriving DecidableEq, Repr

/-- An active hardware loop: LPn, first and last address of its body (R96, R110). -/
structure LoopRec where
  lp : Nat
  first : Nat
  last : Nat
  deriving DecidableEq, Repr

/-- A word a store changed, as readers still see it: address, content before the store, until which cycle, the storing cell's
issue count, its slot (R71, R100). -/
structure StaleWord where
  addr : Nat
  old : Word
  until_ : Nat
  issued : Nat := 0
  slot : Nat := 0
  deriving DecidableEq, Repr

/-- An operation of one field of an instruction word (R81, R84, R90, R94). -/
inductive CellOp where
  /-- MPY 1, MAC 2, MSU 3 (R81). -/
  | mac (op mode an xr : Nat) (ysrc : Bool) (yop : Nat)
  /-- LDS 0, LDK 1, LDC 2; word 0, .H 1, .L 2 (R84). -/
  | load (mem part d p am : Nat)
  | mov (d n : Nat)
  | swaph (d n : Nat)
  | cmp (n m rel k : Nat)
  | cmov (d n k : Nat) (t : Bool)
  | shf (d : Nat) (sh : BitVec 7) (fn : Nat)
  | clra (a : Nat)
  | mva (a n : Nat)
  | mvah (a n : Nat)
  | mval (a n : Nat)
  | xrd (d lane : Nat)
  | xra (a lane : Nat)
  | xred (a lane : Nat)
  | movs (wr : Bool) (cls idx n : Nat)
  | setp (cls n : Nat) (imm : BitVec 20)
  | padd (p : Nat) (imm : BitVec 10)
  | pmod (p am : Nat)
  | ldpt (n : Nat)
  | stpt (n : Nat)
  /-- DST, FMT, SRC, DOP and the extension word when EXT = 1 (R90–R93). -/
  | store (dst fmt src : Nat) (dop : BitVec 9) (ext : Option (BitVec 20))
  | nop
  | end_
  | rep (lp len : Nat) (count : BitVec 16)
  | bxclr
  | stset (m : BitVec 8)
  | stclr (m : BitVec 8)
  | bwait
  | yend
  | br (off : BitVec 9)
  | brt (k : Nat) (off : BitVec 9)
  | brf (k : Nat) (off : BitVec 9)
  | jmp (t : BitVec 11)
  | jmpp (p : Nat)
  deriving DecidableEq, Repr

/-- One physical cell slot. Its CEL_SLOT, CEL_ERR, CEL_FLAG, CEL_BVEC and CEL_BTASK stand with the control registers. -/
structure Cell where
  /-- D0–D31 (R54). -/
  d : SMap Word := []
  /-- A0–A3 as every reader but an accumulating MAC sees them. -/
  a : SMap Acc := []
  /-- A0–A3 as an accumulating MAC sees them. -/
  af : SMap Acc := []
  p : SMap (BitVec 20) := []
  i : SMap (BitVec 20) := []
  z : SMap (BitVec 6) := []
  lp : SMap (BitVec 16) := []
  bx : BitVec 7 := 0x7F
  /-- ST, the sample copy; BLK is bit 8 (R56). -/
  st : BitVec 16 := 0
  /-- The block copy of ST[7:0] (R110). -/
  bst : BitVec 8 := 0
  /-- Dither generators a and b, each as the bitwise difference from the seed that clearing the cell gives it (R66). -/
  lfsrA : BitVec 32 := 0
  lfsrB : BitVec 32 := 0
  /-- Address of the instruction that issued last. -/
  pc : Nat := 0
  /-- Where the next issue goes instead of the next address (a start, a taken branch). -/
  npc : Option Nat := none
  /-- Issue cycles until the next instruction issues, where cycles with no issue lie between; 0: in the next (R98, R112, R116). -/
  dead : Nat := 0
  /-- The operations of the instruction that issues in the present cycle, in the order of their commands; none: no instruction has. -/
  iss : List CellOp := []
  /-- That instruction has no further effect: illegal as a whole, withdrawn, or issued whole from memory (R106, R108). -/
  void : Bool := false
  /-- Stall cycles of its cistern access that have still to pass (R38, R71). -/
  frz : Nat := 0
  /-- Issue cycles counted since the registers were cleared. -/
  clk : Nat := 0
  /-- Cycle of the tick of the last issue, stalls included. -/
  cyc : Nat := 0
  /-- A tick has begun and no cycle of it has passed: the next issue cycle is cycle 0 (R42). -/
  atZero : Bool := false
  /-- Stalls S of this tick (R38). -/
  stalls : Nat := 0
  /-- The sample slot is open: the sample program issues. -/
  sample : Bool := false
  /-- The sample program has started and ended in this tick. -/
  done : Bool := false
  /-- Cycle at which the sample slot ended, φ + L + S (R105). -/
  slotEnd : Nat := 0
  /-- Largest cycle at which an issued operation of the sample program retires (R41, R100). -/
  retire : Nat := 0
  loops : List LoopRec := []
  /-- The block loop record (R110), innermost first. -/
  bloops : List LoopRec := []
  /-- Loops of the yield handler's own halves. -/
  hloops : List LoopRec := []
  /-- Block PC (R110). -/
  bpc : Nat := 0
  /-- Which half of the yield handler issues: 0 neither, 1 the save half, 2 the resume half. -/
  half : Nat := 0
  /-- Block flags frozen at the redirection (R112). -/
  savedSt : BitVec 8 := 0
  /-- Issue count at the redirection: block results issued until then belong to the frozen flags too. -/
  redir : Nat := 0
  /-- A first fresh start has happened (R119). -/
  started : Bool := false
  /-- Block instructions issued in this base tick (CEL_BTASK.ISSUE shows the last one). -/
  bissue : Nat := 0
  /-- Results in flight, in order of issue. -/
  flight : List Landing := []
  /-- Issue count of the last BX write (R95). -/
  bxw : Nat := 0
  /-- State words as later loads still see them. -/
  stale : List StaleWord := []
  /-- Quench: 0 none, 1 to the end of this tick, 2 through the next one too (R429, R430). -/
  quench : Nat := 0
  /-- Cycle of the tick from which a quench of this tick stops issue (R430). -/
  qAt : Nat := 0
  /-- The quench or a schedule fault holds this tick's effects (R432). -/
  held : Bool := false
  /-- Detected datapath fault awaiting its remap: cycle of detection (R433). -/
  faultCyc : Option Nat := none
  /-- A double-bit error of state memory is among the faults that await the remap (R435). -/
  zst : Bool := false
  /-- To be fenced at the next boundary (R435). -/
  fenceNext : Bool := false
  /-- A cell schedule fault in the last tick (R437). -/
  schedFault : Bool := false
  /-- The logical cell runs on memories lent by this slot (R434). -/
  lender : Option Nat := none
  /-- State memory of its own from the remap (R435). -/
  ownState : Bool := false
  /-- The copy of the takeover has ended (R434). -/
  copied : Bool := false
  deriving DecidableEq, Repr

/-- What a program page carries beside its words (R109, R202): kept per physical slot and page. -/
structure PageInfo where
  entry : Nat := 0
  /-- Program length L and phase φ (R36, R103). -/
  len : Nat := 0
  phase : Nat := 0
  /-- Worst-case stall count W (R39, R250). -/
  w : Nat := 0
  hasBlk : Bool := false
  vEntry : Nat := 0
  vYield : Nat := 0
  vResume : Nat := 0
  /-- A sample program stands in the page. -/
  present : Bool := false
  /-- Access declarations of the sample program (R202). -/
  decls : List Nat := []
  deriving DecidableEq, Repr

end Sys2Proof.Machine
end

