-- ==== Sys2Proof/Machine/Flags.lean ====
section
/-! DEFINITION. The status register ST (R56), its two copies (R110), compares (R86) and the block exponent (R67, R95). -/

namespace Sys2Proof.Machine

/-- ST[7:0] of the copy in use: the block copy while block code issues (R110). -/
def stOf (c : Cell) (blk : Bool) : BitVec 8 := if blk then c.bst else c.st.extractLsb' 0 8
/-- Condition flag CFk. -/
def cfOf (c : Cell) (blk : Bool) (k : Nat) : Bool := (stOf c blk).getLsbD (4 + k)
/-- ST.RND: truncate (R56). -/
def rndOf (c : Cell) (blk : Bool) : Bool := (stOf c blk).getLsbD 2

/-- The relation a compare tests, on signed 72-bit values (R86). -/
def cmpRel (rel : Nat) (n m : Word) : Bool :=
  match rel with
  | 0 => n == m
  | 1 => decide (n.toInt < m.toInt)
  | 2 => decide (n.toInt ≤ m.toInt)
  | _ => decide (n.toInt.natAbs < m.toInt.natAbs)

/-- Put bits of a mask into ST[7:0] of a copy; bit 3 is reserved (R56). -/
def stPut (c : Cell) (blk : Bool) (mask v : BitVec 8) : Cell :=
  let m := mask &&& 0xF7
  let f := fun (o : BitVec 8) => (o &&& ~~~m) ||| (v &&& m)
  if blk then { c with bst := f c.bst }
  else { c with st := c.st.extractLsb' 8 8 ++ f (c.st.extractLsb' 0 8) }

/-- ST.BLK (R56). -/
def stBlk (c : Cell) (b : Bool) : Cell :=
  { c with st := (if b then (1 : BitVec 8) else 0) ++ c.st.extractLsb' 0 8 }

end Sys2Proof.Machine
end

