-- ==== Sys2Proof/Machine/Datapath.lean ====
section
/-! DEFINITION. The cell's arithmetic and its exposed pipeline: the multiplier array (R62), the store path (R63–R67), results
in flight (R75, R76), hardware loops (R97), dither generators (R66). -/

namespace Sys2Proof.Machine

/-- A product of the multiplier array: one Q16.128 value, or one Q8.64 value for each half (R62). -/
inductive Product where
  | full (p : Int)
  | pair (h l : Int)
  deriving DecidableEq, Repr

/-- The product of a mode: 0 W, 1 and 2 H with Yh or Yl, 3 D, 4 C, 5 C conjugate; none for a reserved mode (R62, R81). -/
def macProduct (mode : Nat) (x y : Word) : Option Product :=
  let xh := x.hi.toInt
  let xl := x.lo.toInt
  let yh := y.hi.toInt
  let yl := y.lo.toInt
  match mode with
  | 0 => some (.full (x.toInt * y.toInt))
  | 1 => some (.full (x.toInt * yh * 2 ^ 32))
  | 2 => some (.full (x.toInt * yl * 2 ^ 32))
  | 3 => some (.pair (xh * yh) (xl * yl))
  | 4 => some (.pair (xh * yh - xl * yl) (xh * yl + xl * yh))
  | 5 => some (.pair (xh * yh + xl * yl) (xl * yh - xh * yl))
  | _ => none

/-- The same product where a multiplier failed its residue check: an undefined value of the same form (R68). -/
def freeProduct (p : Product) (f : Acc) : Product :=
  match p with
  | .full _ => .full f.toInt
  | .pair _ _ => .pair f.hi.toInt f.lo.toInt

/-- MPY (1), MAC (2) and MSU (3): the accumulator, and whether it saturated (R62). -/
def macApply (op : Nat) (a : Acc) (p : Product) : Acc × Bool :=
  let comb := fun (o v : Int) => if op = 1 then v else if op = 2 then o + v else o - v
  match p with
  | .full v =>
    let r := comb a.toInt v
    (BitVec.ofInt 144 (sclamp 144 r), !sfits 144 r)
  | .pair h l =>
    let rh := comb a.hi.toInt h
    let rl := comb a.lo.toInt l
    (Acc.pack (BitVec.ofInt 72 (sclamp 72 rh)) (BitVec.ofInt 72 (sclamp 72 rl)), !sfits 72 rh || !sfits 72 rl)

/-- Steps 2 to 5 of the store path on a value with `f` fraction bits: shift, optional dither (its value in units of
2^-(f+64)), round to `t` fraction bits, saturate to `w` bits of which `g` are fraction (R63, R64, R66). -/
def storeValue (v : Int) (f : Nat) (sh : Int) (dith : Int) (trunc : Bool) (t g w : Nat) : Int × Bool :=
  let x := v * 2 ^ (sh + 64).toNat + dith
  let k := f + 64 - t
  let r := (if trunc then x / 2 ^ k else rneShift x k) * 2 ^ (g - t)
  (sclamp w r, !sfits w r)

/-- One step of a dither LFSR with feedback polynomial x^32 + x^22 + x^2 + x + 1 (R66). -/
def lfsrStep (v : BitVec 32) : BitVec 32 :=
  let b := (v.getLsbD 31 ^^ v.getLsbD 21) ^^ (v.getLsbD 1 ^^ v.getLsbD 0)
  (v <<< 1) ||| (if b then 1 else 0)

/-- The dither of depth `n` from generator values a and b, in units of 2^-(f+64) (R66). -/
def ditherValue (a b : BitVec 32) (n f : Nat) : Int :=
  (((a.toNat + b.toNat : Nat) : Int) - 2 ^ 32) * 2 ^ (f + 64 - 32 - (n - 1))

/-- SHF: the result and whether it clamped; none for a field out of range (R87). -/
def shfValue (fn : Nat) (sh : Int) (trunc : Bool) (w : Word) : Option (Word × Bool) :=
  match fn with
  | 0 =>
    let r := storeValue w.toInt 64 sh 0 trunc 64 64 72
    some (BitVec.ofInt 72 r.1, r.2)
  | 1 =>
    let h := storeValue w.hi.toInt 32 sh 0 trunc 32 32 36
    let l := storeValue w.lo.toInt 32 sh 0 trunc 32 32 36
    some (Word.pack (BitVec.ofInt 36 h.1) (BitVec.ofInt 36 l.1), h.2 || l.2)
  | 2 =>
    if sh < -63 ∨ sh > 6 then none else
    let m : Int := 2 ^ (sh + 64).toNat
    let v := w.toInt
    let r := if v < -m then -m else if v > m - 1 then m - 1 else v
    some (BitVec.ofInt 72 r, r != v)
  | _ =>
    if sh ≠ 0 then none else
    let r : Int := w.toInt.natAbs
    some (BitVec.ofInt 72 (sclamp 72 r), !sfits 72 r)

/-- Write part of a D register. -/
def putD (c : Cell) (n : Nat) (hi lo : Bool) (v : Word) : Cell :=
  let o := mget 0 c.d n
  { c with d := mset 0 c.d n (Word.pack (if hi then v.hi else o.hi) (if lo then v.lo else o.lo)) }

/-- Write part of one view of an accumulator. -/
def putA (c : Cell) (n : Nat) (fwd hi lo : Bool) (v : Acc) : Cell :=
  let f := fun (m : SMap Acc) =>
    let o := mget 0 m n
    mset 0 m n (Acc.pack (if hi then v.hi else o.hi) (if lo then v.lo else o.lo))
  if fwd then { c with af := f c.af } else { c with a := f c.a }

/-- A result reaches its destination (R75, R76, R95, R110). -/
def landOne (c : Cell) (l : Landing) : Cell :=
  let v := l.val
  match l.dst with
  | .d n hi lo => putD c n hi lo (v.extractLsb' 0 72)
  | .acc n fwd hi lo => putA c n fwd hi lo v
  | .p n => { c with p := mset 0 c.p n (v.extractLsb' 0 20) }
  | .i n => { c with i := mset 0 c.i n (v.extractLsb' 0 20) }
  | .z n => { c with z := mset 0 c.z n (v.extractLsb' 0 6) }
  | .lp n => { c with lp := mset 0 c.lp n (v.extractLsb' 0 16) }
  | .bx => { c with bx := v.extractLsb' 0 7 }
  | .bxMin => if l.issued > c.bxw ∧ v.toNat < c.bx.toNat then { c with bx := v.extractLsb' 0 7 } else c
  | .st blk mask =>
    let c' := stPut c blk mask (v.extractLsb' 0 8)
    if blk ∧ l.issued ≤ c.redir then
      { c' with savedSt := (c.savedSt &&& ~~~(mask &&& 0xF7)) ||| (v.extractLsb' 0 8 &&& mask &&& 0xF7) } else c'
  | .stOr blk =>
    let b := v.extractLsb' 0 8
    let c' := stPut c blk 0xFF (stOf c blk ||| b)
    if blk ∧ l.issued ≤ c.redir then { c' with savedSt := c.savedSt ||| b } else c'

/-- Insert by landing time, later issues after earlier ones. -/
def insDue (l : Landing) (ls : List Landing) : List Landing :=
  match ls with
  | [] => [l]
  | x :: r => if l.due < x.due then l :: x :: r else x :: insDue l r
/-- Results in order of landing time, those of one cycle in order of issue (R76: the later-issued is kept). -/
def byDue (ls : List Landing) : List Landing := ls.foldl (fun a l => insDue l a) []

/-- Results due by the present issue count land (R75, R76). -/
def landDue (c : Cell) : Cell :=
  let q := c.flight.partition (fun l => decide (l.due ≤ c.clk))
  (byDue q.1).foldl landOne { c with flight := q.2 }

/-- Every result in flight lands, in order of landing time (R77). -/
def landAll (c : Cell) : Cell := (byDue c.flight).foldl landOne { c with flight := [], stale := [] }

/-- Put a result in flight, to land `lat` issue cycles on (R100). -/
def fly (c : Cell) (lat : Nat) (dst : Dst) (v : Acc) : Cell :=
  { c with flight := c.flight ++ [⟨c.clk, c.clk + lat, dst, v⟩] }

/-- The loops that count now: the sample record, the block record, or the yield handler's own (R110, R112). -/
def activeLoops (c : Cell) : List LoopRec := if c.sample then c.loops else if c.half = 0 then c.bloops else c.hloops
def setLoops (c : Cell) (ls : List LoopRec) : Cell :=
  if c.sample then { c with loops := ls } else if c.half = 0 then { c with bloops := ls } else { c with hloops := ls }

/-- Where issue goes after the instruction at `pc`: the loops that end there decide, innermost first (R97). -/
def loopNext (pc : Nat) (lp : SMap (BitVec 16)) (ls : List LoopRec) : Nat × SMap (BitVec 16) × List LoopRec :=
  match ls with
  | [] => ((pc + 1) % 2048, lp, [])
  | l :: r =>
    if l.last = pc then
      if (mget 0 lp l.lp).toNat > 1 then (l.first, mset 0 lp l.lp (mget 0 lp l.lp - 1), l :: r)
      else loopNext pc (mset 0 lp l.lp 0) r
    else ((pc + 1) % 2048, lp, l :: r)

/-- The address that issues after the last issued instruction, with the loops' decision taken. -/
def nextPc (c : Cell) : Nat × Cell :=
  match c.npc with
  | some t => (t, { c with npc := none })
  | none =>
    let q := loopNext c.pc c.lp (activeLoops c)
    (q.1, setLoops { c with lp := q.2.1 } q.2.2)

/-- One issue cycle passes, after the stalls of the instruction before: the next address issues unless a cycle with no issue runs;
due results land. -/
def tickOne (c : Cell) : Cell :=
  let c := if c.dead ≤ 1 then (let q := nextPc c; { q.2 with pc := q.1, dead := 0 }) else { c with dead := c.dead - 1 }
  landDue { c with clk := c.clk + 1, cyc := if c.atZero then c.cyc else c.cyc + 1 + c.frz, atZero := false, iss := [], void := false,
                   frz := 0 }

/-- Cycles pass with no issue until tick cycle `n`: results land in time, but for the cycles the cell is frozen (R38, R77). -/
def passTo (n : Nat) (c : Cell) : Cell :=
  if c.cyc < n then
    landDue { c with clk := c.clk + (n - c.cyc - c.frz), cyc := max n (c.cyc + c.frz), atZero := false, iss := [], void := false, frz := 0 }
  else c

/-- `n` issue cycles pass. -/
def tickCell (n : Nat) (c : Cell) : Cell :=
  match n with
  | 0 => c
  | n + 1 => tickCell n (tickOne c)

end Sys2Proof.Machine
end

