-- ==== Sys2Proof/Config.lean ====
section
/-! DEFINITION. What an implementation of the CSL9740 fixes (fuses, straps) and the values its manual leaves open:
uninterpreted constants, applied to the state's counter of free values (see notes/assumptions). -/

namespace Sys2Proof.Config

open Sys2Proof

/-- The n-th undefined 72-bit value: data of a port collision (R251, R252), a faulty product (R68). -/
opaque freeWord : Nat → Word
/-- The n-th undefined 144-bit value: a faulty product (R68). -/
opaque freeAcc : Nat → Acc
/-- The n-th undefined natural number (an element count after a drop, R277; a search result, R369). -/
opaque freeNat : Nat → Nat
/-- The n-th random byte string (a debug challenge, R423). -/
opaque freeBytes : Nat → List Byte
/-- What a Glacier block that nothing has written holds (R187 calls it undefined). -/
opaque dramContent : Nat → Word
/-- BLK and LAP of a Glacier block that nothing has written (R187). -/
opaque dramTag : Nat → BitVec 32
/-- The deviation an exponential glide shows from the exact value at one step, before it is limited to
2^-24 relative (R161, R236): target, start, progress, length. -/
opaque expGlideError : Int → Int → Nat → Nat → Int
/-- The deviation of a meter's mean square from the exact recursion, below 2^-48, in units of 2^-128 (R387). -/
opaque msError : Nat → Int → Nat → Int
/-- The n-th output sample of an asynchronous sample-rate converter, whose filter the manual bounds but does not give (R350): from its
group delay and the channel's input samples with their ages in output samples. -/
opaque asrcSample : Nat → Nat → List (Nat × Word) → Word

/-- The offset of p in a phase pull-in at a base tick, in 1/256 ppb, before it is limited to ±0.1% (R374). -/
opaque pullIn : Nat → Int
/-- The sign of the phase step the reference tracker makes at a base tick (R373): it depends on the boundary error. -/
opaque trackStep : Nat → Int
/-- The device-unique key DUK (R406). -/
opaque fuseDuk : List Byte
/-- The customer fuse key CFK (R406). -/
opaque fuseCfk : List Byte
/-- CFKV: the customer fuse key is programmed (R406). -/
opaque fuseCfkv : Bool
/-- VKH: the digest of the firmware verification key (R406). -/
opaque fuseVkh : List Byte
/-- SERIAL: the device serial number (R406). -/
opaque fuseSerial : W64
/-- NETBOOT: the network bootstrap is enabled (R406). -/
opaque fuseNetboot : Bool
/-- DBG: the debug fuse (R406). -/
opaque fuseDbg : BitVec 2
/-- EFLOOR as manufactured: the number of blown epoch fuses (R406). -/
opaque fuseFloor : Nat
/-- The bytes of a firmware slot as manufactured (R405). -/
opaque flashSlot : Nat → List Byte
/-- The flag records as manufactured (R405). -/
opaque flashFlags : List (List Byte)
/-- Slots marked good by the factory (R17, R78): cluster, slot. -/
opaque fuseGood : Nat → Nat → Bool
/-- Spare columns in use in a cistern (R255). -/
opaque fuseSpareCols : Nat → BitVec 3
/-- Silicon revision of HST_ID (R304). -/
opaque fuseRev : BitVec 8
/-- MAC address of a network port (R342). -/
opaque fuseMac : Nat → BitVec 48
/-- Boot values that the manual marks "boot" and does not give (R15, R342): egress and ingress correction of a port in ns, MOFF. -/
opaque bootEgr : Nat → BitVec 16
opaque bootIng : Nat → BitVec 16
opaque bootMoff : W64
/-- Temperature grade of the part: true for -E (R5, R473). -/
opaque fuseGradeE : Bool
/-- Population straps GPOP1, GPOP0 (R171). -/
opaque strapPop : BitVec 2
/-- Glacier density code of each fitted channel, read from the devices in training (R171, R189). -/
opaque dramDensity : BitVec 3
/-- The bank voltages sensed at power-good, PWR_BANK[11:0] (R451, R473). -/
opaque bankSense : BitVec 12
/-- The frame with which firmware answers a control frame (ARP, ND, ICMP, IGMP, MLD: R323), from the port's MAC, IPv4 and IPv6 address,
its memberships and the request: standard protocol bodies the manual does not reproduce. -/
opaque controlReply : Nat → Nat → Nat → List (List Byte) → List Byte → List Byte

end Sys2Proof.Config
end

