-- ==== Sys2Proof/Machine/Crypto.lean ====
section
/-! DEFINITION. SHA-256, SHA-384, HMAC, HKDF and the AES key wrap that R198, R296, R301, R406, R417 and R423 name: their arithmetic is that of
the public standards the manual cites (PRESUMED, see notes/assumptions), and the CRC-32C and CRC-16 registers of R193. -/

namespace Sys2Proof.Machine

/-- The largest `t` below `2 ^ n + acc` with `t ^ e ≤ x`, found bit by bit from the top. -/
def rootFloor (e x n acc : Nat) : Nat :=
  match n with
  | 0 => acc
  | n + 1 => rootFloor e x n (if (acc + 2 ^ n) ^ e ≤ x then acc + 2 ^ n else acc)
/-- The first `w` bits behind the binary point of the `e`-th root of `p`: FIPS 180-4 takes its constants so. -/
def rootBits (e w p : Nat) : Nat := rootFloor e (p * 2 ^ (e * w)) (w + 5) 0 % 2 ^ w
/-- The primes below 410, of which there are 80. -/
def smallPrimes : List Nat :=
  (List.range 410).filter (fun p => 2 ≤ p && (List.range p).all (fun d => d < 2 || p % d ≠ 0))

/-- What sets the two digests of the SHA-2 family used here apart: the word's width, the rounds, the prime its initial value starts
with, and the turns of the four mixing functions (the last entry of `s0` and `s1` is a shift). -/
structure ShaKind where
  w : Nat
  rounds : Nat
  first : Nat
  b0 : List Nat
  b1 : List Nat
  s0 : List Nat × Nat
  s1 : List Nat × Nat
  deriving DecidableEq, Repr
/-- SHA-256 (R198). -/
def sha256Kind : ShaKind := ⟨32, 64, 0, [2, 13, 22], [6, 11, 25], ([7, 18], 3), ([17, 19], 10)⟩
/-- SHA-384 (R406, R417). -/
def sha384Kind : ShaKind := ⟨64, 80, 8, [28, 34, 39], [14, 18, 41], ([1, 8], 7), ([19, 61], 6)⟩

/-- A word of `w` bits turned right by `n`. -/
def turnR (w x n : Nat) : Nat := (x >>> n) ||| ((x <<< (w - n)) % 2 ^ w)
/-- The exclusive or of a word's turns. -/
def turns (w x : Nat) (ns : List Nat) : Nat := ns.foldl (fun z n => z ^^^ turnR w x n) 0
/-- A schedule mix: two turns and a shift. -/
def schedMix (w x : Nat) (m : List Nat × Nat) : Nat := turns w x m.1 ^^^ (x >>> m.2)

/-- The working words: the last four values of the upper chain and of the lower chain, newest first. -/
abbrev ShaChains := List Nat × List Nat
/-- One round with the sum of its constant and its schedule word. -/
def shaTurn (k : ShaKind) (kx : Nat) (c : ShaChains) : ShaChains :=
  let u := fun (i : Nat) => c.1.getD i 0
  let v := fun (i : Nat) => c.2.getD i 0
  let t := v 3 + turns k.w (v 0) k.b1 + (v 2 ^^^ (v 0 &&& (v 1 ^^^ v 2))) + kx
  let n := t + turns k.w (u 0) k.b0 + ((u 0 &&& u 1) ||| (u 2 &&& (u 0 ||| u 1)))
  (n % 2 ^ k.w :: c.1.take 3, (u 3 + t) % 2 ^ k.w :: c.2.take 3)
/-- The rounds over the constants `ks`, with the sliding window of sixteen schedule words. -/
def shaRun (k : ShaKind) (ks win : List Nat) (c : ShaChains) : ShaChains :=
  match ks with
  | [] => c
  | q :: ks =>
    let x := fun (i : Nat) => win.getD i 0
    let n := (x 0 + schedMix k.w (x 1) k.s0 + x 9 + schedMix k.w (x 14) k.s1) % 2 ^ k.w
    shaRun k ks (win.drop 1 ++ [n]) (shaTurn k (q + x 0) c)
/-- `n` blocks of sixteen words each, with the round constants at hand. -/
def shaFeed (k : ShaKind) (ks : List Nat) (n : Nat) (bs : List Byte) (c : ShaChains) : ShaChains :=
  match n with
  | 0 => c
  | n + 1 =>
    let win := (List.range 16).map (fun i => beAt bs (i * (k.w / 8)) (k.w / 8))
    let q := shaRun k ks win c
    let add := List.zipWith (fun x y => (x + y) % 2 ^ k.w)
    shaFeed k ks n (bs.drop (2 * k.w)) (add c.1 q.1, add c.2 q.2)
/-- The digest's eight words as bytes. -/
def shaDigest (k : ShaKind) (m : List Byte) : List Byte :=
  let blk := 2 * k.w
  let len := m.length + 1 + k.w / 4
  let q := m ++ 0x80 :: List.replicate ((blk - len % blk) % blk) 0 ++ beBytes (k.w / 4) (8 * m.length)
  let iv := ((smallPrimes.drop k.first).take 8).map (rootBits 2 k.w)
  let ks := (smallPrimes.take k.rounds).map (rootBits 3 k.w)
  let r := shaFeed k ks (q.length / blk) q (iv.take 4, iv.drop 4)
  (r.1 ++ r.2).flatMap (beBytes (k.w / 8))

/-- SHA-256 of a byte string, 32 bytes. -/
def sha256 (m : List Byte) : List Byte := shaDigest sha256Kind m
/-- SHA-384 of a byte string, 48 bytes: the first six words of its chains. -/
def sha384 (m : List Byte) : List Byte := (shaDigest sha384Kind m).take 48

/-- HMAC-SHA-256 (R198, R296). -/
def hmacSha256 (key m : List Byte) : List Byte :=
  let k := if key.length > 64 then sha256 key else key
  let k := k ++ List.replicate (64 - k.length) 0
  sha256 (k.map (· ^^^ 0x5C) ++ sha256 (k.map (· ^^^ 0x36) ++ m))

/-- HKDF-SHA-256 with a 32-byte output (R301). -/
def hkdf32 (ikm salt info : List Byte) : List Byte :=
  let prk := hmacSha256 (if salt.isEmpty then List.replicate 32 0 else salt) ikm
  hmacSha256 prk (info ++ [0x01])

/-- The bytes of an ASCII text. -/
def asciiBytes (t : String) : List Byte := t.toList.map (fun ch => BitVec.ofNat 8 ch.toNat)

/-- Product in the field of AES. -/
def gfMulN (n : Nat) (a b acc : Byte) : Byte :=
  match n with
  | 0 => acc
  | n + 1 =>
    let acc := if b.getLsbD 0 then acc ^^^ a else acc
    let a2 := if a.getLsbD 7 then (a <<< 1) ^^^ 0x1B else a <<< 1
    gfMulN n a2 (b >>> 1) acc
/-- Product in the field of AES. -/
def gfMul (a b : Byte) : Byte := gfMulN 8 a b 0
/-- Inverse in the field of AES: the 254th power. -/
def gfInv (a : Byte) : Byte :=
  let a2 := gfMul a a
  let a4 := gfMul a2 a2
  let a8 := gfMul a4 a4
  let a16 := gfMul a8 a8
  let a32 := gfMul a16 a16
  let a64 := gfMul a32 a32
  let a128 := gfMul a64 a64
  gfMul a128 (gfMul a64 (gfMul a32 (gfMul a16 (gfMul a8 (gfMul a4 a2)))))
/-- The AES substitution box. -/
def aesSub (x : Byte) : Byte :=
  let y := gfInv x
  y ^^^ y.rotateLeft 1 ^^^ y.rotateLeft 2 ^^^ y.rotateLeft 3 ^^^ y.rotateLeft 4 ^^^ 0x63
/-- The inverse substitution box. -/
def aesInvSub (x : Byte) : Byte := gfInv (x.rotateLeft 1 ^^^ x.rotateLeft 3 ^^^ x.rotateLeft 6 ^^^ 0x05)

/-- Expand an AES-256 key schedule (words, newest first) by `n` words; `i` is the number of the next word. -/
def aesExpand (n i : Nat) (rc : Byte) (w : List (List Byte)) : List (List Byte) :=
  match n with
  | 0 => w
  | n + 1 =>
    let t := w.getD 0 []
    let o := w.getD 7 []
    let u := if i % 8 = 0 then
        ((t.drop 1 ++ t.take 1).map aesSub).zipWith (· ^^^ ·) [rc, 0, 0, 0]
      else if i % 8 = 4 then t.map aesSub else t
    aesExpand n (i + 1) (if i % 8 = 0 then gfMul rc 2 else rc) (o.zipWith (· ^^^ ·) u :: w)
/-- The 15 round keys of AES-256, last first. -/
def aesKeysRev (key : List Byte) : List (List Byte) :=
  let w0 := ((List.range 8).map (fun i => slice key (4 * i) 4)).reverse
  let ws := (aesExpand 52 8 1 w0).reverse
  ((List.range 15).map (fun r => ((ws.drop (4 * r)).take 4).flatten)).reverse
/-- Inverse ShiftRows and SubBytes of a 16-byte state (columns of four). -/
def aesInvShiftSub (st : List Byte) : List Byte :=
  (List.range 16).map (fun i => aesInvSub (st.getD ((i + 16 - 4 * (i % 4)) % 16) 0))
/-- Inverse MixColumns of a 16-byte state. -/
def aesInvMix (st : List Byte) : List Byte :=
  (List.range 16).map (fun i =>
    let c := i / 4 * 4
    let g := fun (j : Nat) => st.getD (c + (i + j) % 4) 0
    gfMul 0x0E (g 0) ^^^ gfMul 0x0B (g 1) ^^^ gfMul 0x0D (g 2) ^^^ gfMul 0x09 (g 3))
/-- The rounds of AES decryption, over the round keys still to apply. -/
def aesDecRounds (ks : List (List Byte)) (st : List Byte) : List Byte :=
  match ks with
  | [] => st
  | [k] => (aesInvShiftSub st).zipWith (· ^^^ ·) k
  | k :: r => aesDecRounds r (aesInvMix ((aesInvShiftSub st).zipWith (· ^^^ ·) k))
/-- AES-256 decryption of one block. -/
def aesDec (key blk : List Byte) : List Byte :=
  match aesKeysRev key with
  | [] => blk
  | k :: r => aesDecRounds r (blk.zipWith (· ^^^ ·) k)

/-- The unwrapping steps of RFC 3394, from step `t` = 6n down to 1, over A and the n blocks R. -/
def unwrapSteps (kek : List Byte) (n t : Nat) (a : List Byte) (r : List (List Byte)) : List Byte × List (List Byte) :=
  match t with
  | 0 => (a, r)
  | t + 1 =>
    let i := t % n
    let x := (a.zipWith (· ^^^ ·) (beBytes 8 (t + 1))) ++ r.getD i []
    let b := aesDec kek x
    unwrapSteps kek n t (b.take 8) (r.set i (b.drop 8))
/-- AES key unwrap of RFC 3394: the key, or none when the integrity check fails (R301). -/
def aesUnwrap (kek w : List Byte) : Option (List Byte) :=
  let n := w.length / 8 - 1
  let r := (List.range n).map (fun i => slice w (8 * (i + 1)) 8)
  let q := unwrapSteps kek n (6 * n) (w.take 8) r
  if q.1 = List.replicate 8 0xA6 then some q.2.flatten else none

/-- One bit of a reflected CRC register. -/
def crcBitR (poly : Nat) (n : Nat) (r : Nat) : Nat :=
  match n with
  | 0 => r
  | n + 1 => crcBitR poly n (if r % 2 = 1 then (r / 2) ^^^ poly else r / 2)
/-- One byte into a reflected CRC register. -/
def crcByteR (poly r : Nat) (b : Byte) : Nat := crcBitR poly 8 (r ^^^ b.toNat)
/-- CRC-32C (Castagnoli, reflected, initial value and final inversion all ones: R193). -/
def crc32c (bs : List Byte) : Nat := (bs.foldl (crcByteR 0x82F63B78) 0xFFFFFFFF) ^^^ 0xFFFFFFFF

end Sys2Proof.Machine
end

