-- ==== Sys2Proof/Machine/RegTab.lean ====
section
/-! DEFINITION. The control-space registers as their tables give them (R11): address, reset value, and which bits a write
sets (RW, RWL), clears (W1C) or sets (W1S) and a read clears (RC). Bits in none of the masks are RO, WO or reserved. -/

namespace Sys2Proof.Machine

/-- A bank of registers at base + i × step + j × mstep, i < n, j < m. -/
structure RegRow where
  base : Nat
  n : Nat := 1
  step : Nat := 4
  m : Nat := 1
  mstep : Nat := 0x1000000
  /-- Reset value (R15). -/
  reset : Nat := 0
  rw : Nat := 0
  w1c : Nat := 0
  w1s : Nat := 0
  rc : Nat := 0
  /-- Half of a 64-bit register (R14): 0 none, 1 the lower, 2 the upper. -/
  half : Nat := 0
  deriving DecidableEq, Repr

/-- The row covers the address. -/
def RegRow.has (r : RegRow) (a : Nat) : Bool :=
  let o := a - r.base
  decide (r.base ≤ a) && decide (o / r.mstep < r.m) && decide (o % r.mstep % r.step = 0)
    && decide (o % r.mstep / r.step < r.n)

/-- Frame registers (R52). CMT_SNAP_S_LO and _HI are latched like the BTC pairs, which alone R52 names (DESIGN CHOICE, log entry 74). -/
def regTabFrame : List RegRow :=
  [ { base := 0x200000, half := 1 }, { base := 0x200004, half := 2 },
    { base := 0x200008, reset := 0b1010 },
    { base := 0x20000C, reset := 0xFFFFFFFF },
    { base := 0x200010 },
    { base := 0x200014, half := 1 }, { base := 0x200018, half := 2 },
    { base := 0x20001C }, { base := 0x200020 },
    { base := 0x200024, half := 1 }, { base := 0x200028, half := 2 },
    { base := 0x20002C, rc := 0xFFFFFFFF },
    { base := 0x200030, w1c := 0x100 },
    { base := 0x200034, half := 1 }, { base := 0x200038, half := 2 },
    { base := 0x20003C }, { base := 0x200040 },
    { base := 0x200080, n := 16 },
    { base := 0x2000C0, n := 16, w1c := 1 } ]

/-- Cell registers (R78, R121). -/
def regTabCell : List RegRow :=
  [ { base := 0x100000, n := 64, m := 16, mstep := 0x1000 },
    { base := 0x100100, n := 3, m := 16, mstep := 0x1000 },
    { base := 0x100110, n := 3, m := 16, mstep := 0x1000 },
    { base := 0x100200, n := 68, m := 16, mstep := 0x1000 },
    { base := 0x100400, n := 68, m := 16, mstep := 0x1000, w1c := 0xF0000 },
    { base := 0x100600, n := 68, m := 16, mstep := 0x1000, w1c := 3 },
    { base := 0x100800, n := 68, m := 16, mstep := 0x1000 },
    { base := 0x100A00, n := 68, m := 16, mstep := 0x1000 },
    { base := 0x100C00, n := 68, m := 16, mstep := 0x1000 } ]

/-- Exchange registers (R145). -/
def regTabExch : List RegRow :=
  [ { base := 0x120000, m := 16, mstep := 0x1000 },
    { base := 0x120004, m := 16, mstep := 0x1000, w1c := 0b110111 },
    { base := 0x120008, m := 16, mstep := 0x1000, rc := 0xFFFFFFFF },
    { base := 0x12000C, m := 16, mstep := 0x1000, rc := 0xFFFFFFFF },
    { base := 0x120010, m := 16, mstep := 0x1000 },
    { base := 0x120100, n := 32, m := 16, mstep := 0x1000, rc := 0xFF } ]

/-- Wellhead registers (R169, R170). -/
def regTabWel : List RegRow :=
  [ { base := 0x140000, m := 16, mstep := 0x2000 },
    { base := 0x140004, m := 16, mstep := 0x2000 },
    { base := 0x140008, m := 16, mstep := 0x2000, w1c := 0xFF },
    { base := 0x14000C, m := 16, mstep := 0x2000, rc := 0xFFFFFFFF },
    { base := 0x140010, m := 16, mstep := 0x2000, rw := 0x7FFFFF },
    { base := 0x140014, m := 16, mstep := 0x2000, rw := 0xFFFF7FFF },
    { base := 0x140018, m := 16, mstep := 0x2000 },
    { base := 0x140020, m := 16, mstep := 0x2000, reset := 0x20000000, rw := 0x7FFF },
    { base := 0x140024, n := 4, m := 16, mstep := 0x2000, rw := 0xFFFFFFFF },
    { base := 0x140034, m := 16, mstep := 0x2000, rw := 0xFFFF },
    { base := 0x140040, m := 16, mstep := 0x2000, rw := 0x7FFF },
    { base := 0x140044, n := 4, m := 16, mstep := 0x2000 },
    { base := 0x141000, n := 1024, m := 16, mstep := 0x2000, rw := 0xFFFF7FFF } ]

/-- Glacier registers (R189). -/
def regTabGlc : List RegRow :=
  [ { base := 0x160000, reset := 0x2000 },
    { base := 0x160004, rw := 7 },
    { base := 0x160008, w1c := 0x3FF },
    { base := 0x16000C, rc := 0xFFFFFFFF }, { base := 0x160010, rc := 0xFFFFFFFF },
    { base := 0x160014 }, { base := 0x160018 },
    { base := 0x160020, reset := 0x20000000, rw := 0xFFF },
    { base := 0x160024, n := 5, rw := 0xFFFFFFFF },
    { base := 0x160040 }, { base := 0x160044 },
    { base := 0x160048, half := 1 }, { base := 0x16004C, half := 2 } ]

/-- Cistern registers (R257). -/
def regTabCis : List RegRow :=
  [ { base := 0x180000, n := 128, reset := 5, rw := 0xFF80000F },
    { base := 0x180200, n := 128, reset := 0x80000000, rc := 0xFFFF },
    { base := 0x180400, n := 128, w1c := 0x3F },
    { base := 0x180600, n := 128, rc := 0xFFFFFFFF },
    { base := 0x180800, n := 128 },
    { base := 0x180A00, reset := 1 },
    { base := 0x180A10, n := 4 } ]

/-- Host registers (R304) and the agents' event registers (R321). -/
def regTabHst : List RegRow :=
  [ { base := 0x300000, m := 4, mstep := 0x1000, rw := 3 },
    { base := 0x300004, m := 4, mstep := 0x1000 },
    { base := 0x300008, m := 4, mstep := 0x1000, w1c := 0x1F },
    { base := 0x300010, m := 4, mstep := 0x1000, rw := 0xFFFFFFFF, half := 1 },
    { base := 0x300014, m := 4, mstep := 0x1000, rw := 0x0FFFFFFF, half := 2 },
    { base := 0x300018, m := 4, mstep := 0x1000, rw := 0xF },
    { base := 0x30001C, m := 4, mstep := 0x1000, rw := 0xFFF },
    { base := 0x300020, m := 4, mstep := 0x1000 },
    { base := 0x300028, m := 4, mstep := 0x1000, rw := 0xFFFFFFFF, half := 1 },
    { base := 0x30002C, m := 4, mstep := 0x1000, rw := 0x0FFFFFFF, half := 2 },
    { base := 0x300030, m := 4, mstep := 0x1000, rw := 0xF },
    { base := 0x300034, m := 4, mstep := 0x1000, rw := 0xFFF },
    { base := 0x300038, m := 4, mstep := 0x1000, reset := 0x80000000 },
    { base := 0x30003C, m := 4, mstep := 0x1000, reset := 0x10000, rw := 0x00FF03FF },
    { base := 0x300040, m := 4, mstep := 0x1000, rw := 0xFFFC0000 },
    { base := 0x308000, reset := 0x97400000 }, { base := 0x308004 }, { base := 0x308008 },
    { base := 0x308010, n := 4, rc := 0x00FF0000 },
    { base := 0x300800, m := 8, mstep := 0x1000, reset := 0x3FF, rc := 0x3FF },
    { base := 0x300804, m := 8, mstep := 0x1000 },
    { base := 0x300808, m := 8, mstep := 0x1000, reset := 0x3FF },
    { base := 0x30080C, m := 8, mstep := 0x1000, w1c := 7 } ]

/-- Event controller registers (R321). -/
def regTabEvc : List RegRow :=
  [ { base := 0x320000, rw := 7 }, { base := 0x320004 },
    { base := 0x320040, n := 16 }, { base := 0x320080, n := 16 },
    { base := 0x320100, n := 16 },
    { base := 0x321000, n := 512, reset := 0xFF02, rw := 0x80FFFF07, w1c := 0x40000000 },
    { base := 0x321800, n := 512, reset := 256, rw := 0xFFFF } ]

/-- Meter and histogram registers (R396, R397). -/
def regTabMtr : List RegRow :=
  [ { base := 0x3E0000, rw := 0xFFFFFF },
    { base := 0x3E0004, half := 1 }, { base := 0x3E0008, half := 2 },
    { base := 0x3E0010, rw := 0xFFF },
    { base := 0x3E0014, n := 4 },
    { base := 0x3E0024, half := 1 }, { base := 0x3E0028, half := 2 },
    { base := 0x3E0200, n := 128, w1c := 0xFFFFFFFF },
    { base := 0x400000, rw := 0xFF }, { base := 0x400004 },
    { base := 0x400008, half := 1 }, { base := 0x40000C, half := 2 },
    { base := 0x400010, n := 3 },
    { base := 0x40001C, reset := 0x7FFFFFFF }, { base := 0x400020, reset := 0x80000000 },
    { base := 0x400024, half := 1 }, { base := 0x400028, half := 2 },
    { base := 0x400040, n := 8, w1c := 0xFFFFFFFF },
    { base := 0x400100, n := 64 } ]

/-- Fault registers (R448). -/
def regTabFlt : List RegRow :=
  [ { base := 0x460000 }, { base := 0x460004, w1c := 0x100 },
    { base := 0x460008, n := 4 }, { base := 0x460018 }, { base := 0x46001C },
    { base := 0x460020, reset := 0x80040000, rw := 0x80FF0000 },
    { base := 0x460030, n := 4 },
    { base := 0x460100, n := 16, step := 0x10 },
    { base := 0x460104, n := 3, m := 16, mstep := 0x10 } ]

/-- Commit registers (R241, R242); the group and cell registers are views of the commit state. -/
def regTabCmt : List RegRow :=
  [ { base := 0x200100, rw := 0xFF }, { base := 0x200104 },
    { base := 0x200108 }, { base := 0x20010C }, { base := 0x200110 },
    { base := 0x200114, half := 1 }, { base := 0x200118, half := 2 },
    { base := 0x200120, reset := 0x20000000, rw := 0x0FFFFFFF }, { base := 0x200124, rw := 0x00FF0FFF }, { base := 0x200128 },
    { base := 0x200130, rw := 0x3FF }, { base := 0x200134 }, { base := 0x200138 },
    { base := 0x200140, reset := 0x20000000, rw := 0x1000FFFF }, { base := 0x200144, rw := 0xFFFFFFFF }, { base := 0x200148 },
    { base := 0x200150, w1c := 0x100 }, { base := 0x200154, n := 3 }, { base := 0x200160 },
    { base := 0x200400, n := 256 } ]

/-- Pump registers (R281). -/
def regTabPmp : List RegRow :=
  [ { base := 0x1A0000, m := 64, mstep := 0x40, reset := 0x02000000, rw := 0xA7000000 },
    { base := 0x1A0004, m := 64, mstep := 0x40, w1c := 0x08000000 },
    { base := 0x1A0008, m := 64, mstep := 0x40, rw := 0xFFFFFFE0, half := 1 },
    { base := 0x1A000C, m := 64, mstep := 0x40, rw := 0x0FFFFFFF, half := 2 },
    { base := 0x1A0010, n := 4, m := 64, mstep := 0x40 },
    { base := 0x1A0020, m := 64, mstep := 0x40, half := 1 }, { base := 0x1A0024, m := 64, mstep := 0x40, half := 2 },
    { base := 0x1A0028, m := 64, mstep := 0x40, rc := 0xFFFFFFFF },
    { base := 0x1A1000, reset := 200, rw := 0x3FF }, { base := 0x1A1004 }, { base := 0x1A1008 } ]

/-- CRC registers (R404). -/
def regTabCrc : List RegRow :=
  [ { base := 0x420000, m := 8, mstep := 0x40, reset := 0x0C000000, rw := 0x22000000 },
    { base := 0x420004, m := 8, mstep := 0x40, w1c := 0xF },
    { base := 0x420008, m := 8, mstep := 0x40, rw := 0xFFFFFFFF },
    { base := 0x42000C, n := 4, m := 8, mstep := 0x40 },
    { base := 0x42001C, m := 8, mstep := 0x40, half := 1 }, { base := 0x420020, m := 8, mstep := 0x40, half := 2 },
    { base := 0x420024, m := 8, mstep := 0x40, reset := 31, rw := 0x33F },
    { base := 0x420028, m := 8, mstep := 0x40, rw := 0xFFFFFFFF, half := 1 },
    { base := 0x42002C, m := 8, mstep := 0x40, rw := 0xFFFFFFFF, half := 2 },
    { base := 0x420030, m := 8, mstep := 0x40, rw := 0xFFFFFFFF, half := 1 },
    { base := 0x420034, m := 8, mstep := 0x40, rw := 0xFFFFFFFF, half := 2 },
    { base := 0x420038, m := 8, mstep := 0x40, rw := 0xFFFFFFFF, half := 1 },
    { base := 0x42003C, m := 8, mstep := 0x40, rw := 0xFFFFFFFF, half := 2 },
    { base := 0x420400, reset := 4 } ]

/-- Network registers (R342). R342 names the MOFF, GM and IP6 pairs as latched; NET_PORT_MAC is latched like them, so a write of MAC_LO
waits for MAC_HI (DESIGN CHOICE, log entry 74). -/
def regTabNet : List RegRow :=
  [ { base := 0x340000, m := 2, mstep := 0x100, reset := 0x05744000, rw := 0xFFFFE000 },
    { base := 0x340004, m := 2, mstep := 0x100, rc := 0xFFFF },
    { base := 0x340008, m := 2, mstep := 0x100, rw := 0xFFFFFFFF, half := 1 },
    { base := 0x34000C, m := 2, mstep := 0x100, rw := 0xFFFF, half := 2 },
    { base := 0x340010, m := 2, mstep := 0x100, rw := 0xFFFFFFFF },
    { base := 0x340014, n := 2, step := 8, m := 2, mstep := 0x100, rw := 0xFFFFFFFF, half := 1 },
    { base := 0x340018, n := 2, step := 8, m := 2, mstep := 0x100, rw := 0xFFFFFFFF, half := 2 },
    { base := 0x340024, m := 2, mstep := 0x100, rw := 0xFFFFFFFF },
    { base := 0x340028, m := 2, mstep := 0x100, rc := 0xFFFFFFFF },
    { base := 0x34002C, m := 2, mstep := 0x100, reset := 0x4018, rw := 0xFF3F },
    { base := 0x340200, rw := 0x3FF }, { base := 0x340204 }, { base := 0x340208, rc := 0xFFFFFFFF },
    { base := 0x34020C, rc := 0xFFFFFFFF }, { base := 0x340210, reset := 0xFFFFF },
    { base := 0x340300, n := 64, reset := 50, rw := 0xFFFF },
    { base := 0x340400, n := 32, w1c := 0xFFFFFFFF },
    { base := 0x340500, reset := 0xA00, rw := 0xFFFFFF00 }, { base := 0x340504, reset := 0x0C000000 },
    { base := 0x340508 }, { base := 0x34050C },
    { base := 0x340510, half := 1 }, { base := 0x340514, half := 2 },
    { base := 0x340518, half := 1 }, { base := 0x34051C, half := 2 },
    { base := 0x340520, reset := 3, rw := 0xF } ]

/-- AES3 registers (R364). -/
def regTabAes : List RegRow :=
  [ { base := 0x360000, m := 16, mstep := 0x40, rw := 0xF }, { base := 0x360004, m := 16, mstep := 0x40 },
    { base := 0x360008, m := 16, mstep := 0x40, rc := 0xFFFFFFFF }, { base := 0x36000C, m := 16, mstep := 0x40, rc := 0xFFFFFFFF },
    { base := 0x360010, m := 16, mstep := 0x40 }, { base := 0x360014, m := 16, mstep := 0x40 },
    { base := 0x360018, m := 16, mstep := 0x40, w1c := 0xF },
    { base := 0x360400, n := 2, m := 16, mstep := 0x80, reset := 0x40000000, rw := 0xFFFFFFFF },
    { base := 0x360408, m := 16, mstep := 0x80, reset := 3, rw := 3 },
    { base := 0x36040C, m := 16, mstep := 0x80, reset := 0x08000003, w1c := 0x10000000 },
    { base := 0x360410, m := 16, mstep := 0x80, rc := 0xFFFFFFFF }, { base := 0x360414, m := 16, mstep := 0x80 },
    { base := 0x360420, n := 6, m := 16, mstep := 0x80, rw := 0xFFFFFFFF },
    { base := 0x360440, n := 6, m := 16, mstep := 0x80, rw := 0xFFFFFFFF },
    { base := 0x360C00, rw := 0x1F }, { base := 0x360C10, n := 6 }, { base := 0x360C30, n := 6 } ]

/-- TDM registers (R365). -/
def regTabTdm : List RegRow :=
  [ { base := 0x380000, n := 2, m := 8, mstep := 0x40, rw := 0xFFFFFFFF },
    { base := 0x380008, n := 2, m := 8, mstep := 0x40, w1c := 0x20000000 },
    { base := 0x380010, m := 8, mstep := 0x40 }, { base := 0x380014, m := 8, mstep := 0x40, rc := 0xFFFFFFFF },
    { base := 0x380018, m := 8, mstep := 0x40, w1c := 0xF }, { base := 0x38001C, m := 8, mstep := 0x40, rw := 0xF } ]

/-- Synthesis registers (R383). -/
def regTabSyn : List RegRow :=
  [ { base := 0x3A0000, m := 2, mstep := 0x40, rc := 0xFF0000 },
    { base := 0x3A0004, m := 2, mstep := 0x40, half := 1 }, { base := 0x3A0008, m := 2, mstep := 0x40, half := 2 },
    { base := 0x3A0010, n := 4, m := 2, mstep := 0x40 }, { base := 0x3A0020, m := 2, mstep := 0x40, w1c := 0xF },
    { base := 0x3A0100, reset := 0xA0000000, w1c := 0x200000 }, { base := 0x3A0104, rw := 0xFFFF },
    { base := 0x3A0108, reset := 4, rw := 0xFF }, { base := 0x3A010C, n := 2 },
    { base := 0x3A0114, reset := 1, rw := 0x1F, w1c := 0x18000000 }, { base := 0x3A0118 }, { base := 0x3A011C },
    { base := 0x3A0140, n := 16, step := 8, rw := 0xFFFFFF }, { base := 0x3A0144, n := 16, step := 8, rw := 0xFFFFFF } ]

/-- Clock-output registers (R384). -/
def regTabCko : List RegRow :=
  [ { base := 0x3C0000, m := 4, mstep := 0x10, reset := 0x0A400000, rw := 0xFFC003FF },
    { base := 0x3C0004, m := 4, mstep := 0x10, rw := 0xFFFF },
    { base := 0x3C0008, m := 4, mstep := 0x10, reset := 0x40000001, w1c := 0x30000000 } ]

/-- Boot registers (R425). -/
def regTabBot : List RegRow :=
  [ { base := 0x440000, reset := 0x10000000 }, { base := 0x440004 }, { base := 0x440008 }, { base := 0x44000C, w1c := 0x3F },
    { base := 0x440010 },
    { base := 0x440020, n := 2, step := 8, m := 2, mstep := 0x20, half := 1 },
    { base := 0x440024, n := 2, step := 8, m := 2, mstep := 0x20, half := 2 },
    { base := 0x440030, n := 2, m := 2, mstep := 0x20 },
    { base := 0x440060, half := 1 }, { base := 0x440064, half := 2 }, { base := 0x440070, n := 4 } ]

/-- Power registers (R473). -/
def regTabPwr : List RegRow :=
  [ { base := 0x480000, w1c := 0xC0000000 }, { base := 0x480004 }, { base := 0x480008, rw := 0xFF }, { base := 0x48000C },
    { base := 0x480010 }, { base := 0x480040, n := 17 } ]

/-- Every register of the control space. -/
def regTab : List RegRow :=
  regTabFrame ++ regTabCell ++ regTabExch ++ regTabWel ++ regTabGlc ++ regTabCis ++ regTabHst ++ regTabEvc ++ regTabMtr
    ++ regTabFlt ++ regTabCmt ++ regTabPmp ++ regTabCrc ++ regTabNet ++ regTabAes ++ regTabTdm ++ regTabSyn ++ regTabCko
    ++ regTabBot ++ regTabPwr

/-- The row of a register, none at an unassigned address (R13). -/
def regRow? (a : Nat) : Option RegRow := regTab.find? (fun r => r.has a)

/-- The reset value of a register (R15). -/
def regReset (a : Nat) : W32 :=
  match regRow? a with
  | some r => BitVec.ofNat 32 r.reset
  | none => 0

end Sys2Proof.Machine
end

