-- ==== Sys2Proof/Machine/StClk.lean ====
section
/-! DEFINITION. State of clock synthesis (ch. 17), of boot (ch. 20) and of power (ch. 22) beside their registers. -/

namespace Sys2Proof.Machine

/-- Who asked for a hop (R376): firmware at boot, a CLOCK_HOP command, or the tracker for CLOCK_REF. -/
inductive HopBy where
  | boot
  | hop
  | ref
  deriving DecidableEq, Repr

/-- A scheduled hop (R376): its boundary, family (true: 44.1 kHz) and pull in ppb, the synthesizer, who asked for it; the CLOCK_HOP
command, where it was one. -/
structure Hop where
  btc : Nat := 0
  fam : Bool := false
  p : Int := 0
  syn : Nat := 0
  agent : Nat := 0
  handle : Nat := 0
  by_ : HopBy := .boot
  deriving DecidableEq, Repr

/-- Clock synthesis. -/
structure ClkSt where
  /-- The pull p in 1/256 ppb (R370). -/
  p : Int := 0
  /-- Base boundaries the running segment has moved p at (R370). -/
  segDone : Nat := 0
  /-- A target of the reference tracker, in 1/256 ppb. -/
  trk : Option Int := none
  /-- The phase pull-in of R374 step 4 is under way. -/
  pull : Bool := false
  /-- The ramp moved p at the last base boundary (R46). -/
  moving : Bool := false
  /-- p of the last 16 s and x of the last 16 s, newest first, as value and base ticks (R375). -/
  hist : List (Int × Nat) := []
  xhist : List (Int × Nat) := []
  hop : Option Hop := none
  /-- Base boundaries left until the safe-clock gate opens (R50). -/
  gate : Option Nat := none
  /-- Boundary records that wait for the boundary that ends this tick: type, detail. -/
  recs : List (Nat × Nat) := []
  /-- Step of R374: 0 none, 2 measuring, 3 hop or ramp, 4 pull-in. -/
  acq : Nat := 0
  /-- Family and multiplier of the reference, at acquisition. -/
  refFam : Bool := false
  /-- Order of use of the calibration slots, keyed synthesizer × 4 + slot. -/
  used : SMap Nat := []
  uses : Nat := 0
  deriving DecidableEq, Repr

/-- Boot (R405–R425) beside its registers. -/
structure BootSt where
  /-- The bytes of a firmware slot as firmware has programmed them (R414); none: as manufactured. -/
  slots : SMap (Option (List (BitVec 8))) := []
  /-- Flag records, oldest first (R415); none: as manufactured. -/
  flags : Option (List (List (BitVec 8))) := none
  /-- Epoch fuses blown: the floor is the larger of this and the factory's (R406, R419). -/
  floor : Nat := 0
  /-- The device is held in power-on reset; by a thermal trip (R455, R470). -/
  held : Bool := true
  trip : Bool := false
  /-- The hash engine runs over the chosen slot (R407). -/
  hash : Bool := false
  /-- Epochs whose K_seal firmware can use (R412); withdrawn for the rest of the power session (R423). -/
  seals : List Nat := []
  sealOff : Bool := false
  /-- The outstanding debug challenge; wrong responses in this power session (R423). -/
  chal : Option (List (BitVec 8)) := none
  wrong : Nat := 0
  /-- This boot is a trial that has not been decided (R419). -/
  trial : Bool := false
  /-- Memory BIST has run in this power session: its result is kept (R407). -/
  bist : Bool := false
  /-- The payload of the FW_UPDATE that runs (R418). -/
  upd : List (BitVec 8) := []
  /-- RCAUSE of the warm reset that is due after a completion (R302, R419). -/
  due : Option Nat := none
  deriving DecidableEq, Repr

/-- Power (R466–R470) beside its registers. -/
structure PwrSt where
  /-- Step of R467 a cluster is in: 0 off, 1 switches closing or waiting, 2 clearing, 3 powered and cleared. -/
  step : SMap Nat := []
  /-- Clusters whose power-up has been requested and not reached step 2, in the order of their requests: the first is in step 1 (R467). -/
  queue : List Nat := []
  /-- Power-down requested before step 3 (R467). -/
  down : SMap Bool := []
  /-- The rate domain in which a cluster starts to tick (R32). -/
  dom : SMap Nat := []
  /-- A temperature has been sampled since reset. -/
  seen : Bool := false
  /-- The warning level reads 1 (R470). -/
  warn : Bool := false
  deriving DecidableEq, Repr

end Sys2Proof.Machine
end

