-- ==== Sys2Proof/Machine/StExch.lean ====
section
/-! DEFINITION. State of the exchange (ch. 6): slot tables, lanes, chains and rate bridges. -/

namespace Sys2Proof.Machine

/-- A word on its way to, or in, an arrival register: arrival cycle, word, logical cells at whose register it failed
parity (R141). -/
structure LaneWord where
  arr : Nat := 0
  w : Acc := 0
  bad : List Nat := []
  deriving DecidableEq, Repr

/-- One lane of one cluster (R122, R124). -/
structure Lane where
  /-- The last word that arrived. -/
  reg : LaneWord := {}
  /-- Words sent in this tick, in order. -/
  flight : List LaneWord := []
  /-- Words launched in this tick on a reduction-launch lane (R133). -/
  sent : Nat := 0
  deriving DecidableEq, Repr

/-- A cluster's slot table (R123, R125, R127, R133, R135). -/
structure SlotTable where
  /-- Lane descriptors of R123. -/
  desc : SMap W64 := []
  /-- Read set of each logical index: lanes. -/
  reads : SMap (List Nat) := []
  /-- Chain list entries. -/
  chain : SMap Nat := []
  /-- Bridge entries of R135. -/
  bridge : SMap W32 := []
  /-- Schedule entries of R127. -/
  sched : List W32 := []
  deriving DecidableEq, Repr

/-- One rate-bridge channel (R136, R137). -/
structure Bridge where
  /-- Input register, and the arrival still in flight. -/
  inp : Word := 0
  flight : List (Nat × Word) := []
  /-- Words captured in the running base tick, oldest first. -/
  cap : List Word := []
  /-- Output words of the running base tick. -/
  out : List Word := []
  /-- Delay lines of the one or two half-band stages, newest first. -/
  line1 : List Word := []
  line2 : List Word := []
  deriving DecidableEq, Repr

/-- The exchange. -/
structure ExchSt where
  /-- Live and shadow slot tables by cluster; none: no table. -/
  live : SMap (Option SlotTable) := []
  shadow : SMap (Option SlotTable) := []
  /-- Live and shadow chain descriptors (R131). -/
  chains : SMap W64 := []
  chainsShadow : SMap (Option W64) := []
  /-- Lanes keyed cluster × 256 + lane. -/
  lanes : SMap Lane := []
  /-- Contribution registers keyed chain × 16 + stop (R133). -/
  contrib : SMap Acc := []
  /-- A contribution stands in the register; the last contribution added (R432). -/
  arrived : SMap Bool := []
  lastContrib : SMap Acc := []
  /-- The stop has added in this tick. -/
  added : SMap Bool := []
  /-- Partials in transit keyed chain × 2 + arm (0 up, 1 down). -/
  part : SMap Acc := []
  /-- Bridges keyed cluster × 32 + channel. -/
  bridges : SMap Bridge := []
  /-- Reduction words each stop handled in this base tick, keyed cluster × 2 + direction (XCH_RING). -/
  rwords : SMap Nat := []
  deriving DecidableEq, Repr

end Sys2Proof.Machine
end

