-- ==== Sys2Proof/Machine/StWel.lean ====
section
/-! DEFINITION. State of the Wellheads (ch. 7) and of the Glacier (ch. 8) beside their registers. -/

namespace Sys2Proof.Machine

/-- An exact dyadic number n / 2^e: a running gain (R161: computed exactly). -/
structure Dyadic where
  n : Int := 0
  e : Nat := 0
  deriving DecidableEq, Repr

/-- Running state of a tap entry (R158–R162). Delays are 20.40 fixed point. -/
structure TapRun where
  /-- The entry has issued under live tables. -/
  seen : Bool := false
  /-- LINE, LANE and DGM of the last issue. -/
  line : Nat := 0
  lane : Nat := 0
  dgm : Nat := 0
  /-- Running delay: the delay of the last issue (head A's in a crossfade). -/
  delay : Nat := 0
  /-- Running target delay. -/
  dtgt : Nat := 0
  /-- Slide: start, increment, length exponent, issues completed. -/
  slide : Bool := false
  d0 : Nat := 0
  inc : Int := 0
  dk : Nat := 0
  dj : Nat := 0
  /-- Crossfade to `dtgt`; a held next target (R162). -/
  xf : Bool := false
  held : Option Nat := none
  /-- Gain glide: start, target, mode, length exponent, issues completed. -/
  ggl : Bool := false
  g0 : Dyadic := {}
  g1 : BitVec 36 := 0
  ggm : Nat := 0
  gk : Nat := 0
  gj : Nat := 0
  /-- Gain of the last issue. -/
  gain : Dyadic := {}
  deriving DecidableEq, Repr

/-- A tap entry: word 0 and word 1 (R152). -/
structure TapEntry where
  w0 : Word := 0
  w1 : Word := 0
  deriving DecidableEq, Repr

/-- The Wellheads. Keys: entry cluster × 32768 + e, line cluster × 1024 + k, sum lane cluster × 1024 + l. -/
structure WelSt where
  ent : SMap TapEntry := []
  entPend : SMap (Option TapEntry) := []
  line : SMap W32 := []
  linePend : SMap (Option W32) := []
  wcc : SMap Nat := []
  wccPend : SMap (Option Nat) := []
  run : SMap TapRun := []
  /-- Sum-lane accumulators and close registers, Q16.64 (R155). -/
  acc : SMap (BitVec 80) := []
  close : SMap (BitVec 80) := []
  /-- The close of this tick has happened. -/
  closed : SMap Bool := []
  /-- Captured inlet samples by line, and that they are not yet written (R148). -/
  inlet : SMap Half := []
  inletWait : SMap Bool := []
  /-- Wellhead lane: next sum lane offset to drive in this tick, keyed cluster × 256 + lane. -/
  drive : SMap Nat := []
  /-- The running copy of a load engine, by cluster: source word, first entry, count (R170). -/
  ld : SMap (Nat × Nat × Nat) := []
  /-- A running-state capture is requested, by cluster (R169). -/
  cap : SMap Bool := []
  deriving DecidableEq, Repr

/-- One DRAM block (R173). -/
structure DramBlock where
  words : List Word := []
  lap : Nat := 0
  blk : Nat := 0
  deriving DecidableEq, Repr

/-- A stream descriptor's five words (R175). -/
structure StrDesc where
  w0 : W32 := 0
  w1 : W32 := 0
  w2 : W32 := 0
  w3 : W32 := 0
  w4 : W32 := 0
  deriving DecidableEq, Repr

/-- A stream's run state (R177–R183). -/
structure StrRun where
  /-- Domain tick at which it became enabled. -/
  t0 : Nat := 0
  /-- Grains whose write window has been served or has lapsed, and grains written. -/
  gw : Nat := 0
  wg : Nat := 0
  /-- Grains whose read has been served. -/
  gr : Nat := 0
  /-- Grains that the head-late count has passed (R183). -/
  hl : Nat := 0
  /-- Next index to deliver, counted from t0 (R178 step 5). -/
  ix : Nat := 0
  /-- Head words that hold a checked sample, by index mod 64. -/
  good : SMap Bool := []
  /-- Last good sample (R183). -/
  last : Half := 0
  concl : Bool := false
  done : Bool := false
  /-- Concealed indices (CAPTURE result). -/
  conclN : Nat := 0
  deriving DecidableEq, Repr

/-- The Glacier. -/
structure GlcSt where
  /-- DRAM blocks that have been written; none: never written (R187). -/
  dram : SMap (Option DramBlock) := []
  str : SMap StrDesc := []
  strPend : SMap (Option StrDesc) := []
  run : SMap StrRun := []
  /-- Training results kept in the always-on domain (R187): rate code; 0 none. -/
  stored : Nat := 0
  /-- Die temperature when they were stored, in quarters of a degree (R187). -/
  storedT : Int := 0
  /-- The next training tries them first; a warm reset is why (R187, R302). -/
  reuse : Bool := false
  warm : Bool := false
  /-- Generation of undefined contents: raised when a failed reuse leaves DRAM undefined (R187). -/
  undefGen : Nat := 0
  deriving DecidableEq, Repr

end Sys2Proof.Machine
end

