-- ==== Sys2Proof/Machine/StCmt.lean ====
section
/-! DEFINITION. State of live updates (ch. 10), of image loads (ch. 9) and of the port bindings (R208). -/

namespace Sys2Proof.Machine

/-- A running glide (R236, R237), held with its coefficient word. -/
structure GlideRun where
  fmt : Nat := 0
  expo : Bool := false
  k : Nat := 0
  j : Nat := 0
  v0 : Word := 0
  v1 : Word := 0
  deriving DecidableEq, Repr

/-- An output operation captured during a crossfade (R238): kind 0 cistern store, 1 lane send, 2 XRED launch; its value after
step 2 of R63, in units of 2^-192, one or two parts. -/
structure XfCap where
  kind : Nat := 0
  vals : List Int := []
  deriving DecidableEq, Repr

/-- What live updates keep for a logical cell (R223–R239). -/
structure CellCmt where
  /-- A pending vector or the phase is marked. -/
  vmark : Bool := false
  pswap : Bool := false
  xfe : Bool := false
  xk : Nat := 0
  /-- A partial load set NOPROG, NOCOEF. -/
  noprog : Bool := false
  nocoef : Bool := false
  /-- A load's cell section pends: the cell will be assigned (true) or idle (false) from the swap. -/
  asg : Option Bool := none
  /-- Glide descriptor tables, active and pending, and the marked slots. -/
  gAct : SMap W32 := []
  gPend : SMap W32 := []
  gMark : SMap Bool := []
  /-- Running glides by word address. -/
  run : SMap GlideRun := []
  /-- Resynchronisations in progress: program page, coefficient page. -/
  rsP : Bool := false
  rsK : Bool := false
  /-- Crossfade: length exponent, progress j (0: none runs). -/
  xfK : Nat := 0
  xj : Nat := 0
  /-- The new program issues in this tick; captured operations of the old one, not yet mixed. -/
  xnew : Bool := false
  cap : List XfCap := []
  deriving DecidableEq, Repr

/-- A commit group (R227–R234). Members are coded KIND × 65536 + ID. -/
structure Group where
  /-- 0 open, 1 validating, 2 armed, 3 due. -/
  state : Nat := 0
  last : Nat := 0
  trig : Nat := 0
  armr : Nat := 0
  ta : W32 := 0
  tb : W32 := 0
  tc : W32 := 0
  /-- Resolved target b; 0 while open or unresolved. -/
  rbtc : Nat := 0
  moved : Bool := false
  refused : Nat := 0
  /-- Standing list; members claimed through LOADCG. -/
  mem : List Nat := []
  load : List Nat := []
  /-- Groups its validation assumed. -/
  assumed : List Nat := []
  /-- Order of arming. -/
  seq : Nat := 0
  deriving DecidableEq, Repr

/-- Items a load has pending that are no member: rate domains, owners, attachments, standing lists (R220). -/
structure LoadPend where
  dom : SMap (Option Nat) := []
  own : SMap (Option Nat) := []
  /-- Attachments keyed class × 32768 + index (class 0 meter, 1 histogram). -/
  att : SMap (Option W64) := []
  memb : SMap (Option (List Nat)) := []
  deriving DecidableEq, Repr

/-- A commit record (R242). -/
structure CmtRec where
  w0 : W32 := 0
  w1 : W32 := 0
  w2 : W32 := 0
  deriving DecidableEq, Repr

/-- Live updates. -/
structure CmtSt where
  groups : SMap Group := []
  cells : SMap CellCmt := []
  recs : List CmtRec := []
  /-- Non-member items pending by group; 256 is the full image. -/
  pend : SMap LoadPend := []
  /-- An image is live; a full image is armed to start at a BTC; a CLEAR stops the structure at a BTC. -/
  live : Bool := false
  /-- Logical cells that have a physical slot (R17). -/
  hasSlot : SMap Bool := []
  start : Option Nat := none
  clearAt : Option Nat := none
  seq : Nat := 0
  deriving DecidableEq, Repr

/-- A port binding: the common prefix of R208 and its class record. -/
structure PortBind where
  en : Bool := false
  cl : Nat := 0
  nch : Nat := 0
  bufin : Nat := 0
  bufout : Nat := 0
  raw : List (BitVec 8) := []
  deriving DecidableEq, Repr

/-- Ports: bindings by port code; released output samples keyed code × 64 + channel; ports bound at the last boundary. -/
structure PortSt where
  live : SMap PortBind := []
  pend : SMap (Option PortBind) := []
  rel : SMap Word := []
  /-- Channels whose input half the port engine has written in this tick, keyed code × 64 + channel. -/
  inw : SMap Bool := []
  fresh : SMap Bool := []
  /-- Ports whose binding changed at the boundary in progress, with the binding before. -/
  chg : List (Nat × PortBind) := []
  /-- What physics adds to the engines' cistern accesses of the running command, by word address; empty between commands. -/
  acc : List (Nat × Access) := []
  deriving DecidableEq, Repr

/-- What a load writes in a cell's memories, before it did: words and marks by window offset, the facts of the pending page. -/
structure PageUndo where
  cell : Nat := 0
  words : SMap Word := []
  marks : SMap Bool := []
  page : PageInfo := {}
  deriving DecidableEq, Repr

/-- What a rejected partial load restores: for each item it wrote, the state before (R222). -/
structure LoadUndo where
  cells : List (Nat × CellCmt) := []
  pages : List PageUndo := []
  tables : List (Nat × Option SlotTable) := []
  chains : List (Nat × Option W64) := []
  ents : List (Nat × Option TapEntry) := []
  lines : List (Nat × Option W32) := []
  wccs : List (Nat × Option Nat) := []
  strs : List (Nat × Option StrDesc) := []
  ports : List (Nat × Option PortBind) := []
  pend : LoadPend := {}
  group : Group := {}
  /-- Clusters the load powered up. -/
  power : List Nat := []
  /-- Slots taken from the spare pool for newly assigned cells (logical cells). -/
  maps : List Nat := []
  deriving DecidableEq, Repr

/-- A running image load (R212). -/
structure LoadRun where
  agent : Nat := 0
  handle : Nat := 0
  net : Bool := false
  addr : Nat := 0
  len : Nat := 0
  stag : Nat := 0
  /-- Key and policy captured at acceptance (R198). -/
  key : Option (List (BitVec 8)) := none
  require : Bool := false
  /-- 0 awaits the header, 1 sections, 2 the trailer. -/
  phase : Nat := 0
  /-- Every byte taken so far; bytes of a network feed not yet taken. -/
  bytes : List (BitVec 8) := []
  feed : List (BitVec 8) := []
  full : Bool := false
  hmac : Bool := false
  nsec : Nat := 0
  group : Nat := 0
  start : Nat := 0
  sq : Nat := 0
  secs : Nat := 0
  /-- Type, target and end of the range of the last section. -/
  lastT : Nat := 0
  lastG : Nat := 0
  lastE : Nat := 0
  hadDom : Bool := false
  hadOwn : Bool := false
  /-- Members and items written: pending copies locked against other writers (R221). -/
  written : List Nat := []
  /-- Clusters that sections name (R199). -/
  named : List Nat := []
  refused : Nat := 0
  undo : LoadUndo := {}
  deriving DecidableEq, Repr

/-- Image loads: the key and the policy (R198), the running load. -/
structure LoadSt where
  key : Option (List (BitVec 8)) := none
  require : Bool := false
  /-- Key and policy as they stood when the last IMAGE_LOAD was accepted (R198). -/
  accKey : Option (List (BitVec 8)) := none
  accRequire : Bool := false
  run : Option LoadRun := none
  /-- A full load that has passed and waits for its start boundary (R214). -/
  arm : Option LoadRun := none
  deriving DecidableEq, Repr

end Sys2Proof.Machine
end

