-- ==== Sys2Proof/Machine/StHost.lean ====
section
/-! DEFINITION. State of the host side (ch. 13), the event controller (ch. 14) and the outputs of the device. -/

namespace Sys2Proof.Machine

/-- The headers of a UDP datagram the device sends (R322, R324): VID and PCP of its tag, if any, the addresses (16 bytes, IPv4 mapped),
DSCP, ports, checksum. -/
structure UdpHdr where
  tag : Option Nat := none
  src : List Byte := []
  dst : List Byte := []
  dscp : Nat := 0
  sport : Nat := 0
  dport : Nat := 0
  csum : Nat := 0
  deriving DecidableEq, Repr

/-- What the device puts out, oldest last: the model's record of its effects on the world outside (a model's own field). -/
inductive Out where
  /-- Posted write to host memory (R273, R286, R289). -/
  | hostWrite (addr : Nat) (bytes : List Byte)
  /-- Read request to host memory by a pump channel or the command reader. -/
  | hostRead (addr len : Nat)
  /-- MSI-X vector (R292). -/
  | msix (vec : Nat)
  /-- PM_PME message for an agent (R294, R316). -/
  | pme (agent : Nat)
  /-- Control-session datagram: agent, type, message counter, port and headers, payload with its MAC (R296). -/
  | datagram (agent typ mseq port : Nat) (hdr : UdpHdr) (payload : List Byte)
  /-- Frame that answers a control frame on a network port (R323). -/
  | frame (port : Nat) (bytes : List Byte)
  /-- PTP message sent on a port, with its headers (R339). -/
  | ptp (port : Nat) (hdr : UdpHdr) (msg : List Byte)
  /-- RTP packet of a transmit flow on a leg, with its headers (R324, R336). -/
  | media (port flow : Nat) (hdr : UdpHdr) (rtp : List Byte)
  /-- Data of a register read (R13). -/
  | regData (v : W32)
  /-- Data of a BAR2 read (R9, R283). -/
  | bar2Data (bytes : List Byte)
  /-- AES3 frame sent by a transmitter: two subframe samples with their V, U, C bits (R354, R355). -/
  | aesFrame (tx : Nat) (preamble : Nat) (a b : Nat) (vuc : Nat)
  /-- TDM frame sent on a port: one word a slot, none where the slot is high-impedance (R359, R360). -/
  | tdmFrame (port : Nat) (slots : List (Option Nat))
  /-- Frame sync generated by a TDM master (R359). -/
  | tdmSync (port : Nat)
  deriving DecidableEq, Repr

/-- An accepted command that is outstanding (R287). -/
structure CmdOp where
  /-- The agent that issued it. -/
  agent : Nat := 0
  /-- Its handle (R287). -/
  handle : Nat := 0
  opc : Nat := 0
  flags : Nat := 0
  arg : Nat := 0
  tag : Nat := 0
  /-- Entry bytes 8–47 (R284). -/
  params : List Byte := []
  /-- It has begun and waits for a later event. -/
  started : Bool := false
  /-- Its agent has gone DOWN: its completion is discarded (R285). -/
  lost : Bool := false
  /-- BTC at its acceptance (R393). -/
  at_ : Nat := 0
  /-- A value it carries from one of its steps to a later one (a target, a captured BTC). -/
  note : Nat := 0
  deriving DecidableEq, Repr

/-- A finished operation's completion (R289). -/
structure Compl where
  agent : Nat := 0
  handle : Nat := 0
  opc : Nat := 0
  tag : Nat := 0
  status : Nat := 0
  detail : Nat := 0
  /-- RESULT, completion bytes 12–31. -/
  result : List Byte := []
  deriving DecidableEq, Repr

/-- A network control session AG4–AG7 (R296–R301); its STATE, AGST, PORTS, AUTHF and UDP stand in HST_NS. -/
structure NsSession where
  /-- Session key (R301). -/
  key : List Byte := []
  /-- Peer address filter (R296, SESSION_CFG). -/
  peer : List Byte := []
  prefixLen : Nat := 0
  /-- Moderation COUNT and TIMER (R299). -/
  count : Nat := 1
  timer : Nat := 0
  /-- The peer the device answers: address, network port and UDP port of the last accepted datagram; none yet: no address. -/
  peerAddr : List Byte := []
  peerIf : Nat := 0
  peerUdp : Nat := 0
  /-- Last MSEQ accepted and last MSEQ sent (R297). -/
  rxSeq : Nat := 0
  txSeq : Nat := 0
  /-- Last CSEQ numbered, last credited, credit window (R299). -/
  cseq : Nat := 0
  credited : Nat := 0
  window : Nat := 16
  /-- Completions sent and not yet credited. -/
  sent : List (Nat × Compl) := []
  /-- Highest CID accepted, and the last 256 with their acceptance records (R300). -/
  cidHigh : Nat := 0
  cids : List (Nat × List Byte) := []
  /-- BTC at which the last EVENT datagram left; one waits for its millisecond to pass (R310). -/
  evtAt : Option Nat := none
  evtDue : Bool := false
  deriving DecidableEq, Repr

/-- The host interface (R282–R304) beside its registers. -/
structure HostSt where
  /-- Outstanding commands (R287). -/
  ops : List CmdOp := []
  /-- Finished completions not yet written, in the order they finished (R290). -/
  fin : List Compl := []
  /-- Generation of each handle slot, keyed agent × 256 + slot (R287). -/
  gens : SMap Nat := []
  /-- Completion entries written since the vector last fired, by agent (R293). -/
  unsig : SMap Nat := []
  /-- Network sessions keyed 4–7. -/
  ns : SMap NsSession := []
  /-- The agent's moderation TIMER is due to wake it: a completion is held asleep and SRC is not yet set (R294). -/
  wakeDue : SMap Bool := []
  /-- PME_En of the PCIe function (R294). -/
  pmeEn : Bool := false
  /-- Masked MSI-X vectors, and pending bits (R292). -/
  msixMask : BitVec 64 := BitVec.allOnes 64
  msixPend : BitVec 64 := 0
  deriving DecidableEq, Repr

/-- The event controller (R305–R321) beside its registers. -/
structure EventSt where
  /-- Present signal of each level source (R306). -/
  sig : SMap Bool := []
  /-- The pending event has had its first signal (R318). -/
  delivered : SMap Bool := []
  /-- Sources in service by agent, most recently claimed first (R311). -/
  stack : SMap (List Nat) := []
  /-- Sleeping agents that have been called for a held event, by source: bit a for agent a (R316). -/
  called : SMap Nat := []
  /-- Sources claimable by each agent at the last cycle (R310). -/
  claimable : SMap (List Nat) := []
  deriving DecidableEq, Repr

end Sys2Proof.Machine
end

