-- ==== Sys2Proof/Machine/StMem.lean ====
section
/-! DEFINITION. The memories of the fabric (R8, R69, R243): 72-bit words, sparse, keyed as the fabric map lays them out. -/

namespace Sys2Proof.Machine

/-- The fabric's memories. An unlisted word reads as zero: clearing at power-up writes every word to zero (R54, R256). -/
structure MemSt where
  /-- Cistern words, keyed by fabric word address k × 0x1_0000 + w (R8). -/
  cist : SMap Word := []
  /-- Cell memories, keyed (c × 68 + s) × 0x4000 + offset (R8, R69). -/
  cell : SMap Word := []
  /-- Marks of pending-page words, keyed as the cell memories (R223). -/
  mark : SMap Bool := []
  /-- Cistern words a store has changed, as fabric reads before its completion cycle still see them (R71). -/
  stale : List StaleWord := []
  /-- Cycles of the running domain tick in which a cistern's F port has a granted access, keyed by cistern (R249). -/
  busy : SMap (List Nat) := []
  /-- What each program page carries, keyed (c × 68 + s) × 2 + page. -/
  page : SMap PageInfo := []
  deriving DecidableEq, Repr

end Sys2Proof.Machine
end

