-- ==== Sys2Proof/Machine/StMeter.lean ====
section
/-! DEFINITION. State of the meters and histogram engines (ch. 18), the fault manager (ch. 21) and the CRC units (ch. 19)
beside their registers. -/

namespace Sys2Proof.Machine

/-- The figures a meter snapshot holds (R388). -/
structure MtrFig where
  /-- Peaks as S72 values (R387). -/
  pkmax : Int := 0
  pkmin : Int := 0
  /-- √ms, unsigned Q8.24. -/
  rms : Nat := 0
  n : Nat := 0
  ovr : Nat := 0
  deriving DecidableEq, Repr

/-- One meter (R385–R388). -/
structure Meter where
  /-- Live attachment record (R385). -/
  att : W64 := 0
  pkmax : Int := 0
  pkmin : Int := 0
  n : Nat := 0
  ovr : Nat := 0
  /-- Mean square, 128 fraction bits (R387). -/
  ms : Nat := 0
  /-- Last snapshot. -/
  snap : MtrFig := {}
  deriving DecidableEq, Repr

/-- A context's read view of one meter (R389). -/
structure MtrView where
  meter : Nat := 0
  fig : MtrFig := {}
  sbtc : W64 := 0
  deriving DecidableEq, Repr

/-- One histogram engine (R393–R395). -/
structure Hist where
  /-- Live record (R393). -/
  att : W64 := 0
  frozen : Bool := false
  satf : Bool := false
  auto : Bool := false
  n : Nat := 0
  under : Nat := 0
  ovr : Nat := 0
  /-- Smallest and largest value; none before the first (registers 0x7FFF_FFFF, 0x8000_0000). -/
  min : Int := 0x7FFFFFFF
  max : Int := -0x80000000
  fbtc : W64 := 0
  bins : SMap Nat := []
  deriving DecidableEq, Repr

/-- Meters and histogram engines. -/
structure MeterSt where
  mtr : SMap Meter := []
  view : SMap MtrView := []
  hist : SMap Hist := []
  /-- BTC of the last snapshot (MTR_SBTC). -/
  sbtc : W64 := 0
  /-- A GO written after T − 65 of the coming base boundary, which waits for the next one (R388). -/
  late : Bool := false
  deriving DecidableEq, Repr

/-- One boundary record (R53). -/
structure BndRec where
  btc : W64 := 0
  typ : Nat := 0
  detail : Nat := 0
  deriving DecidableEq, Repr

/-- One fault log entry (R448). -/
structure FltEntry where
  w0 : W32 := 0
  w1 : W32 := 0
  w2 : W32 := 0
  w3 : W32 := 0
  deriving DecidableEq, Repr

/-- One entry of the handler (R427): class, severity, unit. -/
structure FltWork where
  cls : Nat := 0
  sev : Nat := 0
  unit : Nat := 0
  deriving DecidableEq, Repr

/-- The fault manager (R426–R428, R442) beside its registers. -/
structure FaultSt where
  /-- The log, oldest first (R428). -/
  log : List FltEntry := []
  /-- The entry being handled, the suspended ones, the waiting ones (R427). -/
  cur : Option FltWork := none
  susp : List FltWork := []
  queue : List FltWork := []
  /-- Cores under restart (R442). -/
  restarting : SMap Bool := []
  /-- Time in ms of the last watchdog expiry, if any (R442). -/
  lastExp : Option Nat := none
  /-- Units with an open fault by class, keyed class × 65536 + unit: what a recovered entry closes. -/
  openf : SMap Bool := []
  /-- The critical temperature has stopped the structure and gates the outputs, until a new image starts (R443). -/
  critical : Bool := false
  deriving DecidableEq, Repr

/-- One CRC unit (R398–R403) beside its registers. -/
structure CrcUnit where
  /-- A computation is open; its last byte is consumed; after a FIN, the entries queued before it that are still to be consumed
  (R403). -/
  open_ : Bool := false
  ended : Bool := false
  fin : Option Nat := none
  /-- Parameters latched at START (R400). -/
  width : Nat := 32
  poly : Nat := 0
  refin : Bool := false
  refout : Bool := false
  xorout : Nat := 0
  /-- The CRC register. -/
  acc : Nat := 0
  /-- Queued entries, oldest first, as the bytes not yet consumed (R401). -/
  queue : List (List (BitVec 8)) := []
  deriving DecidableEq, Repr

end Sys2Proof.Machine
end

