-- ==== Sys2Proof/Machine/StNet.lean ====
section
/-! DEFINITION. State of network audio and precision time (ch. 15) and of the serial ports (ch. 16) beside their registers. -/

namespace Sys2Proof.Machine

/-- One flow context (R324–R338). -/
structure FlowRun where
  /-- NET_FC_STAT.STATE: 0 unbound, 1 wait, 2 live, 3 conceal, 4 free; CAUSE; GOODN. -/
  state : Nat := 0
  cause : Nat := 0
  goodn : Nat := 0
  /-- NET_FC_CNT and CNT2 (on transmit EARLY is SATC); the smallest margin. -/
  late : Nat := 0
  miss : Nat := 0
  early : Nat := 0
  fmt : Nat := 0
  slip : Nat := 0
  minm : Nat := 0xFFFFF
  /-- Arrival marks by index mod 2^JBK (R327). -/
  mark : SMap Bool := []
  /-- The first index to go live with; it has fallen due and the group holds the flow (R337, R338). -/
  liveAt : Option Int := none
  ready : Bool := false
  /-- In state free: the index presented in a tick less the tick's number; newest index received (R335). -/
  fd : Int := 0
  newest : Option Int := none
  /-- Last presented sample by channel; concealed samples so far; position of the rejoin ramp (R334). -/
  last : SMap Word := []
  concK : Nat := 0
  upK : Nat := 64
  /-- Last missing index; on-time packets as sequence number and first index. -/
  missAt : Int := 0
  pkts : List (Nat × Int) := []
  /-- Domain tick of the last on-time packet of each leg (R333). -/
  leg0 : Option Nat := none
  leg1 : Option Nat := none
  /-- Transmit: next sequence number; first index of the packet being assembled. -/
  seq : Nat := 0
  first : Option Int := none
  cnt : Nat := 0
  /-- Ticks in which an unbound receive flow still writes zeros, and the binding it had (R337). -/
  zeros : Nat := 0
  was : PortBind := {}
  deriving DecidableEq, Repr

/-- The running facts of an alignment group (R338). -/
structure AlgRun where
  started : Bool := false
  /-- TMO has passed since the first member left wait. -/
  due : Bool := false
  deriving DecidableEq, Repr

/-- A foreign master an Announce names (R339): the data set that BMCA compares, its port, messages received. -/
structure Foreign where
  src : Nat := 0
  p1 : Nat := 0
  cls : Nat := 0
  acc : Nat := 0
  var : Nat := 0
  p2 : Nat := 0
  gm : Nat := 0
  steps : Nat := 0
  /-- Source address of its messages (R339: unicast Delay_Req). -/
  addr : List (BitVec 8) := []
  count : Nat := 0
  deriving DecidableEq, Repr

/-- One PTP port (R339, R340). -/
structure PtpPort where
  foreign : List Foreign := []
  /-- A two-step Sync awaits its Follow_Up: sequence, source, receive time, correction; times in 2^-16 ns. -/
  sync : Option (Nat × Nat × Int × Int) := none
  /-- Origin time and receive time of the last complete Sync, corrections applied. -/
  t1 : Int := 0
  t2 : Int := 0
  /-- The outstanding delay request: sequence, transmit time. -/
  req : Option (Nat × Int) := none
  reqSeq : Nat := 0
  syncSeq : Nat := 0
  annSeq : Nat := 0
  /-- Mean path delay in 2^-16 ns. -/
  delay : Option Int := none
  deriving DecidableEq, Repr

/-- A multicast membership (R323). -/
structure Member where
  port : Nat := 0
  group : List (BitVec 8) := []
  src : List (BitVec 8) := []
  flow : Nat := 0
  deriving DecidableEq, Repr

/-- Network audio and precision time. -/
structure NetSt where
  flow : SMap FlowRun := []
  alg : SMap AlgRun := []
  ptp : SMap PtpPort := []
  /-- Sync messages in a row below the threshold, and above four times it. -/
  good : Nat := 0
  bad : Nat := 0
  /-- MOFF has been set in this acquisition (R340 step 4). -/
  moffSet : Bool := false
  /-- The PTP clock has been compared with the selected master for the 1 ms step (R340 step 2). -/
  stepped : Bool := false
  /-- Sum of the steps of the PTP clock, in ns (R340 step 2). -/
  steps : Int := 0
  /-- The ordinary clock's port; the selected master: port and sourcePortIdentity (R339). -/
  cur : Nat := 0
  master : Option (Nat × Nat) := none
  joins : List Member := []
  /-- The grandmaster the servo is locked to, or was before holdover, with its port (R339). -/
  learned : Option (Nat × Foreign) := none
  deriving DecidableEq, Repr

/-- A block capture of one AES3 subframe (R352). -/
structure AesCap where
  cs : List (BitVec 8) := []
  ub : List (BitVec 8) := []
  deriving DecidableEq, Repr

/-- One AES3 receiver (R346–R352). -/
structure AesRx where
  /-- Consecutive good frames while locking; consecutive bad frames while locked. -/
  good : Nat := 0
  bad : Nat := 0
  /-- Frames since the last Z, and the bits gathered in them, oldest first. -/
  blk : Option Nat := none
  csA : List Bool := []
  csB : List Bool := []
  ubA : List Bool := []
  ubB : List Bool := []
  /-- The running block has had an error; consecutive error-free blocks (R351). -/
  err : Bool := false
  settle : Nat := 0
  capA : AesCap := {}
  capB : AesCap := {}
  /-- The frames the sample-rate converter has in its window: domain tick and samples, oldest first (R350). -/
  hist : List (Nat × List Word) := []
  /-- Frames that have ended in the running tick. -/
  frames : Nat := 0
  /-- A frame that belongs to the next tick: its samples, none where one is in error. -/
  held : Option (List (Option Word)) := none
  /-- Last delivered samples; concealed samples so far; position of the rejoin ramp. -/
  last : List Word := []
  concK : Nat := 0
  upK : Nat := 64
  /-- Settling is complete: the group holds the port in wait (R363). -/
  ready : Bool := false
  deriving DecidableEq, Repr

/-- The gain of one transmitter channel (R356). -/
structure TxChan where
  /-- Gain now, and where a ramp began. -/
  gain : Dyadic := {}
  from_ : Dyadic := {}
  /-- 0 settled, 1 waiting for a zero crossing, 2 ramping; samples waited, or ramp position. -/
  mode : Nat := 0
  n : Nat := 0
  /-- The channel's previous sample. -/
  prev : Option Int := none
  deriving DecidableEq, Repr

/-- One AES3 transmitter (R353–R357). -/
structure AesTx where
  a : TxChan := {}
  b : TxChan := {}
  /-- Live channel-status bytes, and those a pending commit carries; frames started since the commit. -/
  csA : List (BitVec 8) := []
  csB : List (BitVec 8) := []
  pendA : List (BitVec 8) := []
  pendB : List (BitVec 8) := []
  age : Nat := 0
  /-- Frame position in the block. -/
  pos : Nat := 0
  /-- Unbound while unmuted: zero audio is sent (R357). -/
  zero : Bool := false
  deriving DecidableEq, Repr

/-- One TDM port (R358–R362). -/
structure TdmRun where
  /-- Live masks and shadows; the write landed too late for the next sync. -/
  rx : Nat := 0
  tx : Nat := 0
  rxSh : Nat := 0
  txSh : Nat := 0
  rxLate : Bool := false
  txLate : Bool := false
  /-- A sync has passed over the pending write. -/
  rxSkip : Bool := false
  txSkip : Bool := false
  /-- The record's masks load at the next sync. -/
  load : Bool := false
  frames : Nat := 0
  held : Option (List Word) := none
  last : List Word := []
  /-- Consecutive good frames; no sync for 2 frame times; the last frame was malformed. -/
  good : Nat := 0
  lost : Bool := false
  bad : Bool := false
  concK : Nat := 0
  upK : Nat := 64
  ready : Bool := false
  deriving DecidableEq, Repr

/-- The serial ports. -/
structure SerSt where
  rx : SMap AesRx := []
  tx : SMap AesTx := []
  tdm : SMap TdmRun := []
  /-- The read view of AES_RX_CS and AES_RX_UB by access context (R364). -/
  view : SMap AesCap := []
  deriving DecidableEq, Repr

end Sys2Proof.Machine
end

