-- ==== Sys2Proof/Machine/StPump.lean ====
section
/-! DEFINITION. State of a pump channel (ch. 12) beside its registers. -/

namespace Sys2Proof.Machine

/-- A pump channel's work: the descriptor in hand and its progress (R259–R278). -/
structure PumpCh where
  /-- A descriptor fetch is in flight. -/
  fetch : Bool := false
  /-- The descriptor in hand, 32 bytes; empty: none. -/
  desc : List (BitVec 8) := []
  /-- Elements moved. -/
  moved : Nat := 0
  /-- Elements of the burst whose read data is awaited; 0: none. -/
  want : Nat := 0
  /-- Collisions left after the retries; conversions saturated (R270, R268). -/
  coll : Bool := false
  sat : Bool := false
  /-- Bytes of a host destination's last lane that wait for the rest of the lane (R266, R267). -/
  held : List (BitVec 8) := []
  /-- The flush read of a landing is outstanding after a drop (R277). -/
  fl : Bool := false
  /-- EN written 1 while FLUSH = 1. -/
  enWait : Bool := false
  deriving DecidableEq, Repr

end Sys2Proof.Machine
end

