-- ==== Sys2Proof/Machine/State.lean ====
section
/-! DEFINITION. The state of the CSL9740 as plain data, and the machine right after reset. -/

namespace Sys2Proof.Machine

/-- Reasons a step can stop with a fault. The manual gives every command an effect (errors of the device are fault
records, status words and latched bits: R426, R436), so no meaning of this model faults. -/
inductive Fault where
  /-- Raised by nothing: the type keeps one name because a step's outcome has a fault case; safe, since no step
  answers it. -/
  | unraised
  deriving DecidableEq, Repr

/-- Reasons a command has no meaning. -/
inductive Refusal where
  /-- The command's meaning is not modelled. An arm of the dispatch alone could raise it, and every row of the table has
  its meaning, so no arm does; safe: a refusal stops the run, it proves nothing about the device. -/
  | notModelled (mnemonic : String)
  deriving DecidableEq, Repr

/-- The device. -/
structure State where
  /-- Commands waiting, first in first out (the block's queue). -/
  pending : List Instr := []
  /-- The model's own counter of free values: how many undefined values have been drawn. -/
  freeCtr : Nat := 0
  /-- The model's own record of what the device has put out. -/
  out : List Out := []
  /-- Control-space registers by byte address (R13); the values that are computed from other state are not kept here. -/
  ctl : SMap W32 := []
  /-- Read latch of each access context: register and upper half (R14). Contexts: 0–7 agents, 8 BAR0. -/
  latch : SMap (Option (Nat × W32)) := []
  /-- Write holder of each access context: register and lower half (R14). -/
  holder : SMap (Option (Nat × W32)) := []
  /-- Base-tick counter (R33). -/
  btc : W64 := 0
  /-- Which quarter of the base tick runs: the ×4 position s of R34. -/
  quarter : Nat := 0
  /-- Boundary records, oldest first (R53). -/
  bnd : List BndRec := []
  /-- Physical cell slots keyed cluster × 68 + slot. -/
  cells : SMap Cell := []
  mem : MemSt := {}
  /-- An ownership request landed after T − 65 of the coming boundary, by cistern (R246). -/
  cisLate : SMap Bool := []
  ex : ExchSt := {}
  wel : WelSt := {}
  glc : GlcSt := {}
  host : HostSt := {}
  ev : EventSt := {}
  mtr : MeterSt := {}
  flt : FaultSt := {}
  crc : SMap CrcUnit := []
  cmt : CmtSt := {}
  load : LoadSt := {}
  port : PortSt := {}
  pump : SMap PumpCh := []
  /-- The channel whose burst came last (R260). -/
  pumpLast : Nat := 63
  clk : ClkSt := {}
  net : NetSt := {}
  ser : SerSt := {}
  boot : BootSt := {}
  pwr : PwrSt := {}
  deriving DecidableEq, Repr

/-- The machine right after reset: held in power-on reset (R455), before POWER_GOOD (R407). Every field stands at its
register's reset value; where the manual gives none, at the value notes/assumptions names. The two level sources
of the network ports' links stand asserted, since no link is up (R305, R342). -/
def State.reset : State := { ev := { sig := [(156, true), (157, true)] } }

end Sys2Proof.Machine
end

