-- ==== Sys2Proof/Machine/Reg.lean ====
section
/-! DEFINITION. The named operations over control registers, free values and outputs, shared by every block. -/

namespace Sys2Proof.Machine

/-- The outcome of a command. -/
abbrev Res := Host.Outcome State Fault Refusal

/-- The content of a control register. -/
def rget (s : State) (a : Nat) : W32 := mgetD regReset s.ctl a
/-- Set the content of a control register. -/
def rset (s : State) (a : Nat) (v : W32) : State := { s with ctl := msetD regReset s.ctl a v }
/-- Field [lo+w-1:lo] of a control register. -/
def rfld (s : State) (a lo w : Nat) : Nat := fld (rget s a) lo w
/-- Bit `i` of a control register. -/
def rbit (s : State) (a i : Nat) : Bool := bitOf (rget s a) i
/-- Set field [lo+w-1:lo] of a control register. -/
def rput (s : State) (a lo w v : Nat) : State := rset s a (fput (rget s a) lo w v)
/-- Set bit `i` of a control register. -/
def rsetBit (s : State) (a i : Nat) : State := rput s a i 1 1
/-- Set or clear bit `i` of a control register. -/
def rputBit (s : State) (a i : Nat) (b : Bool) : State := rput s a i 1 (b2n b)
/-- Advance a counter field that saturates at its largest value. -/
def rinc (s : State) (a lo w : Nat) : State := rput s a lo w (satInc (2 ^ w - 1) (rfld s a lo w))
/-- Advance a counter field by `k`, saturating. -/
def rincBy (s : State) (a lo w k : Nat) : State := rput s a lo w (min (2 ^ w - 1) (rfld s a lo w + k))
/-- Advance a counter field that wraps. -/
def rincMod (s : State) (a lo w : Nat) : State := rput s a lo w (rfld s a lo w + 1)
/-- The content of a 64-bit register pair. -/
def rget64 (s : State) (a : Nat) : W64 := (rget s (a + 4)) ++ (rget s a)
/-- Set a 64-bit register pair. -/
def rset64 (s : State) (a : Nat) (v : W64) : State :=
  rset (rset s a (v.extractLsb' 0 32)) (a + 4) (v.extractLsb' 32 32)

/-- Put something out. -/
def emit (s : State) (o : Out) : State := { s with out := s.out ++ [o] }
/-- Put several things out. -/
def emitAll (s : State) (os : List Out) : State := { s with out := s.out ++ os }

/-- One more free value has been drawn. -/
def drawn (s : State) : State := { s with freeCtr := s.freeCtr + 1 }

/-- Apply `f` for each element, left to right. -/
def forEach {α : Type} (l : List α) (s : State) (f : State → α → State) : State := l.foldl f s
/-- Apply `f` for 0, 1, …, n−1. -/
def forN (n : Nat) (s : State) (f : State → Nat → State) : State := (List.range n).foldl f s
/-- Apply `f` when the condition holds. -/
def whenS (c : Bool) (s : State) (f : State → State) : State := if c then f s else s

/-- The cell of a physical slot. -/
def cellAt (s : State) (k : Nat) : Cell := mget {} s.cells k
/-- Replace the cell of a physical slot. -/
def setCell (s : State) (k : Nat) (c : Cell) : State := { s with cells := mset {} s.cells k c }

/-- Rate multiplier of a cluster: 1, 2 or 4; 0 while it is unpowered or not yet ticking (R30, CMT_DOMAIN). -/
def domOf (s : State) (c : Nat) : Nat :=
  match rfld s 0x20000C (2 * c) 2 with
  | 0 => 1
  | 1 => 2
  | 2 => 4
  | _ => 0
/-- Cycles per tick of a domain (R30). -/
def domC (m : Nat) : Nat := 25600 / m
/-- Position of the running domain tick in its base tick (R34). -/
def domPos (s : State) (m : Nat) : Nat := s.quarter * m / 4
/-- Tick number of the running tick of a domain (R34). -/
def domTick (s : State) (m : Nat) : Nat := s.btc.toNat * m + domPos s m
/-- Base rate of the active family in Hz (R28, CMT_FRAME_STAT.FAMILY). -/
def fbOf (s : State) : Nat := if rbit s 0x200008 2 then 44100 else 48000
/-- Die temperature in units of 0.25 °C (PWR_TEMP.NOW, R469). -/
def dieQuarter (s : State) : Int := sext 16 (rfld s 0x480004 0 16)
/-- Cycle of the base tick of a cycle of the running domain tick (R30). -/
def baseCycle (s : State) (m cyc : Nat) : Nat := domPos s m * domC m + cyc

end Sys2Proof.Machine
end

