-- ==== Sys2Proof/Machine/Udp.lean ====
section
/-! DEFINITION. What every network sender of the device shares (R322, R323): a port's addresses, on-link destinations, the headers of a
UDP datagram, frame lengths; the output gates (R408, R50). -/

namespace Sys2Proof.Machine

/-- Registers of network port p (R342). -/
def netA (p : Nat) : Nat := 0x340000 + 0x100 * p
/-- The port is enabled with its link up. -/
def netUp (s : State) (p : Nat) : Bool := rbit s (netA p) 31 && rbit s (netA p + 4) 31
/-- MTU of a port (R325). -/
def netMtu (s : State) (p : Nat) : Nat := if rbit s (netA p) 25 then 9000 else 1500
/-- The boot output gate is open (R408); audio is gated by the safe clock (R50) or by the critical temperature (R443). -/
def bootGate (s : State) : Bool := rbit s 0x440000 29
def safeGated (s : State) : Bool := rbit s 0x200008 3 || s.flt.critical

/-- A port's MAC, IPv4 and IPv6 address (R342). -/
def ownMac (s : State) (p : Nat) : Nat := (rget s (netA p + 0xC)).toNat % 65536 * 2 ^ 32 + (rget s (netA p + 8)).toNat
def ownIp4 (s : State) (p : Nat) : Nat := (rget s (netA p + 0x10)).toNat
def ownIp6 (s : State) (p : Nat) : Nat := (List.range 4).foldl (fun a k => a + (rget s (netA p + 0x14 + 4 * k)).toNat * 2 ^ (32 * k)) 0

/-- An IPv4 address as 16 bytes (R324), and whether an address is one. -/
def mapped4 (a : Nat) : List Byte := List.replicate 10 0 ++ [0xFF, 0xFF] ++ beBytes 4 a
def isMapped (a : List Byte) : Bool := slice a 0 12 == List.replicate 10 0 ++ [0xFF, 0xFF]
/-- The port's own address of the family of a destination (R324). -/
def ownAddr (s : State) (p : Nat) (dst : List Byte) : List Byte :=
  if isMapped dst then mapped4 (ownIp4 s p) else beBytes 16 (ownIp6 s p)

/-- A destination is multicast, or on-link by the port's own address and prefix length (R323). -/
def onLink (s : State) (p : Nat) (dst : List Byte) : Bool :=
  if isMapped dst then
    let k := min 32 (rfld s (netA p + 0x2C) 0 6)
    nbits (leAt dst 12 1) 4 4 == 14 || beAt dst 12 4 / 2 ^ (32 - k) == ownIp4 s p / 2 ^ (32 - k)
  else
    let k := min 128 (rfld s (netA p + 0x2C) 8 8)
    leAt dst 0 1 == 0xFF || beAt dst 0 16 / 2 ^ (128 - k) == ownIp6 s p / 2 ^ (128 - k)

/-- Sum of the big-endian 16-bit words of bytes, a last odd byte in the upper half. -/
def sum16 : List Byte → Nat
  | a :: b :: r => a.toNat * 256 + b.toNat + sum16 r
  | [a] => a.toNat * 256
  | [] => 0
/-- The checksum of a UDP datagram over its pseudo-header and its content; never 0 (R322). The 12 bytes that map an IPv4 address add 0
modulo 65,535. -/
def udpCsum (src dst : List Byte) (sport dport : Nat) (body : List Byte) : Nat :=
  65535 - (sum16 src + sum16 dst + 17 + 2 * (8 + body.length) + sport + dport + sum16 body) % 65535

/-- The headers of a UDP datagram to a destination (R322, R324). -/
def udpHdr (s : State) (p : Nat) (tag : Option Nat) (dst : List Byte) (dscp sport dport : Nat) (body : List Byte) : UdpHdr :=
  let src := ownAddr s p dst
  { tag := tag, src := src, dst := dst, dscp := dscp, sport := sport, dport := dport, csum := udpCsum src dst sport dport body }

/-- A datagram can leave on a port: link up, output gate open, destination multicast or on-link (R323, R408). -/
def netSends (s : State) (p : Nat) (dst : List Byte) : Bool := netUp s p && bootGate s && onLink s p dst

/-- A frame of `len` bytes with its FCS and without a tag is no longer than the port takes (R322; the tag's 4 bytes are not counted:
DESIGN CHOICE, log entry 78). -/
def frameFits (s : State) (p len : Nat) : Bool := decide (len ≤ netMtu s p + 18)
/-- Bytes of the frame that carries a UDP payload: Ethernet, IP and UDP headers and the FCS. -/
def udpFrameLen (dst payload : List Byte) : Nat := 14 + (if isMapped dst then 20 else 40) + 8 + payload.length + 4

end Sys2Proof.Machine
end

