-- ==== Sys2Proof/Machine/Events.lean ====
section
/-! DEFINITION. The event controller's operations (R305–R320) and the datagrams it sends: latching an occurrence, the
claimable set, signals, the storm limiter, claims and completions. -/

namespace Sys2Proof.Machine

/-- HST_NS of a network agent (R304). -/
def nsA (a : Nat) : Nat := 0x308010 + 4 * (a - 4)
/-- Agent page (R282, R321). -/
def pageA (a : Nat) : Nat := 0x300000 + 0x1000 * a
/-- BOT_STAT.READY; the device runs in recovery mode (R409, R422). -/
def devReady (s : State) : Bool := rbit s 0x440000 26
def inRecovery (s : State) : Bool := rfld s 0x440000 30 2 == 3
/-- The page of PCIe agent `a` accepts writes: from READY on, in recovery AG0's alone (R409, R422). -/
def pageOpen (s : State) (a : Nat) : Bool := devReady s && (!inRecovery s || a == 0)
/-- The state of an agent: 0 DOWN, 1 AWAKE, 2 SLEEP, 3 ERROR (R285, R304). -/
def agSt (s : State) (a : Nat) : Nat := if a < 4 then rfld s (pageA a) 0 2 else rfld s (nsA a) 28 2
/-- A network session. -/
def nsOf (s : State) (a : Nat) : NsSession := mget {} s.host.ns a
/-- Replace a network session. -/
def setNs (s : State) (a : Nat) (n : NsSession) : State := { s with host := { s.host with ns := mset {} s.host.ns a n } }

/-- The payload of a control-session datagram under a key (R296). -/
def nsPayload (a typ mseq : Nat) (key body : List Byte) : List Byte :=
  let h := [0x57, 0x43, 0x01, BitVec.ofNat 8 typ, BitVec.ofNat 8 a, 0] ++ leBytes 2 body.length ++ leBytes 8 mseq ++ body
  h ++ hmacSha256 key h

/-- Where a session's datagrams go: to the sender of the last accepted datagram, before that to the configured peer on the lowest
configured port (DESIGN CHOICE, log entry 78). -/
def nsPort (s : State) (a : Nat) : Nat :=
  if (nsOf s a).peerAddr.isEmpty then (if rbit s (nsA a) 26 then 0 else 1) else (nsOf s a).peerIf
def nsDst (s : State) (a : Nat) : List Byte := if (nsOf s a).peerAddr.isEmpty then (nsOf s a).peer else (nsOf s a).peerAddr
def nsUdp (s : State) (a : Nat) : Nat := if (nsOf s a).peerAddr.isEmpty then rfld s (nsA a) 0 16 else (nsOf s a).peerUdp
/-- The session is not closed, and a datagram to its peer can leave (R297, R323, R408). -/
def nsOpen (s : State) (a : Nat) : Bool := rfld s (nsA a) 30 2 != 0 && netSends s (nsPort s a) (nsDst s a)

/-- Send a datagram on a session, with the device's own counter (R297, R298) and DSCPC (R342); one that cannot leave is not numbered
(DESIGN CHOICE, log entry 78). -/
def nsSend (s : State) (a typ : Nat) (body : List Byte) : State :=
  if !nsOpen s a then s else
  let n := nsOf s a
  let q := n.txSeq + 1
  let p := nsPort s a
  let m := nsPayload a typ q n.key body
  emit (setNs s a { n with txSeq := q })
    (.datagram a typ q p (udpHdr s p none (nsDst s a) (rfld s (netA p) 13 6) (rfld s (nsA a) 0 16) (nsUdp s a) m) m)

/-- An MSI-X message is sent, or becomes pending while its vector is masked (R292). -/
def msixSend (s : State) (v : Nat) : State :=
  if s.host.msixMask.getLsbD v then { s with host := { s.host with msixPend := s.host.msixPend ||| BitVec.ofNat 64 (2 ^ v) } }
  else emit s (.msix v)
/-- The host sets the vectors' masks: a pending message of a vector that is no longer masked is sent (R292). -/
def msixMasks (s : State) (m : BitVec 64) : State :=
  let go := s.host.msixPend &&& ~~~m
  emitAll { s with host := { s.host with msixMask := m, msixPend := s.host.msixPend &&& m } }
    (((List.range 64).filter go.getLsbD).map Out.msix)

/-- EVC_SRC of a source. -/
def evSrcA (n : Nat) : Nat := 0x321000 + 4 * n
/-- EVC_LIM of a source. -/
def evLimA (n : Nat) : Nat := 0x321800 + 4 * n
/-- EVC_AG_ERR of an agent. -/
def evAgErrA (a : Nat) : Nat := pageA a + 0x80C
/-- Level sources (R305). -/
def evLevel (n : Nat) : Bool :=
  (decide (64 ≤ n) && decide (n ≤ 79)) || (decide (100 ≤ n) && decide (n ≤ 115)) || n == 156 || n == 157 || n == 173
/-- Sources that exist (R305). -/
def evExists (n : Nat) : Bool := decide (n ≤ 174) || (decide (448 ≤ n) && decide (n ≤ 511))

/-- Priority, target mask of a source. -/
def evPri (s : State) (n : Nat) : Nat := rfld s (evSrcA n) 8 8
def evMask (s : State) (n : Nat) : Nat := rfld s (evSrcA n) 16 8
def evPend (s : State) (n : Nat) : Bool := rbit s (evSrcA n) 29
def evInsvc (s : State) (n : Nat) : Bool := rbit s (evSrcA n) 28
/-- The group of a source: PRI >> SPLIT (R308). -/
def evGroup (s : State) (n : Nat) : Nat := evPri s n / 2 ^ rfld s 0x320000 0 3
/-- The service stack of an agent, most recent first (R311). -/
def evStack (s : State) (a : Nat) : List Nat := mget [] s.ev.stack a
def setEvStack (s : State) (a : Nat) (l : List Nat) : State := { s with ev := { s.ev with stack := mset [] s.ev.stack a l } }
/-- The running group of an agent: the lowest group it has in service (R309). -/
def evRun (s : State) (a : Nat) : Option Nat := ((evStack s a).map (evGroup s)).min?

/-- Sources whose pending latch is set, in ascending number. -/
def evPending (s : State) : List Nat :=
  s.ctl.filterMap (fun e => if 0x321000 ≤ e.1 ∧ e.1 < 0x321800 ∧ bitOf e.2 29 then some ((e.1 - 0x321000) / 4) else none)

/-- The event would be claimable by agent `a` but for its depth (R309). -/
def evOffered (s : State) (a n : Nat) : Bool :=
  evPend s n && !evInsvc s n && nbit (evMask s n) a && agSt s a == 1 &&
    (match evRun s a with | none => true | some g => decide (evGroup s n < g))
/-- The event is claimable by agent `a` (R309). -/
def evClaimable (s : State) (a n : Nat) : Bool := evOffered s a n && decide ((evStack s a).length < 8)

/-- The most urgent of a list of sources: lowest PRI, then lowest number (R308). -/
def evBest (s : State) (l : List Nat) : Option Nat :=
  l.foldl (fun b n => match b with
    | none => some n
    | some k => if evPri s n < evPri s k ∨ (evPri s n = evPri s k ∧ n < k) then some n else some k) none

/-- Latch an occurrence: EN = 1 and STORM = 0 (R307). -/
def evLatch (s : State) (n : Nat) : State :=
  if evExists n && rbit s (evSrcA n) 31 && !rbit s (evSrcA n) 30 then rsetBit s (evSrcA n) 29 else s

/-- The level condition of a level source under SENSE (R306). -/
def evLevelCond (s : State) (n : Nat) : Bool :=
  match rfld s (evSrcA n) 0 3 with
  | 0 => mget false s.ev.sig n
  | 1 => !mget false s.ev.sig n
  | _ => false

def setDelivered (s : State) (n : Nat) (b : Bool) : State :=
  { s with ev := { s.ev with delivered := mset false s.ev.delivered n b } }

/-- Deliver a source that has become claimable and has had no signal: count it against the storm limit, or auto-mask it
(R318). -/
def evDeliver (s : State) (n : Nat) : State :=
  if mget false s.ev.delivered n then s else
  if (List.range 8).any (fun a => evClaimable s a n) then
    let lim := rfld s (evLimA n) 0 16
    if lim ≠ 0 ∧ lim ≤ rfld s (evLimA n) 16 16 then
      evLatch (rputBit (rsetBit s (evSrcA n) 30) (evSrcA n) 29 false) 99
    else setDelivered (rinc s (evLimA n) 16 16) n true
  else s

/-- A pending event is held: its mask names a sleeping agent, and no agent that is AWAKE (R316). -/
def evHeld (s : State) (n : Nat) : Bool :=
  let m := (List.range 8).filter (nbit (evMask s n))
  m.any (fun a => agSt s a == 2) && m.all (fun a => agSt s a != 1)
/-- The sleeping agents that a source names. -/
def evAsleep (s : State) (n : Nat) : List Nat := (List.range 8).filter (fun a => nbit (evMask s n) a && agSt s a == 2)
/-- A sleeping agent is called: PM_PME, or the WAKE datagram (R294, R299, R316). -/
def callAgent (s : State) (a : Nat) : State :=
  if a < 4 then (if s.host.pmeEn then emit s (.pme a) else s) else nsSend s a 0x07 []
def setCalled (s : State) (n m : Nat) : State := { s with ev := { s.ev with called := mset 0 s.ev.called n m } }

/-- HELD of every source, the sleeping agents of a held event called once each, and WAKE_N (R316, R294). -/
def evHold (s : State) : State :=
  let pend := (evPending s).filter (evHeld s)
  let was := s.ctl.filterMap (fun e =>
    if 0x321000 ≤ e.1 ∧ e.1 < 0x321800 ∧ bitOf e.2 24 then some ((e.1 - 0x321000) / 4) else none)
  let s := forEach (was.filter (fun n => !pend.contains n)) s (fun s n => setCalled (rputBit s (evSrcA n) 24 false) n 0)
  let s := forEach pend s (fun s n =>
    let old := mget 0 s.ev.called n
    let now := evAsleep s n
    let s := setCalled (rsetBit s (evSrcA n) 24) n (now.foldl (fun (m : Nat) a => m + 2 ^ a) 0)
    forEach (now.filter (fun a => !nbit old a)) s callAgent)
  let wake := rfld s 0x308008 0 4 ≠ 0 || pend.any (fun n => (evAsleep s n).any (fun a => decide (a < 4)))
  rputBit s 0x308008 31 wake

/-- Base ticks between two EVENT datagrams of a session: no fewer than a millisecond holds at any pull (R310; DESIGN CHOICE, log entry
77). -/
def evtGap : Nat := 52
/-- An EVENT datagram leaves now, or waits until a millisecond has passed since the last (R310). -/
def evtSend (s : State) (a : Nat) : State :=
  let n := nsOf s a
  let b := s.btc.toNat
  if (match n.evtAt with | some t => decide (b < t + evtGap) | none => false) then setNs s a { n with evtDue := true }
  else nsSend (setNs s a { n with evtAt := some b, evtDue := false }) a 0x08 []
/-- The EVENT datagrams whose millisecond has passed leave, where an event is still claimable (R310). -/
def evtFlush (s : State) : State :=
  forN 4 s (fun s i =>
    let n := nsOf s (4 + i)
    if !n.evtDue then s
    else if (evPending s).any (evClaimable s (4 + i)) then evtSend s (4 + i)
    else setNs s (4 + i) { n with evtDue := false })

/-- Signal agent `a` for events that have become claimable by it (R310). -/
def evSignal (s : State) (a : Nat) : State :=
  let now := (evPending s).filter (evClaimable s a)
  let old := mget [] s.ev.claimable a
  let s := { s with ev := { s.ev with claimable := mset [] s.ev.claimable a now } }
  if now.any (fun n => !old.contains n) then
    if a < 4 then msixSend s (16 * a + 1) else evtSend s a
  else s

/-- Settle the controller after a change: deliveries with their storm limits, holds, signals (R310, R316, R318). -/
def evSettle (s : State) : State :=
  let s := forEach (evPending s) s evDeliver
  let s := forEach (evPending s) s evDeliver
  forN 8 (evHold s) evSignal

/-- A pulse source presents one occurrence (R306, R307). -/
def evRaise (s : State) (n : Nat) : State := evSettle (evLatch s n)

/-- The signal of a level source takes a value: the occurrence SENSE makes of it (R306). -/
def evSignalLevel (s : State) (n : Nat) (b : Bool) : State :=
  let was := mget false s.ev.sig n
  let s := { s with ev := { s.ev with sig := mset false s.ev.sig n b } }
  let occ := match rfld s (evSrcA n) 0 3 with
    | 0 => b
    | 1 => !b
    | 2 => !was && b
    | 3 => was && !b
    | _ => was != b
  if occ then evRaise s n else s

/-- A claim by agent `a`: the source, or 0x3FF, and the state after (R311). -/
def evClaim (s : State) (a : Nat) : Nat × State :=
  match evBest s ((evPending s).filter (evClaimable s a)) with
  | some n =>
    let s := rputBit s (evSrcA n) 29 false
    let s := rput (rsetBit s (evSrcA n) 28) (evSrcA n) 25 3 a
    let s := setDelivered (rputBit s (evSrcA n) 24 false) n false
    (n, evSettle (setEvStack s a (n :: evStack s a)))
  | none =>
    if (evStack s a).length ≥ 8 && (evPending s).any (evOffered s a) then (0x3FF, rsetBit s (evAgErrA a) 1)
    else (0x3FF, s)

/-- The service of a source ends: it leaves the stack; a level condition that holds is pending again (R307, R313). -/
def evEndService (s : State) (a n : Nat) : State :=
  let s := setEvStack s a ((evStack s a).filter (· != n))
  let s := rput (rputBit s (evSrcA n) 28 false) (evSrcA n) 25 3 0
  if evLevel n && evLevelCond s n then evLatch s n else s

/-- A write of EVC_EOI by agent `a` (R313). -/
def evEoi (s : State) (a n : Nat) : State :=
  if (evStack s a).contains n then evSettle (evEndService s a n) else rsetBit s (evAgErrA a) 0

/-- An agent enters DOWN: every event it holds in service ends (R314). -/
def evAgentDown (s : State) (a : Nat) : State :=
  match evStack s a with
  | [] => evSettle s
  | l => evSettle (rsetBit (forEach l s (fun s n => evEndService s a n)) (evAgErrA a) 2)

/-- Latch afresh: a level source whose condition holds is pending at once (R317, R318). -/
def evRearm (s : State) (n : Nat) : State := if evLevel n && evLevelCond s n then evLatch s n else s

/-- A write of EVC_SRC(n): EN, STORM, MASK, PRI and SENSE (R306, R308, R315, R317, R318). -/
def evSrcWrite (s : State) (n : Nat) (v : W32) : State :=
  if !evExists n then s else
  let a := evSrcA n
  let en0 := rbit s a 31
  let storm0 := rbit s a 30
  let s := if fld v 0 3 > 4 then s else rput s a 0 3 (fld v 0 3)
  let s := rput (rput s a 8 8 (fld v 8 8)) a 16 8 (fld v 16 8)
  let s := if storm0 && bitOf v 30 then rputBit s a 30 false else s
  let s := rputBit s a 31 (bitOf v 31)
  let s := if bitOf v 31 then s else setDelivered (rputBit s a 29 false) n false
  let s := if bitOf v 31 && (!evInsvc s n || !en0 || (storm0 && bitOf v 30)) then evRearm s n else s
  evSettle s

/-- The signal of level source 100 + c: a flag is set in CIS_ERR of one of the cluster's cisterns, XCH_ERR or WEL_ERR
(R305). -/
def evClusterFlags (s : State) (c : Nat) : State :=
  let b := (List.range 8).any (fun k => rget s (0x180400 + 4 * (8 * c + k)) != 0)
    || rget s (0x120004 + 0x1000 * c) != 0 || rget s (0x140008 + 0x2000 * c) != 0
  if mget false s.ev.sig (100 + c) = b then s else evSignalLevel s (100 + c) b

end Sys2Proof.Machine
end

