-- ==== Sys2Proof/Machine/Faults.lean ====
section
/-! DEFINITION. What every block uses of measurement and fault management: boundary records (R53), the fault log and its
handler (R427, R428), histogram and meter samples (R386, R387, R394). -/

namespace Sys2Proof.Machine

/-- Write a boundary record, or drop it when 16 are held (R53). -/
def bndRecord (s : State) (b : W64) (typ detail : Nat) : State :=
  if s.bnd.length ≥ 16 then rinc (rsetBit s 0x200030 8) 0x200030 16 16
  else evRaise { s with bnd := s.bnd ++ [⟨b, typ, detail⟩] } 80

/-- Fields of a log entry that a fault gives (R448). -/
structure FltInfo where
  cls : Nat
  sev : Nat
  unit : Nat
  hold : Bool := false
  zst : Bool := false
  btc : Nat := 0
  detail : Nat := 0
  /-- Cycle of detection; none: a free value, where the command carries none. -/
  cyc : Option Nat := none
  nslot : Nat := 0
  oslot : Nat := 0
  deriving DecidableEq, Repr

/-- The four words of a log entry (R448). -/
def fltWords (kind : Nat) (f : FltInfo) : FltEntry :=
  { w0 := BitVec.ofNat 32 (kind * 2 ^ 28 + f.sev * 2 ^ 26 + b2n f.hold * 2 ^ 25 + b2n f.zst * 2 ^ 24 + f.cls * 2 ^ 16 + f.unit),
    w1 := BitVec.ofNat 32 f.btc,
    w2 := BitVec.ofNat 32 (f.detail % 65536 * 65536 + f.cyc.getD 0 % 32768),
    w3 := BitVec.ofNat 32 (f.nslot % 128 * 65536 + f.oslot % 128) }

/-- Write one entry to the fault log, or drop it when 32 are held; each entry raises source 99 (R428). -/
def fltLog (s : State) (kind : Nat) (f : FltInfo) : State :=
  let f := if f.cyc.isSome then f else { f with cyc := some (Config.freeNat s.freeCtr % 25600) }
  let s := drawn s
  if s.flt.log.length ≥ 32 then rinc (rsetBit s 0x460004 8) 0x460004 16 16
  else evRaise { s with flt := { s.flt with log := s.flt.log ++ [fltWords kind f] } } 99

/-- The handler takes up a piece of follow-up work, queues it, or suspends the current one for it (R427). -/
def fltWork (s : State) (w : FltWork) : State :=
  let f := s.flt
  let busy := (f.cur.toList ++ f.susp ++ f.queue).any (fun x => x.unit == w.unit && x.cls == w.cls)
  if busy then s else
  match f.cur with
  | none => { s with flt := { f with cur := some w } }
  | some c =>
    if w.sev < c.sev then { s with flt := { f with cur := some w, susp := c :: f.susp } }
    else { s with flt := { f with queue := f.queue ++ [w] } }

/-- The handler's entries without those that satisfy `p`: where the current one goes, the one last suspended, else the next waiting one is
taken up (R427). -/
def workDrop (f : FaultSt) (p : FltWork → Bool) : FaultSt :=
  let susp := f.susp.filter (fun x => !p x)
  let queue := f.queue.filter (fun x => !p x)
  match f.cur with
  | none => { f with susp := susp, queue := queue }
  | some c =>
    if !p c then { f with susp := susp, queue := queue }
    else match susp, queue with
      | x :: r, q => { f with cur := some x, susp := r, queue := q }
      | [], x :: r => { f with cur := some x, susp := [], queue := r }
      | [], [] => { f with cur := none, susp := [], queue := [] }
/-- The handler ends the work of a unit (R427). -/
def fltWorkDone (s : State) (cls unit : Nat) : State := { s with flt := workDrop s.flt (fun x => x.unit == unit && x.cls == cls) }
/-- The handler's entries, in the order it takes them up. -/
def workOrder (f : FaultSt) : List FltWork := f.cur.toList ++ f.susp ++ f.queue

/-- Key of an open fault. -/
def openKey (cls unit : Nat) : Nat := cls * 65536 + unit
/-- A fault of the class is open for the unit. -/
def fltOpen (s : State) (cls unit : Nat) : Bool := mget false s.flt.openf (openKey cls unit)
def setOpen (s : State) (cls unit : Nat) (b : Bool) : State :=
  { s with flt := { s.flt with openf := mset false s.flt.openf (openKey cls unit) b } }

/-- The classes whose recovery the fault manager tracks (R428). -/
def fltTracked (cls : Nat) : Bool := !(cls == 4 || cls == 5 || cls == 6)

/-- A detector reports a fault: the detected entry, and an open fault where recovery is tracked (R427, R428). -/
def fltDetect (s : State) (f : FltInfo) : State :=
  let s := fltLog s 1 f
  if fltTracked f.cls then setOpen s f.cls f.unit true else s

/-- Recovery of an open fault is complete: the recovered entry (R428). -/
def fltRecover (s : State) (f : FltInfo) : State :=
  if fltOpen s f.cls f.unit then fltWorkDone (fltLog (setOpen s f.cls f.unit false) 2 f) f.cls f.unit else s

/-- BTC of the boundary that ends the running tick of a domain (R448). -/
def tickEndBtc (s : State) (m : Nat) : Nat :=
  if m = 0 ∨ domPos s m + 1 = m then s.btc.toNat + 1 else s.btc.toNat

/-- An engine enters frozen (R395). -/
def histFreeze (s : State) (k : Nat) (f : Hist → Hist) : State :=
  let h := f (mget {} s.mtr.hist k)
  let s := { s with mtr := { s.mtr with hist := mset {} s.mtr.hist k { h with frozen := true, fbtc := s.btc } } }
  evRaise (rsetBit s (0x400040 + 4 * (k / 32)) (k % 32)) 164

/-- Where an engine places a value: bin 0–63, 64 for OVER, 65 for UNDER (R394). -/
def histBin (att : W64) (v : Int) : Nat :=
  let lo := sext 32 (att.toNat % 2 ^ 32)
  let u := v - lo
  if u < 0 then 65 else
  if att.getLsbD 58 then (if u = 0 then 0 else Nat.log2 u.toNat + 1) else
  let b := u.toNat / 2 ^ nbits att.toNat 52 5
  if b ≥ 64 then 64 else b

/-- Largest count of a histogram engine. -/
def histMax : Nat := 0xFFFFFFFF

/-- One value for a running engine; a count that would pass its largest value holds and freezes it (R394, R395). -/
def histPut (s : State) (k : Nat) (v : Int) : State :=
  let h := mget {} s.mtr.hist k
  if h.frozen || !h.att.getLsbD 63 then s else
  let b := histBin h.att v
  let old := if b = 65 then h.under else if b ≥ 64 then h.ovr else mget 0 h.bins b
  let sat := decide (h.n ≥ histMax) || decide (old ≥ histMax)
  let h1 := { h with n := satInc histMax h.n, min := if v < h.min then v else h.min, max := if v > h.max then v else h.max }
  let h2 := if b = 65 then { h1 with under := satInc histMax h.under }
    else if b ≥ 64 then { h1 with ovr := satInc histMax h.ovr }
    else { h1 with bins := mset 0 h.bins b (satInc histMax old) }
  if sat then histFreeze s k (fun _ => { h2 with satf := true })
  else { s with mtr := { s.mtr with hist := mset {} s.mtr.hist k h2 } }

/-- The engines that select an item of a histogram source (R393). -/
def histTakers (s : State) (src sel : Nat) : List Nat :=
  s.mtr.hist.filterMap (fun e =>
    if e.2.att.getLsbD 63 && nbits e.2.att.toNat 59 4 == src && nbits e.2.att.toNat 32 12 == sel then some e.1 else none)
/-- One value of a histogram source: every engine that selects it takes it (R393). -/
def histSample (s : State) (src sel : Nat) (v : Int) : State := forEach (histTakers s src sel) s (fun s k => histPut s k v)

/-- The value a meter's VIEW selects from a word, in units of 2^-64 (R385, R386). -/
def mtrView (view : Nat) (w : Word) : Int :=
  match view with
  | 1 => w.hi.toInt * 2 ^ 32
  | 2 => w.lo.toInt * 2 ^ 32
  | _ => w.toInt

/-- The mean square after a sample, in units of 2^-128; its rounding beyond 48 fraction bits is free (R387). -/
def mtrMs (ms : Nat) (x : Int) (k : Nat) : Nat :=
  let e := Config.msError ms x k
  let r := (ms : Int) + (x * x - ms) / 2 ^ k + (if -(2 ^ 80 : Int) ≤ e ∧ e ≤ 2 ^ 80 then e else 0)
  r.toNat

/-- RMS exponent of a record (R385). -/
def mtrTau (att : W64) : Nat := match nbits att.toNat 57 2 with | 0 => 8 | 1 => 11 | _ => 14

/-- One sample of a meter (R387). -/
def mtrPut (m : Meter) (x : Int) : Meter :=
  { m with
    pkmax := if m.n = 0 ∨ x > m.pkmax then x else m.pkmax
    pkmin := if m.n = 0 ∨ x < m.pkmin then x else m.pkmin
    n := m.n + 1
    ovr := if x ≥ 2 ^ 64 ∨ x < -(2 ^ 64 : Int) then m.ovr + 1 else m.ovr
    ms := mtrMs m.ms x (mtrTau m.att) }

/-- One sample at every meter whose record satisfies `at_` (R386). -/
def mtrSample (s : State) (at_ : W64 → Bool) (w : Word) : State :=
  let ks := s.mtr.mtr.filterMap (fun e => if e.2.att.getLsbD 63 && at_ e.2.att then some e.1 else none)
  forEach ks s (fun s k =>
    let m := mget {} s.mtr.mtr k
    { s with mtr := { s.mtr with mtr := mset {} s.mtr.mtr k (mtrPut m (mtrView (nbits m.att.toNat 59 2) w)) } })

/-- One sample of an exchange lane (R386). -/
def mtrLane (s : State) (c lane : Nat) (w : Word) : State :=
  mtrSample s (fun a => nbits a.toNat 61 2 == 1 && nbits a.toNat 36 4 == c && nbits a.toNat 0 8 == lane) w
/-- One sample of a sum lane (R386). -/
def mtrSum (s : State) (c sl : Nat) (w : Word) : State :=
  mtrSample s (fun a => nbits a.toNat 61 2 == 2 && nbits a.toNat 36 4 == c && nbits a.toNat 0 10 == sl) w
/-- One sample of a port channel (R386). -/
def mtrPort (s : State) (out : Bool) (port ch : Nat) (w : Word) : State :=
  mtrSample s (fun a => nbits a.toNat 61 2 == 3 && a.getLsbD 56 == out && nbits a.toNat 16 16 == port
    && nbits a.toNat 10 6 == ch) w

end Sys2Proof.Machine
end

