-- ==== Sys2Proof/Machine/Cistern.lean ====
section
/-! DEFINITION. Cisterns (R243–R257): ownership, F-port and T-port accesses, collisions, the atomic views, check bits. -/

namespace Sys2Proof.Machine

/-- CIS_OWNER, CIS_STAT, CIS_ERR, CIS_COLL, CIS_EADDR of a cistern (R257). -/
def cisOwnerA (k : Nat) : Nat := 0x180000 + 4 * k
def cisStatA (k : Nat) : Nat := 0x180200 + 4 * k
def cisErrA (k : Nat) : Nat := 0x180400 + 4 * k
def cisCollA (k : Nat) : Nat := 0x180600 + 4 * k
def cisEaddrA (k : Nat) : Nat := 0x180800 + 4 * k

/-- The present owner of a cistern (R244). -/
def cisOwner (s : State) (k : Nat) : Nat := rfld s (cisOwnerA k) 0 4
/-- The content of a cistern word. -/
def cisWord (s : State) (addr : Nat) : Word := mget 0 s.mem.cist addr
/-- Store a cistern word. -/
def cisPut (s : State) (addr : Nat) (w : Word) : State := { s with mem := { s.mem with cist := mset 0 s.mem.cist addr w } }
/-- Set a flag of CIS_ERR; the cluster's event source follows (R305). -/
def cisErr (s : State) (k bit : Nat) : State := evClusterFlags (rsetBit s (cisErrA k) bit) (k / 8)

/-- Draw an undefined 72-bit value. -/
def freeW (s : State) : Word × State := (Config.freeWord s.freeCtr, drawn s)
/-- Draw an undefined 144-bit value. -/
def freeA (s : State) : Acc × State := (Config.freeAcc s.freeCtr, drawn s)

/-- A double-bit finding: the flag, the first word and port latched, a cistern memory fault (R254). `port` 0 F, 1 T. -/
def cisDouble (s : State) (k w port cyc : Nat) : State :=
  let s := cisErr s k 0
  let s := if rbit s (cisEaddrA k) 31 then s
    else rset s (cisEaddrA k) (BitVec.ofNat 32 (2 ^ 31 + port * 2 ^ 29 + w))
  fltDetect s { cls := 6, sev := 2, unit := 0x4000 + k, btc := tickEndBtc s 1, detail := rfld s (cisErrA k) 0 16,
                cyc := if port = 1 then none else some cyc }

/-- A single-bit correction (R254). -/
def cisSingle (s : State) (k : Nat) : State := rinc s (cisStatA k) 0 16

/-- What a read's check bits find, by port (R254). -/
def cisEcc (s : State) (k w port cyc : Nat) (e : Ecc) : State :=
  match e with
  | .ok => s
  | .single => cisSingle s k
  | .double => cisDouble s k w port cyc

/-- Cells may use the cistern through its F port (R244). -/
def cisCellMay (s : State) (k : Nat) : Bool := decide (cisOwner s k ≤ 4)

/-- The word as a fabric read granted in base-tick cycle `g` sees it: a store's content shows from the cycle after its
write completes (R71). -/
def cisSeen (s : State) (addr g : Nat) : Word :=
  match s.mem.stale.find? (fun x => x.addr == addr && decide (g ≤ x.until_)) with
  | some x => x.old
  | none => cisWord s addr

/-- A fabric write that completes in base-tick cycle `g`: reads granted up to then see the content of before (R71). `clk` and `slot`:
the issue count of the storing cell and its physical slot. -/
def cisStoreAt (s : State) (addr g : Nat) (w : Word) (clk slot : Nat) : State :=
  let old := cisWord s addr
  let s := cisPut s addr w
  { s with mem := { s.mem with stale := s.mem.stale ++ [⟨addr, old, g, clk, slot⟩] } }

/-- The F port of a cistern is free in a cycle of the running domain tick (R249). -/
def bankFree (s : State) (j y : Nat) : Bool := !(mget [] s.mem.busy j).contains y
/-- An access takes the F port in the cycles `ys` (R249). -/
def bankTake (s : State) (j : Nat) (ys : List Nat) : State :=
  { s with mem := { s.mem with busy := mset [] s.mem.busy j (mget [] s.mem.busy j ++ ys) } }
/-- The first cycle from `y` on in which the port is free, and free in the next one too where the access holds it twice: at most `n`
cycles are lost (R249). -/
def grantFrom (s : State) (j : Nat) (two : Bool) (n y : Nat) : Nat :=
  match n with
  | 0 => y
  | n + 1 => if bankFree s j y && (!two || bankFree s j (y + 1)) then y else grantFrom s j two n (y + 1)
/-- The granted cycle of an access that arbitrates from cycle `y` on (R71, R249). -/
def grantCycle (s : State) (j : Nat) (two : Bool) (y : Nat) : Nat :=
  grantFrom s j two (2 * (mget [] s.mem.busy j).length + 1) y

/-- Transfer-side users of a T port, coded as the owners of R244; 7 is the Glacier controller (R150). -/
abbrev TUser := Nat

/-- Outcome of a transfer-side access: data, error response, BUSY. -/
structure TRes where
  st : State
  data : Word := 0
  err : Bool := false
  busy : Bool := false

/-- The cistern answers T-port accesses with an error response: unpowered (R18) or being cleared (R256). -/
def cisDown (s : State) (k : Nat) : Bool := rbit s (cisStatA k) 31 || !rbit s (cisStatA k) 30

/-- The owner admits a T-port write of the user (R244, R150). -/
def cisTMay (s : State) (k : Nat) (u : TUser) : Bool :=
  match cisOwner s k with
  | 0 => false
  | 1 => u == 7
  | o => o == u

/-- A collision: BUSY, the flag and the count (R251, R252). -/
def cisColl (s : State) (k : Nat) : State := rinc (cisErr s k 2) (cisCollA k) 16 16
/-- An abandoned two-cycle operation (R252). -/
def cisAbandon (s : State) (k : Nat) : State := rinc (cisErr s k 1) (cisCollA k) 0 16

/-- A T-port read of a cistern word (R244, R251, R252, R254). -/
def cisTRead (s : State) (k w : Nat) (e : Ecc) (m : Meet) : TRes :=
  if cisDown s k then { st := s, err := true } else
  let d := cisWord s (k * 65536 + w)
  match m with
  | .none | .read => { st := cisEcc s k w 1 0 e, err := e == .double, data := d }
  | .spanRead => { st := cisEcc (cisColl s k) k w 1 0 e, err := e == .double, data := d, busy := true }
  | .write | .span =>
    let f := freeW (cisColl s k)
    { st := f.2, data := f.1, busy := true }

/-- A T-port write of a whole cistern word (R244, R251, R252). -/
def cisTWrite (s : State) (u : TUser) (k w : Nat) (d : Word) (m : Meet) : TRes :=
  if cisDown s k then { st := s, err := true } else
  if !cisTMay s k u then { st := cisErr s k 3, err := true } else
  match m with
  | .none => { st := cisPut s (k * 65536 + w) d }
  | .read | .write => { st := cisColl (cisPut s (k * 65536 + w) d) k, busy := true }
  | .spanRead | .span => { st := cisColl s k, busy := true }

/-- A T-port read-modify-write in the two-cycle form: an alias write or a partial write (R252, R253, R254). -/
def cisTRmw (s : State) (u : TUser) (k w : Nat) (f : Word → Word) (e : Ecc) (m : Meet) : TRes :=
  if cisDown s k then { st := s, err := true } else
  if !cisTMay s k u then { st := cisErr s k 3, err := true } else
  match m with
  | .write | .spanRead | .span => { st := cisAbandon s k, busy := true }
  | .read => { st := cisAbandon (cisEcc s k w 1 0 e) k, err := e == .double, busy := e != .double }
  | .none =>
    let s := cisEcc s k w 1 0 e
    if e = .double then { st := s, err := true }
    else { st := cisPut s (k * 65536 + w) (f (cisWord s (k * 65536 + w))) }

/-- Bits of a word that a write of `n` of its bytes from byte `o` covers; byte 8 holds bits [71:64] (R9). -/
def byteMask (o n : Nat) : Word :=
  BitVec.ofNat 72 ((2 ^ (8 * min n (9 - o)) - 1) * 2 ^ (8 * o))

/-- An owner change takes effect: the new owner stands, nothing pends (R246). -/
def cisSetOwner (s : State) (k o : Nat) : State :=
  rput (rput (rputBit s (cisOwnerA k) 22 false) (cisOwnerA k) 16 4 0) (cisOwnerA k) 0 4 o

/-- Whether an owner request waits for a boundary of the cluster's domain (R246). -/
def cisFabricMove (s : State) (k o : Nat) : Bool := decide (cisOwner s k ≤ 1) || decide (o ≤ 1)

/-- A request for a new owner lands (R246): `at_` with group `cg`, `late` when it lands after T − 65 of the coming
boundary of the cluster's domain. -/
def cisRequest (s : State) (k o : Nat) (at_ : Bool) (cg : Nat) (late : Bool) : State :=
  let a := cisOwnerA k
  if o > 6 || (decide (o ≤ 1) && !rbit s (cisStatA k) 30) then cisErr s k 5 else
  let s := rput (rputBit s a 23 at_) a 24 8 cg
  if !at_ && !cisFabricMove s k o then cisSetOwner s k o else
  let s := rput (rsetBit s a 22) a 16 4 o
  { s with cisLate := mset false s.cisLate k (late && !at_) }

/-- Drop a pending request (R245, R246). -/
def cisUnpend (s : State) (k : Nat) : State := rput (rputBit s (cisOwnerA k) 22 false) (cisOwnerA k) 16 4 0

/-- A write of CIS_OWNER(k): an agent's only while the lock is open (R246, R248). -/
def cisOwnerWrite (s : State) (firmware : Bool) (k : Nat) (v : W32) (late : Bool) : State :=
  if !firmware && !rbit s 0x180A00 0 then s
  else cisRequest s k (fld v 0 4) (bitOf v 23) (fld v 24 8) late

/-- Step 8 of R43 at a boundary of cluster `c`'s domain: landed AT = 0 requests take effect (R246). -/
def cisHandover (s : State) (c : Nat) : State :=
  forN 8 s (fun s j =>
    let k := 8 * c + j
    if rbit s (cisOwnerA k) 22 && !rbit s (cisOwnerA k) 23 then
      if mget false s.cisLate k then { s with cisLate := mset false s.cisLate k false }
      else cisSetOwner s k (rfld s (cisOwnerA k) 16 4)
    else s)

/-- Group `g` swaps: its AT = 1 requests take effect at step 8 (R246). -/
def cisGroupHandover (s : State) (g : Nat) : State :=
  forN 128 s (fun s k =>
    if rbit s (cisOwnerA k) 22 && rbit s (cisOwnerA k) 23 && rfld s (cisOwnerA k) 24 8 == g then
      cisSetOwner s k (rfld s (cisOwnerA k) 16 4) else s)

/-- Group `g` is rejected or cancelled: its AT = 1 requests are discarded (R246). -/
def cisGroupDiscard (s : State) (g : Nat) : State :=
  forN 128 s (fun s k =>
    if rbit s (cisOwnerA k) 22 && rbit s (cisOwnerA k) 23 && rfld s (cisOwnerA k) 24 8 == g then cisUnpend s k else s)

end Sys2Proof.Machine
end

