-- ==== Sys2Proof/Machine/Exchange.lean ====
section
/-! DEFINITION. The exchange's operations (ch. 6): lane sends and arrivals, reduction contributions, chain adds, parity. -/

namespace Sys2Proof.Machine

/-- XCH_ERR, XCH_PAR_CNT, XCH_LATE_CNT of a cluster (R145). -/
def xchErrA (c : Nat) : Nat := 0x120004 + 0x1000 * c
def xchParA (c : Nat) : Nat := 0x120008 + 0x1000 * c
def xchLateA (c : Nat) : Nat := 0x12000C + 0x1000 * c
def xchRbA (c k : Nat) : Nat := 0x120100 + 0x1000 * c + 4 * k
/-- Set a flag of XCH_ERR; the cluster's event source follows (R305). -/
def xchErr (s : State) (c bit : Nat) : State := evClusterFlags (rsetBit s (xchErrA c) bit) c

/-- CEL_SLOT of a physical slot key (R78). -/
def celSlotA (k : Nat) : Nat := 0x100200 + 0x1000 * (k / 68) + 4 * (k % 68)
/-- CEL_ERR of a physical slot key (R78). -/
def celErrA (k : Nat) : Nat := 0x100400 + 0x1000 * (k / 68) + 4 * (k % 68)
/-- CEL_MAP of a logical cell (R78). -/
def celMapA (l : Nat) : Nat := 0x100000 + 0x1000 * (l / 64) + 4 * (l % 64)
/-- Physical slot key of a logical cell, if it is assigned (R17, R78). -/
def slotOf (s : State) (l : Nat) : Option Nat :=
  if rbit s (celMapA l) 31 then some (l / 64 * 68 + rfld s (celMapA l) 0 7) else none
/-- CEL_SLOT.STATE (R78). -/
def slotState (s : State) (k : Nat) : Nat := rfld s (celSlotA k) 0 3
/-- A slot's state; one that neither runs nor is fenced has no block task (R78). -/
def setSlotState (s : State) (k v : Nat) : State :=
  let s := rput s (celSlotA k) 0 3 v
  if v = 1 ∨ v = 3 then s else rputBit s (celSlotA k) 6 false
/-- Logical cell a slot runs (valid when running, fenced or lending). -/
def logicalOf (s : State) (k : Nat) : Nat := k / 68 * 64 + rfld s (celSlotA k) 8 6

/-- The live slot table of a cluster; an empty table while none is live. -/
def liveTable (s : State) (c : Nat) : SlotTable := (mget none s.ex.live c).getD {}
/-- A lane's live descriptor (R123). -/
def laneDesc (s : State) (c lane : Nat) : Nat := (mget 0 (liveTable s c).desc lane).toNat
def ldKind (d : Nat) : Nat := nbits d 60 4
def ldDrv (d : Nat) : Nat := nbits d 53 7
def ldDcl (d : Nat) : Nat := nbits d 47 4
def ldDbr (d : Nat) : Bool := nbit d 46
def ldDln (d : Nat) : Nat := nbits d 38 8
def ldCyc (d : Nat) : Nat := nbits d 23 15
def ldFirst (d : Nat) : Nat := nbits d 11 12
def ldCnt (d : Nat) : Nat := nbits d 0 11

def laneAt (s : State) (c lane : Nat) : Lane := mget {} s.ex.lanes (c * 256 + lane)
def setLane (s : State) (c lane : Nat) (l : Lane) : State :=
  { s with ex := { s.ex with lanes := mset {} s.ex.lanes (c * 256 + lane) l } }

/-- A parity failure at a cluster: the flag, the count (0 crossbar lane words, 1 reduction and ring words) and the exchange
parity fault (R141, R426). -/
def xchParity (s : State) (c ring cyc : Nat) : State :=
  let s := rinc (xchErr s c 0) (xchParA c) (16 * ring) 16
  fltDetect s { cls := 4, sev := 2, unit := 0x3000 + c, btc := tickEndBtc s (domOf s c), detail := rfld s (xchErrA c) 0 16,
                cyc := baseCycle s (domOf s c) cyc }

/-- A word reaches the arrival registers of a lane's readers at cycle `arr`; `bad` names the logical indexes at whose
register it fails parity (R122, R141). -/
def laneArrive (s : State) (c lane arr : Nat) (w : Acc) (bad : List Nat) (ring : Nat) : State :=
  let l := laneAt s c lane
  let s := setLane s c lane { l with flight := l.flight ++ [⟨arr, w, bad⟩] }
  let s := forEach bad s (fun s _ => xchParity s c ring arr)
  mtrLane s c lane (BitVec.ofInt 72 (if ldKind (laneDesc s c lane) = 5 then sclamp 72 (w.toInt / 2 ^ 64) else w.toInt))

/-- Hops between two clusters in the shorter direction (R129). -/
def ringHops (a b : Nat) : Nat := min ((b + 16 - a) % 16) ((a + 16 - b) % 16)

def bridgeAt (s : State) (c k : Nat) : Bridge := mget {} s.ex.bridges (c * 32 + k)
def setBridge (s : State) (c k : Nat) (b : Bridge) : State :=
  { s with ex := { s.ex with bridges := mset {} s.ex.bridges (c * 32 + k) b } }

/-- A send by a non-driver is dropped (R126). -/
def unscheduled (s : State) (c : Nat) : State := rinc (xchErr s c 2) (xchLateA c) 16 16

/-- A store-path send of logical index `i` of cluster `c` on a lane at tick cycle `cyc` (R124, R126, R129). `badHere`,
`badThere`: readers whose arrival register finds bad parity, here and at an import lane; `badPoint`: the bridge input does. -/
def laneSend (s : State) (c i lane : Nat) (w : Word) (cyc : Nat) (badHere badThere : List Nat) (badPoint : Bool) : State :=
  let d := laneDesc s c lane
  if (ldKind d = 1 ∨ ldKind d = 2) ∧ ldDrv d = i then
    let s := laneArrive s c lane (cyc + 12) (w.zeroExtend 144) badHere 0
    if ldKind d = 1 then s else
    let dc := ldDcl d
    let arr := cyc + 12 + 4 * ringHops c dc
    if ldDbr d then
      let b := bridgeAt s dc (ldDln d % 32)
      let s := if badPoint then xchParity s dc 1 arr else s
      setBridge s dc (ldDln d % 32) { b with flight := b.flight ++ [(arr, if badPoint then 0 else w)] }
    else if ldKind (laneDesc s dc (ldDln d)) = 3 then laneArrive s dc (ldDln d) arr (w.zeroExtend 144) badThere 1
    else s
  else unscheduled s c

/-- The word an arrival register shows at issue cycle `u` to logical index `i` (R91, R122). -/
def laneWord (l : Lane) (i u : Nat) : Acc :=
  let x := (l.flight.filter (fun x => decide (x.arr ≤ u))).getLast?.getD l.reg
  if x.bad.contains i then 0 else x.w

/-- A read by XRD (`red` false) or XRA (`red` true): a lane outside the read set, or of the other kind, reads 0 (R125). -/
def laneRead (s : State) (c i lane u : Nat) (red : Bool) : Acc :=
  let t := liveTable s c
  if (mget [] t.reads i).contains lane && (decide (ldKind (laneDesc s c lane) = 5) == red) then laneWord (laneAt s c lane) i u
  else 0

/-- A chain's live descriptor (R131). -/
def chainDesc (s : State) (ch : Nat) : Nat := (mget 0 s.ex.chains ch).toNat
def chHome (d : Nat) : Nat := nbits d 60 4
def chUph (d : Nat) : Nat := nbits d 56 4
def chDnh (d : Nat) : Nat := nbits d 52 4
def chHadd (d : Nat) : Nat := nbits d 37 15
/-- A stop's place in a chain: arm (0 up, 1 down) and hops before the home; (0, 0) is the home; none: not a stop (R131). -/
def chainPlace (d stop : Nat) : Option (Nat × Nat) :=
  if d = 0 then none else
  let up := (chHome d + 16 - stop) % 16
  let dn := (stop + 16 - chHome d) % 16
  if up = 0 then some (0, 0) else if up ≤ chUph d then some (0, up) else if dn ≤ chDnh d then some (1, dn) else none

/-- A launched word is discarded (R133). -/
def lateContribution (s : State) (c : Nat) : State := rinc (xchErr s c 1) (xchLateA c) 0 16

/-- XRED by logical index `i` of cluster `c` at tick cycle `cyc` (R126, R133); `bad`: the contribution register finds bad
parity (R141). -/
def chainLaunch (s : State) (c i lane : Nat) (w : Acc) (cyc : Nat) (bad : Bool) : State :=
  let d := laneDesc s c lane
  if ldKind d = 4 ∧ ldDrv d = i then
    let l := laneAt s c lane
    let s := setLane s c lane { l with sent := l.sent + 1 }
    if l.sent ≥ ldCnt d then lateContribution s c else
    let ch := mget 0 (liveTable s c).chain (ldFirst d + l.sent) % 4096
    let cd := chainDesc s ch
    match chainPlace cd c with
    | none => lateContribution s c
    | some (_, h) =>
      let key := ch * 16 + c
      if domOf s (chHome cd) ≠ domOf s c ∨ cyc + 6 > chHadd cd - 4 * h ∨ mget false s.ex.added key then lateContribution s c
      else
        let s := if bad then xchParity s c 1 (cyc + 6) else s
        { s with ex := { s.ex with contrib := mset 0 s.ex.contrib key (if bad then 0 else w),
                                   arrived := mset false s.ex.arrived key true } }
  else unscheduled s c

/-- The logical cells of a cluster that launch into a chain (R133). -/
def launchers (s : State) (c ch : Nat) : List Nat :=
  (liveTable s c).desc.filterMap (fun e =>
    let d := e.2.toNat
    if ldKind d = 4 ∧ (List.range (ldCnt d)).any (fun j => mget 0 (liveTable s c).chain (ldFirst d + j) % 4096 == ch)
    then some (c * 64 + ldDrv d) else none)

/-- A logical cell is held in this tick: quenched or with a schedule fault (R432). -/
def cellHeld (s : State) (l : Nat) : Bool :=
  match slotOf s l with
  | some k => (cellAt s k).held
  | none => false

/-- What a stop adds for a chain in this tick: its contribution register; the last tick's contribution where the launching
cell is held and has not launched; zero in another domain or where nothing arrived (R132, R133, R432). -/
def stopAdds (s : State) (ch c : Nat) : Acc :=
  let key := ch * 16 + c
  if domOf s (chHome (chainDesc s ch)) ≠ domOf s c ∨ domOf s c = 0 then 0
  else if mget false s.ex.arrived key then mget 0 s.ex.contrib key
  else if (launchers s c ch).any (cellHeld s) then mget 0 s.ex.lastContrib key
  else 0

/-- A saturating Q16.128 add, and whether it saturated (R132). -/
def redAdd (a b : Acc) : Acc × Bool :=
  let r := a.toInt + b.toInt
  (BitVec.ofInt 144 (sclamp 144 r), !sfits 144 r)

/-- A saturation at a stop (R132). -/
def redSat (s : State) (c : Nat) (b : Bool) : State := if b then xchErr s c 5 else s

/-- A stop has handled a reduction word in a direction (XCH_RING). -/
def countRing (s : State) (c dir : Nat) : State :=
  { s with ex := { s.ex with rwords := mmod 0 s.ex.rwords (c * 2 + dir) (· + 1) } }

/-- Reduction-delivery lanes of the home that carry a chain (R133, R134). -/
def deliveryLanes (s : State) (c ch : Nat) : List Nat :=
  (liveTable s c).desc.filterMap (fun e =>
    let d := e.2.toNat
    if ldKind d = 5 ∧ (List.range (ldCnt d)).any (fun j => mget 0 (liveTable s c).chain (ldFirst d + j) % 4096 == ch)
    then some e.1 else none)

/-- A stop's add of a chain at its add cycle (R132, R133, R141): `badUp`, `badDn`, the arriving partial of an arm fails
parity; `bad`, readers of the delivery lane whose register fails. -/
def chainAdd (s : State) (ch c : Nat) (badUp badDn : Bool) (bad : List Nat) : State :=
  let d := chainDesc s ch
  match chainPlace d c with
  | none => s
  | some (arm, h) =>
    let key := ch * 16 + c
    let own := stopAdds s ch c
    let cyc := chHadd d - 4 * h
    let same := domOf s (chHome d) = domOf s c
    let done := fun (s : State) => if same then
      { s with ex := { s.ex with lastContrib := mset 0 s.ex.lastContrib key own, contrib := mset 0 s.ex.contrib key 0,
                                 arrived := mset false s.ex.arrived key false, added := mset false s.ex.added key true } }
      else s
    let up := if badUp then 0 else mget 0 s.ex.part (ch * 2)
    let dn := if badDn then 0 else mget 0 s.ex.part (ch * 2 + 1)
    if h = 0 then
      let s := if badUp then xchParity s c 1 cyc else s
      let s := if badDn then xchParity s c 1 cyc else s
      let r1 := redAdd up dn
      let r2 := redAdd r1.1 own
      let s := redSat s c (r1.2 || r2.2)
      let s := if chUph d = 0 then s else countRing s c 0
      let s := if chDnh d = 0 then s else countRing s c 1
      let s := done { s with ex := { s.ex with part := mset 0 (mset 0 s.ex.part (ch * 2) 0) (ch * 2 + 1) 0 } }
      forEach (deliveryLanes s c ch) s (fun s lane => laneArrive s c lane (chHadd d + 6) r2.1 bad 1)
    else
      let first := if arm = 0 then h = chUph d else h = chDnh d
      let b := if arm = 0 then badUp else badDn
      let inp := if first then 0 else if arm = 0 then up else dn
      let s := if b && !decide first then xchParity s c 1 cyc else s
      let r := redAdd inp own
      let s := redSat s c r.2
      let s := countRing s c arm
      done { s with ex := { s.ex with part := mset 0 s.ex.part (ch * 2 + arm) r.1 } }

/-- The tick of a cluster ends: the last word of each lane stays in its register; the counts of the tick restart (R122). -/
def exchTickEnd (s : State) (c : Nat) : State :=
  let s := forEach (s.ex.lanes.filterMap (fun e => if e.1 / 256 = c then some (e.1 % 256) else none)) s (fun s n =>
    let l := laneAt s c n
    setLane s c n { reg := l.flight.getLast?.getD l.reg, flight := [], sent := 0 })
  let ks := s.ex.added.filterMap (fun e => if e.1 % 16 = c then some e.1 else none)
  forEach ks s (fun s k => { s with ex := { s.ex with added := mset false s.ex.added k false } })

end Sys2Proof.Machine
end

