-- ==== Sys2Proof/Machine/Ops.lean ====
section
/-! DEFINITION. What an operation of a cell instruction does (R79–R100), once for all the commands that issue one. -/

namespace Sys2Proof.Machine

/-- What physics and timing add to an operation: what its read's check bits find, the stalls its cistern access suffers, a
transfer-side write to the word in the read's cycle, a multiplier's residue mismatch, parity failures of what it sends. -/
structure OpEnv where
  ecc : Ecc := .ok
  stalls : Nat := 0
  coll : Bool := false
  mism : Bool := false
  badHere : List Nat := []
  badThere : List Nat := []
  badPoint : Bool := false
  deriving DecidableEq, Repr

/-- CEL_BTASK of a slot key (R121). -/
def celBtaskA (k : Nat) : Nat := 0x100C00 + 0x1000 * (k / 68) + 4 * (k % 68)
/-- CEL_FLAG of a slot key (R78). -/
def celFlagA (k : Nat) : Nat := 0x100600 + 0x1000 * (k / 68) + 4 * (k % 68)
/-- BSTATE of the block task (R111). -/
def bstate (s : State) (k : Nat) : Nat := rfld s (celBtaskA k) 0 3
def setBstate (s : State) (k v : Nat) : State := rput s (celBtaskA k) 0 3 v

/-- Active program and coefficient page of a slot (R78). -/
def ppage (s : State) (k : Nat) : Nat := rfld s (celSlotA k) 4 1
def kpage (s : State) (k : Nat) : Nat := rfld s (celSlotA k) 5 1
/-- The slot whose memories the slot's datapath uses: its own, or the lending one's (R434). -/
def memSlot (s : State) (k : Nat) : Nat := (cellAt s k).lender.getD k
/-- The slot whose state memory it uses (R435). -/
def stateSlot (s : State) (k : Nat) : Nat := if (cellAt s k).ownState then k else memSlot s k
/-- A word of a cell's memories by window offset (R69). -/
def cellWord (s : State) (k off : Nat) : Word := mget 0 s.mem.cell (k * 0x4000 + off)
def cellPut (s : State) (k off : Nat) (w : Word) : State :=
  { s with mem := { s.mem with cell := mset 0 s.mem.cell (k * 0x4000 + off) w } }
/-- A crossfade runs and the old program has the tick (R238). -/
def xfOld (s : State) (k : Nat) : Bool :=
  let c := mget {} s.cmt.cells (logicalOf s k)
  decide (c.xj > 0) && !c.xnew
/-- The page the sample program issues from: the old one while it has the tick in a crossfade (R238). -/
def curPage (s : State) (k : Nat) : Nat := if xfOld s k then 1 - ppage s k else ppage s k
/-- What that program page carries (R109, R202). -/
def pageOf (s : State) (k : Nat) : PageInfo := mget {} s.mem.page (memSlot s k * 2 + curPage s k)
/-- Cycles per tick of a slot's cluster. -/
def cellC (s : State) (k : Nat) : Nat := domC (domOf s (k / 68))

/-- A cell datapath fault detected in tick cycle `d`, quenching from cycle `from_`: recorded, quenched, held, reported
(R68, R73, R427, R430). -/
def cellFault (s : State) (k d from_ : Nat) (zst : Bool := false) : State :=
  let c := cellAt s k
  let lateD := decide (cellC s k ≤ d + 64)
  let hold := lateD || !c.done
  let run := slotState s k == 1
  let s := setCell s k { c with quench := if lateD then 2 else max c.quench 1, qAt := if c.quench = 0 then from_ else min c.qAt from_,
                                faultCyc := some (c.faultCyc.getD d), held := c.held || (hold && !lateD), zst := c.zst || zst }
  fltDetect s { cls := 1, sev := 1, unit := if run then 0x1000 + logicalOf s k else 0x2000 + k, hold := hold && run, zst := zst,
                btc := tickEndBtc s (domOf s (k / 68)), detail := rfld s (celErrA k) 16 6,
                cyc := baseCycle s (domOf s (k / 68)) d, oslot := k % 68 }

/-- What the check bits of a read of a cell's memory find: 0 program, 1 coefficient, 2 state (R73). -/
def cellEcc (s : State) (k mem : Nat) (e : Ecc) : State :=
  match e with
  | .ok => s
  | .single => rinc s (celErrA k) 0 16
  | .double =>
    let s := if rbit s (celErrA k) 16 then s else rput s (celErrA k) 20 2 mem
    let cyc := (cellAt s k).cyc
    cellFault (rsetBit s (celErrA k) 16) k cyc (cyc + 1) (mem == 2)

/-- Change the registers and results in flight of a cell. -/
def onCell (s : State) (k : Nat) (f : Cell → Cell) : State := setCell s k (f (cellAt s k))

/-- A state-memory word as a load issued now sees it (R100). -/
def stateSeen (s : State) (k off : Nat) : Word :=
  match (cellAt s k).stale.find? (fun x => x.addr == off && decide ((cellAt s k).clk < x.until_)) with
  | some x => x.old
  | none => cellWord s (stateSlot s k) (0x2000 + off)

/-- A state-memory store: later loads of the cell see it from issue count `until_` on, and till then the content it replaces; during
lending it is applied to both slots (R75, R100, R434). -/
def stateStore (s : State) (k off : Nat) (w : Word) (lat : Nat) : State :=
  let old := cellWord s (stateSlot s k) (0x2000 + off)
  let s := onCell s k (fun c =>
    { c with stale := c.stale.filter (fun x => decide (c.clk < x.until_)) ++ [⟨off, old, c.clk + lat, c.clk, k⟩] })
  let s := cellPut s (stateSlot s k) (0x2000 + off) w
  if stateSlot s k = k then s else cellPut s k (0x2000 + off) w

/-- A coefficient word of the active page; on the takeover path an uncorrectable word is taken from the pending page, or is
zero where that word is marked (R70, R73, R435). -/
def coefRead (s : State) (k off : Nat) (e : Ecc) : Word × State :=
  let m := memSlot s k
  let a := 0x1000 + 0x800 * kpage s k + off % 2048
  let p := 0x1000 + 0x800 * (1 - kpage s k) + off % 2048
  if m ≠ k ∧ e = .double then
    if mget false s.mem.mark (m * 0x4000 + p) then
      (0, onCell s k (fun c => { c with fenceNext := true }))
    else (cellWord s m p, s)
  else (cellWord s m a, cellEcc s k 1 e)

/-- The stalls of an access: the whole cell freezes after the present issue cycle, and with it what is still to land (R38). -/
def cellStall (c : Cell) (n : Nat) (blk : Bool) : Cell :=
  { c with frz := c.frz + n, stalls := if blk then c.stalls else c.stalls + n,
           retire := if c.cyc < c.retire then c.retire + n else c.retire }

/-- The state words and cistern words that the present instruction of a cell stored hold their content of before again. -/
def undoStores (s : State) (k : Nat) : State :=
  let c := cellAt s k
  let mine := fun (x : StaleWord) => x.slot == k && x.issued == c.clk
  let s := forEach (c.stale.filter mine).reverse s (fun s x =>
    let s := cellPut s (stateSlot s k) (0x2000 + x.addr) x.old
    if stateSlot s k = k then s else cellPut s k (0x2000 + x.addr) x.old)
  let s := onCell s k (fun c => { c with stale := c.stale.filter (fun x => !mine x) })
  let s := forEach (s.mem.stale.filter mine).reverse s (fun s x => cisPut s x.addr x.old)
  { s with mem := { s.mem with stale := s.mem.stale.filter (fun x => !mine x) } }

/-- The instruction of the present cycle has no effect after all: what its operations put in flight and stored is dropped, and those
still to come do nothing (R106, R108). -/
def dropInstr (s : State) (k : Nat) : State :=
  onCell (undoStores s k) k (fun c => { c with flight := c.flight.filter (fun l => l.issued != c.clk), frz := 0, void := true })

/-- The cycle after which a block instruction whose cistern access has not won is withdrawn: φ − 24, or C − 64 after the sample slot;
the save half has no such access (R108, R114). -/
def withdrawAfter (s : State) (k : Nat) : Nat :=
  let c := cellAt s k
  let pg := pageOf s k
  if c.done || (!pg.present && decide (pg.phase ≤ c.cyc)) then cellC s k - 64 else pg.phase - 24

/-- A cistern access of a cell presents itself at the F port from the cycle after its issue and `stalls` cycles on; it takes the first
cycle in which the bank is free, and the cell freezes till then (R38, R71, R249). None: it is withdrawn, and with it its instruction,
which issues again (R108). -/
def cisArbitrate (s : State) (k : Nat) (blk : Bool) (j : Nat) (two : Bool) (stalls : Nat) : Option Nat × State :=
  let c := cellAt s k
  let y := grantCycle s j two (c.cyc + 1 + stalls)
  let n := y - (c.cyc + 1)
  if blk && c.half != 1 && decide (withdrawAfter s k < y) then
    let lim := withdrawAfter s k
    let s := rinc s (celBtaskA k) 8 8
    (none, onCell (dropInstr s k) k (fun c => { c with npc := some c.pc, cyc := max c.cyc lim }))
  else
    let now := baseCycle s (domOf s (k / 68)) c.cyc
    let s := bankTake s j (if two then [y, y + 1] else [y])
    let s := { s with mem := { s.mem with stale := s.mem.stale.map (fun x =>
      if x.slot = k ∧ now < x.until_ then { x with until_ := x.until_ + n } else x) } }
    (some n, onCell s k (fun c => cellStall c n blk))

/-- Put a result in flight in a cell. -/
def flyTo (s : State) (k lat : Nat) (d : Dst) (v : Acc) : State := onCell s k (fun c => fly c lat d v)
def z72 (w : Word) : Acc := w.zeroExtend 144
/-- An accumulator result with its two latencies (R100). -/
def flyAcc (s : State) (k latF latV an : Nat) (hi lo : Bool) (v : Acc) : State :=
  flyTo (flyTo s k latF (.acc an true hi lo) v) k latV (.acc an false hi lo) v

/-- The multiply field (R62, R68, R81). -/
def doMac (s : State) (k : Nat) (blk : Bool) (op mode an xr : Nat) (ysrc : Bool) (yop : Nat) (e : OpEnv) : State :=
  let c := cellAt s k
  let x := mget 0 c.d xr
  let pm := yop / 2
  let yr := if ysrc then coefRead s k (mget 0 c.p pm).toNat e.ecc else (mget 0 c.d yop, s)
  match macProduct mode x yr.1 with
  | none => s
  | some p0 =>
    let s := yr.2
    let s := if ysrc && decide (yop % 2 = 1) then
        flyTo s k 1 (.p pm) ((ptrUpdate (mget 0 c.z pm) (mget 0 c.p pm) (mget 0 c.i pm)).zeroExtend 144) else s
    let fr := freeA s
    let s := if e.mism then fr.2 else s
    let p := if e.mism then freeProduct p0 fr.1 else p0
    let r := macApply op (mget 0 c.af an) p
    let s := flyAcc s k 1 4 an true true r.1
    let s := if r.2 then flyTo s k 4 (.stOr blk) 2 else s
    if e.mism then cellFault (rsetBit s (celErrA k) 17) k (c.cyc + 3) (c.cyc + 3) else s

/-- The cistern a cell's address names, of its own cluster (R70). -/
def cellCis (k : Nat) (p : BitVec 20) : Nat := 8 * (k / 68) + nbits p.toNat 16 3

/-- A cistern read of a cell granted after `n` stalls: admission, content at its granted cycle, check bits, a meeting with a
transfer-side write, whose undefined data is not checked (R70, R71, R244, R251, R254). -/
def cellCisRead (s : State) (k : Nat) (p : BitVec 20) (n : Nat) (e : OpEnv) : Word × State :=
  let j := cellCis k p
  let w := p.toNat % 65536
  let g := baseCycle s (domOf s (k / 68)) ((cellAt s k).cyc + 1 + n)
  if !cisCellMay s j then (0, cisErr s j 4)
  else if e.coll then freeW s
  else (cisSeen s (j * 65536 + w) g, cisEcc s j w 0 g e.ecc)

/-- A load (R84, R85, R100); none: a reserved addressing mode. -/
def doLoad (s : State) (k : Nat) (blk : Bool) (mem part d p am : Nat) (e : OpEnv) : State :=
  let c := cellAt s k
  match amAddr am (mget 0 c.z p) (mget 0 c.p p) (mget 0 c.i p) with
  | none => s
  | some (a, np) =>
    let s := match np with
      | some v => flyTo s k 1 (.p p) (v.zeroExtend 144)
      | none => s
    match mem with
    | 0 =>
      let off := a.toNat % 4096
      let w := stateSeen s k off
      cellEcc (flyTo s k 3 (.d d true true) (z72 (loadPart part w))) k 2 e.ecc
    | 1 =>
      let r := coefRead s k a.toNat e.ecc
      flyTo r.2 k 3 (.d d true true) (z72 (loadPart part r.1))
    | _ =>
      match cisArbitrate s k blk (cellCis k a) false e.stalls with
      | (none, s) => s
      | (some n, s) =>
        let r := cellCisRead s k a n e
        flyTo r.2 k (5 + n) (.d d true true) (z72 (loadPart part r.1))

/-- MOVS from a special register (R88); none: a reserved class or index. -/
def movsRead (c : Cell) (blk : Bool) (cls idx : Nat) : Option Word :=
  match cls with
  | 0 => some ((mget 0 c.p idx).zeroExtend 72)
  | 1 => some ((mget 0 c.i idx).signExtend 72)
  | 2 => some ((mget 0 c.z idx).zeroExtend 72)
  | 3 => if idx < 4 then some ((mget 0 c.lp idx).zeroExtend 72) else none
  | 4 => if idx = 0 then some (c.bx.zeroExtend 72) else none
  | 5 => if idx = 0 then some ((c.st.extractLsb' 8 8 ++ stOf c blk).zeroExtend 72) else none
  | _ => none

/-- Where MOVS writes a special register (R88); none: a reserved class or index. -/
def movsDst (blk : Bool) (cls idx : Nat) : Option Dst :=
  match cls with
  | 0 => some (.p idx)
  | 1 => some (.i idx)
  | 2 => some (.z idx)
  | 3 => if idx < 4 then some (.lp idx) else none
  | 4 => if idx = 0 then some .bx else none
  | 5 => if idx = 0 then some (.st blk 0xF7) else none
  | _ => none

/-- A BX write has issued (R95). -/
def bxWritten (s : State) (k : Nat) : State := onCell s k (fun c => { c with bxw := c.clk })

/-- The value entering the store path: one value or the two halves of a pair, with its fraction bits; none where source and
format are reserved together (R91). -/
def storeSource (c : Cell) (fmt src : Nat) : Option (List Int × Nat) :=
  if src < 32 then
    let w := mget 0 c.d src
    if fmt = 3 then some ([w.hi.toInt, w.lo.toInt], 32) else some ([w.toInt], 64)
  else
    let a := mget 0 c.a (src % 4)
    if src < 36 then (if fmt = 3 then none else some ([a.toInt], 128))
    else if src < 40 then (if fmt = 3 then none else some ([a.hi.toInt], 64))
    else if src < 44 then (if fmt = 3 then none else some ([a.lo.toInt], 64))
    else if src < 48 then (if fmt = 3 then some ([a.hi.toInt, a.lo.toInt], 64) else none)
    else none

/-- A crossfade is running for the slot's cell (R238). -/
def xfRuns (s : State) (k : Nat) : Bool := decide ((mget {} s.cmt.cells (logicalOf s k)).xj > 0)
def onCmt (s : State) (k : Nat) (f : CellCmt → CellCmt) : State :=
  { s with cmt := { s.cmt with cells := mset {} s.cmt.cells (logicalOf s k) (f (mget {} s.cmt.cells (logicalOf s k))) } }
/-- The old program's output operation is captured, at most 64 per tick (R238); values in units of 2^-192. -/
def xfCapture (s : State) (k kind : Nat) (vals : List Int) : State :=
  onCmt s k (fun c => if c.cap.length < 64 then { c with cap := c.cap ++ [⟨kind, vals⟩] } else c)
/-- The new program's operation is mixed with the captured one of its place: old + (new − old)·j / 2^XK, in units of
2^-(192+XK) (R238). -/
def xfMix (s : State) (k : Nat) (vals : List Int) : List Int × Nat × State :=
  let c := mget {} s.cmt.cells (logicalOf s k)
  let old := (c.cap.headD {}).vals
  let mix := vals.zipIdx.map (fun x =>
    let o := if c.cap.isEmpty then x.1 else old.getD x.2 0
    o * 2 ^ c.xfK + (x.1 - o) * c.xj)
  (mix, 192 + c.xfK, onCmt s k (fun c => { c with cap := c.cap.tail }))

/-- What the store path delivers: the word (in the half its format names), clamped, redundant sign bits (R63, R67). -/
structure Stored where
  w : Word
  sat : Bool
  count : Nat
  deriving DecidableEq, Repr

/-- The store path on a source (R63). `dith`: depth and generator values of a dithered store. -/
def storePath (vs : List Int) (f fmt : Nat) (sh : Int) (trunc : Bool) (dith : Option (Nat × BitVec 32 × BitVec 32)) : Stored :=
  match fmt, vs with
  | 3, [h, l] =>
    let a := storeValue h f sh 0 trunc 32 32 36
    let b := storeValue l f sh 0 trunc 32 32 36
    let x := BitVec.ofInt 36 a.1
    let y := BitVec.ofInt 36 b.1
    ⟨Word.pack x y, a.2 || b.2, min (redundantSign 36 x.toNat) (redundantSign 36 y.toNat)⟩
  | 0, v :: _ =>
    let r := match dith with
      | some (n, a, b) => storeValue v f sh (ditherValue a b n f) trunc (n - 1) 64 72
      | none => storeValue v f sh 0 trunc 64 64 72
    let x := BitVec.ofInt 72 r.1
    ⟨x, r.2, redundantSign 72 x.toNat⟩
  | _, v :: _ =>
    let r := storeValue v f sh 0 trunc 32 32 36
    let x := BitVec.ofInt 36 r.1
    ⟨if fmt = 1 then Word.pack x 0 else Word.pack 0 x, r.2, redundantSign 36 x.toNat⟩
  | _, [] => ⟨0, false, 0⟩

/-- A word with the halves a format names replaced (R61, R91). -/
def mergeHalf (fmt : Nat) (old new : Word) : Word :=
  match fmt with
  | 1 => Word.pack new.hi old.lo
  | 2 => Word.pack old.hi new.lo
  | _ => new

/-- Depth a DTH code selects; none: no dither (R93). -/
def dthDepth (x : BitVec 20) : Option Nat :=
  match nbits x.toNat 10 3 with
  | 4 => some 16
  | 5 => some 20
  | 6 => some 24
  | 7 => some 32
  | _ => none

/-- What clearing the cell seeds the generators a and b of a physical slot with (R66). -/
def ditherSeedA (k : Nat) : BitVec 32 := BitVec.ofNat 32 (0xA0000000 + 256 * (k / 68) + k % 68)
def ditherSeedB (k : Nat) : BitVec 32 := BitVec.ofNat 32 (0x50000000 + 256 * (k / 68) + k % 68)
/-- A generator after one advance: its cell field holds it as the difference from its seed, so that a cleared cell is seeded (R66). -/
def ditherNext (seed x : BitVec 32) : BitVec 32 := lfsrStep (x ^^^ seed)

/-- A store-path move (R63, R90–R93, R100). -/
def doStore (s : State) (k : Nat) (blk : Bool) (dst fmt src : Nat) (dop : BitVec 9) (ext : Option (BitVec 20)) (e : OpEnv) :
    State :=
  let c := cellAt s k
  let x := ext.getD 0
  let sh : Int := if ext.isSome then sext 7 (nbits x.toNat 13 7) else 0
  let dth := dthDepth x
  let half := fmt == 1 || fmt == 2
  let illegal := (dst = 2 ∧ half) ∨ (dth.isSome ∧ ¬(dst = 1 ∧ fmt = 0)) ∨ (dst = 3 ∧ nbits dop.toNat 1 2 ≠ 0)
    ∨ (dst ≠ 2 ∧ nbit x.toNat 9) ∨ (dst = 2 ∧ blk)
  match storeSource c fmt src with
  | none => s
  | some (vs, f) =>
    if illegal then s else
    let p := nbits dop.toNat 5 4
    let am := amAddr (nbits dop.toNat 2 3) (mget 0 c.z p) (mget 0 c.p p) (mget 0 c.i p)
    if dst ≤ 1 ∧ am.isNone then s else
    let la := ditherNext (ditherSeedA k) c.lfsrA
    let lb := ditherNext (ditherSeedB k) c.lfsrB
    let xf := xfRuns s k && !blk && (dst == 1 || dst == 2)
    let exact := vs.map (fun v => v * 2 ^ (sh + 64).toNat * 2 ^ (128 - f))
    let upd := fun (s : State) => match dst, am.getD (0, none) with
      | 0, (_, some v) => flyTo s k 1 (.p p) (v.zeroExtend 144)
      | 1, (_, some v) => flyTo s k 1 (.p p) (v.zeroExtend 144)
      | _, _ => s
    if xf && xfOld s k then upd (xfCapture s k (dst - 1) exact) else
    match (if dst = 1 then cisArbitrate s k blk (cellCis k (am.getD (0, none)).1) half e.stalls else (some 0, s)) with
    | (none, s) => s
    | (some lost, s) =>
    let mx := xfMix s k exact
    let s := if xf then mx.2.2 else s
    let r := if xf then storePath mx.1 mx.2.1 fmt 0 (rndOf c blk) (dth.map (fun n => (n, la, lb)))
      else storePath vs f fmt sh (rndOf c blk) (dth.map (fun n => (n, la, lb)))
    let s := if dth.isSome then onCell s k (fun c => { c with lfsrA := la ^^^ ditherSeedA k, lfsrB := lb ^^^ ditherSeedB k }) else s
    let s := if r.sat then flyTo s k 4 (.stOr blk) 1 else s
    let trk := match dst with | 2 => nbit x.toNat 9 | 3 => nbit dop.toNat 3 | _ => nbit dop.toNat 1
    let s := if trk then flyTo s k 4 .bxMin (BitVec.ofNat 144 r.count) else s
    let addr := (am.getD (0, none)).1
    let s := upd s
    match dst with
    | 0 =>
      let off := addr.toNat % 4096
      if half then
        let s := cellEcc s k 2 e.ecc
        if e.ecc = .double then s
        else stateStore s k off (mergeHalf fmt (cellWord s (stateSlot s k) (0x2000 + off)) r.w) 3
      else stateStore s k off r.w 2
    | 1 =>
      let j := cellCis k addr
      let w := addr.toNat % 65536
      let g := baseCycle s (domOf s (k / 68)) (c.cyc + 1 + lost)
      if !cisCellMay s j then cisErr s j 4
      else if half then
        let s := cisEcc s j w 0 g e.ecc
        if e.ecc = .double then s
        else cisStoreAt s (j * 65536 + w) (g + 3) (mergeHalf fmt (cisSeen s (j * 65536 + w) g) r.w) c.clk k
      else cisStoreAt s (j * 65536 + w) (g + 2) r.w c.clk k
    | 2 => laneSend s (k / 68) (logicalOf s k % 64) (nbits dop.toNat 1 8) r.w c.cyc e.badHere e.badThere e.badPoint
    | _ =>
      let d := nbits dop.toNat 4 5
      flyTo s k 3 (.d d (fmt ≠ 2) (fmt ≠ 1)) (z72 r.w)

/-- A taken branch or jump: two cycles with no issue, then the target; loops whose body lacks it end (R98). -/
def branchTo (s : State) (k t : Nat) : State :=
  onCell s k (fun c =>
    let ls := (activeLoops c).filter (fun l => decide (l.first ≤ t) && decide (t ≤ l.last))
    setLoops { c with npc := some t, dead := 3 } ls)

/-- YEND: the save half ends and the task is yielded; the resume half ends and the task runs on at the block PC (R112,
R116). -/
def doYend (s : State) (k : Nat) : State :=
  match (cellAt s k).half with
  | 1 => setBstate (onCell s k (fun c => { c with half := 0 })) k 3
  | 2 =>
    let s := onCell s k (fun c => fly { c with half := 0, npc := some c.bpc, dead := 3 } 3 (.st true 0xF7) (c.savedSt.zeroExtend 144))
    setBstate s k 1
  | _ => s

/-- The effect of one operation at its issue cycle (R80, R84, R94, R100); `blk`: block code issues it. -/
def cellOp (s : State) (k : Nat) (blk : Bool) (op : CellOp) (e : OpEnv) : State :=
  let c := cellAt s k
  let rd := fun (n : Nat) => mget 0 c.d n
  match op with
  | .mac op mode an xr ysrc yop => doMac s k blk op mode an xr ysrc yop e
  | .load mem part d p am => doLoad s k blk mem part d p am e
  | .mov d n => flyTo s k 1 (.d d true true) (z72 (rd n))
  | .swaph d n => flyTo s k 1 (.d d true true) (z72 (Word.pack (rd n).lo (rd n).hi))
  | .cmp n m rel j =>
    flyTo s k 2 (.st blk (BitVec.ofNat 8 (2 ^ (4 + j)))) (if cmpRel rel (rd n) (rd m) then 0xF0 else 0)
  | .cmov d n j t => if cfOf c blk j == t then flyTo s k 1 (.d d true true) (z72 (rd n)) else s
  | .shf d sh fn =>
    match shfValue fn sh.toInt (rndOf c blk) (rd d) with
    | none => s
    | some (w, sat) =>
      let s := flyTo s k 2 (.d d true true) (z72 w)
      if sat then flyTo s k 2 (.stOr blk) 1 else s
  | .clra a => flyAcc s k 2 2 a true true 0
  | .mva a n => flyAcc s k 2 2 a true true (s72ToAcc (rd n))
  | .mvah a n => flyAcc s k 2 2 a true false (Acc.pack (rd n) 0)
  | .mval a n => flyAcc s k 2 2 a false true (Acc.pack 0 (rd n))
  | .xrd d lane =>
    if blk then s else
    flyTo s k 1 (.d d true true) ((laneRead s (k / 68) (logicalOf s k % 64) lane c.cyc false))
  | .xra a lane =>
    if blk then s else flyAcc s k 2 2 a true true (laneRead s (k / 68) (logicalOf s k % 64) lane c.cyc true)
  | .xred a lane =>
    if blk then s else
    let v := mget 0 c.a a
    if xfRuns s k then
      if xfOld s k then xfCapture s k 2 [v.toInt * 2 ^ 64] else
      let mx := xfMix s k [v.toInt * 2 ^ 64]
      let x := mx.1.headD 0
      let d : Int := 2 ^ (mx.2.1 - 128)
      let up := if x % d = 0 then 0 else Config.freeNat mx.2.2.freeCtr % 2
      chainLaunch (drawn mx.2.2) (k / 68) (logicalOf s k % 64) lane (BitVec.ofInt 144 (sclamp 144 (x / d + up))) c.cyc e.badPoint
    else chainLaunch s (k / 68) (logicalOf s k % 64) lane v c.cyc e.badPoint
  | .movs wr cls idx n =>
    if wr then
      match movsDst blk cls idx with
      | none => s
      | some d => flyTo (if cls = 4 then bxWritten s k else s) k 2 d (z72 (rd n))
    else
      match movsRead c blk cls idx with
      | none => s
      | some w => flyTo s k 1 (.d n true true) (z72 w)
  | .setp cls n imm =>
    match cls with
    | 0 => flyTo s k 2 (.p n) (imm.zeroExtend 144)
    | 1 => flyTo s k 2 (.i n) (imm.zeroExtend 144)
    | 2 => if imm.toNat < 64 then flyTo s k 2 (.z n) (imm.zeroExtend 144) else s
    | _ => s
  | .padd p imm =>
    flyTo s k 1 (.p p) ((ptrUpdate (mget 0 c.z p) (mget 0 c.p p) (imm.signExtend 20)).zeroExtend 144)
  | .pmod p am =>
    if am = 1 ∨ am = 3 ∨ am = 4 then
      match amAddr am (mget 0 c.z p) (mget 0 c.p p) (mget 0 c.i p) with
      | some (_, some v) => flyTo s k 1 (.p p) (v.zeroExtend 144)
      | _ => s
    else s
  | .ldpt n =>
    let w := stateSeen s k (0xFF0 + n)
    let s := flyTo (flyTo (flyTo s k 3 (.p n) (z72 w)) k 3 (.i n) (z72 (w >>> 20))) k 3 (.z n) (z72 (w >>> 40))
    cellEcc s k 2 e.ecc
  | .stpt n => stateStore s k (0xFF0 + n) (ptrContext (mget 0 c.p n) (mget 0 c.i n) (mget 0 c.z n)) 2
  | .store dst fmt src dop ext => doStore s k blk dst fmt src dop ext e
  | .nop => s
  | .end_ =>
    if blk then s else
    let pg := pageOf s k
    let o := mget {} s.mem.page (memSlot s k * 2 + (1 - ppage s k))
    let start := if xfRuns s k && !xfOld s k then o.phase + o.len + o.w + 4 else pg.phase
    onCell s k (fun c => { c with sample := false, done := true, slotEnd := start + pg.len + c.stalls })
  | .rep lp len count =>
    if count = 0 ∨ c.pc + 1 + len > 2047 then s else
    let s := flyTo s k 1 (.lp lp) (count.zeroExtend 144)
    onCell s k (fun c => setLoops c (⟨lp, c.pc + 1, c.pc + 1 + len⟩ :: activeLoops c))
  | .bxclr => flyTo (bxWritten s k) k 1 .bx 0x7F
  | .stset m => if m.getLsbD 3 then s else flyTo s k 1 (.st blk m) 0xFF
  | .stclr m => if m.getLsbD 3 then s else flyTo s k 1 (.st blk m) 0
  | .bwait =>
    if blk ∧ c.half ≠ 1 then
      let q := nextPc c
      setBstate (setCell s k { q.2 with bpc := q.1, half := 0 }) k 2
    else s
  | .yend => if blk then doYend s k else s
  | .br off => if blk then branchTo s k ((c.pc + 2048 + off.toInt).toNat % 2048) else s
  | .brt j off => if blk ∧ cfOf c blk j then branchTo s k ((c.pc + 2048 + off.toInt).toNat % 2048) else s
  | .brf j off => if blk ∧ cfOf c blk j = false then branchTo s k ((c.pc + 2048 + off.toInt).toNat % 2048) else s
  | .jmp t => if blk then branchTo s k t.toNat else s
  | .jmpp p => if blk then branchTo s k ((mget 0 c.p p).toNat % 2048) else s

/-- Cycles from issue to the last write of an operation (R100). -/
def retireOf (op : CellOp) : Nat :=
  match op with
  | .mac .. => 4
  | .load 2 .. => 5
  | .load .. => 3
  | .ldpt _ => 3
  | .movs true .. => 2
  | .setp .. => 2
  | .shf .. => 2
  | .cmp .. => 2
  | .clra _ | .mva .. | .mvah .. | .mval .. | .xra .. => 2
  | .xred .. => 2
  | .stpt _ => 2
  | .store 0 0 .. | .store 0 3 .. => 2
  | .store 0 .. => 3
  | .store 1 0 .. | .store 1 3 .. => 3
  | .store 1 .. => 4
  | .store 2 .. => 2
  | .store .. => 3
  | _ => 1

end Sys2Proof.Machine
end

