-- ==== Sys2Proof/Machine/CmtBase.lean ====
section
/-! DEFINITION. Claims, seals and load locks on members (R221, R227, R228), and the port bindings' lookups, shared by every
path that writes a pending copy. -/

namespace Sys2Proof.Machine

/-- Member codes KIND × 65536 + ID (R209). -/
def memCell (l : Nat) : Nat := 0x10000 + l
def memTable (c : Nat) : Nat := 0x20000 + c
def memWel (c : Nat) : Nat := 0x30000 + c
def memPort (p : Nat) : Nat := 0x40000 + p

def groupOf (s : State) (g : Nat) : Group := mget {} s.cmt.groups g
def setGroup (s : State) (g : Nat) (x : Group) : State := { s with cmt := { s.cmt with groups := mset {} s.cmt.groups g x } }
def cmtCell (s : State) (l : Nat) : CellCmt := mget {} s.cmt.cells l
def setCmtCell (s : State) (l : Nat) (c : CellCmt) : State := { s with cmt := { s.cmt with cells := mset {} s.cmt.cells l c } }
def onCmtCell (s : State) (l : Nat) (f : CellCmt → CellCmt) : State := setCmtCell s l (f (cmtCell s l))

/-- The claiming group of a member: the load's LOADCG, else the standing list that holds it (R227). -/
def claimOf (s : State) (m : Nat) : Option Nat :=
  match s.cmt.groups.find? (fun e => e.2.load.contains m) with
  | some e => some e.1
  | none => (s.cmt.groups.find? (fun e => e.2.mem.contains m)).map (fun e => e.1)

/-- The members a group claims, standing list first (R227, CMT_MEM_RD). -/
def claims (s : State) (g : Nat) : List Nat :=
  let x := groupOf s g
  x.mem.filter (fun m => claimOf s m == some g) ++ x.load.filter (fun m => !x.mem.contains m && claimOf s m == some g)

/-- A member is sealed: its claiming group is not open (R228). -/
def sealedBy (s : State) (m : Nat) : Option Nat :=
  match claimOf s m with
  | some g => if (groupOf s g).state = 0 then none else some g
  | none => none

/-- The running load has written the member (R221, R231). -/
def loadLocked (s : State) (m : Nat) : Bool :=
  match s.load.run with
  | some r => r.written.contains m
  | none => false

/-- A write to a member's pending copy is refused: the state with the refusal counted; none: it is admitted (R221, R228). `lock`: the
running load has written the item. -/
def memberRefused (s : State) (m : Nat) (lock : LoadRun → Bool) : Option State :=
  match sealedBy s m with
  | some g => some (setGroup s g { groupOf s g with refused := satInc 4095 (groupOf s g).refused })
  | none =>
    match s.load.run with
    | some r => if lock r then some { s with load := { s.load with run := some { r with refused := r.refused + 1 } } } else none
    | none => none
/-- What the running load has written of items that are less than a member: a tap entry, a line, a stream (R221). -/
def lockEnt (n : Nat) (r : LoadRun) : Bool := r.undo.ents.any (fun e => e.1 == n)
def lockLine (n : Nat) (r : LoadRun) : Bool := r.undo.lines.any (fun e => e.1 == n)
def lockStr (n : Nat) (r : LoadRun) : Bool := r.undo.strs.any (fun e => e.1 == n)
/-- It writes a cell's pages as a whole. -/
def lockMem (m : Nat) (r : LoadRun) : Bool := r.written.contains m

/-- The pending chain descriptors that become live with the slot table of cluster `c`: those whose home it is, or was (R144, R204). -/
def chainsOf (s : State) (c : Nat) : List (Nat × W64) :=
  s.ex.chainsShadow.filterMap (fun e => match e.2 with
    | some d => if chHome d.toNat = c ∨ (chainDesc s e.1 ≠ 0 ∧ chHome (chainDesc s e.1) = c) then some (e.1, d) else none
    | none => none)

/-- The logical cell has a physical slot (R17). -/
def hasSlot (s : State) (l : Nat) : Bool := mget false s.cmt.hasSlot l
/-- Physical slot key that a logical cell maps to, assigned or not (R17). -/
def mapSlot (s : State) (l : Nat) : Nat := l / 64 * 68 + rfld s (celMapA l) 0 7
/-- The logical cell whose pages a slot's memories hold (R17, R436); none: none. -/
def memberOfSlot (s : State) (k : Nat) : Option Nat :=
  if slotState s k = 6 then some (logicalOf s k)
  else ((List.range 64).map (fun i => k / 68 * 64 + i)).find? (fun l => hasSlot s l && mapSlot s l == k)

/-- A live port binding. -/
def portOf (s : State) (p : Nat) : PortBind := mget {} s.port.live p
/-- Fabric address of a cluster word address. -/
def clAddr (c a : Nat) : Nat := (8 * c + a / 65536 % 8) * 65536 + a % 65536
/-- Fabric address of word `i` of a port buffer: the half the fabric sees (R44, R208). -/
def bufAddr (b : PortBind) (base i : Nat) : Nat := clAddr b.cl (base + i)
/-- A buffer of the prefix exists (R208). -/
def bufHas (base : Nat) : Bool := base != 0xFFFFFFFF

/-- The output channels whose buffer words, in either half, lie in one of the cisterns `ws` of cluster `c`: port code, channel. -/
def outChannels (s : State) (c : Nat) (ws : List Nat) : List (Nat × Nat) :=
  s.port.live.flatMap (fun e =>
    if e.2.en && e.2.cl == c && bufHas e.2.bufout then
      ((List.range e.2.nch).filter (fun i =>
        ws.contains ((e.2.bufout + i) / 65536 % 8) || ws.contains ((e.2.bufout + e.2.nch + i) / 65536 % 8))).map (fun i => (e.1, i))
    else [])
/-- Cisterns of its cluster that access declarations write (R202). -/
def declWrites (ds : List Nat) : List Nat := (ds.filterMap (fun d => if nbit d 3 then some (d % 8) else none)).eraseDups

end Sys2Proof.Machine
end

