-- ==== Sys2Proof/Machine/Crc.lean ====
section
/-! DEFINITION. The CRC units (ch. 19). -/

namespace Sys2Proof.Machine

def crcA (u : Nat) : Nat := 0x420000 + 0x40 * u
def crcOf (s : State) (u : Nat) : CrcUnit := mget {} s.crc u
def setCrc (s : State) (u : Nat) (c : CrcUnit) : State := { s with crc := mset {} s.crc u c }
/-- The parameter lock is open (R399). -/
def crcOpen (s : State) : Bool := rbit s 0x420400 2

/-- One input bit enters a CRC register of `w` bits (R398). -/
def crcBit (w poly acc : Nat) (b : Bool) : Nat :=
  let top := nbit acc (w - 1) != b
  let r := acc * 2 % 2 ^ w
  if top then r ^^^ (poly % 2 ^ w) else r

/-- One byte enters, MSB first, or LSB first with REFIN (R398). -/
def crcByte (c : CrcUnit) (b : Byte) : CrcUnit :=
  let bits := (List.range 8).map (fun i => b.getLsbD (if c.refin then i else 7 - i))
  { c with acc := bits.foldl (crcBit c.width c.poly) c.acc }

/-- The `n` low bits of a number in reverse order. -/
def crcReflect (n v : Nat) : Nat :=
  match n with
  | 0 => 0
  | n + 1 => v % 2 * 2 ^ n + crcReflect n (v / 2)

/-- The result of a computation (R398). -/
def crcResult (c : CrcUnit) : Nat :=
  ((if c.refout then crcReflect c.width c.acc else c.acc) ^^^ c.xorout) % 2 ^ c.width

/-- Width, polynomial, initial value, REFIN = REFOUT, XOROUT of the fixed set (R398); none: not a fixed code. -/
def crcFixed (sel : Nat) : Option (Nat × Nat × Nat × Bool × Nat) :=
  match sel with
  | 0 => some (8, 0x1D, 0xFF, true, 0)
  | 1 => some (16, 0x1021, 0xFFFF, false, 0)
  | 2 => some (32, 0x04C11DB7, 0xFFFFFFFF, true, 0xFFFFFFFF)
  | 3 => some (32, 0x1EDC6F41, 0xFFFFFFFF, true, 0xFFFFFFFF)
  | 4 => some (64, 0x42F0E1EBA9EA3693, 0, false, 0)
  | _ => none

/-- CRC_CTL.START (R400). -/
def crcStart (s : State) (u : Nat) : State :=
  let a := crcA u
  let p := rget s (a + 0x24)
  let c : CrcUnit := match crcFixed (rfld s a 26 3) with
    | some (w, poly, init, rf, x) => { open_ := true, width := w, poly := poly, acc := init, refin := rf, refout := rf, xorout := x }
    | none =>
      let w := fld p 0 6 + 1
      { open_ := true, width := w, poly := (rget64 s (a + 0x28)).toNat % 2 ^ w, acc := (rget64 s (a + 0x30)).toNat % 2 ^ w,
        refin := bitOf p 8, refout := bitOf p 9, xorout := (rget64 s (a + 0x38)).toNat % 2 ^ w }
  rput (rset (rput (setCrc s u c) (a + 4) 30 2 2) (a + 0xC) 0) (a + 4) 22 4 0

/-- LEVEL follows the queue. -/
def crcLevel (s : State) (u : Nat) : State := rput s (crcA u + 4) 22 4 (crcOf s u).queue.length

/-- The computation's last byte has been consumed when CNT reaches LEN, or when every entry queued before a FIN is consumed; entries
queued behind it (`later`) are data with no computation open (R400, R403). -/
def crcCheckEnd (s : State) (u : Nat) (later : Bool) : State :=
  let c := crcOf s u
  let len := rget s (crcA u + 8)
  if c.open_ ∧ ((len ≠ 0 ∧ (rget s (crcA u + 0xC)).toNat ≥ len.toNat) ∨ c.fin = some 0) then
    let s := setCrc s u { c with ended := true, queue := [] }
    if later then rsetBit s (crcA u + 4) 1 else s
  else s

/-- The unit consumes up to `n` queued bytes, in entry order (R401). -/
def crcEat (n : Nat) (s : State) (u : Nat) : State :=
  match n with
  | 0 => s
  | n + 1 =>
    let c := crcOf s u
    if c.ended then s else
    match c.queue with
    | (b :: r) :: q =>
      let c := if r.isEmpty then { c with queue := q, fin := c.fin.map (· - 1) } else { c with queue := r :: q }
      let s := setCrc s u (crcByte c b)
      let s := rset s (crcA u + 0xC) (rget s (crcA u + 0xC) + 1)
      crcEat n (crcLevel (crcCheckEnd s u (!q.isEmpty)) u) u
    | [] :: q => crcEat n (crcLevel (crcCheckEnd (setCrc s u { c with queue := q, fin := c.fin.map (· - 1) }) u (!q.isEmpty)) u) u
    | [] => s

/-- A computation is open and takes data. -/
def crcTakes (s : State) (u : Nat) : Bool := (crcOf s u).open_ && !(crcOf s u).ended

/-- One entry joins the queue. -/
def crcPush (s : State) (u : Nat) (bs : List Byte) : State :=
  let c := crcOf s u
  crcLevel (setCrc s u { c with queue := c.queue ++ [bs] }) u

/-- A write of a DIN register (R400, R401, R402). -/
def crcDin (s : State) (u : Nat) (bs : List Byte) : State :=
  let a := crcA u
  if rbit s a 29 then rsetBit s (a + 4) 2
  else if !crcTakes s u then rsetBit s (a + 4) 1
  else if (crcOf s u).queue.length ≥ 8 then rsetBit s (a + 4) 0
  else crcPush s u bs

/-- A write of a word to the feed window: it waits until an entry frees (R402). -/
def crcFeed (s : State) (u : Nat) (w : Word) : TRes :=
  let a := crcA u
  if !rbit s a 29 then { st := s, err := true }
  else
    let s := if (crcOf s u).queue.length ≥ 8 then crcEat ((crcOf s u).queue.headD []).length s u else s
    if !crcTakes s u then { st := rsetBit s (a + 4) 1, err := true }
    else { st := crcPush s u (leBytes 9 w.toNat) }

/-- CRC_CTL.FIN (R403). -/
def crcFin (s : State) (u : Nat) : State :=
  let c := crcOf s u
  if crcTakes s u then crcCheckEnd (setCrc s u { c with fin := some (c.fin.getD c.queue.length) }) u (!c.queue.isEmpty) else s

/-- The last byte is consumed: DONE, the result, the event (R403). -/
def crcDone (s : State) (u : Nat) : State :=
  let n := (crcOf s u).queue.foldl (fun a e => a + e.length + 1) 0
  let s := crcEat n s u
  let s := crcCheckEnd s u (!(crcOf s u).queue.isEmpty)
  let c := crcOf s u
  if !c.open_ ∨ !c.ended then s else
  let a := crcA u
  let s := rset64 s (a + 0x1C) (BitVec.ofNat 64 (crcResult c))
  let s := crcLevel (rput (setCrc s u { c with open_ := false, fin := none, queue := [] }) (a + 4) 30 2 1) u
  if rbit s a 25 then evRaise s (165 + u) else s

/-- A write of SEL: a reserved value, or custom with the lock closed, leaves it unchanged (R398, R399). -/
def crcSel (s : State) (u sel : Nat) : State :=
  if sel ≤ 4 ∨ (sel = 7 ∧ crcOpen s) then rput s (crcA u) 26 3 sel else s

/-- A write of CRC_CTL (R404). -/
def crcCtlWrite (s : State) (u : Nat) (v : W32) : State :=
  let a := crcA u
  let s := crcSel (rputBit (rputBit s a 29 (bitOf v 29)) a 25 (bitOf v 25)) u (fld v 26 3)
  let s := if bitOf v 31 then crcStart s u else s
  if bitOf v 30 then crcFin s u else s

/-- Firmware sets CRC_MODE.STATE; closing the lock abandons custom computations (R399). -/
def crcMode (s : State) (m : Nat) : State :=
  let was := crcOpen s
  let s := rset s 0x420400 (BitVec.ofNat 32 (m + (if m = 1 then 0 else 4)))
  if was ∧ m = 1 then
    forN 8 s (fun s u =>
      if rfld s (crcA u) 26 3 = 7 then
        let s := if (crcOf s u).open_ then rput (rsetBit (setCrc s u {}) (crcA u + 4) 3) (crcA u + 4) 31 1 0
          else rsetBit s (crcA u + 4) 3
        crcLevel (rput s (crcA u) 26 3 3) u
      else s)
  else s

/-- CRC_START (R400); `ate`: bytes the unit has consumed since the last command to it (R401). -/
def execCrcStart (u : Fin 8) (ate : Nat) (st : State) : Res := .next (crcStart (crcEat ate st u.val) u.val)
/-- CRC_FIN (R403). -/
def execCrcFin (u : Fin 8) (ate : Nat) (st : State) : Res := .next (crcFin (crcEat ate st u.val) u.val)
/-- CRC_DIN8 (R401). -/
def execCrcDin8 (u : Fin 8) (ate : Nat) (d : BitVec 8) (st : State) : Res :=
  .next (crcDin (crcEat ate st u.val) u.val (leBytes 1 d.toNat))
/-- CRC_DIN16 (R401). -/
def execCrcDin16 (u : Fin 8) (ate : Nat) (d : BitVec 16) (st : State) : Res :=
  .next (crcDin (crcEat ate st u.val) u.val (leBytes 2 d.toNat))
/-- CRC_DIN32 (R401). -/
def execCrcDin32 (u : Fin 8) (ate : Nat) (d : W32) (st : State) : Res :=
  .next (crcDin (crcEat ate st u.val) u.val (leBytes 4 d.toNat))
/-- CRC_FEED_WRITE (R402). -/
def execCrcFeedWrite (u : Fin 8) (ate : Nat) (w : Word) (st : State) : Res :=
  .next (crcFeed (crcEat ate st u.val) u.val w).st
/-- CRC_DONE (R403). -/
def execCrcDone (u : Fin 8) (st : State) : Res := .next (crcDone st u.val)

end Sys2Proof.Machine
end

