-- ==== Sys2Proof/Machine/Host.lean ====
section
/-! DEFINITION. The host side's shared operations (R284–R301): outstanding handles, completions, rings, sleep, network
sessions. -/

namespace Sys2Proof.Machine

/-- Handles of an agent that are outstanding (R287). -/
def outstanding (s : State) (a : Nat) : List Nat :=
  (s.host.ops.filterMap (fun o => if o.agent = a ∧ !o.lost then some o.handle else none))
    ++ s.host.fin.filterMap (fun c => if c.agent = a then some c.handle else none)

/-- The handle slot of the next command: the lowest free one (R287). -/
def freeSlot (s : State) (a : Nat) : Nat :=
  let used := (outstanding s a).map (· % 256)
  ((List.range 256).find? (fun k => !used.contains k)).getD 0

/-- A generation after the last one of a slot: 255 is followed by 1 (R287). -/
def nextGen (g : Nat) : Nat := if g ≥ 255 then 1 else g + 1

/-- A command that has not ended, by opcode and handle: one whose agent has gone DOWN runs to its end too (R285). -/
def opOf (s : State) (a h opc : Nat) : Option CmdOp :=
  s.host.ops.find? (fun o => o.agent == a && o.handle == h && o.opc == opc)
/-- The first outstanding command that satisfies `f`. -/
def opFind (s : State) (f : CmdOp → Bool) : Option CmdOp := s.host.ops.find? f
/-- Replace an outstanding command; a handle of a command whose agent has gone DOWN may be in use anew. -/
def opUpdate (s : State) (o : CmdOp) : State :=
  { s with host := { s.host with ops := s.host.ops.map (fun x => if x.agent = o.agent ∧ x.handle = o.handle ∧ x.lost = o.lost then o else x) } }
/-- Mark an outstanding command as begun. -/
def opStart (s : State) (o : CmdOp) : State := opUpdate s { o with started := true }

/-- HST_WAKE.SRC for an agent that holds completions asleep; WAKE_N, PM_PME or WAKE (R294, R299). -/
def wakeSrc (s : State) (a : Nat) : State :=
  let s := rsetBit { s with host := { s.host with wakeDue := mset false s.host.wakeDue a false } } 0x308008 a
  callAgent (evHold s) a

/-- Moderation TIMER of an agent in µs: values above 1,000 act as 1,000 (R293, R304). -/
def modTimer (s : State) (a : Nat) : Nat :=
  if a < 4 then min 1000 (rfld s (pageA a + 0x3C) 0 10) else (nsOf s a).timer
/-- Moderation COUNT: 0 acts as 1 (R293). -/
def modCount (s : State) (a : Nat) : Nat :=
  max 1 (if a < 4 then rfld s (pageA a + 0x3C) 16 8 else (nsOf s a).count)

/-- The latency of a finished command goes to the histogram engines that select its agent (R393). It is a time in µs: the state holds the
base ticks between, each 19 to 24 µs long, and the value is free within them (DESIGN CHOICE, log entry 80). -/
def histCommand (s : State) (o : CmdOp) : State :=
  if (histTakers s 3 o.agent).isEmpty then s else
  let d := s.btc.toNat - o.at_
  let lo := 19 * (d - 1)
  histSample (drawn s) 3 o.agent ((lo + Config.freeNat s.freeCtr % (24 * (d + 1) - lo + 1) : Nat) : Int)
/-- An operation finishes: its completion joins the finished ones, or is discarded when its agent has gone DOWN (R285, R290,
R294). -/
def opEnd (s : State) (o : CmdOp) (status detail : Nat) (result : List Byte) : State :=
  let h := s.host
  let s := { s with host := { h with ops := h.ops.filter (fun x => !(x.agent == o.agent && x.handle == o.handle && x.lost == o.lost)) } }
  if o.lost then s else
  let s := histCommand s o
  let s := { s with host := { s.host with fin := s.host.fin ++
    [{ agent := o.agent, handle := o.handle, opc := o.opc, tag := o.tag, status := status, detail := detail, result := slice result 0 20 }] } }
  if agSt s o.agent = 2 ∧ rbit s 0x308008 o.agent = false then
    if modTimer s o.agent = 0 then wakeSrc s o.agent
    else { s with host := { s.host with wakeDue := mset false s.host.wakeDue o.agent true } }
  else s

/-- A 32-byte completion entry with its PH byte (R289). -/
def complBytes (c : Compl) (ph : Bool) : List Byte :=
  leBytes 2 c.handle ++ leBytes 1 c.opc ++ [if ph then 0x80 else 0] ++ leBytes 4 c.tag ++ leBytes 2 c.status ++ leBytes 2 c.detail
    ++ slice c.result 0 20

/-- Drop the first finished completion of an agent. -/
def finDrop (a : Nat) (l : List Compl) : List Compl :=
  match l with
  | [] => []
  | c :: r => if c.agent = a then r else c :: finDrop a r

/-- The completion vector fires: both counts restart (R293). -/
def complFire (s : State) (a : Nat) : State :=
  msixSend { s with host := { s.host with unsig := mset 0 s.host.unsig a 0 } } (16 * a)

/-- Entries the completion ring of a PCIe agent holds. -/
def ringHeld (s : State) (a : Nat) : Nat :=
  let q := 2 ^ rfld s (pageA a + 0x30) 0 4
  (rfld s (pageA a + 0x38) 0 12 + q - rfld s (pageA a + 0x34) 0 12 % q) % q

/-- Write the first finished completion of a PCIe agent to its ring: bytes 4–31 first, then bytes 0–3 (R289, R290, R293). -/
def complWrite (s : State) (a : Nat) : State :=
  let st := agSt s a
  let q := rfld s (pageA a + 0x30) 0 4
  if (st ≠ 1 ∧ st ≠ 3) ∨ ringHeld s a ≥ 2 ^ q - 1 then s else
  match s.host.fin.find? (fun c => c.agent == a) with
  | none => s
  | some c =>
    let t := rfld s (pageA a + 0x38) 0 12
    let ph := rbit s (pageA a + 0x38) 31
    let addr := (rget64 s (pageA a + 0x28)).toNat + 32 * t
    let b := complBytes c ph
    let s := emitAll s [.hostWrite (addr + 4) (b.drop 4), .hostWrite addr (b.take 4)]
    let t' := (t + 1) % 2 ^ q
    let s := rputBit (rput s (pageA a + 0x38) 0 12 t') (pageA a + 0x38) 31 (if t' = 0 then !ph else ph)
    let n := mget 0 s.host.unsig a + 1
    let s := { s with host := { s.host with fin := finDrop a s.host.fin, unsig := mset 0 s.host.unsig a n } }
    if st = 1 ∧ (n ≥ modCount s a ∨ modTimer s a = 0) then complFire s a else s

/-- One COMPL datagram of completions with their CSEQ (R298). -/
def complDatagram (s : State) (a : Nat) (cs : List (Nat × Compl)) : State :=
  nsSend s a 0x03 (cs.flatMap (fun c => leBytes 4 c.1 ++ complBytes c.2 false))

/-- COMPL datagrams of 35 completions each (R299). -/
def complDatagrams (n : Nat) (s : State) (a : Nat) (cs : List (Nat × Compl)) : State :=
  match n with
  | 0 => s
  | n + 1 => if cs.isEmpty then s else complDatagrams n (complDatagram s a (cs.take 35)) a (cs.drop 35)

/-- Release a batch of up to `n` finished completions of a network agent within its credit window (R299). -/
def complRelease (s : State) (a n : Nat) : State :=
  let ns := nsOf s a
  let room := ns.credited + ns.window - ns.cseq
  let cs := (s.host.fin.filter (fun c => c.agent == a)).take (min n room)
  let num := (List.range cs.length).zipWith (fun i c => (ns.cseq + 1 + i, c)) cs
  let s := { s with host := { s.host with fin := (List.range cs.length).foldl (fun l _ => finDrop a l) s.host.fin } }
  let s := setNs s a { ns with cseq := ns.cseq + cs.length, sent := ns.sent ++ num }
  complDatagrams 16 s a num

/-- Finished completions are written or sent where the rules allow it now (R290, R299). -/
def complGo (s : State) (a : Nat) : State :=
  if a < 4 then complWrite s a else
  let n := (s.host.fin.filter (fun c => c.agent == a)).length
  if agSt s a ≠ 1 ∨ n = 0 then s
  else if modTimer s a = 0 then complRelease s a n
  else if n ≥ modCount s a then complRelease s a (modCount s a) else s

/-- TIMER after the first unsignalled completion (R293, R299). -/
def modFire (s : State) (a : Nat) : State :=
  if a < 4 then (if agSt s a = 1 ∧ mget 0 s.host.unsig a > 0 then complFire s a else s)
  else if agSt s a = 1 then complRelease s a (modCount s a) else s

/-- Put an agent in a state; network agents in HST_NS.AGST. -/
def setAgSt (s : State) (a v : Nat) : State := if a < 4 then rput s (pageA a) 0 2 v else rput s (nsA a) 28 2 v

/-- An agent enters DOWN: its completions are discarded, those sent and not credited among them, its events in service end (R285,
R314). -/
def agentDown (s : State) (a : Nat) : State :=
  let s := setAgSt s a 0
  let s := if a < 4 then rputBit s (pageA a) 2 false else s
  let h := s.host
  let s := { s with host := { h with ops := h.ops.map (fun o => if o.agent = a then { o with lost := true } else o),
                                     fin := h.fin.filter (fun c => c.agent != a),
                                     unsig := mset 0 h.unsig a 0, wakeDue := mset false h.wakeDue a false } }
  let s := if a < 4 then s else setNs s a { nsOf s a with sent := [], evtDue := false }
  evAgentDown (rputBit s 0x308008 a false) a

/-- A ring's size and base are valid (R285, R304). -/
def ringOk (s : State) (base size align : Nat) : Bool :=
  let k := rfld s size 0 4
  decide (4 ≤ k) && decide (k ≤ 12) && rfld s base 0 align == 0

/-- A write of AWAKE by a PCIe agent (R285, R294). -/
def agentAwake (s : State) (a : Nat) : State :=
  let p := pageA a
  match agSt s a with
  | 0 =>
    if ringOk s (p + 0x10) (p + 0x18) 6 && ringOk s (p + 0x28) (p + 0x30) 5 then
      let s := rput (rput (rput (rput s (p + 0x1C) 0 12 0) (p + 0x20) 0 12 0) (p + 0x34) 0 12 0) (p + 0x38) 0 12 0
      evSettle (setAgSt (rsetBit s (p + 0x38) 31) a 1)
    else rsetBit s (p + 8) 4
  | 2 =>
    let s := { s with host := { s.host with wakeDue := mset false s.host.wakeDue a false } }
    evSettle (setAgSt (rputBit (rputBit s p 2 false) 0x308008 a false) a 1)
  | _ => s

/-- An agent that falls asleep with completions still held (by a full ring, or the credit window): TIMER after, or at once where TIMER is
0, it is woken (R294 step 5). -/
def sleepHeld (s : State) (a : Nat) : State :=
  if !s.host.fin.any (fun c => c.agent == a) then s
  else if modTimer s a = 0 then wakeSrc s a
  else { s with host := { s.host with wakeDue := mset false s.host.wakeDue a true } }
/-- A write of SLEEP by a PCIe agent (R294 steps 1 to 3): what has finished before is written and signalled. -/
def agentSleep (s : State) (a : Nat) : State :=
  if agSt s a ≠ 1 then s else
  let s := forN (s.host.fin.filter (fun c => c.agent == a)).length s (fun s _ => complWrite s a)
  let s := if mget 0 s.host.unsig a > 0 then complFire s a else s
  let s := rsetBit (setAgSt s a 2) (pageA a) 2
  evSettle (sleepHeld s a)

/-- A write of HST_AG_CDB.TAIL (R286): the new entries are read in ring order. -/
def doorbell (s : State) (a tail : Nat) : State :=
  let p := pageA a
  if agSt s a ≠ 1 ∧ agSt s a ≠ 2 then s else
  let n := 2 ^ rfld s (p + 0x18) 0 4
  let head := rfld s (p + 0x20) 0 12
  let old := rfld s (p + 0x1C) 0 12
  if tail = head then s
  else if tail ≥ n ∨ (tail + n - head) % n < (old + n - head) % n then rsetBit s (p + 8) 1
  else
    let base := (rget64 s (p + 0x10)).toNat
    let cnt := (tail + n - old) % n
    emitAll (rput s (p + 0x1C) 0 12 tail) ((List.range cnt).map (fun i => .hostRead (base + 64 * ((old + i) % n)) 64))

/-- A failed entry read (R286, R292). -/
def fetchFailed (s : State) (a : Nat) : State :=
  if agSt s a ≠ 1 ∧ agSt s a ≠ 2 then s else
  if rfld s (pageA a + 0x1C) 0 12 = rfld s (pageA a + 0x20) 0 12 then s else
  let s := rsetBit (setAgSt s a 3) (pageA a + 8) 0
  evSettle (msixSend (rputBit s (pageA a) 2 false) (16 * a + 2))

/-- The acceptance record's 8 bytes (R284). -/
def accRecord (handle acode : Nat) : List Byte := leBytes 2 handle ++ leBytes 2 acode ++ [0, 0, 0, 0x80]

/-- An accepted entry takes a handle and becomes outstanding (R287). -/
def opAccept (s : State) (a : Nat) (e : List Byte) : Nat × State :=
  let slot := freeSlot s a
  let g := nextGen (mget 0 s.host.gens (a * 256 + slot))
  let h := g * 256 + slot
  let o : CmdOp := { agent := a, handle := h, opc := leAt e 0 1, flags := leAt e 1 1, arg := leAt e 2 2, tag := leAt e 4 4,
                     params := slice e 8 40, at_ := s.btc.toNat }
  (h, { s with host := { s.host with gens := mset 0 s.host.gens (a * 256 + slot) g, ops := s.host.ops ++ [o] } })

/-- Sessions: the datagram is dropped and counted (R297). -/
def nsDrop (s : State) (a : Nat) : State := rinc s (nsA a) 16 8

/-- The first `n` bits of two addresses agree. -/
def prefixEq (n : Nat) (x y : List Byte) : Bool := beAt x 0 16 / 2 ^ (128 - min n 128) == beAt y 0 16 / 2 ^ (128 - min n 128)

/-- The datagram passes R297's checks on a session. -/
def nsAdmit (s : State) (a : Nat) (p : Peer) (bytes : List Byte) : Bool :=
  let n := nsOf s a
  let len := leAt bytes 6 2
  decide (rfld s (nsA a) 30 2 ≠ 0)
    && nbit (rfld s (nsA a) 26 2) p.port && p.dst == rfld s (nsA a) 0 16
    && prefixEq n.prefixLen n.peer p.addr && (rfld s (nsA a) 30 2 == 1 || p.udp == rfld s (nsA a) 0 16)
    && slice bytes 0 3 == [0x57, 0x43, 0x01] && leAt bytes 4 1 == a && leAt bytes 5 1 == 0 && decide (len ≤ 1280)
    && bytes.length == 48 + len
    && hmacSha256 n.key (bytes.take (16 + len)) == bytes.drop (16 + len)
    && decide (leAt bytes 8 8 > n.rxSeq)

/-- A datagram of type `typ` reaches a session: its body, with the counter and the peer's address taken; none: dropped and
counted (R296, R297). -/
def nsReceive (s : State) (a typ : Nat) (p : Peer) (bytes : List Byte) : Option (List Byte) × State :=
  if !netUp s p.port then (none, s)
  else if nsAdmit s a p bytes ∧ leAt bytes 3 1 = typ then
    (some ((bytes.drop 16).take (leAt bytes 6 2)),
     setNs s a { nsOf s a with rxSeq := leAt bytes 8 8, peerAddr := p.addr, peerIf := p.port, peerUdp := p.udp })
  else if nsAdmit s a p bytes then (none, s)
  else (none, nsDrop s a)

/-- CREDIT (R299). -/
def nsCredit (s : State) (a : Nat) (body : List Byte) : State :=
  let n := nsOf s a
  let c := leAt body 0 4
  let w := leAt body 4 4
  if body.length ≠ 8 ∨ w < 1 ∨ w > 256 then s else
  let c := if c > n.cseq then n.credited else max c n.credited
  complGo (setNs s a { n with credited := c, window := w, sent := n.sent.filter (fun x => decide (x.1 > c)) }) a

/-- STATE: AWAKE or SLEEP of a network agent, answered by STATE_ACK (R299); before SLEEP what has finished is sent, within the credit
window. -/
def nsState (s : State) (a : Nat) (body : List Byte) : State :=
  let cur := agSt s a
  let v := leAt body 0 1
  let s := if body.length ≠ 1 then s
    else if v = 1 ∧ cur ≠ 1 then
      let s := { s with host := { s.host with wakeDue := mset false s.host.wakeDue a false } }
      evSettle (setAgSt (rputBit s 0x308008 a false) a 1)
    else if v = 2 ∧ cur = 1 then
      let s := complRelease s a (s.host.fin.filter (fun c => c.agent == a)).length
      evSettle (sleepHeld (setAgSt s a 2) a)
    else s
  nsSend s a 0x06 (leBytes 1 (agSt s a))

/-- COMMAND_DOORBELL (R286). -/
def execCommandDoorbell (a : Fin 4) (tail : BitVec 12) (st : State) : Res :=
  .next (if pageOpen st a.val then doorbell st a.val tail.toNat else st)
/-- COMMAND_FETCH_ERROR (R286). -/
def execCommandFetchError (a : Fin 4) (st : State) : Res := .next (fetchFailed st a.val)
/-- COMPLETION_WRITE (R289, R290). -/
def execCompletionWrite (a : Fin 8) (st : State) : Res := .next (complGo st a.val)
/-- HST_AG_QH.HEAD takes a value: freed space releases the held completions, in the order they finished (R290). -/
def headAdvance (s : State) (a head : Nat) : State :=
  forN (s.host.fin.filter (fun c => c.agent == a)).length (rput s (pageA a + 0x34) 0 12 head) (fun s _ => complWrite s a)
/-- A write of AWAKE: the held completions are written (R285, R294). -/
def agentWake (s : State) (a : Nat) : State :=
  let s := agentAwake s a
  forN (s.host.fin.filter (fun c => c.agent == a)).length s (fun s _ => complWrite s a)
/-- COMPLETION_HEAD_ADVANCE (R290). -/
def execCompletionHeadAdvance (a : Fin 4) (head : BitVec 12) (st : State) : Res :=
  .next (if pageOpen st a.val then headAdvance st a.val head.toNat else st)
/-- MODERATION_TIMER (R293). -/
def execModerationTimer (a : Fin 8) (st : State) : Res := .next (modFire st a.val)
/-- AGENT_AWAKE (R285). -/
def execAgentAwake (a : Fin 4) (st : State) : Res := .next (if pageOpen st a.val then agentWake st a.val else st)
/-- AGENT_SLEEP (R294). -/
def execAgentSleep (a : Fin 4) (st : State) : Res := .next (if pageOpen st a.val then agentSleep st a.val else st)
/-- AGENT_DOWN (R285). -/
def execAgentDown (a : Fin 4) (st : State) : Res := .next (if pageOpen st a.val then agentDown st a.val else st)
/-- SLEEP_WAKE_TIMER (R294 step 5). -/
def execSleepWakeTimer (a : Fin 8) (st : State) : Res :=
  .next (if agSt st a.val = 2 ∧ mget false st.host.wakeDue a.val = true then wakeSrc st a.val else st)
/-- CREDIT (R299). -/
def execCredit (n : Fin 4) (p : Peer) (bytes : List Byte) (st : State) : Res :=
  let r := nsReceive st (4 + n.val) 0x04 p bytes
  .next (match r.1 with | some b => nsCredit r.2 (4 + n.val) b | none => r.2)
/-- STATE (R299). -/
def execState (n : Fin 4) (p : Peer) (bytes : List Byte) (st : State) : Res :=
  let r := nsReceive st (4 + n.val) 0x05 p bytes
  .next (match r.1 with | some b => nsState r.2 (4 + n.val) b | none => r.2)
/-- COMPLETION_RESEND_TIMER (R299): a sent completion that is not credited is sent again. -/
def execCompletionResendTimer (n : Fin 4) (st : State) : Res :=
  .next (if (nsOf st (4 + n.val)).sent.isEmpty then st else complDatagrams 16 st (4 + n.val) (nsOf st (4 + n.val)).sent)
/-- A sleeping agent has been called: for a completion, or for a held event that names it (R299, R316). -/
def wakeCalled (s : State) (a : Nat) : Bool :=
  agSt s a == 2 && (rbit s 0x308008 a || (evPending s).any (fun n => evHeld s n && nbit (evMask s n) a))
/-- WAKE_REPEAT_TIMER (R299, R316). -/
def execWakeRepeatTimer (n : Fin 4) (st : State) : Res :=
  .next (if wakeCalled st (4 + n.val) then nsSend st (4 + n.val) 0x07 [] else st)
/-- EVENT_REPEAT_TIMER (R310): the EVENT datagram is repeated while an unclaimed event is claimable. -/
def execEventRepeatTimer (n : Fin 4) (st : State) : Res :=
  .next (if (evPending st).any (evClaimable st (4 + n.val)) then evtSend st (4 + n.val) else st)

end Sys2Proof.Machine
end

