-- ==== Sys2Proof/Machine/CellWord.lean ====
section
/-! DEFINITION. The instruction word (R79–R94): its decoding into operations, what each operation reads and writes (R55, R100),
the encodings that are illegal (R106), and the issue of one operation (R80, R107). -/

namespace Sys2Proof.Machine

/-- `a` if the condition holds. -/
def guardOp (b : Bool) (a : CellOp) : Option CellOp := if b then some a else none

/-- The MAC field (R81, R82). -/
def decodeMac (m : Nat) : Option CellOp :=
  let op := nbits m 16 2
  if op = 0 then guardOp (m % 65536 == 0) .nop
  else guardOp (decide (nbits m 13 3 ≤ 5))
    (.mac op (nbits m 13 3) (nbits m 11 2) (nbits m 6 5) (nbit m 5) (nbits m 0 5))

/-- A class-0 move (R84); `x`: the extension word. -/
def decodeMove (slot0 : Bool) (v x : Nat) : Option CellOp :=
  let mop := nbits v 14 5
  let d := nbits v 9 5
  let ld := fun (mem part : Nat) => guardOp (decide (nbits v 2 3 ≤ 5) && nbits v 0 2 == 0) (.load mem part d (nbits v 5 4) (nbits v 2 3))
  match mop with
  | 0x00 => guardOp (nbits v 0 14 == 0) .nop
  | 0x01 => ld 0 0
  | 0x02 => ld 0 1
  | 0x03 => ld 0 2
  | 0x04 => ld 1 0
  | 0x05 => ld 1 1
  | 0x06 => ld 1 2
  | 0x07 => ld 2 0
  | 0x08 => ld 2 1
  | 0x09 => ld 2 2
  | 0x0A => guardOp (nbits v 0 4 == 0) (.mov d (nbits v 4 5))
  | 0x0B => guardOp (nbits v 0 4 == 0) (.swaph d (nbits v 4 5))
  | 0x0C => some (.cmp d (nbits v 4 5) (nbits v 2 2) (nbits v 0 2))
  | 0x0D => guardOp (nbits v 0 2 == 0) (.cmov d (nbits v 4 5) (nbits v 2 2) true)
  | 0x0E => guardOp (nbits v 0 2 == 0) (.cmov d (nbits v 4 5) (nbits v 2 2) false)
  | 0x0F =>
    let sh := BitVec.ofNat 7 (nbits v 2 7)
    guardOp (shfValue (nbits v 0 2) sh.toInt false 0).isSome (.shf d sh (nbits v 0 2))
  | 0x10 => guardOp (nbits v 0 12 == 0) (.clra (nbits v 12 2))
  | 0x11 => guardOp (nbits v 0 7 == 0) (.mva (nbits v 12 2) (nbits v 7 5))
  | 0x12 => guardOp (nbits v 0 7 == 0) (.mvah (nbits v 12 2) (nbits v 7 5))
  | 0x13 => guardOp (nbits v 0 7 == 0) (.mval (nbits v 12 2) (nbits v 7 5))
  | 0x14 => guardOp (nbits v 0 1 == 0) (.xrd d (nbits v 1 8))
  | 0x15 => guardOp (nbits v 0 4 == 0) (.xra (nbits v 12 2) (nbits v 4 8))
  | 0x16 => guardOp (nbits v 0 4 == 0) (.xred (nbits v 12 2) (nbits v 4 8))
  | 0x17 =>
    let cls := nbits v 10 3
    let idx := nbits v 6 4
    guardOp (nbits v 0 1 == 0 && (movsDst false cls idx).isSome) (.movs (nbit v 13) cls idx (nbits v 1 5))
  | 0x18 =>
    let cls := nbits v 12 2
    guardOp (slot0 && decide (cls ≤ 2) && nbits v 0 8 == 0 && (decide (cls ≠ 2) || decide (x < 64)))
      (.setp cls (nbits v 8 4) (BitVec.ofNat 20 x))
  | 0x19 => some (.padd (nbits v 10 4) (BitVec.ofNat 10 (nbits v 0 10)))
  | 0x1A =>
    let am := nbits v 7 3
    guardOp (nbits v 0 7 == 0 && (am == 1 || am == 3 || am == 4)) (.pmod (nbits v 10 4) am)
  | 0x1B => guardOp (nbits v 0 10 == 0) (.ldpt (nbits v 10 4))
  | 0x1C => guardOp (nbits v 0 10 == 0) (.stpt (nbits v 10 4))
  | _ => none

/-- A store's fields are legal together (R90–R93, R106): `o` its destination operand, `x` its extension word, 0 without one. -/
def storeLegal (dst fmt src o x : Nat) : Bool :=
  let srcOk := decide (src < 32) || (decide (src < 48) && (decide (44 ≤ src) == decide (fmt = 3)))
  let dopOk := match dst with
    | 2 => fmt == 0 || fmt == 3
    | 3 => nbits o 1 2 == 0
    | _ => decide (nbits o 2 3 ≤ 5)
  let dith := decide (nbits x 10 3 ≥ 4)
  srcOk && dopOk && nbits x 0 9 == 0 && (!nbit x 9 || dst == 2) && (!dith || (dst == 1 && fmt == 0))

/-- A class-1 move (R90–R93). -/
def decodeStore (slot0 : Bool) (v x : Nat) : Option CellOp :=
  let dst := nbits v 17 2
  let fmt := nbits v 15 2
  let src := nbits v 9 6
  let ext := nbit v 0
  guardOp (storeLegal dst fmt src (nbits v 0 9) (if ext then x else 0) && (!ext || slot0))
    (.store dst fmt src (BitVec.ofNat 9 (nbits v 0 9)) (if ext then some (BitVec.ofNat 20 x) else none))

/-- A move slot. -/
def decodeSlot (slot0 : Bool) (v x : Nat) : Option CellOp :=
  if nbit v 19 then decodeStore slot0 v x else decodeMove slot0 v x

/-- The control field (R94); `x`: the extension word. -/
def decodeCtl (t x : Nat) : Option CellOp :=
  let o := nbits t 0 9
  let off := BitVec.ofNat 9 o
  match nbits t 9 5 with
  | 0x00 => guardOp (o == 0) .nop
  | 0x01 => guardOp (o == 0) .end_
  | 0x02 => guardOp (nbits x 16 2 == 0) (.rep (nbits x 18 2) o (BitVec.ofNat 16 x))
  | 0x03 => guardOp (o == 0) .bxclr
  | 0x04 => guardOp (!nbit o 8 && !nbit o 3) (.stset (BitVec.ofNat 8 o))
  | 0x05 => guardOp (!nbit o 8 && !nbit o 3) (.stclr (BitVec.ofNat 8 o))
  | 0x06 => guardOp (o == 0) .bwait
  | 0x07 => guardOp (o == 0) .yend
  | 0x08 => some (.br off)
  | 0x09 => some (.brt 0 off)
  | 0x0A => some (.brt 1 off)
  | 0x0B => some (.brt 2 off)
  | 0x0C => some (.brt 3 off)
  | 0x0D => some (.brf 0 off)
  | 0x0E => some (.brf 1 off)
  | 0x0F => some (.brf 2 off)
  | 0x10 => some (.brf 3 off)
  | 0x11 => guardOp (o == 0 && nbits x 11 9 == 0) (.jmp (BitVec.ofNat 11 x))
  | 0x12 => guardOp (nbits o 0 5 == 0) (.jmpp (nbits o 5 4))
  | _ => none

/-- MV0 takes the extension word: a store with EXT = 1, or SETP (R93). -/
def mv0Ext (v : Nat) : Bool := if nbit v 19 then nbit v 0 else nbits v 14 5 == 0x18
/-- CTL takes the extension word: REP or JMP (R93). -/
def ctlExt (t : Nat) : Bool := nbits t 9 5 == 0x02 || nbits t 9 5 == 0x11

/-- The operations of an instruction word, MAC, MV0, MV1, CTL; none where an encoding of a field, or the use of the extension
word, is illegal (R79, R93, R106). -/
def decodeWord (w : Word) : Option (List CellOp) :=
  let n := w.toNat
  let v0 := nbits n 34 20
  let v1 := nbits n 14 20
  let t := nbits n 0 14
  let e0 := mv0Ext v0
  let e1 := ctlExt t
  if e0 && e1 then none else
  match decodeMac (nbits n 54 18), decodeSlot true v0 v1, (if e0 || e1 then some .nop else decodeSlot false v1 0), decodeCtl t v1 with
  | some a, some b, some c, some d => some [a, b, c, d]
  | _, _, _, _ => none

/-- A part of a register: register code, and the mask of its separately written parts (R55, R76). Codes: D 0+n (bit 0 high
half, bit 1 low), A 32+n (likewise), P 36+n, I 52+n, Z 68+n, LP 84+n, BX 88, ST 89 (bits SAT, AOV, RND, CF0–CF3 at 0, 1, 2,
4–7). -/
structure Part where
  reg : Nat
  mask : Nat
  deriving DecidableEq, Repr

/-- Latency classes of a written part: to accumulating MACs, to every other reader (R100). -/
structure Write where
  part : Part
  latF : Nat
  lat : Nat
  deriving DecidableEq, Repr

def wr (reg mask lat : Nat) : Write := ⟨⟨reg, mask⟩, lat, lat⟩

/-- Pointer update of an addressing mode. -/
def amWrites (am p : Nat) : List Write := if 1 ≤ am ∧ am ≤ 4 then [wr (36 + p) 1 1] else []
/-- What an addressing mode reads: Pn, Zn where the pointer is updated, In where the increment is. -/
def amReads (am p : Nat) : List Part :=
  ⟨36 + p, 1⟩ :: (if am = 0 then [] else ⟨68 + p, 1⟩ :: (if am = 3 ∨ am = 4 then [] else [⟨52 + p, 1⟩]))

/-- Register code and mask of a MOVS register. -/
def movsPart (cls idx : Nat) : Part :=
  match cls with
  | 0 => ⟨36 + idx, 1⟩
  | 1 => ⟨52 + idx, 1⟩
  | 2 => ⟨68 + idx, 1⟩
  | 3 => ⟨84 + idx, 1⟩
  | 4 => ⟨88, 1⟩
  | _ => ⟨89, 0xF7⟩

/-- The register parts an operation writes, with their latencies (R100); not BX by a tracked store, nor the sticky bits. -/
def opWrites (op : CellOp) : List Write :=
  match op with
  | .mac _ _ an _ ysrc yop => ⟨⟨32 + an, 3⟩, 1, 4⟩ :: (if ysrc ∧ yop % 2 = 1 then [wr (36 + yop / 2) 1 1] else [])
  | .load mem _ d p am => wr d 3 (if mem = 2 then 5 else 3) :: amWrites am p
  | .mov d _ | .swaph d _ | .cmov d _ _ _ | .xrd d _ => [wr d 3 1]
  | .cmp _ _ _ k => [wr 89 (2 ^ (4 + k)) 2]
  | .shf d _ _ => [wr d 3 2]
  | .clra a | .mva a _ | .xra a _ => [wr (32 + a) 3 2]
  | .mvah a _ => [wr (32 + a) 1 2]
  | .mval a _ => [wr (32 + a) 2 2]
  | .movs w cls idx n => if w then [⟨movsPart cls idx, 2, 2⟩] else [wr n 3 1]
  | .setp cls n _ => [⟨movsPart cls n, 2, 2⟩]
  | .padd p _ => [wr (36 + p) 1 1]
  | .pmod p am => amWrites am p
  | .ldpt n => [wr (36 + n) 1 3, wr (52 + n) 1 3, wr (68 + n) 1 3]
  | .store 3 fmt _ dop _ => [wr (nbits dop.toNat 4 5) (if fmt = 1 then 1 else if fmt = 2 then 2 else 3) 3]
  | .store 2 .. => []
  | .store _ _ _ dop _ => amWrites (nbits dop.toNat 2 3) (nbits dop.toNat 5 4)
  | .rep lp _ _ => [wr (84 + lp) 1 1]
  | .bxclr => [wr 88 1 1]
  | .stset m | .stclr m => [wr 89 (m.toNat % 256) 1]
  | _ => []

/-- A store carries the track flag (R90, R93). -/
def storeTracked (dst : Nat) (dop : BitVec 9) (ext : Option (BitVec 20)) : Bool :=
  match dst with
  | 2 => nbit (ext.getD 0).toNat 9
  | 3 => nbit dop.toNat 3
  | _ => nbit dop.toNat 1

/-- The register parts an operation reads (R55): the second list is read by accumulating MACs (R100). -/
def opReads (op : CellOp) : List Part × List Part :=
  let d := fun (n : Nat) => (⟨n, 3⟩ : Part)
  match op with
  | .mac op mode an xr ysrc yop =>
    let y := if mode = 1 then ⟨yop, 1⟩ else if mode = 2 then ⟨yop, 2⟩ else d yop
    let ys := if ysrc then amReads (if yop % 2 = 1 then 1 else 0) (yop / 2) else [y]
    (d xr :: ys, if op = 1 then [] else [⟨32 + an, 3⟩])
  | .load _ _ _ p am => (amReads am p, [])
  | .mov _ n | .swaph _ n | .mva _ n | .mvah _ n | .mval _ n => ([d n], [])
  | .cmp n m _ _ => ([d n, d m], [])
  | .cmov _ n k _ => ([d n, ⟨89, 2 ^ (4 + k)⟩], [])
  | .shf x _ fn => (d x :: (if fn ≤ 1 then [⟨89, 4⟩] else []), [])
  | .xred a _ => ([⟨32 + a, 3⟩], [])
  | .movs w cls idx n => ([if w then d n else movsPart cls idx], [])
  | .padd p _ => ([⟨36 + p, 1⟩, ⟨68 + p, 1⟩], [])
  | .pmod p am => (amReads am p, [])
  | .stpt n => ([⟨36 + n, 1⟩, ⟨52 + n, 1⟩, ⟨68 + n, 1⟩], [])
  | .store dst _ src dop ext =>
    let s := if src < 32 then d src else
      ⟨32 + src % 4, if src < 36 then 3 else if src < 40 then 1 else if src < 44 then 2 else 3⟩
    let a := if dst ≤ 1 then amReads (nbits dop.toNat 2 3) (nbits dop.toNat 5 4) else []
    (s :: ⟨89, 4⟩ :: a ++ (if storeTracked dst dop ext then [⟨88, 1⟩] else []), [])
  | .brt k _ | .brf k _ => ([⟨89, 2 ^ (4 + k)⟩], [])
  | .jmpp p => ([⟨36 + p, 1⟩], [])
  | _ => ([], [])

/-- Two operations write overlapping bits of one register. -/
def overlap (a b : CellOp) : Bool :=
  (opWrites a).any (fun x => (opWrites b).any (fun y => x.part.reg == y.part.reg && (x.part.mask &&& y.part.mask) != 0))
/-- Among the operations of an instruction, two write overlapping bits of one register (R106). -/
def writesOverlap (ops : List CellOp) : Bool :=
  match ops with
  | [] => false
  | a :: r => r.any (overlap a) || writesOverlap r

/-- Coefficient reads, cistern accesses and state accesses of an operation (R70). -/
def opPorts (op : CellOp) : Nat × Nat × Nat :=
  match op with
  | .mac _ _ _ _ true _ => (1, 0, 0)
  | .load 0 .. => (0, 0, 1)
  | .load 1 .. => (1, 0, 0)
  | .load .. => (0, 1, 0)
  | .ldpt _ | .stpt _ => (0, 0, 1)
  | .store 0 .. => (0, 0, 1)
  | .store 1 .. => (0, 1, 0)
  | _ => (0, 0, 0)
/-- State ports held in the cycle after issue: one for each half-word store to state memory (R61, R102). -/
def heldPorts (ops : List CellOp) : Nat :=
  (ops.filter (fun o => match o with | .store 0 f .. => f == 1 || f == 2 | _ => false)).length
/-- The accesses of an instruction (R70). -/
def wordPorts (ops : List CellOp) : Nat × Nat × Nat :=
  ops.foldl (fun a o => (a.1 + (opPorts o).1, a.2.1 + (opPorts o).2.1, a.2.2 + (opPorts o).2.2)) (0, 0, 0)

/-- An operation of the exchange (R99). -/
def opExchange (op : CellOp) : Bool :=
  match op with
  | .xrd .. | .xra .. | .xred .. | .store 2 .. => true
  | _ => false
/-- Sample-only, and block-only, operations (R94, R99). -/
def opSampleOnly (op : CellOp) : Bool := opExchange op || (match op with | .end_ => true | _ => false)
def opBlockOnly (op : CellOp) : Bool :=
  match op with
  | .bwait | .yend | .br _ | .brt .. | .brf .. | .jmp _ | .jmpp _ => true
  | _ => false

/-- More coefficient reads, cistern accesses or state accesses than one instruction may make (R70). -/
def portsPast (ops : List CellOp) : Bool :=
  let p := wordPorts ops
  decide (p.1 > 1) || decide (p.2.1 > 1) || decide (p.2.2 > 2)
/-- A REP of count 0, and one whose body ends past word 2,047 (R104, R106). -/
def repNone (op : CellOp) : Bool := match op with | .rep _ _ n => n == 0 | _ => false
def repPast (pc : Nat) (op : CellOp) : Bool := match op with | .rep _ len _ => decide (pc + 1 + len > 2047) | _ => false

/-- The reject values a word at address `pc` earns in sample or block code (R106). -/
def wordCodes (blk : Bool) (w : Word) (pc : Nat) : List Nat :=
  match decodeWord w with
  | none => [0x0201]
  | some ops =>
    (if writesOverlap ops || ops.any repNone then [0x0201] else []) ++ (if ops.any (repPast pc) then [0x0202] else [])
      ++ (if portsPast ops then [0x0204] else [])
      ++ (if ops.any (if blk then opSampleOnly else opBlockOnly) then [0x0206] else [])

/-- The operations a word issues: none at all where it is illegal (R106). -/
def issueOps (blk : Bool) (w : Word) (pc : Nat) : List CellOp :=
  if (wordCodes blk w pc).isEmpty then (decodeWord w).getD [] else []

/-- The fields of one operation are legal (R81–R95, R106). -/
def opFields (op : CellOp) : Bool :=
  match op with
  | .mac _ mode _ _ _ _ => decide (mode ≤ 5)
  | .load _ _ _ _ am => decide (am ≤ 5)
  | .shf _ sh fn => (shfValue fn sh.toInt false 0).isSome
  | .movs _ cls idx _ => (movsDst false cls idx).isSome
  | .setp cls _ imm => decide (cls ≤ 2) && (decide (cls ≠ 2) || decide (imm.toNat < 64))
  | .pmod _ am => am == 1 || am == 3 || am == 4
  | .store dst fmt src dop ext => storeLegal dst fmt src dop.toNat (ext.getD 0).toNat
  | .stset m | .stclr m => !m.getLsbD 3
  | _ => true
/-- An operation may issue at address `pc` in sample or block code (R94, R99, R106). -/
def opLegal (blk : Bool) (pc : Nat) (op : CellOp) : Bool :=
  opFields op && !repNone op && !repPast pc op && !(if blk then opSampleOnly op else opBlockOnly op)

/-- The field an operation stands in: MAC, a move, or CTL; and whether it takes the extension word in MV1's place (R79, R93). -/
def opMac (op : CellOp) : Bool := match op with | .mac .. => true | _ => false
def opCtl (op : CellOp) : Bool :=
  match op with
  | .end_ | .rep .. | .bxclr | .stset _ | .stclr _ => true
  | o => opBlockOnly o
def opExt (op : CellOp) : Bool :=
  match op with
  | .store _ _ _ _ ext => ext.isSome
  | .setp .. | .rep .. | .jmp _ => true
  | _ => false
def opMove (op : CellOp) : Bool := !opMac op && !opCtl op && op != .nop
/-- The operations fit one instruction word and are legal together (R70, R79, R93, R106). -/
def wordFits (ops : List CellOp) : Bool :=
  decide ((ops.filter opMac).length ≤ 1) && decide ((ops.filter opCtl).length ≤ 1) && decide ((ops.filter opExt).length ≤ 1)
    && decide ((ops.filter opMove).length + (ops.filter opExt).length ≤ 2) && !writesOverlap ops && !portsPast ops

/-- The block task may issue: running or resuming, or its save half runs (R107, R111, R112). -/
def blockOn (s : State) (k : Nat) : Bool :=
  !(cellAt s k).sample && ((cellAt s k).half == 1 || bstate s k == 1 || bstate s k == 4)
/-- The slot runs a logical cell whose sample slot or block task can issue (R105, R107, R438). -/
def cellOn (s : State) (k : Nat) : Bool := slotState s k == 1 && ((cellAt s k).sample || blockOn s k)
/-- In the cell's present cycle an operation `gap` issue cycles after the last one can issue: of a new instruction, one with no dead
cycle before it; of the present one (`gap` 0), before its control field has acted; before the commit window, in a window of block code
where the code is the block task's, not quenched (R36, R42, R98, R107, R115, R202, R430). -/
def canIssue (s : State) (k gap : Nat) : Bool :=
  let c := cellAt s k
  let pg := pageOf s k
  let window := if c.sample then true else if c.half = 1 then decide (c.cyc + 3 < pg.phase)
    else c.done || decide (c.cyc + 24 < pg.phase) || (!pg.present && decide (pg.phase ≤ c.cyc))
  (if gap = 0 then !c.iss.isEmpty && !c.void && !c.iss.any opCtl else decide (c.dead = 0))
    && decide (c.cyc + 64 < cellC s k) && (decide (c.quench = 0) || decide (c.cyc < c.qAt)) && window

/-- What is counted of an operation that issues: its place in the instruction, the block instructions issued, the cycle at which the
sample program's last result lands (R41, R121). -/
def countIssue (blk : Bool) (op : CellOp) (last : Nat) (c : Cell) : Cell :=
  { c with iss := c.iss ++ [op], bissue := if blk && c.iss.isEmpty then c.bissue + 1 else c.bissue,
           retire := if blk then c.retire else max c.retire (c.cyc + c.frz + last) }

/-- One operation of an instruction that issues `gap` issue cycles after the last one (0: the same instruction); where it makes the
instruction illegal, the whole instruction has no effect (R79, R80, R106). -/
def cellRun (s : State) (k gap : Nat) (op : CellOp) (e : OpEnv) : State :=
  if !cellOn s k then s else
  let s := onCell s k (tickCell gap)
  if !canIssue s k gap then s else
  let c := cellAt s k
  let s := onCell s k (countIssue (!c.sample) op (retireOf op))
  if opLegal (!c.sample) c.pc op && wordFits (c.iss ++ [op]) then cellOp s k (!c.sample) op e else dropInstr s k

end Sys2Proof.Machine
end

