-- ==== Sys2Proof/Machine/CellCmd.lean ====
section
/-! DEFINITION. The meanings of the cell's operations (ch. 4) and of the steps that start and stop a cell's issue (R37, R107–R118). -/

namespace Sys2Proof.Machine

/-- The program word at an address of the active page, as the slot's datapath fetches it (R70, R73, R435). -/
def progRead (s : State) (k pc : Nat) (e : Ecc) : Word × State :=
  let m := memSlot s k
  let pg := if (cellAt s k).sample then curPage s k else ppage s k
  let a := 0x800 * pg + pc % 2048
  let p := 0x800 * (1 - pg) + pc % 2048
  match e with
  | .double =>
    if m = k then (0, cellEcc s k 0 .double)
    else if mget false s.mem.mark (m * 0x4000 + p) then (0, onCell s k (fun c => { c with fenceNext := true }))
    else (cellWord s m p, s)
  | e => (cellWord s m a, cellEcc s k 0 e)

/-- The facts of an operation of an instruction issued whole. -/
def factsEnv (stalls : Nat) (f : Option OpFacts) : OpEnv :=
  match f with
  | none => { stalls := stalls }
  | some f => { ecc := f.ecc, stalls := stalls, coll := f.coll, mism := f.mism, badHere := f.badHere.map Fin.val,
                badThere := f.badThere.map Fin.val, badPoint := f.badPoint }

/-- Issue the instruction word at the cell's program counter: its legal operations take effect together (R80, R106). `facts`: what
physics adds to each, MAC, MV0, MV1, CTL. -/
def issueWord (s : State) (k stalls : Nat) (e : Ecc) (facts : List OpFacts) : State :=
  let c := cellAt s k
  let r := progRead s k c.pc e
  let s := forEach (issueOps (!c.sample) r.1 c.pc).zipIdx r.2 (fun s x =>
    cellOp (onCell s k (countIssue (!c.sample) x.1 (retireOf x.1))) k (!c.sample) x.1 (factsEnv stalls facts[x.2]?))
  onCell s k (fun c => { c with void := true })

/-- At cycle φ the slot's sample program begins: its first instruction issues (R37, R105, R112, R430). -/
def sampleStart (s : State) (k stalls : Nat) (e : Ecc) (facts : List OpFacts) : State :=
  let pg := pageOf s k
  let c := cellAt s k
  if slotState s k ≠ 1 ∨ domOf s (k / 68) = 0 ∨ pg.present = false ∨ c.sample ∨ c.done ∨ c.quench ≠ 0 then s else
  let c := landAll c
  let s := setCell s k (stBlk { c with cyc := pg.phase, atZero := false, pc := pg.entry, npc := none, dead := 0, iss := [], void := false,
                                       frz := 0, sample := true, loops := [], stalls := 0, retire := pg.phase } false)
  issueWord s k stalls e facts

/-- At cycle φX of a crossfade tick the new program begins on the active page (R238). -/
def crossStart (s : State) (k stalls : Nat) (e : Ecc) (facts : List OpFacts) : State :=
  let c := cellAt s k
  if slotState s k ≠ 1 ∨ domOf s (k / 68) = 0 ∨ !xfOld s k ∨ c.sample ∨ !c.done ∨ c.quench ≠ 0 then s else
  let o := pageOf s k
  let fx := o.phase + o.len + o.w + 4
  let s := onCmt s k (fun x => { x with xnew := true })
  let pg := pageOf s k
  if pg.present = false then s else
  let c := landAll c
  let s := setCell s k (stBlk { c with cyc := fx, atZero := false, pc := pg.entry, npc := none, dead := 0, iss := [], void := false,
                                       frz := 0, sample := true, done := false, loops := [], retire := fx } false)
  issueWord s k stalls e facts

/-- The program page that is active: the one whose block task runs, also while a crossfade runs the old sample program (R109, R239). -/
def blockPage (s : State) (k : Nat) : PageInfo := mget {} s.mem.page (memSlot s k * 2 + ppage s k)

/-- The cell's block issue stops for the yield lead of a slot at phase `ph`: nothing issues till φ − 22; what is in flight lands by
φ − 20 (R112, R113). -/
def leadCell (ph : Nat) (c : Cell) : Cell :=
  { c with dead := ph + b2n c.atZero - 22 - c.cyc, iss := [], void := false,
           flight := c.flight.map (fun l => { l with due := min l.due (c.clk + (ph - 20 - c.cyc)) }) }

/-- YIELD_REDIRECTION's work (R108, R112, R117). -/
def yieldRedirect (s : State) (k : Nat) (withdrawn : Bool) : State :=
  let ph := (pageOf s k).phase
  let v := (blockPage s k).vYield
  let b := bstate s k
  let s := if withdrawn then rinc s (celBtaskA k) 8 8 else s
  if b = 1 ∨ b = 2 then
    onCell s k (fun c =>
      let c := passTo (ph - 25) c
      let q := if b = 1 then nextPc c else (c.bpc, c)
      stBlk (leadCell ph { q.2 with bpc := q.1, half := 1, hloops := [], savedSt := c.bst, redir := c.clk, npc := some v }) true)
  else if b = 4 then setBstate (onCell s k (fun c => { landAll c with half := 0, npc := none, dead := 0, iss := [], void := false })) k 3
  else s

/-- YIELD_OVERRUN's work (R115). -/
def yieldOverran (s : State) (k : Nat) : State :=
  let c := cellAt s k
  if c.half ≠ 1 then s else
  let s := setBstate (onCell s k (fun c => { c with half := 0, npc := none, dead := 0, iss := [], void := false })) k 5
  let s := rsetBit s (celErrA k) 19
  let m := domOf s (k / 68)
  fltDetect s { cls := 3, sev := 3, unit := 0x1000 + logicalOf s k, btc := tickEndBtc s m, detail := rfld s (celErrA k) 16 6,
                cyc := baseCycle s m ((pageOf s k).phase - 3), oslot := k % 68 }

/-- BLOCK_RESUME's work: a yielded task begins its resume half at the first block issue cycle after the slot (R116). -/
def blockResumed (s : State) (k : Nat) : State :=
  let c := cellAt s k
  let pg := pageOf s k
  let lead := !c.done && decide (pg.phase ≤ c.cyc + 24)
  if bstate s k ≠ 3 ∨ c.sample ∨ (xfOld s k ∧ c.done) ∨ slotState s k ≠ 1 ∨ c.quench ≠ 0 ∨ (c.done ∧ cellC s k ≤ c.slotEnd + 64)
    ∨ (lead ∧ pg.present) then s else
  let c := landAll c
  let s := setCell s k (stBlk { c with half := 2, hloops := [], npc := some (blockPage s k).vResume, dead := 0, iss := [], void := false,
                                       frz := 0,
                                       cyc := if c.done then max c.cyc (c.slotEnd - 1) else if lead then max c.cyc (pg.phase - 1)
                                         else c.cyc } true)
  setBstate s k 4

/-- The block task starts afresh at ENTRY (R119). -/
def blockFresh (s : State) (k : Nat) : State :=
  let again := (cellAt s k).started
  let e := (blockPage s k).vEntry
  let s := onCell s k (fun c => stBlk { c with half := 0, npc := some e, dead := 0, iss := [], void := false, bst := 0, savedSt := 0,
                                               bloops := [], hloops := [], started := true } true)
  let s := if again then rsetBit s (celBtaskA k) 7 else s
  setBstate s k 1

/-- A NOP field or word issues (R79); the fetch's finding applies (R73). -/
def cellNop (s : State) (k g : Nat) (e : Ecc) : State :=
  if !cellOn s k then s else
  let s := onCell s k (tickCell g)
  if !canIssue s k g then s else
  let c := cellAt s k
  let s := onCell s k (countIssue (!c.sample) .nop (retireOf .nop))
  let s := (progRead s k c.pc e).2
  if e = .double then dropInstr s k else s

/-- SAMPLE_PROGRAM_START (R37). -/
def execSampleProgramStart (c : Fin 16) (s : Fin 68) (stalls : Nat) (f : StartFacts) (st : State) : Res :=
  .next (sampleStart st (c.val * 68 + s.val) stalls f.ecc f.ops)

/-- CROSSFADE_PROGRAM_START (R238). -/
def execCrossfadeProgramStart (c : Fin 16) (s : Fin 68) (stalls : Nat) (f : StartFacts) (st : State) : Res :=
  .next (crossStart st (c.val * 68 + s.val) stalls f.ecc f.ops)

/-- YIELD_REDIRECTION (R112). -/
def execYieldRedirection (c : Fin 16) (s : Fin 68) (withdrawn : Bool) (st : State) : Res :=
  .next (yieldRedirect st (c.val * 68 + s.val) withdrawn)

/-- YIELD_OVERRUN (R115). -/
def execYieldOverrun (c : Fin 16) (s : Fin 68) (st : State) : Res :=
  .next (yieldOverran st (c.val * 68 + s.val))

/-- BLOCK_RESUME (R116). -/
def execBlockResume (c : Fin 16) (s : Fin 68) (st : State) : Res :=
  .next (blockResumed st (c.val * 68 + s.val))

/-- MPY (R62, R68, R81). -/
def execMpy (c : Fin 16) (s : Fin 68) (g : Nat) (mode : Fin 8) (an : Fin 4) (xr : Fin 32) (ysrc : Bool)
    (yop : Fin 32) (ecc : Ecc) (mism : Bool) (st : State) : Res :=
  .next (cellRun st (c.val * 68 + s.val) g (.mac 1 mode.val an.val xr.val ysrc yop.val) { ecc := ecc, mism := mism })

/-- MAC (R62, R68, R81). -/
def execMac (c : Fin 16) (s : Fin 68) (g : Nat) (mode : Fin 8) (an : Fin 4) (xr : Fin 32) (ysrc : Bool)
    (yop : Fin 32) (ecc : Ecc) (mism : Bool) (st : State) : Res :=
  .next (cellRun st (c.val * 68 + s.val) g (.mac 2 mode.val an.val xr.val ysrc yop.val) { ecc := ecc, mism := mism })

/-- MSU (R62, R68, R81). -/
def execMsu (c : Fin 16) (s : Fin 68) (g : Nat) (mode : Fin 8) (an : Fin 4) (xr : Fin 32) (ysrc : Bool)
    (yop : Fin 32) (ecc : Ecc) (mism : Bool) (st : State) : Res :=
  .next (cellRun st (c.val * 68 + s.val) g (.mac 3 mode.val an.val xr.val ysrc yop.val) { ecc := ecc, mism := mism })

/-- CELL_NOP: an issue cycle with no effect; an uncorrectable program word issues so and quenches (R73, R79). -/
def execCellNop (c : Fin 16) (s : Fin 68) (g : Nat) (ecc : Ecc) (st : State) : Res :=
  .next (cellNop st (c.val * 68 + s.val) g ecc)

/-- LDS (R84, R85). -/
def execLds (c : Fin 16) (s : Fin 68) (g : Nat) (d : Fin 32) (p : Fin 16) (am : Fin 8) (ecc : Ecc) (st : State) : Res :=
  .next (cellRun st (c.val * 68 + s.val) g (.load 0 0 d.val p.val am.val) { ecc := ecc })

/-- LDSH (R84, R85). -/
def execLdsH (c : Fin 16) (s : Fin 68) (g : Nat) (d : Fin 32) (p : Fin 16) (am : Fin 8) (ecc : Ecc) (st : State) : Res :=
  .next (cellRun st (c.val * 68 + s.val) g (.load 0 1 d.val p.val am.val) { ecc := ecc })

/-- LDSL (R84, R85). -/
def execLdsL (c : Fin 16) (s : Fin 68) (g : Nat) (d : Fin 32) (p : Fin 16) (am : Fin 8) (ecc : Ecc) (st : State) : Res :=
  .next (cellRun st (c.val * 68 + s.val) g (.load 0 2 d.val p.val am.val) { ecc := ecc })

/-- LDK (R84, R85). -/
def execLdk (c : Fin 16) (s : Fin 68) (g : Nat) (d : Fin 32) (p : Fin 16) (am : Fin 8) (ecc : Ecc) (st : State) : Res :=
  .next (cellRun st (c.val * 68 + s.val) g (.load 1 0 d.val p.val am.val) { ecc := ecc })

/-- LDKH (R84, R85). -/
def execLdkH (c : Fin 16) (s : Fin 68) (g : Nat) (d : Fin 32) (p : Fin 16) (am : Fin 8) (ecc : Ecc) (st : State) : Res :=
  .next (cellRun st (c.val * 68 + s.val) g (.load 1 1 d.val p.val am.val) { ecc := ecc })

/-- LDKL (R84, R85). -/
def execLdkL (c : Fin 16) (s : Fin 68) (g : Nat) (d : Fin 32) (p : Fin 16) (am : Fin 8) (ecc : Ecc) (st : State) : Res :=
  .next (cellRun st (c.val * 68 + s.val) g (.load 1 2 d.val p.val am.val) { ecc := ecc })

/-- LDC (R71, R84, R85). -/
def execLdc (c : Fin 16) (s : Fin 68) (g : Nat) (d : Fin 32) (p : Fin 16) (am : Fin 8) (stalls : Nat) (ecc : Ecc)
    (coll : Bool) (st : State) : Res :=
  .next (cellRun st (c.val * 68 + s.val) g (.load 2 0 d.val p.val am.val) { ecc := ecc, stalls := stalls, coll := coll })

/-- LDCH (R71, R84, R85). -/
def execLdcH (c : Fin 16) (s : Fin 68) (g : Nat) (d : Fin 32) (p : Fin 16) (am : Fin 8) (stalls : Nat) (ecc : Ecc)
    (coll : Bool) (st : State) : Res :=
  .next (cellRun st (c.val * 68 + s.val) g (.load 2 1 d.val p.val am.val) { ecc := ecc, stalls := stalls, coll := coll })

/-- LDCL (R71, R84, R85). -/
def execLdcL (c : Fin 16) (s : Fin 68) (g : Nat) (d : Fin 32) (p : Fin 16) (am : Fin 8) (stalls : Nat) (ecc : Ecc)
    (coll : Bool) (st : State) : Res :=
  .next (cellRun st (c.val * 68 + s.val) g (.load 2 2 d.val p.val am.val) { ecc := ecc, stalls := stalls, coll := coll })

/-- MOV (R84). -/
def execMov (c : Fin 16) (s : Fin 68) (g : Nat) (d n : Fin 32) (st : State) : Res :=
  .next (cellRun st (c.val * 68 + s.val) g (.mov d.val n.val) {})

/-- SWAPH (R84). -/
def execSwaph (c : Fin 16) (s : Fin 68) (g : Nat) (d n : Fin 32) (st : State) : Res :=
  .next (cellRun st (c.val * 68 + s.val) g (.swaph d.val n.val) {})

/-- CMP (R86). -/
def execCmp (c : Fin 16) (s : Fin 68) (g : Nat) (n m : Fin 32) (rel k : Fin 4) (st : State) : Res :=
  .next (cellRun st (c.val * 68 + s.val) g (.cmp n.val m.val rel.val k.val) {})

/-- CMOV.T (R84). -/
def execCmovT (c : Fin 16) (s : Fin 68) (g : Nat) (d n : Fin 32) (k : Fin 4) (st : State) : Res :=
  .next (cellRun st (c.val * 68 + s.val) g (.cmov d.val n.val k.val true) {})

/-- CMOV.F (R84). -/
def execCmovF (c : Fin 16) (s : Fin 68) (g : Nat) (d n : Fin 32) (k : Fin 4) (st : State) : Res :=
  .next (cellRun st (c.val * 68 + s.val) g (.cmov d.val n.val k.val false) {})

/-- SHF (R87). -/
def execShf (c : Fin 16) (s : Fin 68) (g : Nat) (d : Fin 32) (sh : BitVec 7) (fn : Fin 4) (st : State) : Res :=
  .next (cellRun st (c.val * 68 + s.val) g (.shf d.val sh fn.val) {})

/-- CLRA (R84). -/
def execClra (c : Fin 16) (s : Fin 68) (g : Nat) (a : Fin 4) (st : State) : Res :=
  .next (cellRun st (c.val * 68 + s.val) g (.clra a.val) {})

/-- MVA (R84). -/
def execMva (c : Fin 16) (s : Fin 68) (g : Nat) (a : Fin 4) (n : Fin 32) (st : State) : Res :=
  .next (cellRun st (c.val * 68 + s.val) g (.mva a.val n.val) {})

/-- MVAH (R84). -/
def execMvah (c : Fin 16) (s : Fin 68) (g : Nat) (a : Fin 4) (n : Fin 32) (st : State) : Res :=
  .next (cellRun st (c.val * 68 + s.val) g (.mvah a.val n.val) {})

/-- MVAL (R84). -/
def execMval (c : Fin 16) (s : Fin 68) (g : Nat) (a : Fin 4) (n : Fin 32) (st : State) : Res :=
  .next (cellRun st (c.val * 68 + s.val) g (.mval a.val n.val) {})

/-- XRD (R91, R125). -/
def execXrd (c : Fin 16) (s : Fin 68) (g : Nat) (d : Fin 32) (lane : Fin 256) (st : State) : Res :=
  .next (cellRun st (c.val * 68 + s.val) g (.xrd d.val lane.val) {})

/-- XRA (R84, R125). -/
def execXra (c : Fin 16) (s : Fin 68) (g : Nat) (a : Fin 4) (lane : Fin 256) (st : State) : Res :=
  .next (cellRun st (c.val * 68 + s.val) g (.xra a.val lane.val) {})

/-- XRED (R133). -/
def execXred (c : Fin 16) (s : Fin 68) (g : Nat) (a : Fin 4) (lane : Fin 256) (badPoint : Bool) (st : State) : Res :=
  .next (cellRun st (c.val * 68 + s.val) g (.xred a.val lane.val) { badPoint := badPoint })

/-- MOVS (R88). -/
def execMovs (c : Fin 16) (s : Fin 68) (g : Nat) (wr : Bool) (cls : Fin 8) (idx : Fin 16) (n : Fin 32) (st : State) : Res :=
  .next (cellRun st (c.val * 68 + s.val) g (.movs wr cls.val idx.val n.val) {})

/-- SETP (R84, R93). -/
def execSetp (c : Fin 16) (s : Fin 68) (g : Nat) (cls : Fin 4) (n : Fin 16) (imm : BitVec 20) (st : State) : Res :=
  .next (cellRun st (c.val * 68 + s.val) g (.setp cls.val n.val imm) {})

/-- PADD (R84). -/
def execPadd (c : Fin 16) (s : Fin 68) (g : Nat) (p : Fin 16) (imm : BitVec 10) (st : State) : Res :=
  .next (cellRun st (c.val * 68 + s.val) g (.padd p.val imm) {})

/-- PMOD (R84). -/
def execPmod (c : Fin 16) (s : Fin 68) (g : Nat) (p : Fin 16) (am : Fin 8) (st : State) : Res :=
  .next (cellRun st (c.val * 68 + s.val) g (.pmod p.val am.val) {})

/-- LDPT (R89). -/
def execLdpt (c : Fin 16) (s : Fin 68) (g : Nat) (n : Fin 16) (ecc : Ecc) (st : State) : Res :=
  .next (cellRun st (c.val * 68 + s.val) g (.ldpt n.val) { ecc := ecc })

/-- STPT (R89). -/
def execStpt (c : Fin 16) (s : Fin 68) (g : Nat) (n : Fin 16) (st : State) : Res :=
  .next (cellRun st (c.val * 68 + s.val) g (.stpt n.val) {})

/-- A store-path move (R63, R90). -/
def execStorePathMove (c : Fin 16) (s : Fin 68) (g : Nat) (dst fmt : Fin 4) (src : Fin 64) (dop : BitVec 9)
    (ext : Option (BitVec 20)) (stalls : Nat) (ecc : Ecc) (badHere badThere : List (Fin 65)) (badPoint : Bool) (st : State) : Res :=
  .next (cellRun st (c.val * 68 + s.val) g (.store dst.val fmt.val src.val dop (if nbit dop.toNat 0 then some (ext.getD 0) else none))
    { ecc := ecc, stalls := stalls, badHere := badHere.map Fin.val, badThere := badThere.map Fin.val, badPoint := badPoint })

/-- END (R105). -/
def execCellEnd (c : Fin 16) (s : Fin 68) (g : Nat) (st : State) : Res :=
  .next (cellRun st (c.val * 68 + s.val) g (.end_) {})

/-- REP (R96). -/
def execRep (c : Fin 16) (s : Fin 68) (g : Nat) (lp : Fin 4) (len : Fin 512) (count : BitVec 16) (st : State) : Res :=
  .next (cellRun st (c.val * 68 + s.val) g (.rep lp.val len.val count) {})

/-- BXCLR (R95). -/
def execBxclr (c : Fin 16) (s : Fin 68) (g : Nat) (st : State) : Res :=
  .next (cellRun st (c.val * 68 + s.val) g (.bxclr) {})

/-- STSET (R95). -/
def execStset (c : Fin 16) (s : Fin 68) (g : Nat) (mask : BitVec 8) (st : State) : Res :=
  .next (cellRun st (c.val * 68 + s.val) g (.stset mask) {})

/-- STCLR (R95). -/
def execStclr (c : Fin 16) (s : Fin 68) (g : Nat) (mask : BitVec 8) (st : State) : Res :=
  .next (cellRun st (c.val * 68 + s.val) g (.stclr mask) {})

/-- BWAIT (R118). -/
def execBwait (c : Fin 16) (s : Fin 68) (g : Nat) (st : State) : Res :=
  .next (cellRun st (c.val * 68 + s.val) g (.bwait) {})

/-- YEND (R112, R116). -/
def execYend (c : Fin 16) (s : Fin 68) (g : Nat) (st : State) : Res :=
  .next (cellRun st (c.val * 68 + s.val) g (.yend) {})

/-- BR (R98). -/
def execBr (c : Fin 16) (s : Fin 68) (g : Nat) (off : BitVec 9) (st : State) : Res :=
  .next (cellRun st (c.val * 68 + s.val) g (.br off) {})

/-- BRT (R98). -/
def execBrt (c : Fin 16) (s : Fin 68) (g : Nat) (k : Fin 4) (off : BitVec 9) (st : State) : Res :=
  .next (cellRun st (c.val * 68 + s.val) g (.brt k.val off) {})

/-- BRF (R98). -/
def execBrf (c : Fin 16) (s : Fin 68) (g : Nat) (k : Fin 4) (off : BitVec 9) (st : State) : Res :=
  .next (cellRun st (c.val * 68 + s.val) g (.brf k.val off) {})

/-- JMP (R98). -/
def execJmp (c : Fin 16) (s : Fin 68) (g : Nat) (t : BitVec 11) (st : State) : Res :=
  .next (cellRun st (c.val * 68 + s.val) g (.jmp t) {})

/-- JMPP (R98). -/
def execJmpp (c : Fin 16) (s : Fin 68) (g : Nat) (p : Fin 16) (st : State) : Res :=
  .next (cellRun st (c.val * 68 + s.val) g (.jmpp p.val) {})

end Sys2Proof.Machine
end

