-- ==== Sys2Proof/Machine/Wellhead.lean ====
section
/-! DEFINITION. The Wellhead tap engine (ch. 7): lines, entries, the walk, glides, interpolation, sums, shadow copies. -/

namespace Sys2Proof.Machine

def welStatA (c : Nat) : Nat := 0x140000 + 0x2000 * c
def welErrA (c : Nat) : Nat := 0x140008 + 0x2000 * c
def welCntA (c : Nat) : Nat := 0x14000C + 0x2000 * c
def welLdA (c : Nat) : Nat := 0x140010 + 0x2000 * c
def welEntA (c : Nat) : Nat := 0x140020 + 0x2000 * c
def welRunA (c : Nat) : Nat := 0x140040 + 0x2000 * c
/-- Set a flag of WEL_ERR; the cluster's event source follows (R305). -/
def welErr (s : State) (c bit : Nat) : State := evClusterFlags (rsetBit s (welErrA c) bit) c
/-- Validated tables are live (WEL_STAT.LIVE). -/
def welLive (s : State) (c : Nat) : Bool := rbit s (welStatA c) 0

def entOf (s : State) (c e : Nat) : TapEntry := mget {} s.wel.ent (c * 32768 + e)
/-- The shadow of an entry: the pending copy, else the live one (R164). -/
def entShadow (s : State) (c e : Nat) : TapEntry := (mget none s.wel.entPend (c * 32768 + e)).getD (entOf s c e)
def lineOf (s : State) (c k : Nat) : W32 := mget 0 s.wel.line (c * 1024 + k)
def lineShadow (s : State) (c k : Nat) : W32 := (mget none s.wel.linePend (c * 1024 + k)).getD (lineOf s c k)
def wccOf (s : State) (c : Nat) : Nat := mget 0 s.wel.wcc c

/-- Fields of an entry (R152). -/
def teGain (t : TapEntry) : BitVec 36 := t.w0.hi
def teDelay (t : TapEntry) : Nat := nbits t.w0.toNat 16 20 * 2 ^ 40 + nbits t.w0.toNat 0 16 * 2 ^ 24
def teEn (t : TapEntry) : Bool := t.w1.getLsbD 71
def teLine (t : TapEntry) : Nat := nbits t.w1.toNat 54 10
def teLane (t : TapEntry) : Nat := nbits t.w1.toNat 44 10
def teInterp (t : TapEntry) : Nat := nbits t.w1.toNat 42 2
def teDgm (t : TapEntry) : Nat := nbits t.w1.toNat 40 2
def teDk (t : TapEntry) : Nat := nbits t.w1.toNat 35 5
def teGgm (t : TapEntry) : Nat := nbits t.w1.toNat 33 2
def teGk (t : TapEntry) : Nat := nbits t.w1.toNat 28 5

/-- Fields of a line (R146): K, and the cluster word address of its first word. -/
def lnEn (d : W32) : Bool := bitOf d 31
def lnWrt (d : W32) : Bool := bitOf d 30
def lnHalf (d : W32) : Bool := bitOf d 29
def lnK (d : W32) : Nat := fld d 24 5
def lnInlane (d : W32) : Nat := fld d 16 8
def lnBase (d : W32) : Nat := fld d 0 15 * 16

/-- Slots an entry takes in the walk (R153). -/
def entSlots (t : TapEntry) : Nat := if teEn t then (if teDgm t = 2 then 2 else 1) else 0
/-- The entries of a cluster's table. -/
def entriesOf (m : SMap TapEntry) (c : Nat) : List (Nat × TapEntry) :=
  m.filterMap (fun e => if e.1 / 32768 = c then some (e.1 % 32768, e.2) else none)
/-- First slot of an entry: the slots of the enabled entries before it (R153). -/
def entSlot (m : SMap TapEntry) (c e : Nat) : Nat :=
  ((entriesOf m c).filter (fun x => decide (x.1 < e))).foldl (fun a x => a + entSlots x.2) 0
/-- The inlet regions of a cluster: BASE and K of its enabled lines with WRT = 0, once each (R153). -/
def inletRegions (m : SMap W32) (c : Nat) : List (Nat × Nat) :=
  (m.filterMap (fun e => if e.1 / 1024 = c ∧ lnEn e.2 ∧ lnWrt e.2 = false then some (lnBase e.2, lnK e.2) else none)).eraseDups
/-- NSLOT (R153). -/
def walkSlots (ents : SMap TapEntry) (lines : SMap W32) (c : Nat) : Nat :=
  (entriesOf ents c).foldl (fun a x => a + entSlots x.2) 0 + 2 * (inletRegions lines c).length

/-- Cistern and word of a cluster word address. -/
def clusterCis (c a : Nat) : Nat := 8 * c + a / 65536 % 8
/-- Fabric address of a cluster word address. -/
def clusterAddr (c a : Nat) : Nat := clusterCis c a * 65536 + a % 65536
/-- Cluster word address of index `i` of a line (R147). -/
def lineWordA (d : W32) (i : Int) : Nat := lnBase d + (i % (2 ^ lnK d : Nat)).toNat

/-- A line's sample of index `i` in tick `t`: the captured inlet sample where it is not yet written (R147, R148). -/
def lineSample (s : State) (c k : Nat) (d : W32) (t i : Int) : Half :=
  if i = t - 1 ∧ lnWrt d = false ∧ mget false s.wel.inletWait (c * 1024 + k) then mget 0 s.wel.inlet (c * 1024 + k)
  else
    let w := cisWord s (clusterAddr c (lineWordA d i))
    if lnHalf d then w.lo else w.hi

/-- A Wellhead memory fault (R167, R426). -/
def welFault (s : State) (c bit cyc : Nat) : State :=
  let s := welErr s c bit
  fltDetect s { cls := 5, sev := 2, unit := 0x3000 + c, btc := tickEndBtc s (domOf s c), detail := rfld s (welErrA c) 0 16,
                cyc := baseCycle s (domOf s c) cyc }

/-- Division rounding half to even. -/
def rneDiv (a : Int) (b : Nat) : Int :=
  let d : Int := b
  let q := a / d
  let r := a % d
  if 2 * r > d then q + 1 else if 2 * r < d then q else if q % 2 = 0 then q else q + 1

/-- Cubic coefficient numerators over 6 × 2^48, for fraction F / 65,536 (R156). -/
def cubicNum (f : Int) : List Int :=
  [-(f * (f - 65536) * (f - 131072)), 3 * ((f + 65536) * (f - 65536) * (f - 131072)),
   -(3 * ((f + 65536) * f * (f - 131072))), (f + 65536) * f * (f - 65536)]

/-- The interpolated value of the window x[m+1], x[m], x[m−1], x[m−2], and its fraction bits (R156, R157). -/
def interpolate (mode : Nat) (f : Nat) (xs : List Int) : Int × Nat :=
  match mode with
  | 0 => (xs.getD 1 0, 32)
  | 1 => (xs.getD 1 0 * (65536 - f) + xs.getD 2 0 * f, 48)
  | _ =>
    let cs := (cubicNum f).map (fun n => rneDiv n (6 * 2 ^ 14))
    ((List.zipWith (· * ·) cs xs).foldl (· + ·) 0, 66)

/-- Exact dyadic value of a C36 gain. -/
def dyC36 (g : BitVec 36) : Dyadic := ⟨g.toInt, 32⟩
/-- A dyadic number times a / 2^k. -/
def dyScale (d : Dyadic) (a : Nat) (k : Nat) : Dyadic := ⟨d.n * a, d.e + k⟩
/-- The dyadic numbers add. -/
def dyAdd (a b : Dyadic) : Dyadic :=
  let e := max a.e b.e
  ⟨a.n * 2 ^ (e - a.e) + b.n * 2 ^ (e - b.e), e⟩
/-- Round half-even to C36 (R157). -/
def dyToC36 (d : Dyadic) : Int :=
  if d.e ≤ 32 then d.n * 2 ^ (32 - d.e) else rneShift d.n (d.e - 32)

/-- Square roots by halving: the product of r^(1/2^i) over the bits of j / 2^k, in units of 2^-96. -/
def powFrac (k j : Nat) (root acc : Nat) : Nat :=
  match k with
  | 0 => acc
  | k + 1 =>
    let r := isqrt 112 (root * 2 ^ 96)
    powFrac k (j % 2 ^ k) r (if j / 2 ^ k % 2 = 1 then acc * r / 2 ^ 96 else acc)

/-- An exponential glide's value at step j of 2^k from |g₀| to |g₁|, to within 2^-24 relative; the deviation within that
bound is free (R161, R236). Arguments in units of 2^-64; so is the result. -/
def expGlide (a b : Nat) (j k : Nat) : Nat :=
  let v : Nat := a * powFrac k j (b * 2 ^ 96 / a) (2 ^ 96) / 2 ^ 96
  let e := Config.expGlideError a b j k
  let m : Int := (v : Int) / 2 ^ 24
  ((v : Int) + (if -m ≤ e ∧ e ≤ m then e else 0)).toNat

/-- Magnitude of a dyadic number in units of 2^-64, truncated. -/
def dyMag (d : Dyadic) : Nat := if d.e ≤ 64 then d.n.natAbs * 2 ^ (64 - d.e) else d.n.natAbs / 2 ^ (d.e - 64)

/-- The exponential form applies: same sign, both magnitudes at least 2^-24 (R161). -/
def expApplies (a b : Dyadic) : Bool :=
  (decide (a.n > 0) == decide (b.n > 0)) && decide (dyMag a ≥ 2 ^ 40) && decide (dyMag b ≥ 2 ^ 40)

/-- The gain of a glide at issue j (R161). -/
def glideGain (g0 : Dyadic) (g1 : BitVec 36) (ggm j k : Nat) : Dyadic :=
  let t := dyC36 g1
  if ggm = 2 ∧ expApplies g0 t then
    let v := expGlide (dyMag g0) (dyMag t) j k
    ⟨if t.n < 0 then -(v : Int) else v, 64⟩
  else dyAdd (dyScale g0 (2 ^ k - j) k) (dyScale t j k)

/-- The running state of an entry that starts or restarts: no glide, no history (R162). -/
def tapRestart (t : TapEntry) : TapRun :=
  { seen := true, line := teLine t, lane := teLane t, dgm := teDgm t, delay := teDelay t, dtgt := teDelay t,
    g1 := teGain t, gain := dyC36 (teGain t) }

/-- A table target meets the running delay (R159, R160, R162). -/
def tapNewDelay (r : TapRun) (t : TapEntry) : TapRun :=
  let tgt := teDelay t
  let r := if r.dgm = teDgm t then r else
    { r with delay := if r.xf then r.dtgt else r.delay, dtgt := if r.xf then r.dtgt else r.delay, xf := false, slide := false,
             held := none, dgm := teDgm t }
  if r.xf then { r with held := if tgt = r.dtgt then none else some tgt }
  else if tgt = r.dtgt then { r with held := none }
  else match teDgm t with
    | 1 => { r with slide := true, d0 := r.delay, dtgt := tgt, dk := teDk t, dj := 0,
                    inc := Int.tdiv ((tgt : Int) - r.delay) (2 ^ teDk t) }
    | 2 => { r with xf := true, dtgt := tgt, dk := teDk t, dj := 0, held := none }
    | _ => { r with delay := tgt, dtgt := tgt, slide := false }

/-- A table gain meets the running gain (R161, R162). -/
def tapNewGain (r : TapRun) (t : TapEntry) : TapRun :=
  if teGain t = r.g1 then r
  else if teGgm t = 0 then { r with g1 := teGain t, gain := dyC36 (teGain t), ggl := false }
  else { r with ggl := true, g0 := r.gain, g1 := teGain t, ggm := teGgm t, gk := teGk t, gj := 0 }

/-- One issue of the primary head advances the glides (R158–R161). -/
def tapStep (r : TapRun) : TapRun :=
  let r := if r.slide then
      let j := r.dj + 1
      if j ≥ 2 ^ r.dk then { r with delay := r.dtgt, slide := false, dj := j }
      else { r with delay := ((r.d0 : Int) + j * r.inc).toNat, dj := j }
    else if r.xf then
      let j := r.dj + 1
      if j ≥ 2 ^ r.dk then { r with delay := r.dtgt, xf := false, dj := j } else { r with dj := j }
    else r
  if r.ggl then
    let j := r.gj + 1
    if j ≥ 2 ^ r.gk then { r with gain := dyC36 r.g1, ggl := false, gj := j }
    else { r with gain := glideGain r.g0 r.g1 r.ggm j r.gk, gj := j }
  else r

/-- The running state at a primary issue under the live table (R158, R162). -/
def tapAdvance (r : TapRun) (t : TapEntry) : TapRun :=
  if !r.seen ∨ r.line ≠ teLine t ∨ r.lane ≠ teLane t then tapRestart t
  else tapStep (tapNewGain (tapNewDelay r t) t)

/-- A saturating 80-bit add, and whether it clamped (R155). -/
def sumAdd (a : BitVec 80) (v : Int) : BitVec 80 × Bool :=
  let r := a.toInt + v
  (BitVec.ofInt 80 (sclamp 80 r), !sfits 80 r)

/-- Correction of a single-bit error (R167). -/
def welCorr (s : State) (c : Nat) : State := rinc s (welCntA c) 16 16

/-- What the check bits of a window word find: the Wellhead's count or fault (R167), and the cistern's (R254). -/
def welEcc (s : State) (c slot a : Nat) (e : Ecc) : State :=
  let s := match e with
    | .ok => s
    | .single => welCorr s c
    | .double => welFault s c 0 slot
  cisEcc s (clusterCis c a) (a % 65536) 0 (baseCycle s (domOf s c) slot) e

/-- One word of a window, as its sample: free where a transfer-side write meets the read (R251), zero on a double-bit error (R167). -/
def tapWord (s : State) (c k : Nat) (d : W32) (tick i : Int) (e : Ecc) (coll : Bool) : Int × State :=
  if coll then
    let f := freeW s
    (f.1.hi.toInt, f.2)
  else (if e = .double then 0 else (lineSample s c k d tick i).toInt, s)

/-- A tap's read and add at a delay with a gain (R151, R156, R157, R163, R166, R167). It reads the words of its window that R151 lets it
read, whatever the interpolation uses. `win`, `coll`: what the check bits of the window words find, and that a transfer-side write meets
the read, in the order x[m+1], x[m], x[m−1], x[m−2]. -/
def tapRender (s : State) (c slot : Nat) (t : TapEntry) (delay : Nat) (gain : Dyadic) (win : List Ecc) (coll : List Bool) : State :=
  let d := lineOf s c (teLine t)
  let tick : Int := domTick s (domOf s c)
  let lateN := if slot ≤ wccOf s c then 0 else 1
  let dmin : Nat := 1 + (if teInterp t = 2 then 1 else 0) + lateN
  let dmax : Nat := 2 ^ lnK d - 3
  let di : Nat := delay / 2 ^ 40
  let clampd := di < dmin ∨ di > dmax
  let D : Nat := if di < dmin then dmin else if di > dmax then dmax else di
  let f := if clampd then 0 else delay / 2 ^ 24 % 65536
  let s := if clampd then rinc (welErr s c 4) (welCntA c) 0 16 else s
  let m : Int := tick + lateN - D
  let idx := [m + 1, m, m - 1, m - 2]
  let reads := (List.range 4).filter (fun j => decide (idx.getD j 0 < tick))
  let word := fun (j : Nat) => lineWordA d (idx.getD j 0)
  let s := forEach ((reads.map (fun j => clusterCis c (word j))).eraseDups) s (fun s k => bankTake s k [slot])
  let own := reads.all (fun j => cisOwner s (clusterCis c (word j)) == 1)
  let s := if own then s else welErr s c 5
  let s := forEach reads s (fun s j => if !own || coll.getD j false then s else welEcc s c slot (word j) (win.getD j .ok))
  let q := (List.range 4).foldl (fun (r : List Int × State) j =>
    if own && reads.contains j then
      let x := tapWord r.2 c (teLine t) d tick (idx.getD j 0) (win.getD j .ok) (coll.getD j false)
      (r.1 ++ [x.1], x.2)
    else (r.1 ++ [0], r.2)) ([], s)
  let s := q.2
  let v := interpolate (teInterp t) f q.1
  let p := rneShift (v.1 * dyToC36 gain) (v.2 + 32 - 64)
  let key := c * 1024 + teLane t
  let r := sumAdd (mget 0 s.wel.acc key) p
  let s := if r.2 then welErr s c 2 else s
  { s with wel := { s.wel with acc := mset 0 s.wel.acc key r.1 } }

/-- The registers a running-state capture fills (R169). -/
def welCapture (s : State) (c : Nat) (r : TapRun) : State :=
  let g := BitVec.ofInt 36 (dyToC36 r.gain)
  let a := welRunA c
  let s := rset s (a + 4) (BitVec.ofNat 32 (nbits g.toNat 0 4 * 2 ^ 28 + r.delay / 2 ^ 40 % 2 ^ 20))
  let s := rset s (a + 8) (BitVec.ofNat 32 (r.delay / 2 ^ 8))
  let s := rset s (a + 12) (BitVec.ofNat 32 (nbits g.toNat 4 32))
  let s := rset s (a + 16) (BitVec.ofNat 32 (2 ^ 31 + (r.dj % 2 ^ 17) * 16 + b2n r.held.isSome * 8 + b2n r.xf * 4 + b2n r.slide * 2
    + b2n r.ggl))
  { s with wel := { s.wel with cap := mset false s.wel.cap c false } }

/-- A walk slot of entry `e`: its primary head, or its second head (R153, R157–R163, R167). `tbl`: what the table words' check
bits find. -/
def welTap (s : State) (c e : Nat) (second : Bool) (tbl : Ecc) (win : List Ecc) (coll : List Bool) : State :=
  let t := entOf s c e
  let m := domOf s c
  if !welLive s c ∨ m = 0 ∨ !teEn t ∨ (second ∧ teDgm t ≠ 2) then s else
  let slot := entSlot s.wel.ent c e + b2n second
  let s := if tbl = .single then welCorr s c else s
  if tbl = .double then welFault s c 1 slot else
  let key := c * 32768 + e
  let r0 := mget {} s.wel.run key
  if second then
    if r0.xf then tapRender s c slot t r0.dtgt (dyScale r0.gain r0.dj r0.dk) win coll else s
  else
    let r := tapAdvance r0 t
    let s := { s with wel := { s.wel with run := mset {} s.wel.run key r } }
    let g := if r.xf then dyScale r.gain (2 ^ r.dk - r.dj) r.dk else r.gain
    let s := tapRender s c slot t r.delay g win coll
    if mget false s.wel.cap c && rfld s (welRunA c) 0 15 == e then welCapture s c r else s

/-- The S72 value of a close register, and whether it clamped (R155). -/
def closeS72 (v : BitVec 80) : Word × Bool := (BitVec.ofInt 72 (sclamp 72 v.toInt), !sfits 72 v.toInt)

/-- The Wellhead closes its sum lanes (R155). -/
def welClose (s : State) (c : Nat) : State :=
  if !welLive s c ∨ domOf s c = 0 then s else
  let accs := s.wel.acc.filter (fun e => e.1 / 1024 == c)
  let keep := fun (m : SMap (BitVec 80)) => m.filter (fun e => e.1 / 1024 != c)
  let s := { s with wel := { s.wel with close := accs.foldl (fun m e => mset 0 m e.1 e.2) (keep s.wel.close),
                                        acc := keep s.wel.acc, closed := mset false s.wel.closed c true } }
  let lanes := (s.mtr.mtr.filterMap (fun e =>
    let a := e.2.att.toNat
    if nbit a 63 ∧ nbits a 61 2 = 2 ∧ nbits a 36 4 = c then some (nbits a 0 10) else none)).eraseDups
  forEach lanes s (fun s l => mtrSum s c l (closeS72 (mget 0 s.wel.close (c * 1024 + l))).1)

/-- A Wellhead lane drives its next close register (R124, R155); `bad`: readers whose arrival register fails parity. -/
def welDrive (s : State) (c lane : Nat) (bad : List Nat) : State :=
  let d := laneDesc s c lane
  let n := mget 0 s.wel.drive (c * 256 + lane)
  if ldKind d ≠ 7 ∨ n ≥ ldCnt d then s else
  let r := closeS72 (mget 0 s.wel.close (c * 1024 + (ldFirst d + n) % 1024))
  let s := if r.2 then welErr s c 3 else s
  let s := { s with wel := { s.wel with drive := mset 0 s.wel.drive (c * 256 + lane) (n + 1) } }
  laneArrive s c lane (ldCyc d + n + 8) (z72 r.1) bad 0

/-- The first of the two write slots of a line's region, in ascending BASE (R153). -/
def writeSlot (s : State) (c line : Nat) : Nat :=
  let b := lnBase (lineOf s c line)
  (entriesOf s.wel.ent c).foldl (fun a x => a + entSlots x.2) 0
    + 2 * ((inletRegions s.wel.line c).filter (fun r => decide (r.1 < b))).length

/-- A write slot writes the captured inlet samples of a line's region (R148, R153, R166); `ecc`: what the read finds. -/
def welWriteSlot (s : State) (c line : Nat) (ecc : Ecc) : State :=
  let d0 := lineOf s c line
  if !welLive s c ∨ domOf s c = 0 ∨ !lnEn d0 ∨ lnWrt d0 then s else
  let t : Int := domTick s (domOf s c)
  let a := lineWordA d0 (t - 1)
  let k := clusterCis c a
  let mates := s.wel.line.filterMap (fun e =>
    if e.1 / 1024 = c ∧ lnEn e.2 ∧ lnWrt e.2 = false ∧ lnBase e.2 = lnBase d0 ∧ lnK e.2 = lnK d0 then some (e.1, e.2) else none)
  let slot := writeSlot s c line
  let s := bankTake s k [slot, slot + 1]
  if cisOwner s k ≠ 1 then s else
  let s := cisEcc s k (a % 65536) 0 (baseCycle s (domOf s c) slot) ecc
  if ecc = .double then s else
  forEach mates s (fun s e =>
    if mget false s.wel.inletWait e.1 then
      let w := cisWord s (clusterAddr c a)
      let v := mget 0 s.wel.inlet e.1
      let s := cisPut s (clusterAddr c a) (if lnHalf e.2 then Word.pack w.hi v else Word.pack v w.lo)
      { s with wel := { s.wel with inletWait := mset false s.wel.inletWait e.1 false } }
    else s)

/-- Cycle C − 64: the Wellhead captures each inlet lane's arrival register (R148). -/
def welInletCapture (s : State) (c : Nat) : State :=
  let ls := s.wel.line.filterMap (fun e => if e.1 / 1024 = c ∧ lnEn e.2 ∧ lnWrt e.2 = false then some (e.1, e.2) else none)
  let C := domC (domOf s c)
  if !welLive s c then s else
  forEach ls s (fun s e =>
    let w : Word := (laneWord (laneAt s c (lnInlane e.2)) 64 (C - 64)).extractLsb' 0 72
    let r := storeValue w.toInt 64 0 0 false 32 32 36
    let s := if r.2 then welErr s c 7 else s
    { s with wel := { s.wel with inlet := mset 0 s.wel.inlet e.1 (BitVec.ofInt 36 r.1),
                                 inletWait := mset false s.wel.inletWait e.1 true } })

/-- D0–D4 of an entry (R170). -/
def entData (t : TapEntry) : List W32 :=
  [t.w0.extractLsb' 0 32, t.w0.extractLsb' 32 32, t.w1.extractLsb' 0 32, t.w1.extractLsb' 32 32,
   BitVec.ofNat 32 (nbits t.w0.toNat 64 8 + nbits t.w1.toNat 64 8 * 256)]
/-- The entry D0–D4 spell (R170). -/
def entFromData (s : State) (c : Nat) : TapEntry :=
  let d := fun (k : Nat) => rget s (welEntA c + 4 + 4 * k)
  { w0 := ((d 4).extractLsb' 0 8 ++ d 1) ++ d 0, w1 := ((d 4).extractLsb' 8 8 ++ d 3) ++ d 2 }

/-- Write the shadow of an entry and mark it pending (R164). -/
def entPut (s : State) (c e : Nat) (t : TapEntry) : State :=
  { s with wel := { s.wel with entPend := mset none s.wel.entPend (c * 32768 + e) (some t) } }
/-- Write the shadow of a line and mark it pending (R164). -/
def linePut (s : State) (c k : Nat) (v : W32) : State :=
  { s with wel := { s.wel with linePend := mset none s.wel.linePend (c * 1024 + k) (some (v &&& 0xFFFF7FFF)) } }

/-- A tap table's slots that lie after a close cycle, as entries with their side (R165). -/
def closeSides (m : SMap TapEntry) (c wcc : Nat) : List (Nat × Bool) :=
  (entriesOf m c).filterMap (fun x => if teEn x.2 then some (x.1, decide (entSlot m c x.1 > wcc)) else none)

/-- The pending Wellhead items of a cluster become live (R164, R165); `act`: tables are live afterwards. -/
def welSwap (s : State) (c : Nat) (act : Bool) : State :=
  let was := welLive s c
  let old := closeSides s.wel.ent c (wccOf s c)
  let w := s.wel
  let ents := (w.entPend.filter (fun e => e.1 / 32768 == c))
  let lines := (w.linePend.filter (fun e => e.1 / 1024 == c))
  let oldWcc := wccOf s c
  let w := { w with
    ent := ents.foldl (fun m e => mset {} m e.1 (e.2.getD {})) w.ent,
    entPend := w.entPend.filter (fun e => e.1 / 32768 != c),
    line := lines.foldl (fun m e => mset 0 m e.1 (e.2.getD 0)) w.line,
    linePend := w.linePend.filter (fun e => e.1 / 1024 != c),
    wcc := match mget none w.wccPend c with | some v => mset 0 w.wcc c v | none => w.wcc,
    wccPend := mset none w.wccPend c none,
    run := ents.foldl (fun m e => if teEn (e.2.getD {}) then m else mset {} m e.1 {}) w.run,
    inletWait := lines.foldl (fun m e => if lnEn (e.2.getD 0) && !lnWrt (e.2.getD 0) then m else mset false m e.1 false) w.inletWait }
  let s := { s with wel := w }
  let new := closeSides w.ent c (wccOf s c)
  let moved := oldWcc ≠ wccOf s c ∨ old.any (fun x => new.any (fun y => x.1 == y.1 && x.2 != y.2))
  let s := rputBit s (welStatA c) 0 (act || was)
  if was ∧ decide moved then welErr s c 6 else s

end Sys2Proof.Machine
end

