-- ==== Sys2Proof/Machine/Glacier.lean ====
section
/-! DEFINITION. The Glacier delay store (ch. 8): blocks, streams, the streaming schedule, concealment, training states. -/

namespace Sys2Proof.Machine

/-- Channels fitted: the population straps (R171). -/
def glcChans : Nat := match Config.strapPop.toNat with | 1 => 1 | 3 => 2 | _ => 0
/-- GLC_STAT.STATE: off with nothing fitted (R186, R189). -/
def glcState (s : State) : Nat := if glcChans = 0 then 0 else rfld s 0x160000 13 3
def setGlcState (s : State) (v : Nat) : State := rput s 0x160000 13 3 v
/-- Blocks fitted (R174): 2^(DENS−1) GiB a channel. -/
def glcBlocks (s : State) : Nat :=
  let d := rfld s 0x160000 24 3
  if d = 0 then 0 else glcChans * 2 ^ (d - 1) * 2 ^ 24

/-- Fields of a stream descriptor (R175). -/
def sdEn (d : StrDesc) : Bool := bitOf d.w0 31
def sdKind (d : StrDesc) : Nat := fld d.w0 29 2
def sdConc (d : StrDesc) : Bool := bitOf d.w0 28
def sdLinev (d : StrDesc) : Bool := bitOf d.w0 27
def sdOne (d : StrDesc) : Bool := bitOf d.w0 26
def sdCl (d : StrDesc) : Nat := fld d.w0 22 4
def sdLine (d : StrDesc) : Nat := fld d.w0 12 10
def sdRbase (d : StrDesc) : Nat := fld d.w1 0 28
def sdNb (d : StrDesc) : Nat := fld d.w2 0 28
def sdB (d : StrDesc) : Nat := fld d.w3 0 24
def sdHbuf (d : StrDesc) : Nat := fld d.w4 16 13 * 64
def sdWbuf (d : StrDesc) : Nat := fld d.w4 0 13 * 64

def strOf (s : State) (g : Nat) : StrDesc := mget {} s.glc.str g
def strShadow (s : State) (g : Nat) : StrDesc := (mget none s.glc.strPend g).getD (strOf s g)
def runOf (s : State) (g : Nat) : StrRun := mget {} s.glc.run g
def setRun (s : State) (g : Nat) (r : StrRun) : State := { s with glc := { s.glc with run := mset {} s.glc.run g r } }

/-- A DRAM block; what nothing has written is undefined (R187). -/
def blockOf (s : State) (n : Nat) : DramBlock :=
  match mget none s.glc.dram n with
  | some b => b
  | none =>
    let u := s.glc.undefGen * 2 ^ 32
    let t := (Config.dramTag (u + n)).toNat
    { words := (List.range 6).map (fun k => Config.dramContent (u + 6 * n + k)), lap := t / 2 ^ 28, blk := t % 2 ^ 28 }
def putBlock (s : State) (n : Nat) (b : DramBlock) : State :=
  { s with glc := { s.glc with dram := mset none s.glc.dram n (some b) } }

/-- Set a flag of GLC_ERR. -/
def glcErr (s : State) (bit : Nat) : State := rsetBit s 0x160008 bit
/-- A Glacier finding: its flag, the event source, a Glacier fault (R184). `u`: a stream's unit, or the device's for a pump's read. -/
def glcFinding (s : State) (u bit : Nat) : State :=
  let s := glcErr s bit
  let m := if u = 0xA000 then 1 else domOf s (sdCl (strOf s (u - 0x5000)))
  fltDetect (evRaise s 98) { cls := 7, sev := 2, unit := u, btc := tickEndBtc s m, detail := rfld s 0x160008 0 16 }
/-- GLC_EADDR latches the first DED, TAG or LAP block (R184). -/
def glcEaddr (s : State) (n : Nat) : State :=
  if rbit s 0x160014 31 then s else rset s 0x160014 (BitVec.ofNat 32 (2 ^ 31 + n % 2 ^ 28))

/-- What the check bits of a word of block `n` find (R184); `u`: the unit of a double-bit finding's fault. -/
def glcEcc (s : State) (u n : Nat) (e : Ecc) : State :=
  match e with
  | .ok => s
  | .single => rinc s 0x16000C 16 16
  | .double => glcEaddr (glcFinding s u 0) n

/-- A pump or BAR2 read of a Glacier word (R174, R184). -/
def glcRead (s : State) (a : Nat) (e : Ecc) : TRes :=
  if glcState s ≠ 3 ∨ a / 6 ≥ glcBlocks s then { st := s, err := true }
  else { st := glcEcc s 0xA000 (a / 6) e, err := e == .double, data := (blockOf s (a / 6)).words.getD (a % 6) 0 }

/-- The block lies in the ring of an enabled delay or capture stream (R174). -/
def glcProtected (s : State) (n : Nat) : Bool :=
  s.glc.str.any (fun e => sdEn e.2 && (sdKind e.2 == 1 || sdKind e.2 == 2) && decide (sdRbase e.2 ≤ n)
    && decide (n < sdRbase e.2 + sdNb e.2))

/-- A pump or BAR2 write of a Glacier word: a read-modify-write of its block (R173, R174). DESIGN CHOICE (log entry 68): what that read
finds is counted and flagged as R184 has it, and a word read with a double-bit error is not written, with an error response. -/
def glcWrite (s : State) (a : Nat) (f : Word → Word) (e : Ecc) : TRes :=
  let n := a / 6
  if glcState s ≠ 3 ∨ n ≥ glcBlocks s then { st := s, err := true }
  else if glcProtected s n then { st := glcErr s 7, err := true }
  else if e = .double then { st := glcEcc s 0xA000 n e, err := true }
  else
    let s := glcEcc s 0xA000 n e
    let b := blockOf s n
    { st := putBlock s n { words := b.words.set (a % 6) (f (b.words.getD (a % 6) 0)), lap := 0, blk := n } }

/-- The controller reads a word of a cluster's cisterns at the T port (R176, R254); none: an error response. -/
def glcCisRead (s : State) (c a : Nat) (e : Ecc) (m : Meet) : Option Word × State :=
  let r := cisTRead s (clusterCis c a) (a % 65536) e m
  (if r.err then none else some r.data, r.st)
/-- It writes a word there, where the owner admits it (R150, R176, R244). -/
def glcCisPut (s : State) (c a : Nat) (w : Word) (m : Meet) : State := (cisTWrite s 7 (clusterCis c a) (a % 65536) w m).st
/-- The finding and the meeting of one access. -/
def accEcc (acc : List Access) (k : Nat) : Ecc := (acc.getD k {}).ecc
def accMeet (acc : List Access) (k j : Nat) : Meet := (acc.getD k {}).meets.getD j .none

/-- The present domain tick of a stream's cluster. -/
def strTick (s : State) (d : StrDesc) : Nat := domTick s (domOf s (sdCl d))

/-- Step 2 of R178: collect, clear and convert 12 write-buffer words; a word the cistern answers with an error is undefined.
`acc`: for each word the finding of its read, how the read and the clearing meet the F port. -/
def glcCollect (s : State) (d : StrDesc) (t0 : Nat) (acc : List Access) : List Half × State :=
  (List.range 12).foldl (fun (r : List Half × State) k =>
    let a := sdWbuf d + (t0 + k) % 64
    let q := glcCisRead r.2 (sdCl d) a (accEcc acc k) (accMeet acc k 0)
    let w : Word × State := match q.1 with
      | some w => (w, q.2)
      | none => freeW q.2
    let v := storeValue w.1.toInt 64 0 0 false 32 32 36
    let s := glcCisPut w.2 (sdCl d) a 0 (accMeet acc k 1)
    (r.1 ++ [BitVec.ofInt 36 v.1], if v.2 then glcErr s 6 else s)) ([], s)

/-- In its write window the grain's block is written; with STATE not ready the window lapses (R178, R183, R188). -/
def glcGrainWrite (s : State) (g : Nat) (acc : List Access) : State :=
  let d := strOf s g
  let r := runOf s g
  let st := r.t0 + 12 * r.gw
  let t := strTick s d
  if !sdEn d ∨ sdKind d = 3 ∨ sdKind d = 0 ∨ r.done ∨ t < st + 12 ∨ t > st + 35 ∨ glcState s ≠ 3 then s else
  let q := glcCollect s d st acc
  let words := (List.range 6).map (fun k => Word.pack (q.1.getD (2 * k) 0) (q.1.getD (2 * k + 1) 0))
  let n := sdRbase d + r.gw % sdNb d
  let s := putBlock q.2 n { words := words, lap := if sdKind d = 1 then r.gw / sdNb d % 16 else 0, blk := n }
  let r := { r with gw := r.gw + 1, wg := r.wg + 1 }
  setRun s g { r with done := sdKind d = 2 && sdOne d && decide (r.wg ≥ sdNb d) }

/-- A write not complete by the end of its window is abandoned (R183). -/
def glcWriteMiss (s : State) (g : Nat) : State :=
  let d := strOf s g
  let r := runOf s g
  if !sdEn d ∨ sdKind d = 3 ∨ sdKind d = 0 ∨ r.done ∨ strTick s d < r.t0 + 12 * r.gw + 35 then s else
  setRun (rinc (glcErr s 5) 0x160010 0 16) g { r with gw := r.gw + 1 }

/-- Fill the head words of grain n: sample k of index s + B + k; none: missing (R176, R178). An index already delivered keeps what it
was delivered with (R183). -/
def glcFill (s : State) (g n : Nat) (xs : List (Option Half)) (meets : List Meet) : State :=
  let d := strOf s g
  let r := runOf s g
  let base := r.t0 + 12 * n + sdB d
  let q := (List.range 12).foldl (fun (acc : State × SMap Bool) k =>
    let i := (base + k) % 64
    match xs.getD k none with
    | some v => (glcCisPut acc.1 (sdCl d) (sdHbuf d + i) (Word.pack v 0) (meets.getD k .none),
                 if r.t0 + r.ix ≤ base + k then mset false acc.2 i true else acc.2)
    | none => (acc.1, if r.t0 + r.ix ≤ base + k then mset false acc.2 i false else acc.2)) (s, r.good)
  setRun q.1 g { r with good := q.2, gr := n + 1 }

/-- In its read window the controller reads and checks a grain's block and fills head words (R178, R184). `ecc`: what the check
bits of the six words find; `meets`: how the fills meet the F port. -/
def glcGrainRead (s : State) (g : Nat) (ecc : List Ecc) (meets : List Meet) : State :=
  let d := strOf s g
  let r := runOf s g
  let n := r.gr
  if !sdEn d ∨ sdKind d = 2 ∨ sdKind d = 0 ∨ strTick s d < r.t0 + 12 * n + sdB d - 25 then s else
  if glcState s ≠ 3 then glcFill s g n [] [] else
  let bn := sdRbase d + n % sdNb d
  let b := blockOf s bn
  let s := forEach ecc s (fun s e => glcEcc s (0x5000 + g) bn e)
  let tag := b.blk != bn
  let lap := sdKind d == 1 && b.lap != n / sdNb d % 16
  let s := if tag then glcEaddr (glcFinding s (0x5000 + g) 1) bn else s
  let s := if lap then glcEaddr (glcFinding s (0x5000 + g) 2) bn else s
  glcFill s g n ((List.range 12).map (fun k =>
    if tag || lap || ecc.getD (k / 2) .ok == .double then none
    else some (if k % 2 = 0 then (b.words.getD (k / 2) 0).hi else (b.words.getD (k / 2) 0).lo))) meets

/-- A head buffer not complete by cycle 0 of tick s + B − 1 (R183). -/
def glcHeadLate (s : State) (g : Nat) : State :=
  let d := strOf s g
  let r := runOf s g
  if !sdEn d ∨ sdKind d = 2 ∨ sdKind d = 0 ∨ strTick s d + 1 < r.t0 + 12 * r.gr + sdB d ∨ r.hl > r.gr then s else
  setRun (rinc (glcErr s 3) 0x160010 16 16) g { r with hl := r.gr + 1 }

/-- The tick in which index `ix` is due: its copy's, or with no line the head deadline of its grain (R178, R183). -/
def glcDueTick (d : StrDesc) (t0 ix : Nat) : Nat :=
  if sdLinev d ∨ ix < sdB d then t0 + ix else t0 + 12 * ((ix - sdB d) / 12) + sdB d - 1

/-- Step 5 of R178, or the head deadline of a stream without a line: the next index is delivered, or concealed (R179, R183). A head
word that the cistern answers with an error is no checked sample. `head`, `line`: the findings of the head word's read and of the
half-word access to the line, and how they meet the F port. -/
def glcLineCopy (s : State) (g : Nat) (head line : Access) : State :=
  let d := strOf s g
  let r := runOf s g
  let i := r.t0 + r.ix
  if !sdEn d ∨ sdKind d = 2 ∨ sdKind d = 0 ∨ strTick s d < glcDueTick d r.t0 r.ix then s else
  let early := decide (r.ix < sdB d)
  let h := sdHbuf d + i % 64
  let good := !early && mget false r.good (i % 64)
  let q : Option Word × State :=
    if !good then (none, s)
    else if sdLinev d then glcCisRead s (sdCl d) h head.ecc (head.meets.getD 0 .none)
    else (some (cisWord s (clusterAddr (sdCl d) h)), s)
  let s := q.2
  let miss := !early && q.1.isNone
  let v : Half := match q.1 with
    | some w => w.hi
    | none => if miss && sdConc d then r.last else 0
  let s := if miss then rinc (glcFinding s (0x5000 + g) 4) 0x16000C 0 16 else s
  let s := setRun s g { r with ix := r.ix + 1, good := mset false r.good (i % 64) false, last := if miss then r.last else v,
                               concl := miss, conclN := r.conclN + b2n miss }
  if sdLinev d then
    let ln := lineOf s (sdCl d) (sdLine d)
    let a := lineWordA ln i
    let k := clusterCis (sdCl d) a
    (cisTRmw s 7 k (a % 65536) (fun w => if lnHalf ln then Word.pack w.hi v else Word.pack v w.lo) line.ecc
      (line.meets.getD 0 .none)).st
  else if miss || early then glcCisPut s (sdCl d) h (Word.pack v 0) (line.meets.getD 0 .none) else s

/-- The clusters with whose Wellhead a stream's pending descriptor becomes live: its own, and that of an enabled live one (R182). -/
def strHomes (s : State) (g : Nat) (d : StrDesc) : List Nat :=
  let o := strOf s g
  if !sdEn o then [sdCl d] else if !sdEn d ∨ sdCl d = sdCl o then [sdCl o] else [sdCl o, sdCl d]
/-- The clusters whose Wellhead members a write of a stream's descriptor touches: those of the new one and of what pends (R228). -/
def strMembers (s : State) (g : Nat) (d : StrDesc) : List Nat :=
  (strHomes s g d ++ (match mget none s.glc.strPend g with
    | some p => strHomes s g p
    | none => [])).eraseDups
/-- A cluster has pending stream descriptors (R182, R241). -/
def strPends (s : State) (c : Nat) : Bool :=
  s.glc.strPend.any (fun e => match e.2 with
    | some d => (strHomes s e.1 d).contains c
    | none => false)

/-- The pending stream descriptors of a cluster become live (R177, R182). -/
def glcSwap (s : State) (c : Nat) : State :=
  let ps := s.glc.strPend.filterMap (fun e => match e.2 with
    | some d => if (strHomes s e.1 d).contains c then some (e.1, d) else none
    | none => none)
  let t0 := (s.btc.toNat + 1) * domOf s c
  forEach ps s (fun s e =>
    let was := sdEn (strOf s e.1)
    let s := { s with glc := { s.glc with str := mset {} s.glc.str e.1 e.2, strPend := mset none s.glc.strPend e.1 none } }
    if sdEn e.2 && !was then setRun s e.1 { t0 := t0 } else s)

/-- Enabled streams (GLC_STAT.ACT). -/
def glcAct (s : State) : Nat := (s.glc.str.filter (fun e => sdEn e.2)).length

/-- Data rate of a rate code in MT/s (R189). -/
def glcRate (c : Nat) : Nat :=
  match c with | 1 => 3200 | 2 => 4266 | 3 => 5500 | 4 => 6400 | 5 => 7500 | 6 => 8533 | _ => 0
/-- The limit of R181 at the trained rate, MB/s: a quarter of the peak. -/
def glcLimit (s : State) : Nat := glcRate (rfld s 0x160000 20 3) * 4 * glcChans / 4
/-- The stream load of R181 of a set of enabled streams in mB/s (bytes/s × 1,000); `fam`: the base rate. -/
def glcLoadMilli (s : State) (ds : List StrDesc) (fam : Nat) : Nat :=
  ds.foldl (fun a d => a + (if sdEn d then (if sdKind d = 1 then 2 else 1) * 64 * domOf s (sdCl d) * fam * 1045 / 12 else 0)) 0

/-- GLC_TRAIN.TIME, STEP and LAST of a training, a reuse or a retrain (R189). -/
def glcShow (s : State) (rate step time : Nat) : State :=
  rput (rput (rput s 0x160004 16 16 (min time 65535)) 0x160004 12 4 step) 0x160004 8 3 rate
/-- The stored results may be tried: the reset was a warm one of this session and left some, and the die has moved by less than 20 °C
since they were stored, as far as a sensor has said (R187). -/
def glcReusable (s : State) : Bool :=
  s.glc.reuse && decide (s.glc.stored ≠ 0) && (!s.pwr.seen || decide ((dieQuarter s - s.glc.storedT).natAbs < 80))

/-- Training ends with a rate, or with none (R172, R186, R187). `step`: the step that failed last; `retain`: a verification pass of
the stored results succeeds. -/
def glcTrained (s : State) (rate step time : Nat) (retain : Bool) : State :=
  if glcChans = 0 ∨ glcState s ≠ 2 then s else
  let keep := retain && glcReusable s
  let rate := if keep then s.glc.stored else min rate (rfld s 0x160004 0 3)
  let s := rputBit (glcShow s rate step time) 0x160000 23 (keep && s.glc.warm)
  let s := { s with glc := { s.glc with reuse := false, warm := false } }
  let s := if keep then s else { s with glc := { s.glc with dram := [], undefGen := s.glc.undefGen + 1 } }
  if rate = 0 then setGlcState (rput s 0x160000 20 3 0) 5
  else
    let s := rput (rput s 0x160000 20 3 rate) 0x160000 24 3 Config.dramDensity.toNat
    let s := if keep then s else { s with glc := { s.glc with stored := rate, storedT := dieQuarter s } }
    setGlcState s 3

/-- A tracking failure: recovering, retrain as follow-up work (R188, R427). -/
def glcTrackFail (s : State) : State :=
  if glcState s ≠ 3 then s else
  let s := setGlcState (glcErr s 9) 4
  fltWork (fltDetect s { cls := 7, sev := 2, unit := 0xA000, btc := tickEndBtc s 1, detail := rfld s 0x160008 0 16 })
    { cls := 7, sev := 2, unit := 0xA000 }

/-- A retrain from the stored results ends (R188): ready again closes the Glacier faults that stand open (R426). -/
def glcRetrained (s : State) (ok : Bool) (step time : Nat) : State :=
  if glcState s ≠ 4 then s else
  let s := glcShow s (if ok then s.glc.stored else 0) step time
  if ok then
    let us := s.flt.openf.filterMap (fun e => if e.1 / 65536 = 7 ∧ e.2 then some (e.1 % 65536) else none)
    let s := fltWorkDone (setGlcState s 3) 7 0xA000
    forEach us s (fun s u => fltRecover s { cls := 7, sev := 2, unit := u, btc := tickEndBtc s 1, detail := rfld s 0x160008 0 16 })
  else fltWorkDone (setGlcState (rput s 0x160000 20 3 0) 5) 7 0xA000

/-- A write of GLC_STR_IDX (R189). -/
def glcStrIdx (s : State) (g : Nat) (wr rd cap : Bool) : State :=
  let s := rput s 0x160020 0 12 g
  let d := fun (k : Nat) => rget s (0x160024 + 4 * k)
  let new : StrDesc := ⟨d 0, d 1, d 2, d 3, d 4⟩
  let s := if wr then (match (strMembers s g new).findSome? (fun c => memberRefused s (memWel c) (lockStr g)) with
      | some s' => s'
      | none => { s with glc := { s.glc with strPend := mset none s.glc.strPend g (some new) } }) else s
  let s := if rd then
      let x := strShadow s g
      forN 5 s (fun s k => rset s (0x160024 + 4 * k) ([x.w0, x.w1, x.w2, x.w3, x.w4].getD k 0))
    else s
  if cap then
    let r := runOf s g
    let x := strOf s g
    let s := rset s 0x160040 (BitVec.ofNat 32 (2 ^ 31 + b2n (sdEn x) * 2 ^ 28 + b2n r.done * 2 ^ 27 + b2n r.concl * 2 ^ 26
      + (if sdNb x = 0 then 0 else r.gw / sdNb x % 16)))
    rset64 (rset s 0x160044 (BitVec.ofNat 32 r.wg)) 0x160048 (BitVec.ofNat 64 r.t0)
  else s

/-- GLACIER_GRAIN_WRITE (R178 step 2). -/
def execGlacierGrainWrite (w : GrainWrite) (st : State) : Res := .next (glcGrainWrite st w.g.val w.acc)
/-- GLACIER_WRITE_MISS (R183). -/
def execGlacierWriteMiss (g : Fin 4096) (st : State) : Res := .next (glcWriteMiss st g.val)
/-- GLACIER_GRAIN_READ (R178 step 4, R184). -/
def execGlacierGrainRead (g : Fin 4096) (f : GrainFacts) (st : State) : Res :=
  .next (glcGrainRead st g.val (f.ecc.take 6) f.meets)
/-- GLACIER_HEAD_LATE (R183). -/
def execGlacierHeadLate (g : Fin 4096) (st : State) : Res := .next (glcHeadLate st g.val)
/-- GLACIER_LINE_COPY (R178 step 5, R183). -/
def execGlacierLineCopy (g : Fin 4096) (f : LineFacts) (st : State) : Res := .next (glcLineCopy st g.val f.head f.line)
/-- GLACIER_TRACKING_FAILURE (R188). -/
def execGlacierTrackingFailure (st : State) : Res := .next (glcTrackFail st)
/-- GLACIER_RETRAIN_DONE (R188). -/
def execGlacierRetrainDone (r : Retrain) (st : State) : Res :=
  .next (glcRetrained st r.ok r.step.val r.time.toNat)
/-- GLACIER_REFRESH_REPORT (R188): the report is above the operating limit. -/
def execGlacierRefreshReport (st : State) : Res := .next (if glcChans = 0 then st else glcErr st 8)
/-- GLC_STR_WR (R182, R189). -/
def execGlcStrWr (g : Fin 4096) (st : State) : Res := .next (glcStrIdx st g.val true false false)
/-- GLC_STR_RD (R189). -/
def execGlcStrRd (g : Fin 4096) (st : State) : Res := .next (glcStrIdx st g.val false true false)
/-- GLC_STR_CAP (R189). -/
def execGlcStrCap (g : Fin 4096) (st : State) : Res := .next (glcStrIdx st g.val false false true)
/-- GLC_EADDR_CLR (R189). -/
def execGlcEaddrClr (st : State) : Res := .next (rset st 0x160014 0)

end Sys2Proof.Machine
end

