-- ==== Sys2Proof/Machine/Fabric.lean ====
section
/-! DEFINITION. Transfer-side accesses to fabric space (R8, R74, R253, R269, R283): what each target admits and does. -/

namespace Sys2Proof.Machine

/-- A word with the bits of a mask replaced. -/
def maskPut (m old new : Word) : Word := (old &&& ~~~m) ||| (new &&& m)
/-- All bits of a word. -/
def fullMask : Word := BitVec.allOnes 72

/-- The slot whose CEL_SLOT names the active pages of the memories of slot `k`: the one that runs its logical cell (R436). -/
def pageSlot (s : State) (k : Nat) : Nat :=
  if slotState s k = 6 then (slotOf s (logicalOf s k)).getD k else k

/-- Program, coefficient or state region of a window offset: page number in it, or none outside (R69). -/
def winPending (s : State) (k off : Nat) : Bool :=
  let ps := pageSlot s k
  if off < 0x1000 then off / 0x800 != ppage s ps else (off - 0x1000) / 0x800 != kpage s ps

/-- A cell window answers with an error response: its cluster is off or being cleared (R18). -/
def clusterDown (s : State) (c : Nat) : Bool := cisDown s (8 * c)

/-- A write to a pending page word: it is marked, and during lending applied to both slots (R223, R434). -/
def pagePut (s : State) (k off : Nat) (f : Word → Word) : State :=
  let one := fun (s : State) (k : Nat) =>
    let s := cellPut s k off (f (cellWord s k off))
    { s with mem := { s.mem with mark := mset false s.mem.mark (k * 0x4000 + off) true } }
  let s := one s k
  let p := pageSlot s k
  if p = k then s else one s p

/-- Which memory a window offset lies in, as CEL_ERR.DMEM codes it (R69, R78). -/
def winMem (off : Nat) : Nat := if off < 0x1000 then 0 else if off < 0x2000 then 1 else 2
/-- A write of part of a word reads it first: what that read finds is counted or reported, and a double-bit error abandons the write,
with an error response (R61, R73, R269). -/
def winRmw (s : State) (k off : Nat) (m : Word) (e : Ecc) (put : State → State) : TRes :=
  if m = fullMask then { st := put s }
  else if e = .double then { st := cellEcc s k (winMem off) e, err := true }
  else { st := put (cellEcc s k (winMem off) e) }
/-- A write to state memory, applied to both slots while the memory is lent (R74, R434). -/
def statePut (s : State) (k off : Nat) (f : Word → Word) : State :=
  let s := cellPut s k off (f (cellWord s k off))
  let p := pageSlot s k
  if p = k then s else cellPut s p off (f (cellWord s p off))

/-- A transfer-side write to a cell window (R61, R69, R74, R228, R434, R436). -/
def winWrite (s : State) (k off : Nat) (m w : Word) (e : Ecc) : TRes :=
  let st := slotState s k
  let put := fun (s : State) => pagePut s k off (fun o => maskPut m o w)
  if clusterDown s (k / 68) ∨ st = 4 ∨ (cellAt s k).lender.isSome then { st := s, err := true }
  else if off ≥ 0x3000 then { st := s }
  else if off ≥ 0x2000 then
    if st = 1 then { st := s, err := true }
    else winRmw s k off m e (fun s => statePut s k off (fun o => maskPut m o w))
  else if !winPending s k off then { st := s, err := true }
  else if off < 0x1000 ∧ xfRuns s (pageSlot s k) then { st := s, err := true }
  else
    match memberOfSlot s k with
    | some l =>
      match memberRefused s (memCell l) (lockMem (memCell l)) with
      | some s' => { st := s', err := true }
      | none => winRmw s k off m e put
    | none => winRmw s k off m e put

/-- A transfer-side read of a cell window (R69, R73, R74, R435). -/
def winRead (s : State) (k off : Nat) (e : Ecc) : TRes :=
  if clusterDown s (k / 68) then { st := s, err := true }
  else if off ≥ 0x3000 then { st := s }
  else
    if e = .double ∧ slotState s k = 6 ∧ off < 0x2000 ∧ !winPending s k off then
      let p := if off / 0x800 % 2 = 0 then off + 0x800 else off - 0x800
      { st := s, data := if mget false s.mem.mark (k * 0x4000 + p) then 0 else cellWord s k p }
    else { st := cellEcc s k (winMem off) e, data := cellWord s k off }

/-- Regions of fabric space (R8, R253, R402): region code, unit, word in it. -/
def fabWhere (a : Nat) : Nat × Nat × Nat :=
  if a < 0x800000 then (1, a / 65536, a % 65536)
  else if 0x1000000 ≤ a ∧ a < 0x1000000 + 1088 * 0x4000 then (2, (a - 0x1000000) / 0x4000, a % 0x4000)
  else if 0x4000000 ≤ a ∧ a < 0x4800000 then (3, (a - 0x4000000) / 65536, a % 65536)
  else if 0x4800000 ≤ a ∧ a < 0x5000000 then (4, (a - 0x4800000) / 65536, a % 65536)
  else if 0x6000000 ≤ a ∧ a < 0x6080000 ∧ a % 65536 < 0x1000 then (5, (a - 0x6000000) / 65536, a % 65536)
  else if 0x80000000 ≤ a ∧ a < 2 ^ 32 then (6, 0, a - 0x80000000)
  else (0, 0, 0)

/-- A transfer-side read of a fabric word (R253, R269); an unassigned address gets an error response. -/
def fabRead (s : State) (a : Nat) (e : Ecc) (m : Meet) : TRes :=
  match fabWhere a with
  | (1, k, w) | (3, k, w) | (4, k, w) => cisTRead s k w e m
  | (2, k, off) => winRead s k off e
  | (6, _, w) => glcRead s w e
  | _ => { st := s, err := true }

/-- A transfer-side write of the bits of a mask by user `u` (R244, R253, R269, R402). -/
def fabWrite (s : State) (u a : Nat) (m w : Word) (e : Ecc) (mt : Meet) : TRes :=
  match fabWhere a with
  | (1, k, x) => if m = fullMask then cisTWrite s u k x w mt else cisTRmw s u k x (fun o => maskPut m o w) e mt
  | (3, k, x) => cisTRmw s u k x (fun o => o ||| (w &&& m)) e mt
  | (4, k, x) => cisTRmw s u k x (fun o => o &&& ~~~(w &&& m)) e mt
  | (2, k, off) => winWrite s k off m w e
  | (5, n, _) => if m = fullMask then crcFeed s n w else { st := s, err := true }
  | (6, _, x) => glcWrite s x (fun o => maskPut m o w) e
  | _ => { st := s, err := true }

end Sys2Proof.Machine
end

