-- ==== Sys2Proof/Machine/Bar2.lean ====
section
/-! DEFINITION. BAR2 windows of the PCIe agents (R283). -/

namespace Sys2Proof.Machine

/-- The fabric word byte `o` of an agent's window reaches (R283). -/
def b2Word (s : State) (a o : Nat) : Nat := rfld s (pageA a + 0x40) 18 14 * 0x40000 + o / 16

/-- The words a request covers, in ascending order: word offset in the window, first and end byte in the word. -/
def b2Words (off len : Nat) : List (Nat × Nat × Nat) :=
  if len = 0 then [] else
  (List.range ((off + len - 1) / 16 - off / 16 + 1)).map (fun i =>
    let w := off / 16 + i
    (w, if i = 0 then off % 16 else 0, min 16 (off + len - 16 * w)))

/-- What an access meets, or leaves, in HST_AG_ERR (R283). -/
def b2Flags (s : State) (a : Nat) (r : TRes) : State :=
  let s := if r.err then rsetBit s (pageA a + 8) 2 else s
  if r.busy then rsetBit s (pageA a + 8) 3 else s

/-- A read of one word: its 16-byte view (R9, R283). -/
def b2ReadWord (acc : List Byte × List Access × State) (a w lo hi : Nat) : List Byte × List Access × State :=
  let s := acc.2.2
  if lo ≥ 9 then (acc.1 ++ List.replicate (hi - lo) 0, acc.2) else
  let x := acc.2.1.headD {}
  let r := fabRead s (b2Word s a (16 * w)) x.ecc (x.meets.headD .none)
  let v := if r.err then List.replicate 16 0 else leBytes 9 r.data.toNat ++ List.replicate 7 0
  (acc.1 ++ (v.drop lo).take (hi - lo), acc.2.1.tail, b2Flags r.st a r)

/-- A PCIe read through a window; words in ascending order (R283). -/
def b2Read (s : State) (a off len : Nat) (acc : List Access) : State :=
  let r := (b2Words off len).foldl (fun (q : List Byte × List Access × State) x => b2ReadWord q a x.1 x.2.1 x.2.2) ([], acc, s)
  emit r.2.2 (.bar2Data r.1)

/-- A PCIe write through a window (R283): whole words, or read-modify-writes of the covered bytes. -/
def b2Write (s : State) (a off : Nat) (bytes : List Byte) (acc : List Access) : State :=
  ((b2Words off bytes.length).foldl (fun (q : List Access × State) x =>
    let w := x.1
    let lo := x.2.1
    let hi := x.2.2
    if lo ≥ 9 then q else
    let y := q.1.headD {}
    let n := min hi 9 - lo
    let data := BitVec.ofNat 72 (leNat (slice bytes (16 * w + lo - off) n) * 2 ^ (8 * lo))
    let m := if lo = 0 ∧ hi ≥ 9 then fullMask else byteMask lo n
    let r := fabWrite q.2 6 (b2Word q.2 a (16 * w)) m data y.ecc (y.meets.headD .none)
    (q.1.tail, b2Flags r.st a r)) (acc, s)).2

/-- BAR2 is served: from READY on, and not in recovery (R409, R422). -/
def bar2Open (s : State) : Bool := devReady s && !inRecovery s

/-- BAR2_READ (R283): byte offset in the agent's window, bytes, the facts of the words' accesses. -/
def execBar2Read (a : Fin 4) (off : BitVec 22) (len : Fin 4097) (acc : List Access) (st : State) : Res :=
  let n := min len.val (2 ^ 22 - off.toNat)
  .next (if bar2Open st then b2Read st a.val off.toNat n acc else emit st (.bar2Data (List.replicate n 0)))
/-- BAR2_READ_TIMEOUT (R283): a Glacier or cell-window read not served in 20 µs. -/
def execBar2ReadTimeout (a : Fin 4) (len : Fin 4097) (st : State) : Res :=
  .next (emit (whenS (bar2Open st) st (fun s => rsetBit s (pageA a.val + 8) 2)) (.bar2Data (List.replicate len.val 0)))
/-- BAR2_WRITE (R283). -/
def execBar2Write (a : Fin 4) (off : BitVec 22) (bytes : List Byte) (acc : List Access) (st : State) : Res :=
  .next (if bar2Open st then b2Write st a.val off.toNat (bytes.take (2 ^ 22 - off.toNat)) acc else st)

end Sys2Proof.Machine
end

