-- ==== Sys2Proof/Machine/ExchCmd.lean ====
section
/-! DEFINITION. The meanings of the exchange's and the Wellhead's commands (ch. 6, 7): chain adds, rate bridges, the walk,
table accesses, the load engine. -/

namespace Sys2Proof.Machine

/-- h[0] to h[31] of the half-band filter as C36 integers, from the formula of R137; h[−k] = h[k]. -/
def halfBandH : List Int :=
  [2147483648, 1361919334, 0, -440283481, 0, 248388813, 0, -161613156, 0, 110795296, 0, -77187653, 0, 53599054, 0, -36625779] ++
  [0, 24375942, 0, -15644348, 0, 9573226, 0, -5503231, 0, 2906536, 0, -1356681, 0, 514217, 0, -117894]

/-- Σ h[k]·u[n−31−k] over a delay line, newest first, in units of 2^-96 (R137). -/
def halfBandSum (line : List Word) : Int :=
  (List.range 63).foldl (fun a j =>
    let k := if j < 31 then 31 - j else j - 31
    a + halfBandH.getD k 0 * (line.getD j 0).toInt) 0

/-- A word enters a 64-word delay line. -/
def linePush (line : List Word) (w : Word) : List Word := (w :: line).take 64
/-- Round half-even to S72 and saturate (R137). -/
def firRound (v : Int) : Word × Bool :=
  let r := rneShift v 32
  (BitVec.ofInt 72 (sclamp 72 r), !sfits 72 r)

/-- A half-band stage over the words of one base tick: its delay line, outputs and saturations. An interpolating stage puts a
zero after each input and filters with 2h; a decimating stage keeps the first output of each pair (R137). -/
def bridgeStage (up : Bool) (line : List Word) (ws : List Word) (i : Nat) : List Word × List Word × Nat :=
  match ws with
  | [] => (line, [], 0)
  | w :: r =>
    let l1 := linePush line w
    if up then
      let a := firRound (2 * halfBandSum l1)
      let l2 := linePush l1 0
      let b := firRound (2 * halfBandSum l2)
      let q := bridgeStage up l2 r (i + 1)
      (q.1, a.1 :: b.1 :: q.2.1, b2n a.2 + b2n b.2 + q.2.2)
    else
      let q := bridgeStage up l1 r (i + 1)
      if i % 2 = 0 then
        let a := firRound (halfBandSum l1)
        (q.1, a.1 :: q.2.1, b2n a.2 + q.2.2)
      else (q.1, q.2.1, q.2.2)

/-- A bridge entry of the live table (R135). -/
def bridgeEntry (s : State) (c k : Nat) : W32 := mget 0 (liveTable s c).bridge k

/-- A base boundary: the channel filters the words captured in the base tick just ended (R136, R137). -/
def bridgeFilter (s : State) (c k : Nat) : State :=
  let b := bridgeAt s c k
  let r := fld (bridgeEntry s c k) 28 3
  let up := decide (r = 1 ∨ r = 3 ∨ r = 5)
  let q1 := bridgeStage up b.line1 b.cap 0
  let q2 := if r = 5 ∨ r = 6 then bridgeStage up b.line2 q1.2.1 0 else (b.line2, q1.2.1, 0)
  let sat := q1.2.2 + q2.2.2
  let s := setBridge s c k { b with line1 := q1.1, line2 := q2.1, out := q2.2.1, cap := [] }
  if sat = 0 then s else rincBy (xchErr s c 4) (xchRbA c k) 0 8 sat

/-- A boundary of the source domain copies the input register into the input buffer (R136). -/
def bridgeCapture (s : State) (c k : Nat) : State :=
  let b := bridgeAt s c k
  let inp := match b.flight.getLast? with | some x => x.2 | none => b.inp
  setBridge s c k { b with inp := inp, flight := [], cap := b.cap ++ [inp] }

/-- Cycle 32 of a destination tick: the channel's output word arrives on its lane (R136); `bad`: readers whose arrival
register fails parity (R141). -/
def bridgeOutput (s : State) (c k : Nat) (bad : List Nat) : State :=
  let e := bridgeEntry s c k
  let lane := fld e 16 8
  if !bitOf e 31 ∨ ldKind (laneDesc s c lane) ≠ 6 then s else
  laneArrive s c lane 32 (z72 ((bridgeAt s c k).out.getD (domPos s (domOf s c)) 0)) bad 0

/-- CHAIN_ADD (R132, R133). -/
def execChainAdd (ch : Fin 4096) (c : Fin 16) (badUp badDn : Bool) (bad : List (Fin 65)) (st : State) : Res :=
  .next (chainAdd st ch.val c.val badUp badDn (bad.map Fin.val))

/-- BRIDGE_OUTPUT (R136). -/
def execBridgeOutput (c : Fin 16) (k : Fin 32) (bad : List (Fin 65)) (st : State) : Res :=
  .next (bridgeOutput st c.val k.val (bad.map Fin.val))

/-- WELLHEAD_CLOSE (R155). -/
def execWellheadClose (c : Fin 16) (st : State) : Res := .next (welClose st c.val)

/-- WELLHEAD_TAP (R153, R157). -/
def execWellheadTap (c : Fin 16) (e : Fin 32768) (second : Bool) (tbl : Ecc) (win : WindowFacts) (st : State) : Res :=
  .next (welTap st c.val e.val second tbl win.ecc win.coll)

/-- WELLHEAD_WRITE_SLOT (R148). -/
def execWellheadWriteSlot (c : Fin 16) (line : Fin 1024) (ecc : Ecc) (st : State) : Res :=
  .next (welWriteSlot st c.val line.val ecc)

/-- WELLHEAD_LANE_DRIVE (R155). -/
def execWellheadLaneDrive (c : Fin 16) (lane : Fin 256) (bad : List (Fin 65)) (st : State) : Res :=
  .next (welDrive st c.val lane.val (bad.map Fin.val))

/-- A write of WEL_ENT_IDX: the entry's shadow written from D0–D4, or D0–D4 loaded from it (R164, R170). -/
def welEntIdx (s : State) (c e : Nat) (wr rd : Bool) : State :=
  let s := rput s (welEntA c) 0 15 e
  let s := if wr then (match memberRefused s (memWel c) (lockEnt (c * 32768 + e)) with | some s' => s' | none => entPut s c e (entFromData s c))
    else s
  if rd then
    let d := entData (entShadow s c e)
    forN 5 s (fun s k => rset s (welEntA c + 4 + 4 * k) (d.getD k 0))
  else s

/-- A write of WEL_LINE (R164): refused while the Wellhead is sealed or locked by a load (R221, R228). -/
def welLineWrite (s : State) (c k : Nat) (v : W32) : State :=
  match memberRefused s (memWel c) (lockLine (c * 1024 + k)) with
  | some s' => s'
  | none => linePut s c k v

/-- A write of WEL_LD_CTL with GO (R170): COUNT 0 is 32,768; a range past the table ends at once. -/
def welLdGo (s : State) (c : Nat) : State :=
  let ctl := welLdA c + 8
  if rbit s ctl 30 then s else
  let cnt := if rfld s (welLdA c + 4) 16 16 = 0 then 32768 else rfld s (welLdA c + 4) 16 16
  let cnt := min cnt 32768
  if rfld s (welLdA c + 4) 0 15 + cnt > 32768 ∨ rfld s (welLdA c + 4) 16 16 > 32768 then
    evRaise (rput s ctl 28 2 2) (82 + c)
  else
    let go := (rfld s (welLdA c) 0 23, rfld s (welLdA c + 4) 0 15, cnt)
    rput (rsetBit { s with wel := { s.wel with ld := mset (0, 0, 0) s.wel.ld c go } } ctl 30) ctl 28 2 0

/-- Copy entries until an error: 1 the owner is not CTL, HST or PMP; 3 the source read failed (R170). `bad`: the source word, counted
from that of the first entry, that a read finds uncorrectable; `j`: the word at which entry `e` begins. -/
def welLoadLoop (n : Nat) (s : State) (c src e j : Nat) (bad : Option Nat) : State × Nat :=
  match n with
  | 0 => (s, 0)
  | n + 1 =>
    let k0 := src / 65536 % 128
    let k1 := (src + 1) / 65536 % 128
    let own := fun (k : Nat) => decide (4 ≤ cisOwner s k) && decide (cisOwner s k ≤ 6)
    if src + 1 ≥ 0x800000 ∨ cisDown s k0 ∨ cisDown s k1 then (s, 3)
    else if !own k0 ∨ !own k1 then (s, 1)
    else if bad = some j ∨ bad = some (j + 1) then (s, 3)
    else welLoadLoop n (match memberRefused s (memWel c) (lockEnt (c * 32768 + e)) with
      | some s' => s'
      | none => entPut s c e ⟨cisWord s src, cisWord s (src + 1)⟩) c (src + 2) (e + 1) (j + 2) bad

/-- The load engine's copy ends, with the source, the first entry and the count that GO found: BUSY clears and source 82 + c is raised
(R170, R305). -/
def welLoadDone (s : State) (c : Nat) (bad : Option Nat) : State :=
  let ctl := welLdA c + 8
  if !rbit s ctl 30 then s else
  let go := mget (0, 0, 0) s.wel.ld c
  let r := welLoadLoop go.2.2 s c go.1 go.2.1 0 bad
  let s := match bad with
    | some j =>
      let a := go.1 + j
      if r.2 = 3 ∧ a < 0x800000 then cisDouble r.1 (a / 65536) (a % 65536) 1 0 else r.1
    | none => r.1
  evRaise (rput (rputBit s ctl 30 false) ctl 28 2 r.2) (82 + c)

/-- A write of WEL_RUN_IDX (R169). -/
def welRunIdx (s : State) (c e : Nat) (cap : Bool) : State :=
  let s := rput s (welRunA c) 0 15 e
  if cap then
    let s := rputBit s (welRunA c + 16) 31 false
    { s with wel := { s.wel with cap := mset false s.wel.cap c true } }
  else s

/-- WEL_ENT_WR (R164, R170). -/
def execWelEntWr (c : Fin 16) (e : Fin 32768) (st : State) : Res := .next (welEntIdx st c.val e.val true false)
/-- WEL_ENT_RD (R164, R170). -/
def execWelEntRd (c : Fin 16) (e : Fin 32768) (st : State) : Res := .next (welEntIdx st c.val e.val false true)
/-- WEL_LINE_WRITE (R164). -/
def execWelLineWrite (c : Fin 16) (k : Fin 1024) (v : W32) (st : State) : Res := .next (welLineWrite st c.val k.val v)
/-- WEL_LD_GO (R170). -/
def execWelLdGo (c : Fin 16) (st : State) : Res := .next (welLdGo st c.val)
/-- WEL_LOAD_DONE (R170); `bad`: the source word, counted from the first, whose read is uncorrectable. -/
def execWelLoadDone (c : Fin 16) (bad : Option (Fin 65536)) (st : State) : Res := .next (welLoadDone st c.val (bad.map Fin.val))
/-- WEL_RUN_CAPTURE (R169). -/
def execWelRunCapture (c : Fin 16) (e : Fin 32768) (st : State) : Res := .next (welRunIdx st c.val e.val true)

end Sys2Proof.Machine
end

