-- ==== Sys2Proof/Machine/Commit.lean ====
section
/-! DEFINITION. Live updates (ch. 10): swaps, resynchronisation, glides, commit groups and their records. -/

namespace Sys2Proof.Machine

/-- Marked words of a slot's pages with offsets from `lo`, `n` of them. -/
def marksIn (s : State) (k lo n : Nat) : List Nat :=
  s.mem.mark.filterMap (fun e => if k * 0x4000 + lo ≤ e.1 ∧ e.1 < k * 0x4000 + lo + n ∧ e.2 then some (e.1 - k * 0x4000) else none)
/-- The memories' slots of a cell's running slot: the lending one and, beside it, the new one (R434). -/
def memSlots (s : State) (k : Nat) : List Nat := if memSlot s k = k then [k] else [memSlot s k, k]
/-- Clear the marks of a page. -/
def clearMarks (s : State) (k lo n : Nat) : State :=
  { s with mem := { s.mem with mark := mclearRange s.mem.mark (k * 0x4000 + lo) n } }

/-- A commit record (R242): the oldest 32 are kept. -/
def cmtRecord (s : State) (r : CmtRec) : State :=
  if s.cmt.recs.length ≥ 32 then rinc (rsetBit s 0x200150 8) 0x200150 16 16
  else evRaise { s with cmt := { s.cmt with recs := s.cmt.recs ++ [r] } } 81

/-- NET_PTP_STAT.MAPV: the servo reports a valid mapping (R328). -/
def mapValid (s : State) : Bool := rbit s 0x340504 23
/-- MOFF (R328). -/
def moffOf (s : State) : Nat := (rget64 s 0x340510).toNat
/-- The first base boundary at or after a PTP time in ns, while the mapping is valid: the boundary of media index MS falls at
MS / Fb, and one that lies before BTC 1 counts as BTC 1, which is past (R229, R230, R328). -/
def ptpTarget (s : State) (ns : Nat) : Nat :=
  let b := ((ns * fbOf s + (10 ^ 9 - 1)) / 10 ^ 9 + 2 ^ 64 - moffOf s) % 2 ^ 64
  if b = 0 ∨ 2 ^ 63 ≤ b then 1 else b

/-- A member is ready (R233): no resync and no crossfade of a cell. -/
def memberReady (s : State) (m : Nat) : Bool :=
  if m / 65536 = 1 then
    let c := cmtCell s (m % 65536)
    !c.rsP && !c.rsK && c.xj == 0
  else true

/-- The PTP time a group names, in ns. -/
def groupNs (g : Group) : Nat := (g.ta.toNat + g.tb.toNat % 65536 * 2 ^ 32) * 10 ^ 9 + g.tc.toNat % 2 ^ 30

/-- A next-tick group that has become ready takes its target: x + 3 (R229). -/
def cmtResolve (s : State) (g : Nat) : State :=
  let x := groupOf s g
  if x.state = 2 ∧ x.trig = 0 ∧ x.rbtc = 0 ∧ (claims s g).all (memberReady s) then setGroup s g { x with rbtc := s.btc.toNat + 3 }
  else s
/-- Every group is asked again. -/
def cmtResolveAll (s : State) : State := forEach (s.cmt.groups.map (fun e => e.1)) s cmtResolve

/-- Completions of COMMIT commands with WAIT = 1 that wait for the group's record (R302). -/
def cmtWaiters (s : State) (g result reason : Nat) (r : CmtRec) (b : Nat) : State :=
  let os := s.host.ops.filter (fun o => o.opc == 0x20 && o.started && o.arg == g)
  let res := leBytes 4 r.w0.toNat ++ leBytes 4 r.w1.toNat ++ leBytes 4 r.w2.toNat ++ leBytes 4 (b / 2 ^ 32)
  forEach os s (fun s o => match result with
    | 1 => opEnd s o 0 0 res
    | 2 => opEnd s o 4 reason res
    | 3 => opEnd s o 1 0 res
    | _ => opEnd s o 3 0 res)

/-- A group returns to open with a result and its record (R231, R242); `m`: the member in W2. -/
def groupResult (s : State) (g result reason m code : Nat) (fence : Bool) : State :=
  let x := groupOf s g
  let r : CmtRec := {
    w0 := BitVec.ofNat 32 (result * 2 ^ 28 + reason * 2 ^ 24 + m / 65536 % 16 * 2 ^ 20 + b2n fence * 2 ^ 19 + b2n x.moved * 2 ^ 18
      + b2n (decide (x.refused > 0)) * 2 ^ 17 + g),
    w1 := BitVec.ofNat 32 x.rbtc,
    w2 := BitVec.ofNat 32 (code * 65536 + m % 65536) }
  let s := setGroup s g { x with state := 0, last := result, rbtc := 0, assumed := [] }
  let s := if result = 3 ∨ result = 4 then cisGroupDiscard s g else s
  cmtWaiters (cmtRecord s r) g result reason r x.rbtc

/-- The mapping has moved, or is valid again: PTP-triggered groups before their deadline are converted again (R230). -/
def cmtReconvert (s : State) : State :=
  if !mapValid s then s else
  forEach (s.cmt.groups.map (fun e => e.1)) s (fun s g =>
    let x := groupOf s g
    let b := ptpTarget s (groupNs x)
    if (x.state = 1 ∨ x.state = 2) ∧ x.trig = 2 ∧ s.btc.toNat + 2 < x.rbtc ∧ b ≠ x.rbtc then setGroup s g { x with rbtc := b, moved := true } else s)

/-- Groups that assumed `g` return to validating (R232). -/
def revalidate (s : State) (g : Nat) : State :=
  forEach (s.cmt.groups.filterMap (fun e => if e.2.state = 2 ∧ e.2.assumed.contains g then some e.1 else none)) s
    (fun s h => setGroup s h { groupOf s h with state := 1 })

/-- A running load, or a load-engine copy, is writing a member of the group (R231). -/
def groupBusy (s : State) (g : Nat) : Bool :=
  (match s.load.run with | some r => !r.full && decide (r.phase ≥ 1) && r.group == g | none => false)
    || (claims s g).any (fun m => loadLocked s m || (m / 65536 == 3 && rbit s (welLdA (m % 65536) + 8) 30))

/-- ARM of a group (R229–R231): ARMR 0 accepted, 1 wrong state, 5 reserved TRIG, 4 member busy, 3 no mapping, 2 too late. -/
def groupArm (s : State) (g : Nat) : State :=
  let x := groupOf s g
  let refuse := fun (r : Nat) => setGroup s g { x with armr := r }
  if x.state ≠ 0 ∨ s.cmt.clearAt.isSome ∨ s.host.ops.any (fun o => o.opc == 0x11) then refuse 1
  else if x.trig = 3 then refuse 5
  else if groupBusy s g then refuse 4
  else
    let b : Option Nat := match x.trig with
      | 1 => some (x.ta.toNat + x.tb.toNat * 2 ^ 32)
      | 2 => if mapValid s then some (ptpTarget s (groupNs x)) else none
      | _ => some 0
    match b with
    | none => refuse 3
    | some b =>
      if x.trig ≠ 0 ∧ b ≤ s.btc.toNat + 2 then refuse 2
      else
        let s := { s with cmt := { s.cmt with seq := s.cmt.seq + 1 } }
        setGroup s g { x with armr := 0, state := 1, rbtc := b, moved := false, refused := 0, assumed := [], seq := s.cmt.seq }

/-- CANCEL of a group (R231). -/
def groupCancel (s : State) (g : Nat) : State :=
  let x := groupOf s g
  if x.state = 0 ∨ x.state = 3 then setGroup s g { x with armr := 1 }
  else revalidate (groupResult (setGroup s g { x with armr := 0 }) g 4 0 0 0 false) g

/-- The deadline: the BTC has reached b − 2 (R233). -/
def groupDeadline (s : State) (g : Nat) : State :=
  let x := groupOf s g
  if x.rbtc = 0 ∨ s.btc.toNat + 2 < x.rbtc then s
  else if x.state = 1 then revalidate (groupResult s g 2 1 ((claims s g).headD 0) 0 false) g
  else if x.state = 2 then
    match (claims s g).find? (fun m => !memberReady s m) with
    | none => setGroup s g { x with state := 3 }
    | some m => revalidate (groupResult s g 2 2 m 0 false) g
  else s

/-- KIND and ID name a member (R209). -/
def memberRange (m : Nat) : Bool :=
  let i := m % 65536
  match m / 65536 with
  | 1 => decide (i < 1024)
  | 2 | 3 => decide (i < 16)
  | 4 => match i / 4096 with | 1 => decide (i % 4096 < 1024) | 2 | 3 => decide (i % 4096 < 16) | 4 => decide (i % 4096 < 8) | _ => false
  | _ => false
/-- A member exists in the device: its cluster ticks (R215, R227). -/
def memberValid (s : State) (m : Nat) : Bool :=
  memberRange m && (match m / 65536 with
    | 1 => domOf s (m % 65536 / 64) != 0
    | 2 | 3 => domOf s (m % 65536) != 0
    | _ => true)

/-- CMT_MEM_CTL.ADD: the group is open, the member valid and in no other list (R227, R241). Answers whether it was refused. -/
def memAdd (s : State) (g m : Nat) : Bool × State :=
  let x := groupOf s g
  if x.state ≠ 0 ∨ !memberValid s m ∨ s.cmt.groups.any (fun e => e.1 != g && e.2.mem.contains m) then (true, s)
  else (false, if x.mem.contains m then s else setGroup s g { x with mem := x.mem ++ [m] })
/-- CMT_MEM_CTL.REM (R227, R241). -/
def memRem (s : State) (g m : Nat) : Bool × State :=
  let x := groupOf s g
  if x.state ≠ 0 ∨ !x.mem.contains m then (true, s)
  else (false, setGroup s g { x with mem := x.mem.filter (· != m) })

/-- CMT_MEM_CTL: ADD or REM with DONE and ERR (R241). -/
def memCtl (s : State) (kind g id : Nat) (add : Bool) : State :=
  let s := rput (rput (rput s 0x200120 24 4 kind) 0x200120 16 8 g) 0x200120 0 16 id
  let r := if add then memAdd s g (kind * 65536 + id) else memRem s g (kind * 65536 + id)
  rputBit r.2 0x200120 28 r.1

/-- One gliding half or word of `w` bits: value at progress j (R236); `f` its fraction bits. A deviation of the exponential form does
not leave the format. -/
def glideOne (g : GlideRun) (f w : Nat) (a b : Int) (j : Nat) : Int :=
  if j ≥ 2 ^ g.k ∨ a = b then b else
  let da : Dyadic := ⟨a, f⟩
  let db : Dyadic := ⟨b, f⟩
  if g.expo ∧ expApplies da db then
    let v := expGlide (dyMag da) (dyMag db) j g.k
    let r := rneShift (v : Int) (64 - f)
    sclamp w (if b < 0 then -r else r)
  else rneShift (a * 2 ^ g.k + (b - a) * j) g.k

/-- The word a glide writes at progress j, over the word's present content (R235, R236). -/
def glideWord (g : GlideRun) (j : Nat) (old : Word) : Word :=
  let h := Word.hi
  let hi := BitVec.ofInt 36 (glideOne g 32 36 (h g.v0).toInt (h g.v1).toInt j)
  let lo := BitVec.ofInt 36 (glideOne g 32 36 g.v0.lo.toInt g.v1.lo.toInt j)
  match g.fmt with
  | 0 => BitVec.ofInt 72 (glideOne g 64 72 g.v0.toInt g.v1.toInt j)
  | 1 => Word.pack hi old.lo
  | 2 => Word.pack old.hi lo
  | _ => Word.pack hi lo

/-- Step 6 of R43 for a logical cell: each running glide writes its next value into the active page, and into the pending page
unless the word is marked (R226, R236). -/
def glideStep (s : State) (l : Nat) : State :=
  let k := mapSlot s l
  let act := 0x1000 + 0x800 * kpage s k
  let pen := 0x1000 + 0x800 * (1 - kpage s k)
  forEach (cmtCell s l).run s (fun s e =>
    let j := e.2.j + 1
    let s := forEach (memSlots s k) s (fun s m =>
      let w := glideWord e.2 j (cellWord s m (act + e.1))
      let s := cellPut s m (act + e.1) w
      if mget false s.mem.mark (m * 0x4000 + pen + e.1) then s else cellPut s m (pen + e.1) w)
    onCmtCell s l (fun c => { c with run := if j ≥ 2 ^ e.2.k then mdrop c.run e.1 else mset {} c.run e.1 { e.2 with j := j } }))

/-- The enabled descriptor for a word in a glide table (R237). -/
def glideDesc (t : SMap W32) (a : Nat) : Option W32 :=
  (t.find? (fun e => bitOf e.2 31 && fld e.2 0 11 == a)).map (fun e => e.2)

/-- A glide has nowhere to go: the half it moves, or the word, has its end value already (R237). -/
def glideStill (g : GlideRun) : Bool :=
  match g.fmt with
  | 1 => g.v0.hi == g.v1.hi
  | 2 => g.v0.lo == g.v1.lo
  | _ => g.v0 == g.v1

/-- The coefficient copy of a cell swaps (R224, R237). -/
def coefSwap (s : State) (l : Nat) : State :=
  let k := mapSlot s l
  let m := memSlot s k
  let act := 0x1000 + 0x800 * kpage s k
  let pen := 0x1000 + 0x800 * (1 - kpage s k)
  let marked := (marksIn s m pen 0x800).map (· - pen)
  let t := (cmtCell s l).gAct
  let s := forEach marked s (fun s a =>
    let v0 := cellWord s m (act + a)
    let v1 := cellWord s m (pen + a)
    match glideDesc t a with
    | none => onCmtCell s l (fun c => { c with run := mdrop c.run a })
    | some d =>
      let g : GlideRun := { fmt := fld d 29 2, expo := bitOf d 28, k := fld d 23 5, j := 1, v0 := v0, v1 := v1 }
      let w := glideWord g 1 v1
      let s := forEach (memSlots s k) s (fun s m => cellPut s m (pen + a) w)
      onCmtCell s l (fun c => { c with run := if g.k = 0 ∨ glideStill g then mdrop c.run a else mset {} c.run a g }))
  let s := forEach (memSlots s k) s (fun s m => clearMarks s m pen 0x800)
  onCmtCell (rput s (celSlotA k) 5 1 (1 - kpage s k)) l (fun c => { c with rsK := true, nocoef := false })

/-- Show a program page in CEL_SLOT and the block vectors (R78, R121). -/
def showPage (s : State) (k : Nat) : State :=
  let p := mget {} s.mem.page (memSlot s k * 2 + ppage s k)
  let s := rput (rputBit s (celSlotA k) 6 p.hasBlk) (celSlotA k) 16 15 p.phase
  let s := rset s (0x100800 + 0x1000 * (k / 68) + 4 * (k % 68)) (BitVec.ofNat 32 (p.vEntry + p.vYield * 65536))
  rset s (0x100A00 + 0x1000 * (k / 68) + 4 * (k % 68)) (BitVec.ofNat 32 p.vResume)

/-- The block task of a swapped program: fresh under R119, or none. -/
def blockRestart (s : State) (k : Nat) : State :=
  let p := mget {} s.mem.page (memSlot s k * 2 + ppage s k)
  if p.hasBlk then blockFresh s k
  else setBstate (onCell s k (fun c => { c with half := 0, bloops := [], hloops := [] })) k 0

/-- The program copy of a cell swaps (R224); a crossfade arms when XFE asks for it (R238). -/
def progSwap (s : State) (l : Nat) : State :=
  let k := mapSlot s l
  let c := cmtCell s l
  let pen := 0x800 * (1 - ppage s k)
  let old := mget {} s.mem.page (memSlot s k * 2 + ppage s k)
  let new := mget {} s.mem.page (memSlot s k * 2 + (1 - ppage s k))
  let xf := c.xfe && decide (1 ≤ c.xk) && decide (c.xk ≤ 10) && old.present && new.present && slotState s k == 1
  let s := forEach (memSlots s k) s (fun s m => clearMarks s m pen 0x800)
  let s := rput s (celSlotA k) 4 1 (1 - ppage s k)
  let s := onCmtCell s l (fun c => { c with pswap := false, vmark := false, noprog := false, rsP := true, xfK := c.xk,
                                            xj := if xf then 1 else 0, xnew := false, cap := [] })
  blockRestart (showPage s k) k

/-- A pending assignment of a cell takes effect (R202, R220): a cell that is already assigned keeps its slot's state; one that is newly
assigned issues from cycle 0 of the tick that starts; one that becomes idle has empty glide tables and no block task (R235). -/
def asgSwap (s : State) (l : Nat) (a : Bool) : State :=
  let k := mapSlot s l
  let s := onCmtCell s l (fun c => { c with asg := none })
  if rbit s (celMapA l) 31 = a then s else
  let s := rput (setSlotState (rputBit s (celMapA l) 31 a) k (if a then 1 else 0)) (celSlotA k) 8 6 (l % 64)
  let s := if a then s else setBstate (onCmtCell s l (fun c => { c with run := [], gAct := [], gPend := [], gMark := [] })) k 0
  onCell s k (fun c => { c with sample := false, done := false, quench := 0, held := false, faultCyc := none, fenceNext := false,
                                schedFault := false, lender := none, ownState := false, copied := false, atZero := true, cyc := 0,
                                dead := 0, npc := none, iss := [], void := false, frz := 0, stalls := 0, loops := [], bloops := [],
                                hloops := [], half := 0 })

/-- Every copy of a cell that has pending content swaps (R224). -/
def cellSwap (s : State) (l : Nat) : State :=
  let k := mapSlot s l
  let m := memSlot s k
  let c := cmtCell s l
  let pmark := !(marksIn s m (0x800 * (1 - ppage s k)) 0x800).isEmpty
  let kmark := !(marksIn s m (0x1000 + 0x800 * (1 - kpage s k)) 0x800).isEmpty
  let s := if c.gMark.isEmpty then s
    else onCmtCell s l (fun c => { c with gAct := c.gPend, gPend := c.gAct, gMark := [] })
  if !hasSlot s l then s else
  let s := match c.asg with
    | some a => asgSwap s l a
    | none => s
  let s := if kmark || c.nocoef then coefSwap s l else s
  let s := onCmtCell s l (fun c => { c with run := c.run.filter (fun e => (glideDesc c.gAct e.1).isSome) })
  if pmark || c.vmark || c.pswap || c.noprog then progSwap s l else s

/-- The exports of a cluster's table that feed a bridge channel of another (R135). -/
def bridgeFeeds (t : SlotTable) (c k : Nat) : List (Nat × W64) :=
  t.desc.filter (fun e => let d := e.2.toNat
    ldKind d == 2 && ldDbr d && ldDcl d == c && ldDln d % 32 == k)

/-- What fixes a bridge channel's history: its entry and the export that feeds it (R139). -/
def bridgeSig (s : State) (c k : Nat) : W32 × List (Nat × W64) :=
  let e := bridgeEntry s c k
  (e, if bitOf e 31 then bridgeFeeds (liveTable s (fld e 24 4)) c k else [])

/-- The shadow slot table of a cluster and the chains homed there become live (R144). -/
def tableSwap (s : State) (c : Nat) : State :=
  let chs := chainsOf s c
  let sh := mget none s.ex.shadow c
  let s := match sh with
    | some t => rput (rsetBit { s with ex := { s.ex with live := mset none s.ex.live c (some t), shadow := mset none s.ex.shadow c none } }
        (0x120000 + 0x1000 * c) 0) (0x120000 + 0x1000 * c) 1 1 (rfld s (0x120000 + 0x1000 * c) 1 1 + 1)
    | none => s
  forEach chs s (fun s e =>
    { s with ex := { s.ex with chains := mset 0 s.ex.chains e.1 e.2, chainsShadow := mset none s.ex.chainsShadow e.1 none } })

/-- A pending port binding becomes live (R44, R220). One that keeps BUFOUT and CL of the live one, with another NCH say, does not make
the port newly bound: fabric data is released at once (DESIGN CHOICE, log entry 75). -/
def portSwap (s : State) (p : Nat) : State :=
  match mget none s.port.pend p with
  | none => s
  | some b =>
    let o := portOf s p
    let rel := (List.range 64).foldl (fun m ch => mset 0 m (p * 64 + ch) 0) s.port.rel
    let fresh := b.en && (!o.en || o.bufout != b.bufout || o.cl != b.cl)
    { s with port := { s.port with live := mset {} s.port.live p (if b.en then b else {}), pend := mset none s.port.pend p none,
                                   rel := if b.en then s.port.rel else rel,
                                   fresh := if fresh then mset false s.port.fresh p true else s.port.fresh,
                                   chg := s.port.chg ++ [(p, o)] } }

/-- A member swaps. -/
def memberSwap (s : State) (m : Nat) : State :=
  let i := m % 65536
  match m / 65536 with
  | 1 => cellSwap s i
  | 2 => tableSwap s i
  | 3 => glcSwap (welSwap s i true) i
  | 4 => portSwap s i
  | _ => s

/-- A meter or histogram record becomes live; a changed one restarts its unit (R392). -/
def attSwap (s : State) (key : Nat) (v : W64) : State :=
  let i := key % 32768
  if key / 32768 = 0 then
    if (mget {} s.mtr.mtr i).att = v then s else { s with mtr := { s.mtr with mtr := mset {} s.mtr.mtr i { att := v } } }
  else
    if (mget {} s.mtr.hist i).att = v then s else { s with mtr := { s.mtr with hist := mset {} s.mtr.hist i { att := v } } }

/-- The rate-domain code of a cluster in CMT_DOMAIN (R52). -/
def setDom (s : State) (c v : Nat) : State := rput s 0x20000C (2 * c) 2 v

/-- Non-member items of a load that swap at step 7: attachments and standing lists; the group's own load claims end (R219,
R220). -/
def pendSwap (s : State) (g : Nat) : State :=
  let p := mget {} s.cmt.pend g
  let s := forEach p.att s (fun s e => match e.2 with | some v => attSwap s e.1 v | none => s)
  forEach p.memb s (fun s e => match e.2 with | some l => setGroup s e.1 { groupOf s e.1 with mem := l } | none => s)

/-- Step 8: owners a load hands over (R220). -/
def pendOwners (s : State) (g : Nat) : State :=
  forEach (mget {} s.cmt.pend g).own s (fun s e => match e.2 with | some o => cisSetOwner s e.1 o | none => s)

/-- Step 9: rate domains a load changes, with their records (R32, R53). A cluster that is not powered takes its domain once it is. -/
def pendDoms (s : State) (g : Nat) (b : W64) : State :=
  forEach (mget {} s.cmt.pend g).dom s (fun s e => match e.2 with
    | some d => if rfld s 0x20000C (2 * e.1) 2 = d then s
        else if d < 3 ∧ !rbit s 0x480000 e.1 then { s with pwr := { s.pwr with dom := mset 0 s.pwr.dom e.1 d } }
        else
          let s := if d = 3 then { s with pwr := { s.pwr with down := mset false s.pwr.down e.1 true } } else s
          bndRecord (setDom s e.1 d) b 9 (e.1 * 256 + d * 4096)
    | none => s)

/-- The pending items of a group are done with. -/
def pendDone (s : State) (g : Nat) : State := { s with cmt := { s.cmt with pend := mset {} s.cmt.pend g {} } }

/-- R139: a channel whose entry or feed changed loses its history. -/
def bridgeHistory (before : List (Nat × Nat × (W32 × List (Nat × W64)))) (s : State) : State :=
  forEach before s (fun s x =>
    let a := xchRbA x.1 x.2.1
    if bridgeSig s x.1 x.2.1 = x.2.2 then rputBit s a 15 false
    else rsetBit (setBridge s x.1 x.2.1 { bridgeAt s x.1 x.2.1 with line1 := [], line2 := [] }) a 15)

/-- The channels whose entry, before or after, could be touched by a swap of slot tables. -/
def bridgeAll (s : State) : List (Nat × Nat × (W32 × List (Nat × W64))) :=
  (List.range 16).flatMap (fun c => (List.range 32).map (fun k => (c, k, bridgeSig s c k)))

/-- Step 7 of R43: every latched group swaps all it claims, as one set (R224, R234, R240). -/
def groupsSwap (s : State) (gs : List Nat) : State :=
  if gs.isEmpty then s else
  let tables := gs.any (fun g => (claims s g).any (fun m => m / 65536 == 2))
  let before := if tables then bridgeAll s else []
  let s := forEach gs s (fun s g => pendSwap (forEach (claims s g) s memberSwap) g)
  bridgeHistory before s

/-- Step 9: the groups are open again, with their committed records (R234). -/
def groupsDone (s : State) (gs : List Nat) (b : W64) : State :=
  forEach gs s (fun s g =>
    let fence := (claims s g).any (fun m => m / 65536 == 1 && slotState s (mapSlot s (m % 65536)) == 3)
    let s := pendDone (pendDoms s g b) g
    let s := groupResult s g 1 0 0 0 fence
    setGroup s g { groupOf s g with load := [] })

/-- The pending page of a cell is an exact copy of the active one again, but for marked words (R225). -/
def resyncPage (s : State) (k act pen : Nat) : State :=
  forEach (memSlots s k) s (fun s m =>
    let marked := marksIn s m pen 0x800
    let keep := marked.map (fun a => (a, cellWord s m a))
    let s := { s with mem := { s.mem with cell := mcopyRange 0 s.mem.cell s.mem.cell (m * 0x4000 + act) (m * 0x4000 + pen) 0x800 } }
    forEach keep s (fun s e => cellPut s m e.1 e.2))

/-- RESYNC_DONE (R225): the resyncs in progress end; the old program's page waits for the crossfade's end. -/
def resyncDone (s : State) (l : Nat) : State :=
  let k := mapSlot s l
  let c := cmtCell s l
  let s := if c.rsK then
      onCmtCell (resyncPage s k (0x1000 + 0x800 * kpage s k) (0x1000 + 0x800 * (1 - kpage s k))) l (fun c => { c with rsK := false })
    else s
  let s := if c.rsP ∧ c.xj = 0 then
      let s := resyncPage s k (0x800 * ppage s k) (0x800 * (1 - ppage s k))
      let s := if c.vmark then s else forEach (memSlots s k) s (fun s m =>
        { s with mem := { s.mem with page := mset {} s.mem.page (m * 2 + (1 - ppage s k)) (mget {} s.mem.page (m * 2 + ppage s k)) } })
      onCmtCell s l (fun c => { c with rsP := false })
    else s
  cmtResolveAll s

/-- A crossfade advances at a boundary of the cell's domain, and ends at 2^XK (R238). -/
def crossfadeStep (s : State) (l : Nat) : State :=
  let c := cmtCell s l
  if c.xj = 0 then s
  else if c.xj + 1 ≥ 2 ^ c.xfK then cmtResolveAll (onCmtCell s l (fun c => { c with xj := 0, xnew := false, cap := [] }))
  else onCmtCell s l (fun c => { c with xj := c.xj + 1, xnew := false, cap := [] })

/-- CMT_GLD_IDX: WR writes a pending descriptor and marks it; RD loads one (R235, R241). -/
def gldIdx (s : State) (cell slot : Nat) (live wr rd : Bool) : State :=
  let a := 0x200140
  let s := rputBit (rput (rput s a 6 10 cell) a 0 6 slot) a 28 live
  let d := rget s (a + 4)
  let s := if wr then
      match memberRefused s (memCell cell) (fun _ => false) with
      | some s' => s'
      | none => onCmtCell s cell (fun c => { c with gPend := mset 0 c.gPend slot d, gMark := mset false c.gMark slot true })
    else s
  if rd then
    let c := cmtCell s cell
    let v := mget 0 (if live then c.gAct else c.gPend) slot
    let s := rset s (a + 4) v
    if live then
      let run := c.run.find? (fun e => bitOf v 31 && e.1 == fld v 0 11)
      rset s (a + 8) (match run with | some e => BitVec.ofNat 32 (2 ^ 31 + e.2.j * 2 ^ 14) | none => 0)
    else s
  else s

/-- CMT_CELL_CTL of the selected cell: no effect while it is sealed or locked (R228, R238). -/
def cellCtlWrite (s : State) (v : W32) : State :=
  let l := rfld s 0x200130 0 10
  match memberRefused s (memCell l) (fun _ => false) with
  | some s' => s'
  | none => onCmtCell s l (fun c => { c with pswap := bitOf v 31, xfe := bitOf v 30, xk := fld v 26 4 })

/-- A capture of BTC, cycle and PTP time in one ZCLK cycle (R35). -/
def snapTaken (s : State) (cyc sec ns : Nat) : State :=
  let s := rset64 s 0x200014 s.btc
  let s := rput (rset s 0x20001C (BitVec.ofNat 32 (cyc % 25600))) 0x200020 0 30 (ns / 2 * 2)
  rsetBit (rset64 s 0x200024 (BitVec.ofNat 64 (sec % 2 ^ 48))) 0x200010 1

/-- COMMIT_DEADLINE (R233). -/
def execCommitDeadline (g : Fin 256) (st : State) : Res := .next (groupDeadline st g.val)
/-- CMT_G_CTL_ARM of the selected group (R231). -/
def execCmtGCtlArm (st : State) : Res := .next (groupArm st (rfld st 0x200100 0 8))
/-- CMT_G_CTL_CANCEL of the selected group (R231). -/
def execCmtGCtlCancel (st : State) : Res := .next (groupCancel st (rfld st 0x200100 0 8))
/-- CMT_MEM_CTL_ADD (R227). -/
def execCmtMemCtlAdd (kind : Fin 16) (g : Fin 256) (id : BitVec 16) (st : State) : Res :=
  .next (memCtl st kind.val g.val id.toNat true)
/-- CMT_MEM_CTL_REM (R227). -/
def execCmtMemCtlRem (kind : Fin 16) (g : Fin 256) (id : BitVec 16) (st : State) : Res :=
  .next (memCtl st kind.val g.val id.toNat false)
/-- CMT_GLD_IDX_WR (R235). -/
def execCmtGldIdxWr (cell : Fin 1024) (slot : Fin 64) (st : State) : Res := .next (gldIdx st cell.val slot.val false true false)
/-- CMT_GLD_IDX_RD (R241). -/
def execCmtGldIdxRd (cell : Fin 1024) (slot : Fin 64) (live : Bool) (st : State) : Res :=
  .next (gldIdx st cell.val slot.val live false true)
/-- RESYNC_DONE (R225). -/
def execResyncDone (cell : Fin 1024) (st : State) : Res := .next (resyncDone st cell.val)
/-- CMT_REC_POP (R242). -/
def execCmtRecPop (st : State) : Res := .next { st with cmt := { st.cmt with recs := st.cmt.recs.tail } }
/-- CMT_BND_POP (R53). -/
def execCmtBndPop (st : State) : Res := .next { st with bnd := st.bnd.tail }
/-- CMT_SNAP (R35): the cycle of the base tick and the PTP time at the capture. -/
def execCmtSnap (cyc : Fin 25600) (sec : BitVec 48) (ns : Fin 1000000000) (st : State) : Res :=
  .next (snapTaken st cyc.val sec.toNat ns.val)
/-- CMT_CL_STALL_CLR (R40). -/
def execCmtClStallClr (c : Fin 16) (st : State) : Res := .next (rset st (0x200080 + 4 * c.val) 0)

end Sys2Proof.Machine
end

