-- ==== Sys2Proof/Machine/Clock.lean ====
section
/-! DEFINITION. Clock synthesis (ch. 17): roles, lock, calibration slots, ramps, phase steps, references, hops, takeover, the
safe clock, clock outputs. -/

namespace Sys2Proof.Machine

/-- Registers of synthesizer x (R383) and of clock output o (R384). -/
def synA (x : Nat) : Nat := 0x3A0000 + 0x40 * x
def ckoA (o : Nat) : Nat := 0x3C0000 + 0x10 * o
def onClk (s : State) (f : ClkSt → ClkSt) : State := { s with clk := f s.clk }
/-- SYN_STAT.STATE: 0 off, 1 searching, 2 tuning, 3 locked, 4 unlocked; ROLE: 0 idle, 1 root, 2 tracking, 3 hop. -/
def synState (s : State) (x : Nat) : Nat := rfld s (synA x) 29 3
def synRole (s : State) (x : Nat) : Nat := rfld s (synA x) 27 2
def setSynState (s : State) (x v : Nat) : State := rput s (synA x) 29 3 v
def setSynRole (s : State) (x v : Nat) : State := rput (rputBit s (synA x) 26 (v = 2)) (synA x) 27 2 v
/-- ROOT_SRC: 0 SYA, 1 SYB, 2 safe clock (R52). -/
def rootSrc (s : State) : Nat := rfld s 0x200008 0 2
/-- SYN_REF.REF and RSTATE (R383). -/
def refSel (s : State) : Nat := rfld s 0x3A0100 29 3
def refState (s : State) : Nat := rfld s 0x3A0100 26 3
/-- The tracker owns the ramp generator and the phase steps (R372). -/
def trackerOwns (s : State) : Bool := let r := refSel s; r == 0 || r == 1 || r == 4

/-- Set an event bit of a synthesizer and raise its source (R383). -/
def synEv (s : State) (x bit : Nat) : State := evRaise (rsetBit s (synA x + 0x20) bit) (160 + x)
/-- Change RSTATE; the root synthesizer's event is raised (R375). -/
def setRefState (s : State) (v : Nat) : State :=
  if refState s = v then s else
  let s := rput s 0x3A0100 26 3 v
  if rootSrc s ≤ 1 then synEv s (rootSrc s) 3 else s

/-- The ratio N in unsigned 8.32 for a family, a pull in 1/256 ppb and a correction in ppb (R366). -/
def synRatio (fam : Bool) (p x : Int) : Nat :=
  let fb : Int := if fam then 44100 else 48000
  (4096 * fb * (256000000000 + p) * (1000000000 + x) * 2 ^ 32 / (1000000 * 256000000000 * 1000000000)).toNat
/-- The crystal correction SYN_XC, signed ppb. -/
def synXc (s : State) : Int := (rget s 0x3A011C).toInt
/-- The ratio of the present family, pull and correction. -/
def ratioNow (s : State) : Nat := synRatio (rbit s 0x200008 2) s.clk.p (synXc s)
def setRatio (s : State) (x n : Nat) : State := rset64 s (synA x + 4) (BitVec.ofNat 64 (n % 2 ^ 40))

/-- Stored ratio of a calibration slot in 8.8, valid and not stale; ±2.5% of a ratio in 8.32 (R369). -/
def calMatch (v : W32) (n : Nat) : Bool :=
  let r : Int := fld v 0 16 * 2 ^ 24
  bitOf v 31 && !bitOf v 30 && decide ((r - n).natAbs * 40 ≤ n)
/-- A calibration slot has been used. -/
def calUsed (s : State) (x k : Nat) : State :=
  rput (onClk s (fun c => { c with used := mset 0 c.used (x * 4 + k) (c.uses + 1), uses := c.uses + 1 })) (synA x) 24 2 k

/-- A synthesizer tunes to a ratio: from a matching slot, or by a band search (R369). -/
def synTune (s : State) (x n : Nat) : State :=
  let s := setRatio s x n
  match (List.range 4).find? (fun k => calMatch (rget s (synA x + 0x10 + 4 * k)) n) with
  | some k => calUsed (setSynState s x 2) x k
  | none => setSynState s x 1

/-- The slot a band search writes: the first invalid, else the first stale, else the least recently used (R369). -/
def calVictim (s : State) (x : Nat) : Nat :=
  let v := fun k => rget s (synA x + 0x10 + 4 * k)
  match (List.range 4).find? (fun k => !bitOf (v k) 31) with
  | some k => k
  | none => match (List.range 4).find? (fun k => bitOf (v k) 30) with
    | some k => k
    | none => [1, 2, 3].foldl (fun b k => if mget 0 s.clk.used (x * 4 + k) < mget 0 s.clk.used (x * 4 + b) then k else b) 0

/-- Die temperature in °C. -/
def dieC (s : State) : Int := dieQuarter s / 4

/-- The WHY bits of an output's gates, with GATED (R381, R384). -/
def ckoGate (s : State) (o bit : Nat) (closed : Bool) : State :=
  let s := rputBit s (ckoA o + 8) bit closed
  rputBit s (ckoA o + 8) 30 (rfld s (ckoA o + 8) 0 5 ≠ 0 || s.flt.critical)
def ckoGateAll (s : State) (bit : Nat) (closed : Bool) : State := forN 4 s (fun s o => ckoGate s o bit closed)

/-- The outstanding command a hop was asked by ends (R376, R302). A hop that is done completes no CLOCK_REF: that needs the reference. -/
def hopEnd (s : State) (h : Hop) (status detail : Nat) : State :=
  match h.by_ with
  | .boot => s
  | .hop =>
    match opOf s h.agent h.handle 0x51 with
    | some o => opEnd s o status detail (if status = 0 then leBytes 8 h.btc else [])
    | none => s
  | .ref =>
    if status = 0 then s else
    forEach (s.host.ops.filter (fun o => o.opc == 0x50 && o.started)) s (fun s o => opEnd s o status detail [])

/-- A hop is cancelled: boundary record 0x7 (R53), at once at a boundary, else at the boundary that ends the tick; the standby is idle
and retunes to the present ratio (R376 step 3, R377). DETAIL[8] is 1 for a loss of standby lock and 0 for every other cause, a failed
band search and the safe clock among them (DESIGN CHOICE, log entry 73). A CLOCK_REF whose hop it was goes back to measuring. -/
def hopCancel (s : State) (byLock : Bool) (detail : Nat) (atBnd : Bool) : State :=
  match s.clk.hop with
  | none => s
  | some h =>
    let s := rputBit (onClk s (fun c => { c with hop := none, acq := if h.by_ = .ref then 2 else c.acq })) 0x200008 5 false
    let s := if atBnd then bndRecord s s.btc 7 (b2n byLock * 256)
      else onClk s (fun c => { c with recs := c.recs ++ [(7, b2n byLock * 256)] })
    let s := synTune (setSynRole s h.syn 0) h.syn (ratioNow s)
    hopEnd s h 2 detail

/-- Step 1 of R376: a hop is scheduled; the standby takes the hop role and tunes. -/
def hopSchedule (s : State) (btc : Nat) (fam : Bool) (p : Int) (by_ : HopBy) (agent handle : Nat) : State :=
  let x := if rootSrc s = 0 then 1 else 0
  let s := rsetBit (onClk s (fun c => { c with hop := some ⟨btc, fam, p, x, agent, handle, by_⟩ })) 0x200008 5
  synTune (setSynRole s x 3) x (synRatio fam (p * 256) (synXc s))

/-- ROOT enters the safe clock (R50): the hop is cancelled, outputs are gated, PTP-triggered groups are deferred (R230). -/
def safeEnter (s : State) (old : Nat) : State :=
  let s := hopCancel s false 2 false
  let s := rsetBit (rput s 0x200008 0 2 2) 0x200008 3
  let s := ckoGateAll (onClk s (fun c => { c with gate := none, recs := c.recs ++ [(5, old * 2048)] })) 1 true
  let gs := s.cmt.groups.filterMap (fun e => if (e.2.state = 1 ∨ e.2.state = 2) ∧ e.2.trig = 2 then some e.1 else none)
  forEach gs s (fun s g => revalidate (groupResult s g 2 3 0 0 false) g)

/-- Fault information of a synthesizer. -/
def synFault (s : State) (x : Nat) (cyc : Option Nat) : FltInfo :=
  { cls := 8, sev := 1, unit := 0x8000 + x, btc := s.btc.toNat + 1, detail := rfld s (synA x + 0x20) 0 4, cyc := cyc }

/-- A window's count error is within SYN_LOCK.TH, where 0 acts as 1 (R368, R383). -/
def winGood (s : State) (err : BitVec 16) : Bool := decide (err.toInt.natAbs ≤ max 1 (rfld s 0x3A0108 0 8))

/-- Four windows within threshold: locked (R368). An idle synthesizer beside a root becomes tracking (R377). -/
def synLock (s : State) (x : Nat) (err : BitVec 16) : State :=
  let st := synState s x
  if (st ≠ 2 ∧ st ≠ 4) ∨ !winGood s err then s else
  let s := synEv (rput (setSynState s x 3) (synA x) 0 16 err.toNat) x 1
  if synRole s x = 0 ∧ rootSrc s ≤ 1 ∧ rootSrc s ≠ x then
    forN 2 (setSynRole s x 2) (fun s y => fltRecover s (synFault s y none))
  else s

/-- Two windows out of threshold: loss of lock (R377, R49, R50). A hop's standby that has locked and loses lock before the hop boundary
cancels the hop at once (R48; DEDUCED, log entry 73). -/
def synLoss (s : State) (x : Nat) (err : BitVec 16) (cyc : Nat) : State :=
  if synState s x ≠ 3 ∨ winGood s err then s else
  let s := synEv (rput (rinc (setSynState s x 4) (synA x) 16 8) (synA x) 0 16 err.toNat) x 0
  let s := fltDetect s (synFault s x (some cyc))
  match synRole s x with
  | 1 =>
    let y := 1 - x
    let s := setSynRole s x 0
    let s := if synRole s y = 2 ∧ synState s y = 3 ∧ s.clk.hop = none then
        let s := rput (setSynRole s y 1) 0x200008 0 2 y
        ckoGateAll (onClk s (fun c => { c with recs := c.recs ++ [(4, y * 512 + x * 2048)] })) 2 true
      else safeEnter s x
    synTune s x (ratioNow s)
  | 3 => hopCancel s true 2 false
  | _ => synTune (setSynRole s x 0) x (ratioNow s)

/-- A tune or band search ends (R369); none: no band is found. -/
def bandDone (s : State) (x : Nat) (band : Option (BitVec 6)) : State :=
  if synState s x ≠ 1 then s else
  match band with
  | some b =>
    let k := calVictim s x
    let n := (rget64 s (synA x + 4)).toNat
    let v := 2 ^ 31 + b.toNat * 2 ^ 24 + (dieC s % 256).toNat * 2 ^ 16 + n / 2 ^ 24 % 2 ^ 16
    synEv (calUsed (setSynState (rset s (synA x + 0x10 + 4 * k) (BitVec.ofNat 32 v)) x 2) x k) x 2
  | none =>
    let s := synEv (setSynState s x 4) x 2
    match s.clk.hop with
    | some h => if h.syn = x then hopCancel s false 1 false else s
    | none => s

/-- The host may start ramps and write SYN_PHASE; a refused write sets OWNE (R372). -/
def rampGo (s : State) (nseg : Nat) : State :=
  let s := rput s 0x3A0114 0 5 nseg
  if trackerOwns s then rsetBit s 0x3A0100 21 else
  let n := min 16 (max 1 nseg)
  if (List.range n).any (fun k => (sext 24 (rfld s (0x3A0140 + 8 * k) 0 24)).natAbs > 50944) then rsetBit s 0x3A0114 27
  else rput (rsetBit (onClk s (fun c => { c with segDone := 0 })) 0x3A0114 29) 0x3A0114 8 4 0
/-- STOP ends the profile and holds p (R370). -/
def rampStop (s : State) : State := rputBit s 0x3A0114 29 false
/-- A write of SYN_PHASE adds a signed count (R371). -/
def phaseAdd (s : State) (n : BitVec 16) : State :=
  if trackerOwns s then rsetBit s 0x3A0100 21 else
  let v := max (-32767) (min 32767 (sext 16 (rfld s 0x3A0118 16 16) + n.toInt))
  rput s 0x3A0118 16 16 (v % 65536).toNat

/-- Largest pull, and largest change of p in a base tick, in 1/256 ppb (R370). -/
def pMax : Int := 45000000 * 256
def slewMax : Int := 199 * 256

/-- The segment a running profile is in at a base boundary: segments that are used up are passed (R370). -/
def rampSeg (n : Nat) (s : State) (seg done nseg : Nat) : Option (Nat × Nat) :=
  match n with
  | 0 => none
  | n + 1 =>
    if seg ≥ nseg then none
    else if done < rfld s (0x3A0144 + 8 * seg) 0 24 then some (seg, done)
    else rampSeg n s (seg + 1) 0 nseg

/-- Set p, and the ratios of the synthesizers that follow it (R366, R367). SYN_PNOW shows whole ppb, rounded down (DESIGN CHOICE, log
entry 73). -/
def setPull (s : State) (p : Int) : State :=
  let s := rset (onClk s (fun c => { c with p := p })) 0x3A010C (BitVec.ofInt 32 (p / 256))
  forN 2 s (fun s x => if synRole s x = 1 ∨ synRole s x = 2 then setRatio s x (ratioNow s) else s)

/-- p after the ramp generator's step at a base boundary (R370, R374, R375); a hop at this boundary stops the ramp (R48). A profile reads
SYN_SEG and NSEG as they stand at each boundary, and a rate that a write under way has put beyond the limit of R370 is held at it, so
that R46's 1%/s holds (DESIGN CHOICE, log entry 73). -/
def rampStep (s : State) (hopHere : Bool) : State :=
  if hopHere then rampStop (onClk s (fun c => { c with trk := none })) else
  if rbit s 0x3A0114 29 then
    let nseg := min 16 (max 1 (rfld s 0x3A0114 0 5))
    match rampSeg 17 s (rfld s 0x3A0114 8 4) s.clk.segDone nseg with
    | none => rampStop s
    | some (k, d) =>
      let q := s.clk.p + max (-slewMax) (min slewMax (sext 24 (rfld s (0x3A0140 + 8 * k) 0 24)))
      let c := max (-pMax) (min pMax q)
      let s := if c = q then s else rsetBit s 0x3A0114 28
      setPull (rput (onClk s (fun x => { x with segDone := d + 1 })) 0x3A0114 8 4 k) c
  else match s.clk.trk with
    | none => s
    | some t =>
      let off := if s.clk.pull then max (-256000000) (min 256000000 (Config.pullIn s.btc.toNat)) else 0
      let d := max (-slewMax) (min slewMax (t + off - s.clk.p))
      if d = 0 then s else setPull s (max (-pMax) (min pMax (s.clk.p + d)))

/-- One phase step at a base boundary: the pending count's, or the tracker's own while it holds the boundary (R47, R371, R373). -/
def phaseStep (s : State) : State :=
  if trackerOwns s ∧ refState s = 3 then s else
  let n := sext 16 (rfld s 0x3A0118 16 16)
  let s := if n > 0 then rput s 0x3A0118 16 16 (n - 1).toNat else if n < 0 then rput s 0x3A0118 16 16 ((n + 1) % 65536).toNat else s
  let d : Int := if n ≠ 0 then n else if trackerOwns s ∧ refState s = 2 then Config.trackStep s.btc.toNat else 0
  if d > 0 then rinc s 0x20002C 16 16 else if d < 0 then rinc s 0x20002C 0 16 else s

/-- A value held for `n` more base ticks joins a history of the last 16 s (R375). -/
def histPush (h : List (Int × Nat)) (v : Int) : List (Int × Nat) :=
  match h with
  | (w, n) :: r => if w = v then (w, n + 1) :: r else (v, 1) :: h
  | [] => [(v, 1)]
/-- The newest `n` base ticks of a history. -/
def histTrim (n : Nat) (h : List (Int × Nat)) : List (Int × Nat) :=
  match h with
  | [] => []
  | (v, k) :: r => if n = 0 then [] else (v, min k n) :: histTrim (n - min k n) r
/-- The mean of a history. -/
def histMean (h : List (Int × Nat)) (now : Int) : Int :=
  let n : Nat := h.foldl (fun a e => a + e.2) 0
  let sum : Int := h.foldl (fun (a : Int) e => a + e.1 * (e.2 : Int)) 0
  if n = 0 then now else sum / n

/-- An output's fine offset moves toward its target by at most one step an output period (R380). -/
def ckoSlew (s : State) (o : Nat) : State :=
  let t := max (-800) (min 799 (sext 16 (rfld s (ckoA o + 4) 0 16)))
  let n := sext 16 (rfld s (ckoA o + 4) 16 16)
  let k : Int := (1024 / 2 ^ rfld s (ckoA o) 24 4 : Nat)
  rput s (ckoA o + 4) 16 16 ((n + max (-k) (min k (t - n))) % 65536).toNat

/-- The clock's work at the base boundary at which the BTC has become b (R46, R47, R50, R53, R370, R371, R381). -/
def clkBoundary (s : State) : State :=
  let hopHere := match s.clk.hop with | some h => decide (h.btc = s.btc.toNat) | none => false
  let s := forEach s.clk.recs (onClk s (fun c => { c with recs := [] })) (fun s r => bndRecord s s.btc r.1 r.2)
  let s := phaseStep s
  let p0 := s.clk.p
  let s := rampStep s hopHere
  let moves := decide (s.clk.p ≠ p0)
  let src := rootSrc s * 512
  let s := if moves ∧ !s.clk.moving then bndRecord s s.btc 2 src else if !moves ∧ s.clk.moving then bndRecord s s.btc 3 src else s
  let s := rputBit s 0x200008 4 moves
  let n := 16 * fbOf s
  let s := onClk s (fun c => { c with moving := moves, hist := histTrim n (histPush c.hist c.p), xhist := histTrim n (histPush c.xhist (synXc s)) })
  let s := ckoGateAll (ckoGateAll s 2 false) 3 false
  let s := forN 4 s (fun s o => ckoSlew (if rbit s (ckoA o + 8) 31 then ckoGate s o 4 false else s) o)
  match s.clk.gate with
  | some (n + 2) => onClk s (fun c => { c with gate := some (n + 1) })
  | some _ =>
    let s := rputBit (onClk s (fun c => { c with gate := none })) 0x200008 3 false
    ckoGateAll (bndRecord s s.btc 6 (rootSrc s * 512)) 1 false
  | none => s

/-- Select a reference (R374 step 1). -/
def refSelect (s : State) (r rx : Nat) : State :=
  let s := rput (rput s 0x3A0100 29 3 r) 0x3A0100 22 4 (if r = 4 then rx else 0)
  let s := onClk s (fun c => { c with trk := none, pull := false, acq := if r = 5 then 0 else 2 })
  let s := if trackerOwns s then rampStop s else s
  setRefState s (if r = 5 then 0 else 1)

/-- Steps 2 and 3 of R374: the reference has been measured at a pull, or for CKI1 a correction, in ppb. -/
def refMeasured (s : State) (fam : Bool) (mult : Nat) (p : Int) : State :=
  let r := refSel s
  let st := refState s
  if r = 5 ∨ (st ≠ 1 ∧ st ≠ 2 ∧ st ≠ 4) then s
  else if p.natAbs > 45000000 then s
  else
    let far := rootSrc s = 2 ∨ (trackerOwns s ∧ (fam ≠ rbit s 0x200008 2 ∨ (p * 256 - s.clk.p).natAbs > 5000000 * 256))
    let s := if trackerOwns s then rput s 0x3A0100 19 2 mult else rset s 0x3A011C (BitVec.ofInt 32 p)
    if far then
      let s := onClk s (fun c => { c with acq := 3, pull := false, trk := none })
      if s.clk.hop.isSome then s else
      hopSchedule s (s.btc.toNat + 64) (if trackerOwns s then fam else rbit s 0x200008 2)
        (if trackerOwns s then p else s.clk.p / 256) .ref 0 0
    else if trackerOwns s then onClk s (fun c => { c with trk := some (p * 256), pull := st ≠ 2, acq := if st = 2 then 0 else 4 })
    else setPull s s.clk.p

/-- Step 5 of R374: the tracker holds the reference; the completions of CLOCK_REF are written. -/
def refLocked (s : State) : State :=
  let st := refState s
  if refSel s = 5 ∨ (st ≠ 1 ∧ st ≠ 4) ∨ rootSrc s = 2 then s else
  let s := setRefState (onClk s (fun c => { c with pull := false, acq := 0 })) 2
  forEach (s.host.ops.filter (fun o => o.opc == 0x50 && o.started)) s (fun s o => opEnd s o 0 0 (leBytes 1 (rootSrc s)))

/-- Loss of the reference (R375, R378). -/
def refLost (s : State) : State :=
  let st := refState s
  if refSel s = 5 then s
  else if st = 1 then onClk s (fun c => { c with acq := 2, pull := false, trk := none })
  else if st ≠ 2 then s
  else
    let m := histMean s.clk.hist s.clk.p
    let s := if trackerOwns s then
        rset (onClk s (fun c => { c with trk := some m, pull := false, acq := 0 })) 0x3A0110 (BitVec.ofInt 32 (m / 256))
      else setPull (rset s 0x3A011C (BitVec.ofInt 32 (histMean s.clk.xhist (synXc s)))) s.clk.p
    setRefState s 3

/-- The reference has been valid for 1 s: acquisition restarts at step 2 (R375). -/
def refReturned (s : State) : State :=
  if refState s ≠ 3 then s else setRefState (onClk s (fun c => { c with acq := 2, trk := none })) 1

/-- The 5 s bound of CLOCK_REF ends without lock (R374). -/
def refTimeout (s : State) : State :=
  let os := s.host.ops.filter (fun o => o.opc == 0x50 && o.started)
  if os.isEmpty then s else
  let s := forEach os s (fun s o => opEnd s o 2 1 [])
  if refState s = 1 then setRefState (onClk s (fun c => { c with trk := none, pull := false, acq := 2 })) 4 else s

/-- Step 4 of R376: ROOT switches to the standby (R48); a standby that is not locked at the hop boundary cancels the hop (R376 step 3). -/
def hopDo (s : State) : State :=
  match s.clk.hop with
  | none => s
  | some h =>
    if s.btc.toNat < h.btc then s else
    if synState s h.syn ≠ 3 then hopCancel s true 2 true else
    let old := rootSrc s
    let famNew := h.fam != rbit s 0x200008 2
    let s := rputBit (rputBit (onClk s (fun c => { c with hop := none, trk := none, pull := false })) 0x200008 5 false) 0x200008 2 h.fam
    let s := rput (setSynRole s h.syn 1) 0x200008 0 2 h.syn
    let s := setPull (rput (rampStop s) 0x3A0118 16 16 0) (h.p * 256)
    let y := 1 - h.syn
    let s := if old = 2 then onClk s (fun c => { c with gate := some 2 }) else setSynRole s y 0
    let s := synTune s y (ratioNow s)
    let s := bndRecord s (BitVec.ofNat 64 h.btc) 1 (b2n h.fam * 256 + h.syn * 512)
    let s := forN 4 s (fun s o => if rbit s (ckoA o) 23 then ckoGate s o 3 true else s)
    let s := if refSel s = 5 then s
      else
        let s := if refState s = 2 then setRefState s 1 else s
        if famNew then onClk s (fun c => { c with acq := 2 })
        else if trackerOwns s then onClk s (fun c => { c with acq := 4, trk := some (h.p * 256), pull := true })
        else s
    cmtReconvert (hopEnd s h 0 0)

/-- Step 3 of R376: one base tick before the hop an unlocked standby cancels it. -/
def hopCheck (s : State) : State :=
  match s.clk.hop with
  | none => s
  | some h => if s.btc.toNat + 1 < h.btc ∨ synState s h.syn = 3 then s else hopCancel s true 2 true

/-- An aligner comes within ±50 ps, or leaves it (R380, R381). -/
def alignLock (s : State) (o : Nat) : State := if rbit s (ckoA o) 31 then rsetBit s (ckoA o + 8) 31 else s
def alignLoss (s : State) (o : Nat) : State :=
  if !rbit s (ckoA o + 8) 31 then s else
  let s := rsetBit (rputBit s (ckoA o + 8) 31 false) (ckoA o + 8) 28
  let s := if rbit s (ckoA o) 22 then ckoGate s o 4 true else s
  evRaise s 162

/-- A write of CKO_CTL (R379, R380, R384). -/
def ckoCtlWrite (s : State) (o : Nat) (v : W32) : State :=
  let a := ckoA o
  let en := rbit s a 31
  let badDiv := fld v 24 4 > 10
  let div := if badDiv then rfld s a 24 4 else fld v 24 4
  let badCo := !en && decide (fld v 0 10 ≥ 2 ^ div)
  let s := if badDiv || badCo then rsetBit s (a + 8) 29 else s
  let s := rput (rput (rput s a 24 4 div) a 28 2 (fld v 28 2)) a 22 2 (fld v 22 2)
  let s := if en then s else rputBit (if badCo then s else rput s a 0 10 (fld v 0 10)) a 30 (bitOf v 30)
  let s := rputBit s a 31 (bitOf v 31)
  let s := if en && !bitOf v 31 then ckoGate (rputBit s (a + 8) 31 false) o 4 false else s
  if bitOf v 31 && !rbit s (a + 8) 31 then ckoGate s o 4 (bitOf v 22) else s

/-- REFERENCE_MEASURED (R374): family, multiplier, pull, or correction for CKI1. -/
def execReferenceMeasured (fam : Bool) (mult : Fin 3) (p : Int) (st : State) : Res := .next (refMeasured st fam mult.val p)
/-- REFERENCE_LOCKED (R374). -/
def execReferenceLocked (st : State) : Res := .next (refLocked st)
/-- REFERENCE_LOSS (R375). -/
def execReferenceLoss (st : State) : Res := .next (refLost st)
/-- REFERENCE_RETURN (R375). -/
def execReferenceReturn (st : State) : Res := .next (refReturned st)
/-- REFERENCE_LOCK_TIMEOUT (R374). -/
def execReferenceLockTimeout (st : State) : Res := .next (refTimeout st)
/-- HOP_CANCEL_CHECK (R376). -/
def execHopCancelCheck (st : State) : Res := .next (hopCheck st)
/-- SYNTH_LOCK (R368). -/
def execSynthLock (x : Fin 2) (err : BitVec 16) (st : State) : Res := .next (synLock st x.val err)
/-- SYNTH_LOCK_LOSS (R377): the window's count error, the cycle of detection. -/
def execSynthLockLoss (x : Fin 2) (err : BitVec 16) (cyc : Fin 25600) (st : State) : Res := .next (synLoss st x.val err cyc.val)
/-- BAND_SEARCH_DONE (R369); none: no band. -/
def execBandSearchDone (x : Fin 2) (band : Option (BitVec 6)) (st : State) : Res := .next (bandDone st x.val band)
/-- SYN_RAMP_GO with the NSEG the write carries (R370). -/
def execSynRampGo (nseg : BitVec 5) (st : State) : Res := .next (rampGo st nseg.toNat)
/-- SYN_RAMP_STOP (R370). -/
def execSynRampStop (st : State) : Res := .next (rampStop st)
/-- SYN_PHASE_ADD (R371). -/
def execSynPhaseAdd (n : BitVec 16) (st : State) : Res := .next (phaseAdd st n)
/-- ALIGNER_LOCK (R380). -/
def execAlignerLock (o : Fin 4) (st : State) : Res := .next (alignLock st o.val)
/-- ALIGNER_LOSS (R380). -/
def execAlignerLoss (o : Fin 4) (st : State) : Res := .next (alignLoss st o.val)

end Sys2Proof.Machine
end

