-- ==== Sys2Proof/Machine/Ports.lean ====
section
/-! DEFINITION. What the network and serial engines share: port buffers (R44, R208), samples on the wire (R326, R345),
concealment (R334), the media index (R328), alignment groups (R338). -/

namespace Sys2Proof.Machine

/-- The media index of the running domain tick of a ×m cluster (R328). -/
def mediaIndex (s : State) (m : Nat) : Nat := (s.btc.toNat + moffOf s) % 2 ^ 64 * m + domPos s m

/-- What physics adds to the engines' cistern accesses of one command, by word address: it stands while the command runs. -/
def withAcc (acc : List (Nat × Access)) (s : State) (f : State → State) : State :=
  let r := f { s with port := { s.port with acc := acc } }
  { r with port := { r.port with acc := s.port.acc } }
/-- What the check bits of an engine's access to a word find, and how the access meets the F port. -/
def engEcc (s : State) (a : Nat) : Ecc := match s.port.acc.find? (fun x => x.1 == a) with | some x => x.2.ecc | none => .ok
def engMeet (s : State) (a : Nat) : Meet := match s.port.acc.find? (fun x => x.1 == a) with | some x => x.2.meets.headD .none | none => .none

/-- The owner code of a port's engine (R244): 2 NET, 3 SER. -/
def engUser (p : Nat) : Nat := if p / 4096 = 1 then 2 else 3
/-- An engine's read of a word through the T port (R251, R254): BUSY leaves the data undefined (R474), and so does an error response
(DESIGN CHOICE, log entry 78). The data, whether it is undefined, and the state. -/
def engRead (s : State) (a : Nat) : Word × Bool × State :=
  let r := cisTRead s (a / 65536) (a % 65536) (engEcc s a) (engMeet s a)
  if r.err || r.busy then
    let f := freeW r.st
    (f.1, true, f.2)
  else (r.data, false, r.st)
/-- An engine's write of a word through the T port: no retry (R327, R474). -/
def engWrite (s : State) (p a : Nat) (w : Word) : State := (cisTWrite s (engUser p) (a / 65536) (a % 65536) w (engMeet s a)).st

/-- The engine writes an input sample of a port: into the half the fabric does not see (R44, R327, R474). -/
def portIn (s : State) (p ch : Nat) (w : Word) : State :=
  let b := portOf s p
  if !bufHas b.bufin then s else
  mtrPort (engWrite s p (bufAddr b b.bufin (b.nch + ch)) w) false p ch w

/-- The two halves of a buffer of a binding exchange roles (R44): the half the fabric sees is kept in the first NCH words, and the
contents move (DESIGN CHOICE, log entry 75). -/
def bufSwap (s : State) (b : PortBind) (base : Nat) : State :=
  if !bufHas base then s else
  forN b.nch s (fun s i =>
    let x := bufAddr b base i
    let y := bufAddr b base (b.nch + i)
    let wx := cisWord s x
    let wy := cisWord s y
    cisPut (cisPut s x wy) y wx)

/-- Step 9 of R43 for a port: the halves swap; the words the fabric wrote are released, but for channels that a hold or a
fence keeps (R432, R438) and a port bound at this boundary (R44). `kept`: 1 held, 2 fenced, by channel. -/
def portSwapHalves (s : State) (p : Nat) (kept : Nat → Nat) : State :=
  let b := portOf s p
  let s := bufSwap (bufSwap s b b.bufin) b b.bufout
  if !bufHas b.bufout then s else
  let fresh := mget false s.port.fresh p
  let s := forN b.nch s (fun s i =>
    let k := kept i
    let w : Word := if fresh ∨ k = 2 then 0 else if k = 1 then mget 0 s.port.rel (p * 64 + i) else cisWord s (bufAddr b b.bufout (b.nch + i))
    mtrPort { s with port := { s.port with rel := mset 0 s.port.rel (p * 64 + i) w } } true p i w)
  { s with port := { s.port with fresh := mset false s.port.fresh p false } }

/-- The word released on a channel of a port at the last boundary. -/
def portRel (s : State) (p ch : Nat) : Word := mget 0 s.port.rel (p * 64 + ch)

/-- A released word as the engine reads it from the output buffer: undefined data where the read receives BUSY or an error (R474). -/
def portOut (s : State) (p ch : Nat) : Word × State :=
  let b := portOf s p
  if !bufHas b.bufout then (0, s) else
  let r := engRead s (bufAddr b b.bufout (b.nch + ch))
  (if r.2.1 then r.1 else portRel s p ch, r.2.2)

/-- An S72 value as `n` wire bits, rounded half-even and saturated; whether it clamped (R326, R345). -/
def wireOut (n : Nat) (w : Word) : Int × Bool :=
  let r := rneShift w.toInt (65 - n)
  (sclamp n r, !sfits n r)
/-- `n` wire bits as an exact S72 value (R326, R345). -/
def wireIn (n v : Nat) : Word := BitVec.ofInt 72 (sext n v * 2 ^ (65 - n))
/-- An AM824 word of the fabric: audio at [64:41], label at [7:0] (R326). -/
def am824In (audio label : Nat) : Word := BitVec.ofInt 72 (sext 24 audio * 2 ^ 41 + label % 256)
/-- Audio and label of an AM824 word of the fabric, the audio saturated outside [−1, 1) (R326). -/
def am824Out (w : Word) : Nat × Nat × Bool :=
  let v := w.toInt
  if v ≥ 2 ^ 64 then (2 ^ 23 - 1, nbits w.toNat 0 8, true)
  else if v < -(2 ^ 64 : Int) then (2 ^ 23, nbits w.toNat 0 8, true)
  else (nbits w.toNat 41 24, nbits w.toNat 0 8, false)

/-- A sample scaled by a ramp step of n/64: AM824 words in their audio field only (R334). -/
def rampWord (am : Bool) (w : Word) (n : Nat) : Word :=
  if am then am824In (rneShift (sext 24 (nbits w.toNat 41 24) * n) 6 % 2 ^ 24).toNat (nbits w.toNat 0 8)
  else BitVec.ofInt 72 (rneShift (w.toInt * n) 6)
/-- The k-th concealed sample after a last presented one (R334): CONC 0 hold, 1 zero, 2 mute. -/
def concealWord (conc : Nat) (am : Bool) (last : Word) (k : Nat) : Word :=
  match conc with
  | 0 => last
  | 2 => if k < 64 then rampWord am last (64 - k) else if am then am824In 0 (nbits last.toNat 0 8) else 0
  | _ => 0
/-- The k-th sample from rejoin (R334). -/
def rejoinWord (conc : Nat) (am : Bool) (w : Word) (k : Nat) : Word := if conc = 2 ∧ k < 64 then rampWord am w k else w

/-- Fields of class records (R324, R346, R353, R358). -/
def rb (b : PortBind) (o : Nat) : Nat := leAt b.raw o 1
/-- The alignment group a binding names, none if it names none. -/
def agrpOf (p : Nat) (b : PortBind) : Option Nat :=
  let g := if p / 4096 = 1 then leAt b.raw 0x66 2 else leAt b.raw 4 2
  if b.en ∧ g < 64 then some g else none
/-- The bound members of an alignment group. -/
def algMembers (s : State) (g : Nat) : List Nat :=
  s.port.live.filterMap (fun e => if agrpOf e.1 e.2 == some g then some e.1 else none)
/-- The group lets its members run: it has started, or the binding names none (R338). -/
def algOpen (s : State) (p : Nat) : Bool :=
  match agrpOf p (portOf s p) with
  | some g => (mget {} s.net.alg g).started
  | none => true

def flowOf (s : State) (n : Nat) : FlowRun := mget {} s.net.flow n
def setFlow (s : State) (n : Nat) (f : FlowRun) : State := { s with net := { s.net with flow := mset {} s.net.flow n f } }
def aesRxOf (s : State) (i : Nat) : AesRx := mget {} s.ser.rx i
def setAesRx (s : State) (i : Nat) (r : AesRx) : State := { s with ser := { s.ser with rx := mset {} s.ser.rx i r } }
def aesTxOf (s : State) (j : Nat) : AesTx := mget {} s.ser.tx j
def setAesTx (s : State) (j : Nat) (r : AesTx) : State := { s with ser := { s.ser with tx := mset {} s.ser.tx j r } }
def tdmOf (s : State) (q : Nat) : TdmRun := mget {} s.ser.tdm q
def setTdm (s : State) (q : Nat) (r : TdmRun) : State := { s with ser := { s.ser with tdm := mset {} s.ser.tdm q r } }

/-- A receive flow has left wait: its first index has fallen due, or it runs free (R335, R337). -/
def flowLeft (s : State) (n : Nat) : Bool := (flowOf s n).ready || (flowOf s n).state == 4
/-- A member that receives has left wait, or the port does not receive (R338, R363). -/
def memberReadyAl (s : State) (p : Nat) : Bool :=
  let n := p % 4096
  match p / 4096 with
  | 1 => rb (portOf s p) 0 == 1 || flowLeft s n
  | 2 => (aesRxOf s n).ready
  | 4 => rb (portOf s p) 0 == 1 || (tdmOf s n).ready
  | _ => true
/-- A member that receives has left wait. -/
def memberLeft (s : State) (p : Nat) : Bool :=
  let n := p % 4096
  match p / 4096 with
  | 1 => rb (portOf s p) 0 == 0 && flowLeft s n
  | 2 => (aesRxOf s n).ready
  | 4 => (tdmOf s n).ready
  | _ => false

/-- The group starts: every member leaves wait, with samples or without (R338). -/
def memberForce (s : State) (p : Nat) : State :=
  let n := p % 4096
  match p / 4096 with
  | 1 => setFlow s n { flowOf s n with ready := true }
  | 2 => setAesRx s n { aesRxOf s n with ready := true }
  | 4 => setTdm s n { tdmOf s n with ready := true }
  | _ => s

/-- A base boundary starts the groups whose receive members have all left wait, or whose timeout has passed (R338). -/
def algBoundary (s : State) : State :=
  let gs := (s.port.live.filterMap (fun e => agrpOf e.1 e.2)).eraseDups
  let gone := s.net.alg.filterMap (fun e => if gs.contains e.1 then none else some e.1)
  let s := forEach gone s (fun s g => { s with net := { s.net with alg := mset {} s.net.alg g {} } })
  forEach gs s (fun s g =>
    let a := mget {} s.net.alg g
    if !a.started && (a.due || (algMembers s g).all (memberReadyAl s)) then
      let s := { s with net := { s.net with alg := mset {} s.net.alg g { a with started := true } } }
      forEach (algMembers s g) s memberForce
    else s)

/-- NET_ALG.STATE (R342). -/
def algState (s : State) (g : Nat) : Nat :=
  if (algMembers s g).isEmpty then 0 else if (mget {} s.net.alg g).started then 2 else 1

/-- TMO ms have passed since the first member left wait (R338). -/
def algTimeout (s : State) (g : Nat) : State :=
  let a := mget {} s.net.alg g
  if rfld s (0x340300 + 4 * g) 0 16 = 0 ∨ a.started ∨ !(algMembers s g).any (memberLeft s) then s
  else { s with net := { s.net with alg := mset {} s.net.alg g { a with due := true } } }

/-- A time of `c` cycles of the present FCLK, in ns (R28, R50). -/
def cyclesNs (s : State) (c : Int) : Int :=
  if rootSrc s = 2 then c * 5 / 6 else c * (10 ^ 9 * 256000000000) / (25600 * (fbOf s : Int) * (256000000000 + s.clk.p))

/-- ALIGN_GROUP_TIMEOUT (R338). -/
def execAlignGroupTimeout (g : Fin 64) (st : State) : Res := .next (algTimeout st g.val)

end Sys2Proof.Machine
end

