-- ==== Sys2Proof/Machine/Net.lean ====
section
/-! DEFINITION. Network audio (ch. 15): flow contexts, the jitter buffer, concealment, transmit packets, links. -/

namespace Sys2Proof.Machine

/-- Fields of a flow's class record (R324). -/
def fcTx (b : PortBind) : Bool := rb b 0 == 1
def fcEnc (b : PortBind) : Nat := rb b 1
def fcPs (b : PortBind) : Nat := rb b 2
def fcLeg (b : PortBind) (p : Nat) : Bool := nbit (rb b 3) p
def fcConc (b : PortBind) : Nat := rb b 6 % 4
def fcPlay (b : PortBind) : Nat := leAt b.raw 0x18 4
def fcTsoff (b : PortBind) : Nat := leAt b.raw 0x14 4
def fcDst (b : PortBind) (p : Nat) : List Byte := slice b.raw (0x20 + 0x20 * p) 16
def fcSrc (b : PortBind) (p : Nat) : List Byte := slice b.raw (0x30 + 0x20 * p) 16
def fcVlan (b : PortBind) (p : Nat) : Nat := leAt b.raw (8 + 2 * p) 2
/-- Tag control information of a leg's transmitted frames, none untagged (IEEE 802.1Q: PCP above VID). -/
def fcTag (b : PortBind) (p : Nat) : Option Nat :=
  if nbit (fcVlan b p) 15 then some (nbits (fcVlan b p) 12 3 * 2 ^ 13 + fcVlan b p % 4096) else none
def fcJbuf (b : PortBind) : Nat := leAt b.raw 0x60 4
def fcJbk (b : PortBind) : Nat := rb b 0x64
def fcAm (b : PortBind) : Bool := fcEnc b == 2
/-- Bytes of a wire sample (R325). -/
def encBytes (e : Nat) : Nat := match e with | 0 => 2 | 1 => 3 | _ => 4
def zero16 : List Byte := List.replicate 16 0

/-- A flow's state changes: with EVE its NET_FCEV bit is set and source 159 is raised (R342). -/
def flowState (s : State) (n st : Nat) : State :=
  let f := flowOf s n
  if f.state = st then s else
  let s := setFlow s n { f with state := st }
  if nbit (rb (portOf s (0x1000 + n)) 0x65) 1 || nbit (rb f.was 0x65) 1 && st == 0 then
    evRaise (rsetBit s (0x340400 + 4 * (n / 32)) (n % 32)) 159
  else s

/-- Receive flows are aligned: the reference is PTP and the mapping is valid (R335). -/
def netAligned (s : State) : Bool := refSel s == 0 && mapValid s

/-- The index a receive flow presents in the running tick (R330, R335). -/
def flowD (s : State) (n : Nat) : Int :=
  let b := portOf s (0x1000 + n)
  let f := flowOf s n
  if f.state = 4 then domTick s (domOf s b.cl) + f.fd else (mediaIndex s (domOf s b.cl) : Int) - fcPlay b

/-- Slot of an index in the jitter buffer, and the half-word of a channel there (R327). -/
def jSlot (b : PortBind) (i : Int) : Nat := (i % (2 ^ fcJbk b : Nat)).toNat
def jHalf (b : PortBind) (i : Int) (ch : Nat) : Nat := jSlot b i * b.nch + ch
/-- The half a flow buffer holds, as a fabric sample: a firn value exact in S72, or an AM824 word (R326, R327). -/
def halfIn (am : Bool) (h : Half) : Word :=
  if am then am824In (nbits h.toNat 0 24) (nbits h.toNat 24 8) else BitVec.ofInt 72 (h.toInt * 2 ^ 32)
/-- The samples of an index from the flow buffer, by channel: each word read once. -/
def jRead (s : State) (b : PortBind) (i : Int) : List Word × State :=
  let h := jHalf b i 0
  let r : List Word × State := (List.range ((h + b.nch + 1) / 2 - h / 2)).foldl (fun a k =>
    let x := engRead a.2 (fcJbuf b + h / 2 + k)
    (a.1 ++ [x.1], x.2.2)) ([], s)
  ((List.range b.nch).map (fun ch =>
    let w := r.1.getD ((h + ch) / 2 - h / 2) 0
    halfIn (fcAm b) (if (h + ch) % 2 = 0 then w.hi else w.lo)), r.2)

/-- Sample of a wire payload as the half the flow buffer holds: 36 bits (R327). -/
def wireHalf (enc : Nat) (bytes : List Byte) : Half :=
  match enc with
  | 0 => BitVec.ofInt 36 (sext 16 (beNat bytes) * 2 ^ 17)
  | 1 => BitVec.ofInt 36 (sext 24 (beNat bytes) * 2 ^ 9)
  | _ => BitVec.ofNat 36 (beNat bytes)

/-- The good packets that count toward rejoining: in sequence order from the one that follows the last missing packet (R334). -/
def goodRun (n : Nat) (ps : List (Nat × Int)) (psamp : Int) (prev : Option Nat) (miss : Int) : List (Nat × Int) :=
  match n with
  | 0 => []
  | n + 1 =>
    match ps.find? (fun p => match prev with
      | some q => p.1 == (q + 1) % 65536 && decide (p.2 > miss)
      | none => decide (miss < p.2) && decide (p.2 ≤ miss + psamp)) with
    | none => []
    | some p => p :: goodRun n (ps.filter (· != p)) psamp (some p.1) miss

/-- The good packets of a concealing flow. -/
def flowGood (b : PortBind) (f : FlowRun) : List (Nat × Int) := goodRun f.pkts.length f.pkts (fcPs b) none f.missAt

/-- The engine writes one word a channel into the input half of a flow (R330). -/
def flowPresent (s : State) (n : Nat) (v : Nat → Word) : State :=
  forN (portOf s (0x1000 + n)).nch s (fun s ch => portIn s (0x1000 + n) ch (v ch))

/-- The words of an index are presented, with the rejoin ramp; they are the last presented ones; the mark goes (R334). -/
def flowPlay (s : State) (n : Nat) (i : Int) : State :=
  let b := portOf s (0x1000 + n)
  let f := flowOf s n
  let k := f.upK + 1
  let r := jRead s b i
  let v := fun ch => rejoinWord (if f.upK < 64 then fcConc b else 0) (fcAm b) (r.1.getD ch 0) k
  let last := (List.range b.nch).foldl (fun m ch => mset 0 m ch (v ch)) f.last
  let s := flowPresent r.2 n v
  setFlow s n { f with last := last, mark := mset false f.mark (jSlot b i) false, upK := min 64 k }

/-- A concealed index: the k-th of the concealment (R334). -/
def flowConceal (s : State) (n : Nat) (i : Int) : State :=
  let b := portOf s (0x1000 + n)
  let f := flowOf s n
  let k := f.concK + 1
  let s := flowPresent s n (fun ch => concealWord (fcConc b) (fcAm b) (mget 0 f.last ch) k)
  setFlow s n { f with concK := k, miss := satInc 65535 f.miss, mark := mset false f.mark (jSlot b i) false }

/-- A receive flow that is live or conceals at a boundary (R334). -/
def flowLiveTick (s : State) (n : Nat) (d : Int) : State :=
  let b := portOf s (0x1000 + n)
  let f := flowOf s n
  let here := mget false f.mark (jSlot b d)
  if f.state = 2 then
    if here then flowPlay s n d
    else flowConceal (flowState (setFlow s n { f with cause := 1, concK := 0, missAt := d, goodn := 0 }) n 3) n d
  else
    let good := flowGood b f
    if here ∧ good.length ≥ rb b 7 ∧ good.any (fun p => decide (p.2 ≤ d) && decide (d < p.2 + fcPs b)) then
      flowPlay (flowState (setFlow s n { f with upK := if fcConc b = 2 then 0 else 64, goodn := min 255 good.length }) n 2) n d
    else if here then flowConceal s n d
    else flowConceal (setFlow s n { f with missAt := d, goodn := 0, pkts := f.pkts.filter (fun p => decide (p.2 > d)) }) n d

/-- Arrival marks without those of `k` indices from `i`. -/
def marksDrop (b : PortBind) (m : SMap Bool) (i : Int) (k : Nat) : SMap Bool :=
  (List.range k).foldl (fun m (j : Nat) => mset false m (jSlot b (i + (j : Int))) false) m
/-- A free flow re-centres: it presents index `d` in the running tick instead of `d0`; the marks of the indices from `i` that it skips go
(R335). -/
def flowCentre (s : State) (n : Nat) (i d : Int) : State :=
  let b := portOf s (0x1000 + n)
  let f := flowOf s n
  setFlow s n { f with fd := d - domTick s (domOf s b.cl), slip := satInc 255 f.slip,
                       mark := marksDrop b f.mark i (min (2 ^ fcJbk b) (d - i).toNat) }

/-- A receive flow at a boundary of its domain (R330, R334, R335, R337). -/
def flowRxTick (s : State) (n : Nat) : State :=
  let b := portOf s (0x1000 + n)
  let f := flowOf s n
  match f.state with
  | 4 =>
    let d := flowD s n
    if mget false f.mark (jSlot b d) then flowPlay s n d
    else match f.newest with
      | none => flowPresent s n (fun _ => 0)
      | some q =>
        let s := flowCentre s n d (q - fcPlay b)
        if mget false (flowOf s n).mark (jSlot b (q - fcPlay b)) then flowPlay s n (q - fcPlay b)
        else flowPresent s n (fun ch => mget 0 f.last ch)
  | 1 =>
    let d := flowD s n
    let ready := f.ready || (match f.liveAt with | some i => decide (i ≤ d) | none => false)
    let s := setFlow s n { f with ready := ready }
    if ready && algOpen s (0x1000 + n) then flowLiveTick (flowState (setFlow s n { f with ready := true, upK := 64 }) n 2) n d
    else
      flowPresent (setFlow s n { f with ready := ready, mark := mset false f.mark (jSlot b d) false }) n (fun _ => 0)
  | 0 => s
  | _ => flowLiveTick s n (flowD s n)

/-- One wire sample of a transmit flow, big-endian; whether it clamped (R326). -/
def wireSample (enc : Nat) (w : Word) : List Byte × Bool :=
  match enc with
  | 0 => let r := wireOut 16 w; (beBytes 2 (r.1 % 2 ^ 16).toNat, r.2)
  | 1 => let r := wireOut 24 w; (beBytes 3 (r.1 % 2 ^ 24).toNat, r.2)
  | _ => let r := am824Out w; (beBytes 1 r.2.1 ++ beBytes 3 r.1, r.2.2)

/-- A word of the transmit flow buffer (R327): two packets of PSAMP × NCH words, in turn. -/
def txAddr (b : PortBind) (first : Int) (k ch : Nat) : Nat :=
  fcJbuf b + (((first / (fcPs b : Int)) % 2).toNat * fcPs b + k) * b.nch + ch

/-- Zero audio, an AM824 label kept. -/
def silenced (am : Bool) (w : Word) : Word := if am then am824In 0 (nbits w.toNat 0 8) else 0
/-- The samples of a complete packet from the flow buffer, in wire order. -/
def txRead (s : State) (b : PortBind) (first : Int) : List Word × State :=
  (List.range (fcPs b * b.nch)).foldl (fun (a : List Word × State) k =>
    let x := engRead a.2 (txAddr b first 0 k)
    (a.1 ++ [x.1], x.2.2)) ([], s)
/-- A complete packet goes out on every leg (R336), with zero audio while the audio outputs are gated (R50, R51, R443; DESIGN CHOICE, log
entry 78). -/
def flowSend (s : State) (n : Nat) (first : Int) : State :=
  let b := portOf s (0x1000 + n)
  let f := flowOf s n
  let quiet := safeGated s
  let r := txRead s b first
  let s := r.2
  let ws := r.1.map (fun w => wireSample (fcEnc b) (if quiet then silenced (fcAm b) w else w))
  let sat := (ws.filter (fun x => x.2)).length
  let ts := ((first + fcTsoff b) % 2 ^ 32).toNat
  let rtp := [0x80] ++ beBytes 1 (rb b 4 % 128) ++ beBytes 2 f.seq ++ beBytes 4 ts ++ beBytes 4 (leAt b.raw 0x10 4) ++ ws.flatMap (fun x => x.1)
  let s := setFlow s n { f with seq := (f.seq + 1) % 65536, early := min 65535 (f.early + sat) }
  forN 2 s (fun s p =>
    if !fcLeg b p then s
    else if !netUp s p then setFlow s n { flowOf s n with miss := satInc 65535 (flowOf s n).miss }
    else if netSends s p (fcDst b p) then
      emit s (.media p n (udpHdr s p (fcTag b p) (fcDst b p) (rb b 5 % 64) (leAt b.raw 0xE 2) (leAt b.raw 0xC 2) rtp) rtp)
    else s)

/-- A transmit flow at a boundary of its domain: the released samples carry the index of the tick that starts (R336). -/
def flowTxTick (s : State) (n : Nat) : State :=
  let p := 0x1000 + n
  let b := portOf s p
  if !algOpen s p then s else
  let f := flowOf s n
  let i : Int := mediaIndex s (domOf s b.cl)
  let f := match f.first with
    | some a => if i = a + f.cnt then f else { f with first := none, cnt := 0 }
    | none => f
  let f := if f.first.isNone ∧ i % (fcPs b : Int) = 0 then { f with first := some i, cnt := 0 } else f
  match f.first with
  | none => setFlow s n f
  | some a =>
    let s := flowState (setFlow s n f) n 2
    let s := forN b.nch s (fun s ch =>
      let w := portOut s p ch
      engWrite w.2 p (txAddr b a f.cnt ch) w.1)
    let f := flowOf s n
    if f.cnt + 1 ≥ fcPs b then
      let s := flowSend s n a
      setFlow s n { flowOf s n with first := none, cnt := 0 }
    else setFlow s n { f with cnt := f.cnt + 1 }

/-- A flow context at a boundary of the domain of its cluster. -/
def flowTick (s : State) (n : Nat) : State :=
  let b := portOf s (0x1000 + n)
  if !b.en then s else if fcTx b then flowTxTick s n else flowRxTick s n

/-- An unbound receive flow in the two ticks after the swap: the halves swap, and it writes zeros into the input half (R44, R337). -/
def flowZeros (s : State) (n : Nat) : State :=
  let f := flowOf s n
  if f.zeros = 0 then s else
  let b := f.was
  let s := bufSwap s b b.bufin
  let s := forN b.nch s (fun s ch => engWrite s (0x1000 + n) (bufAddr b b.bufin (b.nch + ch)) 0)
  setFlow s n { flowOf s n with zeros := f.zeros - 1 }

/-- A receive flow restarts: in wait while aligned, else free (R335, R337). -/
def flowRestart (s : State) (n : Nat) (cause : Option Nat) : State :=
  let b := portOf s (0x1000 + n)
  let f := flowOf s n
  let d : Int := (mediaIndex s (domOf s b.cl) : Int) - fcPlay b
  let s := setFlow s n { f with cause := cause.getD f.cause, goodn := 0, mark := [], liveAt := none, ready := false,
                                fd := d - domTick s (domOf s b.cl), newest := none,
                                last := [], concK := 0, upK := 64, pkts := [], leg0 := none, leg1 := none, seq := 0, first := none, cnt := 0,
                                zeros := 0 }
  flowState s n (if !fcTx b && !netAligned s then 4 else 1)

/-- Two class records of a flow differ only in fields that apply without a restart: DSCP, PCP, CONC, REJOIN, EVE (R337). -/
def flowSame (a b : PortBind) : Bool :=
  let blank := fun (x : PortBind) => (List.range 112).map (fun o =>
    let v := rb x o
    if o = 5 ∨ o = 6 ∨ o = 7 then 0
    else if o = 9 ∨ o = 11 then v - nbits v 4 3 * 16
    else if o = 0x65 then v - nbits v 1 1 * 2
    else v)
  a.en && b.en && a.cl == b.cl && a.nch == b.nch && a.bufin == b.bufin && a.bufout == b.bufout && blank a == blank b

/-- A flow's binding has changed at the boundary in progress (R337). -/
def flowBound (s : State) (n : Nat) (old : PortBind) : State :=
  let b := portOf s (0x1000 + n)
  if flowSame old b then s
  else if b.en then flowRestart (setFlow s n { flowOf s n with was := {} }) n (if old.en then some 3 else none)
  else
    let f := flowOf s n
    let s := setFlow s n { f with was := old, zeros := if fcTx old then 0 else 2, mark := [], liveAt := none, ready := false, pkts := [],
                                  first := none, cnt := 0,
                                  miss := if fcTx old ∧ f.first.isSome then satInc 65535 f.miss else f.miss }
    flowState s n 0

/-- Bound receive flows. -/
def rxFlows (s : State) : List Nat :=
  s.port.live.filterMap (fun e => if e.1 / 4096 = 1 ∧ e.2.en ∧ !fcTx e.2 then some (e.1 % 4096) else none)

/-- MOFF has changed: live and concealing receive flows wait, their buffers discarded (R337). -/
def netMoff (s : State) : State :=
  cmtReconvert (forEach (rxFlows s) s (fun s n =>
    if (flowOf s n).state = 2 ∨ (flowOf s n).state = 3 then flowRestart s n (some 2) else s))

/-- The alignment of receive flows may have changed: `was` is what netAligned read before (R335). -/
def netRealign (was : Bool) (s : State) : State :=
  if was = netAligned s then s
  else if netAligned s then forEach (rxFlows s) s (fun s n => flowRestart s n none)
  else forEach (rxFlows s) s (fun s n =>
    let m := domOf s (portOf s (0x1000 + n)).cl
    let d : Int := (mediaIndex s m : Int) - fcPlay (portOf s (0x1000 + n))
    flowState (setFlow s n { flowOf s n with fd := d - domTick s m, ready := false, liveAt := none, upK := 64 }) n 4)

/-- An RTP packet (R331): payload type, sequence number, timestamp, SSRC, payload without padding; none where it is no RTP. -/
structure Rtp where
  pt : Nat
  seq : Nat
  ts : Nat
  ssrc : Nat
  body : List Byte

/-- Parse RTP: CSRC entries, header extensions and padding are skipped (R331). -/
def rtpOf (bs : List Byte) : Option Rtp :=
  let b0 := beAt bs 0 1
  if bs.length < 12 ∨ b0 / 64 ≠ 2 then none else
  let h := 12 + 4 * (b0 % 16)
  let h := if nbit b0 4 then h + 4 + 4 * beAt bs (h + 2) 2 else h
  let pad := if nbit b0 5 then leNat [bs.getLast?.getD 0] else 0
  some { pt := beAt bs 1 1 % 128, seq := beAt bs 2 2, ts := beAt bs 4 4, ssrc := beAt bs 8 4,
         body := (bs.take (bs.length - pad)).drop h }

/-- The frame feeds the flow (R331). -/
def flowTakes (b : PortBind) (p : Nat) (f : MediaFrame) (r : Rtp) : Bool :=
  let v := fcVlan b p
  let src := fcSrc b p
  b.en && !fcTx b && fcLeg b p
    && (if nbit v 15 then f.vid == some (v % 4096) else f.vid == none || f.vid == some 0)
    && f.dst == fcDst b p && (src == zero16 || f.src == src)
    && f.dport == leAt b.raw 0xC 2 && (leAt b.raw 0xE 2 == 0 || f.sport == leAt b.raw 0xE 2)
    && r.pt == rb b 4 && (!nbit (rb b 0x65) 0 || r.ssrc == leAt b.raw 0x10 4)

/-- An index unwrapped from a timestamp to the value nearest the presented one (R329). -/
def rtpIndex (b : PortBind) (ts : Nat) (d : Int) : Int :=
  let x := ((ts : Int) - fcTsoff b) % 2 ^ 32
  let k := (d - x + 2 ^ 31) / 2 ^ 32
  x + k * 2 ^ 32

/-- Write one half-word of the flow buffer; no retry (R327). -/
def jWrite (s : State) (b : PortBind) (i : Int) (ch : Nat) (v : Half) : State :=
  let h := jHalf b i ch
  let a := fcJbuf b + h / 2
  let mask : Word := if h % 2 = 0 then Word.pack (BitVec.allOnes 36) 0 else Word.pack 0 (BitVec.allOnes 36)
  let w : Word := if h % 2 = 0 then Word.pack v 0 else Word.pack 0 v
  (cisTRmw s 2 (a / 65536) (a % 65536) (fun o => maskPut mask o w) (engEcc s a) (engMeet s a)).st

/-- The samples of a packet: late indices are counted, marked ones are duplicates, the others are written and marked (R332). -/
def flowFill (s : State) (n : Nat) (i0 d : Int) (body : List Byte) : State :=
  let b := portOf s (0x1000 + n)
  let z := encBytes (fcEnc b)
  forN (fcPs b) s (fun s j =>
    let i := i0 + j
    let f := flowOf s n
    if i ≤ d then setFlow s n { f with late := satInc 65535 f.late }
    else if mget false f.mark (jSlot b i) then s
    else
      let s := setFlow s n { f with mark := mset false f.mark (jSlot b i) true }
      forN b.nch s (fun s ch =>
        let k := j * b.nch + ch
        jWrite s b i ch (wireHalf (fcEnc b) (slice body (k * z) z))))

/-- What a flow keeps of a packet that has been written: the newest index, its first index to go live with, an on-time packet,
the leg, the margin in ns (R332–R337). -/
def flowNote (b : PortBind) (f : FlowRun) (leg t seq : Nat) (i0 d ns : Int) : FlowRun :=
  let ps : Int := fcPs b
  let hi := i0 + ps - 1
  let newest := match f.newest with | some q => max q hi | none => hi
  let liveAt := if f.state = 1 ∧ f.liveAt.isNone ∧ hi > d then some (max i0 (d + 1)) else f.liveAt
  let f : FlowRun := { f with newest := some newest, liveAt := liveAt }
  if i0 ≤ d then f else
  let keep := f.pkts.filter (fun p => if f.state = 3 then decide (p.2 > f.missAt) else decide (p.2 + ps > d))
  let pkts := if keep.contains (seq, i0) then keep else keep ++ [(seq, i0)]
  let f : FlowRun := { f with pkts := pkts, leg0 := if leg = 0 then some t else f.leg0, leg1 := if leg = 1 then some t else f.leg1 }
  let f : FlowRun := { f with minm := min f.minm (min 0xFFFFF (ns / 1000).toNat) }
  if f.state == 3 then { f with goodn := min 255 (flowGood b f).length } else f

/-- A well-formed packet that is not early reaches a flow on a leg, at a cycle of the running domain tick (R332). -/
def flowTake (s : State) (n leg seq : Nat) (i0 : Int) (body : List Byte) (cyc : Nat) : State :=
  let b := portOf s (0x1000 + n)
  let d := flowD s n
  let m := domOf s b.cl
  let ns := cyclesNs s ((i0 - d) * (domC m : Int) - (cyc : Int))
  let s := flowFill (histSample s 1 n ns) n i0 d body
  setFlow s n (flowNote b (flowOf s n) leg (domTick s m) seq i0 d ns)

/-- A packet reaches a flow: it is malformed, early, or written; a free flow re-centres on an early one (R331, R332, R335). -/
def flowPacket (s : State) (n leg : Nat) (r : Rtp) (cyc : Nat) : State :=
  let b := portOf s (0x1000 + n)
  let f := flowOf s n
  if r.body.length ≠ b.nch * fcPs b * encBytes (fcEnc b) then setFlow s n { f with fmt := satInc 255 f.fmt } else
  let d := flowD s n
  let i0 := rtpIndex b r.ts d
  let hi := i0 + (fcPs b : Int) - 1
  let size : Nat := 2 ^ fcJbk b
  if hi < d + (size : Int) then flowTake s n leg r.seq i0 r.body cyc
  else if f.state = 4 then flowTake (flowCentre s n (d + 1) (hi - fcPlay b)) n leg r.seq i0 r.body cyc
  else setFlow s n { f with early := satInc 65535 f.early }

/-- A received frame that may carry media: it feeds up to 4 flows, or is discarded and counted (R322, R323, R331). -/
def mediaFrame (s : State) (p : Nat) (f : MediaFrame) (cyc : Nat) : State :=
  if !netUp s p then s
  else if !f.fcs then rinc s (netA p + 0x28) 0 16
  else if !frameFits s p (udpFrameLen f.dst f.payload) then rinc s (netA p + 0x28) 16 16
  else
    let hit : List Nat := match (if f.udp ∧ f.whole then rtpOf f.payload else none) with
      | some r => (s.port.live.filterMap (fun e => if e.1 / 4096 = 1 ∧ flowTakes e.2 p f r then some (e.1 % 4096) else none)).take 4
      | none => []
    match hit, rtpOf f.payload with
    | [], _ | _, none => rinc s (netA p + 0x28) 16 16
    | l, some r => forEach l s (fun s n => flowPacket s n p r cyc)

/-- Groups that a port has joined, IPv4 or IPv6 (R323). -/
def netGroups (s : State) (p : Nat) (v4 : Bool) : List (List Byte) :=
  s.net.joins.filterMap (fun m => if m.port = p ∧ isMapped m.group = v4 then some m.group else none)
/-- The frame, from its destination MAC address to before its FCS, asks firmware for an answer (R323): an ARP request or an ICMP echo
request for the port's IPv4 address, a Neighbor Solicitation or an ICMPv6 echo request for its IPv6 address, an IGMP or MLD query while
it has memberships; whole, with one tag at most (R322). The layouts are the protocols' own (PRESUMED, log entry 78). -/
def ctlAsks (s : State) (p : Nat) (bs : List Byte) : Bool :=
  let t := if beAt bs 12 2 = 0x8100 then 16 else 12
  let h := t + 2
  let v4 := ownIp4 s p
  let v6 := ownIp6 s p
  (beAt bs 0 6 == ownMac s p || leAt bs 0 1 % 2 == 1) &&
  (match beAt bs t 2 with
   | 0x0806 => beAt bs (h + 6) 2 == 1 && v4 != 0 && beAt bs (h + 24) 4 == v4
   | 0x0800 =>
     let o := h + 4 * (leAt bs h 1 % 16)
     beAt bs (h + 6) 2 % 2 ^ 14 == 0 &&
       (match leAt bs (h + 9) 1 with
        | 1 => v4 != 0 && beAt bs (h + 16) 4 == v4 && leAt bs o 1 == 8
        | 2 => leAt bs o 1 == 0x11 && !(netGroups s p true).isEmpty
        | _ => false)
   | 0x86DD =>
     (match leAt bs (h + 6) 1 with
      | 58 => v6 != 0 && (if leAt bs (h + 40) 1 = 135 then beAt bs (h + 48) 16 == v6
          else leAt bs (h + 40) 1 == 128 && beAt bs (h + 24) 16 == v6)
      | 0 => leAt bs (h + 40) 1 == 58 && leAt bs (h + 48 + 8 * leAt bs (h + 41) 1) 1 == 130 && !(netGroups s p false).isEmpty
      | _ => false)
   | _ => false)
/-- A frame for firmware is answered from the port's addresses and memberships; an excess frame, or one for nobody, is discarded and
counted (R322, R323, R408). -/
def controlFrame (s : State) (p : Nat) (fcs excess : Bool) (bytes : List Byte) : State :=
  if !netUp s p then s
  else if !fcs then rinc s (netA p + 0x28) 0 16
  else if !frameFits s p (bytes.length + 4) || !ctlAsks s p bytes || excess then rinc s (netA p + 0x28) 16 16
  else if bootGate s then
    emit s (.frame p (Config.controlReply (ownMac s p) (ownIp4 s p) (ownIp6 s p) (netGroups s p true ++ netGroups s p false) bytes))
  else s

/-- Link down and up at the PCS (R342, R426). -/
def linkDown (s : State) (p cyc : Nat) : State :=
  if !rbit s (netA p + 4) 31 then s else
  let s := rinc (rputBit s (netA p + 4) 31 false) (netA p + 4) 0 16
  let s := fltDetect s { cls := 9, sev := 2, unit := 0x6000 + p, btc := tickEndBtc s 1, detail := 0, cyc := some cyc }
  evSignalLevel s (156 + p) true
def linkUp (s : State) (p speed : Nat) : State :=
  if !rbit s (netA p) 31 then s else
  evSignalLevel (rput (rsetBit s (netA p + 4) 31) (netA p + 4) 29 2 speed) (156 + p) false

/-- A network fault is over: the link is up and every bound receive flow of the leg is live again (R426). -/
def linkRecovered (s : State) : State :=
  forN 2 s (fun s p =>
    if rbit s (netA p + 4) 31 && fltOpen s 9 (0x6000 + p)
        && (rxFlows s).all (fun n => !fcLeg (portOf s (0x1000 + n)) p || (flowOf s n).state == 2 || (flowOf s n).state == 4) then
      fltRecover s { cls := 9, sev := 2, unit := 0x6000 + p, btc := tickEndBtc s 1 }
    else s)

/-- NET_FC_STAT of a flow (R342). -/
def flowStat (s : State) (n : Nat) : W32 :=
  let b := portOf s (0x1000 + n)
  let f := flowOf s n
  let t := domTick s (domOf s b.cl)
  let up := fun (l : Option Nat) => match l with | some x => b2n (b.en && decide (t ≤ x + 100 * fcPs b)) | none => 0
  BitVec.ofNat 32 (f.state * 2 ^ 29 + b2n (fcTx b) * 2 ^ 28 + up f.leg1 * 2 ^ 27 + up f.leg0 * 2 ^ 26 + f.cause * 2 ^ 16 + f.goodn * 2 ^ 8)

/-- MEDIA_PACKET_RECEIVED (R331, R332): port, frame, cycle of the running domain tick, facts of the flow-buffer accesses. -/
def execMediaPacketReceived (p : Fin 2) (f : MediaFrame) (cyc : Fin 25600) (acc : List (Nat × Access)) (st : State) : Res :=
  .next (withAcc acc st (fun s => linkRecovered (mediaFrame s p.val f cyc.val)))
/-- CONTROL_FRAME_RECEIVED (R323). -/
def execControlFrameReceived (p : Fin 2) (fcs excess : Bool) (head body : List Byte) (st : State) : Res :=
  .next (controlFrame st p.val fcs excess (head ++ body))
/-- NETWORK_LINK_UP (R426). -/
def execNetworkLinkUp (p : Fin 2) (speed : Fin 3) (st : State) : Res := .next (linkRecovered (linkUp st p.val speed.val))

end Sys2Proof.Machine
end

