-- ==== Sys2Proof/Machine/Ptp.lean ====
section
/-! DEFINITION. Precision time (R339–R341): ports, master selection, the servo, messages sent. -/

namespace Sys2Proof.Machine

def ptpPort (s : State) (p : Nat) : PtpPort := mget {} s.net.ptp p
def setPtpPort (s : State) (p : Nat) (x : PtpPort) : State := { s with net := { s.net with ptp := mset {} s.net.ptp p x } }
def onNet (s : State) (f : NetSt → NetSt) : State := { s with net := f s.net }
/-- NET_PTP_CTL fields (R342). -/
def ptpEn (s : State) : Bool := rbit s 0x340500 31
def ptpBc (s : State) : Bool := rbit s 0x340500 30
def ptpP2p (s : State) : Bool := rbit s 0x340500 28
def ptpIp6 (s : State) : Bool := rbit s 0x340500 27
def ptpDomain (s : State) : Nat := rfld s 0x340500 16 8
/-- LOCKTH in 2^-16 ns. -/
def lockTh (s : State) : Int := ((rfld s 0x340500 8 8 * 100 * 65536 : Nat) : Int)
/-- NET_PTP_STAT.SSTATE: 0 disabled, 1 listening, 2 acquiring, 3 locked, 4 holdover. -/
def servo (s : State) : Nat := rfld s 0x340504 28 4
/-- The servo changes state: source 158 (R341). -/
def setServo (s : State) (v : Nat) : State := if servo s = v then s else evRaise (rput s 0x340504 28 4 v) 158
/-- MAPV changes; the receive flows follow (R335), and a mapping that is valid again converts the PTP groups (R230). -/
def setMapv (s : State) (b : Bool) : State := netRealign (netAligned s) (cmtReconvert (rputBit s 0x340504 23 b))
/-- Port states: 0 disabled, 1 listening, 2 uncalibrated, 3 slave, 4 master, 5 passive. -/
def ptpSt (s : State) (p : Nat) : Nat := rfld s 0x340504 (if p = 0 then 20 else 17) 3
def setPtpSt (s : State) (p v : Nat) : State := rput s 0x340504 (if p = 0 then 20 else 17) 3 v

/-- The order of data sets in BMCA: priority1, class, accuracy, variance, priority2, identity, steps, sender (R339). -/
def foreignKey (f : Foreign) : List Nat := [f.p1, f.cls, f.acc, f.var, f.p2, f.gm, f.steps, f.src]
/-- Lexicographic order. -/
def lexLt (a b : List Nat) : Bool :=
  match a, b with
  | x :: r, y :: q => decide (x < y) || (x == y && lexLt r q)
  | [], _ :: _ => true
  | _, [] => false
/-- The best qualified foreign master of a port (R339). -/
def bestForeign (s : State) (p : Nat) : Option Foreign :=
  ((ptpPort s p).foreign.filter (fun f => decide (f.count ≥ 2) && decide (f.steps < 255))).foldl (fun b f => match b with
    | none => some f
    | some g => if lexLt (foreignKey f) (foreignKey g) then some f else some g) none
/-- The master that selection gives now. -/
def ptpBest (s : State) : Option (Nat × Foreign) :=
  if ptpBc s then
    match bestForeign s 0, bestForeign s 1 with
    | some a, some b => if lexLt (foreignKey b) (foreignKey a) then some (1, b) else some (0, a)
    | some a, none => some (0, a)
    | none, some b => some (1, b)
    | none, none => none
  else (bestForeign s s.net.cur).map (fun f => (s.net.cur, f))

/-- The grandmaster of a locked servo is kept in holdover and forgotten in any other state (R339). -/
def ptpLearn (s : State) : State :=
  onNet s (fun n => { n with learned := if servo s = 3 then ptpBest s else if servo s = 4 then n.learned else none })
/-- The state of a boundary clock's port other than the slave port: MASTER or, where it hears the learned grandmaster itself, PASSIVE while
the servo is locked or in holdover to a grandmaster learned on the other port; else listening (R339; IEEE 1588's decision for a clock of
class 248). -/
def ptpOther (s : State) (p : Nat) : Nat :=
  match s.net.learned with
  | some (q, g) =>
    if q = p then 1
    else match bestForeign s p with
      | some f => if f.gm = g.gm then 5 else 4
      | none => 4
  | none => 1

/-- Port states and SPORT follow the selection and the servo (R339). -/
def ptpShow (s : State) : State :=
  if !ptpEn s then s else
  let s := ptpLearn s
  let sp := s.net.master.map (fun m => m.1)
  let s := rput s 0x340504 26 2 (sp.getD 3)
  forN 2 s (fun s p =>
    let v :=
      if sp = some p then (if servo s ≥ 3 then 3 else 2)
      else if !ptpBc s then (if p = s.net.cur then 1 else 0)
      else if !netUp s p then 0
      else ptpOther s p
    setPtpSt s p v)

/-- Acquisition starts at step 2 of R340, or without the step check at step 3. -/
def servoAcquire (s : State) (stepped : Bool) : State :=
  setServo (onNet s (fun n => { n with good := 0, bad := 0, moffSet := false, stepped := stepped })) 2

/-- The servo loses its master (R341): locked falls to holdover, and with it a PTP synthesizer reference (R373). -/
def servoLoss (s : State) : State :=
  match servo s with
  | 3 =>
    let s := setServo (onNet s (fun n => { n with good := 0, bad := 0 })) 4
    if refSel s = 0 then refLost s else s
  | 2 => setServo s 1
  | _ => s

/-- Master selection runs: a new master starts acquisition, or is judged at its next Sync in holdover (R339–R341). -/
def ptpSelect (s : State) : State :=
  if !ptpEn s then s else
  let b := ptpBest s
  let m : Option (Nat × Nat) := b.map (fun x => (x.1, x.2.src))
  let s : State := match b with
    | some x => rset64 s 0x340518 (BitVec.ofNat 64 x.2.gm)
    | none => s
  if m = s.net.master then ptpShow s else
  let s := onNet s (fun n => { n with master := m })
  let s := match m with
    | none => servoLoss s
    | some x =>
      let s := setPtpPort s x.1 { ptpPort s x.1 with sync := none, req := none, delay := none }
      match servo s with
      | 1 => servoAcquire s false
      | 2 => servoAcquire s false
      | _ => servoLoss s
  ptpShow s

/-- PTP is enabled or disabled (R342). -/
def ptpEnable (s : State) (en : Bool) : State :=
  if en = ptpEn s then s
  else if en then
    let s := onNet (rsetBit s 0x340500 31) (fun n => { n with ptp := [], master := none, learned := none, cur := rfld s 0x340500 29 1 })
    ptpShow (setServo s 1)
  else
    let s := setServo (rputBit (onNet s (fun n => { n with ptp := [], master := none, learned := none })) 0x340500 31 false) 0
    setMapv (setPtpSt (setPtpSt (rput s 0x340504 26 2 3) 0 0) 1 0) false

/-- The reference has been selected: PTP restarts the servo, any other clears MAPV (R340 step 1, R341). -/
def ptpRefChanged (s : State) : State :=
  let s := rputBit s 0x340504 16 (refSel s == 0)
  let s := setMapv s false
  if refSel s = 0 ∧ ptpEn s then ptpShow (setServo (onNet s (fun n => { n with master := none, good := 0, bad := 0 })) 1) else s

/-- MOFF takes a value (R340 step 4, R337). -/
def setMoff (s : State) (v : Nat) : State :=
  if moffOf s = v then s else
  netMoff (evRaise (rincMod (rset64 s 0x340510 (BitVec.ofNat 64 v)) 0x340504 0 16) 158)

/-- A complete Sync of the selected master reaches the servo (R340, R341): origin and receive time in 2^-16 ns, the PTP time of
the next base boundary in ns, the boundary error in ps. -/
def servoSync (s : State) (p : Nat) (t1 t2 : Int) (bnd : Nat) (align : Int) : State :=
  let x := ptpPort s p
  let s := setPtpPort s p { x with t1 := t1, t2 := t2, sync := none }
  let off := t2 - t1 - x.delay.getD 0
  let s := rset (rset s 0x340508 (BitVec.ofInt 32 (off / 65536))) 0x34050C (BitVec.ofInt 32 align)
  let th := lockTh s
  let s := if servo s = 4 then
      (if x.delay.isSome ∧ (off.natAbs : Int) ≤ 4 * th then setServo s 3
       else if x.delay.isSome then servoAcquire (setMapv s false) false else s)
    else s
  let s := if servo s = 2 ∧ !s.net.stepped then
      onNet s (fun n => { n with stepped := true, steps := if off.natAbs > 1000000 * 65536 then n.steps - off / 65536 else n.steps })
    else s
  let s := if servo s = 2 ∧ x.delay.isSome then
      let g := if (off.natAbs : Int) < th then s.net.good + 1 else 0
      let s := onNet s (fun n => { n with good := g })
      let s := if g ≥ 16 ∧ !s.net.moffSet ∧ refSel s = 0 then
          let ms := (2 * bnd * fbOf s + 10 ^ 9) / (2 * 10 ^ 9)
          onNet (setMoff s ((ms + 2 ^ 64 - (s.btc.toNat + 1) % 2 ^ 64) % 2 ^ 64)) (fun n => { n with moffSet := true })
        else s
      if g ≥ 16 ∧ refSel s ≠ 0 then setServo s 3
      else if s.net.moffSet ∧ align.natAbs < 1000000 then setMapv (setServo s 3) true
      else s
    else if servo s = 3 then
      let b := if (off.natAbs : Int) > 4 * th then s.net.bad + 1 else 0
      let s := onNet s (fun n => { n with bad := b })
      if b ≥ 4 then servoAcquire s true else s
    else s
  ptpShow s

/-- Ingress and egress times referred to the pins (R340), in 2^-16 ns. -/
def ptpIn (s : State) (p rx : Nat) : Int := (((rx + rfld s (netA p + 0x24) 0 16) * 65536 : Nat) : Int)
def ptpEg (s : State) (p tx : Nat) : Int := (((tx + rfld s (netA p + 0x24) 16 16) * 65536 : Nat) : Int)
def msgT (t : Nat) : Int := ((t * 65536 : Nat) : Int)
/-- A PTP message of the device's domain and transport on an enabled port. -/
def ptpHears (s : State) (p : Nat) (m : PtpMsg) : Bool :=
  ptpEn s && netUp s p && m.domain == ptpDomain s && isMapped m.addr == !ptpIp6 s
/-- The message comes from the selected master. -/
def fromMaster (s : State) (p : Nat) (m : PtpMsg) : Bool := ptpHears s p m && s.net.master == some (p, m.src)

/-- A Sync message (R339, R340); one at a rate that is not accepted is ignored. -/
def ptpSync (s : State) (p : Nat) (m : PtpMsg) (rx bnd : Nat) (align : Int) : State :=
  if !fromMaster s p m ∨ m.logInt < -7 ∨ m.logInt > 1 then s else
  let s := rput s 0x340520 24 8 (m.logInt % 256).toNat
  if m.twoStep then setPtpPort s p { ptpPort s p with sync := some (m.seq, m.src, ptpIn s p rx, m.corr) }
  else servoSync s p (msgT m.time + m.corr) (ptpIn s p rx) bnd align
/-- A Follow_Up message (R339). -/
def ptpFollowUp (s : State) (p : Nat) (m : PtpMsg) (bnd : Nat) (align : Int) : State :=
  if !fromMaster s p m then s else
  match (ptpPort s p).sync with
  | some (seq, src, rx, corr) => if seq = m.seq ∧ src = m.src then servoSync s p (msgT m.time + m.corr + corr) rx bnd align else s
  | none => s

/-- The device's sourcePortIdentity on a port: the EUI-64 of N0's MAC address, and the port number. -/
def ownId (s : State) (p : Nat) : Nat :=
  let mac := ownMac s 0
  (mac / 2 ^ 24 * 2 ^ 40 + 0xFFFE * 2 ^ 24 + mac % 2 ^ 24) * 65536 + p + 1

/-- A Delay_Resp or Pdelay_Resp completes a delay measurement (R340). -/
def ptpDelayResp (s : State) (p : Nat) (m : PtpMsg) (rx : Nat) : State :=
  if !ptpHears s p m ∨ m.req ≠ ownId s p then s else
  let x := ptpPort s p
  match x.req with
  | none => s
  | some (seq, tx) =>
    if seq ≠ m.seq then s
    else if ptpP2p s then
      setPtpPort s p { x with req := none, delay := some ((ptpIn s p rx - tx - (msgT m.time2 - msgT m.time) - m.corr) / 2) }
    else if s.net.master ≠ some (p, m.src) then s
    else
      let s := rput s 0x340520 8 8 (m.logInt % 256).toNat
      setPtpPort s p { x with req := none, delay := some ((x.t2 - x.t1 + (msgT m.time - tx) - m.corr) / 2) }

/-- An Announce message feeds master selection (R339); one at a rate that is not accepted is ignored. -/
def ptpAnnounce (s : State) (p : Nat) (m : PtpMsg) : State :=
  if !ptpHears s p m ∨ m.logInt < -3 ∨ m.logInt > 3 then s else
  let x := ptpPort s p
  let was := match x.foreign.find? (fun f => f.src == m.src) with | some f => f.count | none => 0
  let f : Foreign := { src := m.src, p1 := m.p1, cls := m.cls, acc := m.acc, var := m.var, p2 := m.p2, gm := m.gm, steps := m.steps, addr := m.addr,
                       count := min 2 (was + 1) }
  let s := setPtpPort s p { x with foreign := x.foreign.filter (fun g => g.src != m.src) ++ [f] }
  ptpSelect (rput s 0x340520 16 8 (m.logInt % 256).toNat)

/-- An ordinary clock's port falls silent: PTP moves to the other port while that one receives Announce messages (R339). -/
def ptpMove (s : State) (p : Nat) : State :=
  let s := setPtpPort s p {}
  let s := if !ptpBc s ∧ p = s.net.cur ∧ !(ptpPort s (1 - p)).foreign.isEmpty ∧ netUp s (1 - p) then
      onNet s (fun n => { n with cur := 1 - p }) else s
  ptpSelect s

/-- Announce receipt times out on a port (R339, R341). -/
def ptpTimeout (s : State) (p : Nat) : State := if ptpEn s then ptpMove s p else s

/-- NETWORK_LINK_DOWN's work. -/
def netLinkDown (s : State) (p cyc : Nat) : State :=
  let s := linkDown s p cyc
  if ptpEn s then ptpMove s p else s

/-- A PTP message's 34-byte header: type, length, flags, correction, sender, sequence, interval (IEEE 1588). -/
def ptpHeader (s : State) (p typ len flags seq : Nat) (corr logInt : Int) : List Byte :=
  beBytes 1 typ ++ [0x12] ++ beBytes 2 len ++ beBytes 1 (ptpDomain s) ++ [0] ++ beBytes 2 flags ++ beBytes 8 (corr % 2 ^ 64).toNat
    ++ beBytes 4 0 ++ beBytes 10 (ownId s p) ++ beBytes 2 seq ++ [if typ = 0 then 0 else if typ = 1 then 1 else if typ = 8 then 2 else if typ = 9 then 3 else 5]
    ++ beBytes 1 (logInt % 256).toNat
/-- A PTP timestamp: 48-bit seconds, 32-bit nanoseconds. -/
def ptpStamp (t : Int) : List Byte :=
  let ns := (t / 65536).toNat
  beBytes 6 (ns / 10 ^ 9) ++ beBytes 4 (ns % 10 ^ 9)
/-- Where a PTP message goes that is not unicast: the primary group, or for peer delay the link's own (IEEE 1588; PRESUMED, log entry
78). -/
def ptpGroup (s : State) (typ : Nat) : List Byte :=
  let peer := typ == 2 || typ == 3 || typ == 10
  if ptpIp6 s then (if peer then [0xFF, 0x02] ++ List.replicate 13 0 ++ [0x6B] else [0xFF, 0x0E] ++ List.replicate 12 0 ++ [0x01, 0x81])
  else mapped4 (if peer then 0xE000006B else 0xE0000181)
/-- Send a PTP message on a port, to a unicast address or its group: event messages on UDP port 319, the others on 320, with DSCPP (R339,
R342); it leaves as R323 and R408 allow. -/
def ptpSend (s : State) (p : Nat) (peer : Option (List Byte)) (bytes : List Byte) : State :=
  let typ := leAt bytes 0 1 % 16
  let dst := peer.getD (ptpGroup s typ)
  let udp := if typ < 8 then 319 else 320
  if netSends s p dst then emit s (.ptp p (udpHdr s p none dst (rfld s (netA p) 19 6) udp udp bytes) bytes) else s
/-- The answer to a unicast message is unicast (R339). -/
def ptpBack (m : PtpMsg) : Option (List Byte) := if m.uni then some m.addr else none
/-- A signed field of NET_PTP_INTV. -/
def ptpIntv (s : State) (lo : Nat) : Int := sext 8 (rfld s 0x340520 lo 8)

/-- A Delay_Req or Pdelay_Req is timestamped and answered (R339). `tx`: when the response left. -/
def ptpDelayReq (s : State) (p : Nat) (m : PtpMsg) (rx tx : Nat) : State :=
  if !ptpHears s p m then s
  else if ptpP2p s then
    let s := ptpSend s p (ptpBack m) (ptpHeader s p 3 54 0x0200 m.seq 0 127 ++ ptpStamp (ptpIn s p rx) ++ beBytes 10 m.src)
    ptpSend s p (ptpBack m) (ptpHeader s p 10 54 0 m.seq m.corr 127 ++ ptpStamp (ptpEg s p tx) ++ beBytes 10 m.src)
  else if ptpSt s p = 4 then
    ptpSend s p (ptpBack m) (ptpHeader s p 9 54 0 m.seq m.corr (ptpIntv s 8) ++ ptpStamp (ptpIn s p rx) ++ beBytes 10 m.src)
  else s
/-- The delay-request interval: a slave port sends Delay_Req, a peer-delay port Pdelay_Req (R339). -/
def ptpDelayTick (s : State) (p tx : Nat) : State :=
  if !ptpEn s ∨ !netUp s p ∨ !bootGate s then s else
  let x := ptpPort s p
  let addr := match s.net.master with
    | some (_, src) => (x.foreign.find? (fun f => f.src == src)).map (fun f => f.addr)
    | none => none
  let hyb := rbit s 0x340500 26
  let go := fun (typ len flags : Nat) (peer : Option (List Byte)) =>
    let s := setPtpPort s p { x with req := some (x.reqSeq, ptpEg s p tx), reqSeq := (x.reqSeq + 1) % 65536 }
    ptpSend s p peer (ptpHeader s p typ len flags x.reqSeq 0 127 ++ List.replicate (len - 34) 0)
  if ptpP2p s then (if ptpSt s p = 0 then s else go 2 54 0 none)
  else if ptpSt s p = 2 ∨ ptpSt s p = 3 then (if hyb then go 1 44 0x0400 addr else go 1 44 0 none)
  else s
/-- The sync interval: a MASTER port sends Sync and its Follow_Up (R339). -/
def ptpSyncTick (s : State) (p tx : Nat) : State :=
  if !ptpEn s ∨ ptpSt s p ≠ 4 then s else
  let x := ptpPort s p
  let s := setPtpPort s p { x with syncSeq := (x.syncSeq + 1) % 65536 }
  let s := ptpSend s p none (ptpHeader s p 0 44 0x0200 x.syncSeq 0 (ptpIntv s 24) ++ List.replicate 10 0)
  ptpSend s p none (ptpHeader s p 8 44 0 x.syncSeq 0 (ptpIntv s 24) ++ ptpStamp (ptpEg s p tx))
/-- The announce interval: a MASTER port sends Announce of the grandmaster learned on the other port (R339). -/
def ptpAnnounceTick (s : State) (p : Nat) : State :=
  if !ptpEn s ∨ ptpSt s p ≠ 4 then s else
  let x := ptpPort s p
  match s.net.learned with
  | none => s
  | some (_, f) =>
    let s := setPtpPort s p { x with annSeq := (x.annSeq + 1) % 65536 }
    ptpSend s p none (ptpHeader s p 11 64 0 x.annSeq 0 (ptpIntv s 16) ++ List.replicate 12 0 ++ [0] ++ beBytes 1 f.p1 ++ beBytes 1 f.cls
      ++ beBytes 1 f.acc ++ beBytes 2 f.var ++ beBytes 1 f.p2 ++ beBytes 8 f.gm ++ beBytes 2 (f.steps + 1) ++ [0xA0])

/-- NETWORK_LINK_DOWN (R339, R341, R426). -/
def execNetworkLinkDown (p : Fin 2) (cyc : Fin 25600) (st : State) : Res := .next (netLinkDown st p.val cyc.val)
/-- PTP_SYNC (R340): port, message, receive time, PTP time of the next base boundary, boundary error in ps. -/
def execPtpSync (p : Fin 2) (m : PtpMsg) (rx bnd : Nat) (align : Int) (st : State) : Res := .next (ptpSync st p.val m rx bnd align)
/-- PTP_FOLLOW_UP (R339). -/
def execPtpFollowUp (p : Fin 2) (m : PtpMsg) (bnd : Nat) (align : Int) (st : State) : Res := .next (ptpFollowUp st p.val m bnd align)
/-- PTP_ANNOUNCE (R339). -/
def execPtpAnnounce (p : Fin 2) (m : PtpMsg) (st : State) : Res := .next (ptpAnnounce st p.val m)
/-- ANNOUNCE_RECEIPT_TIMEOUT (R341). -/
def execAnnounceReceiptTimeout (p : Fin 2) (st : State) : Res := .next (ptpTimeout st p.val)
/-- PTP_DELAY_RESP (R340). -/
def execPtpDelayResp (p : Fin 2) (m : PtpMsg) (rx : Nat) (st : State) : Res := .next (ptpDelayResp st p.val m rx)
/-- PTP_DELAY_REQ (R339). -/
def execPtpDelayReq (p : Fin 2) (m : PtpMsg) (rx tx : Nat) (st : State) : Res := .next (ptpDelayReq st p.val m rx tx)
/-- PTP_DELAY_REQ_INTERVAL (R339). -/
def execPtpDelayReqInterval (p : Fin 2) (tx : Nat) (st : State) : Res := .next (ptpDelayTick st p.val tx)
/-- PTP_SYNC_INTERVAL (R339). -/
def execPtpSyncInterval (p : Fin 2) (tx : Nat) (st : State) : Res := .next (ptpSyncTick st p.val tx)
/-- PTP_ANNOUNCE_INTERVAL (R339). -/
def execPtpAnnounceInterval (p : Fin 2) (st : State) : Res := .next (ptpAnnounceTick st p.val)

end Sys2Proof.Machine
end

