-- ==== Sys2Proof/Machine/Serial.lean ====
section
/-! DEFINITION. The AES3 and TDM ports (ch. 16): receivers, the sample-rate converter, transmitters with their gains, TDM frames
and slot masks. -/

namespace Sys2Proof.Machine

/-- Registers of receiver i, transmitter j and TDM port q (R364, R365). -/
def arA (i : Nat) : Nat := 0x360000 + 0x40 * i
def atA (j : Nat) : Nat := 0x360400 + 0x80 * j
def tdA (q : Nat) : Nat := 0x380000 + 0x40 * q
/-- Port codes. -/
def arP (i : Nat) : Nat := 0x2000 + i
def atP (j : Nat) : Nat := 0x3000 + j
def tdP (q : Nat) : Nat := 0x4000 + q

/-- Rate multiplier of a port's domain. -/
def portM (s : State) (p : Nat) : Nat := domOf s (portOf s p).cl

/-! ### Receivers -/

def arAsrc (s : State) (i : Nat) : Bool := rb (portOf s (arP i)) 0 == 1
def arConc (s : State) (i : Nat) : Nat := rb (portOf s (arP i)) 1 % 4
def arRaw (s : State) (i : Nat) : Bool := nbit (rb (portOf s (arP i)) 2) 0
def arSettle (s : State) (i : Nat) : Nat := rb (portOf s (arP i)) 3
/-- AES_RX_STAT.STATE and LSTATE. -/
def arState (s : State) (i : Nat) : Nat := rfld s (arA i + 4) 29 3
def arLstate (s : State) (i : Nat) : Nat := rfld s (arA i + 4) 27 2
def arAlock (s : State) (i : Nat) : Bool := rbit s (arA i + 4) 26

/-- Set an EV bit: it raises the receiver's source while enabled in EVEN, or by its record's own flag (R346, R364). -/
def arEv (s : State) (i bit : Nat) (flag : Bool) : State :=
  let s := rsetBit s (arA i + 0x18) bit
  if rbit s (arA i) bit || flag then evRaise s (116 + i) else s
/-- STATE changes. -/
def arSet (s : State) (i st : Nat) : State :=
  if arState s i = st then s
  else arEv (rput s (arA i + 4) 29 3 st) i 1 (nbit (rb (portOf s (arP i)) 2) 2)

/-- The measured rate is within 0.1% of the domain's (R348). -/
def arRateOk (s : State) (i : Nat) : Bool :=
  let want : Int := portM s (arP i) * fbOf s * (256000000000 + s.clk.p)
  let have_ : Int := (rfld s (arA i + 4) 0 15 : Int) * 10 * 256000000000
  decide ((have_ - want).natAbs * 1000 ≤ want.natAbs)

/-- The receiver counts as locked for R351. -/
def arGood (s : State) (i : Nat) : Bool :=
  arLstate s i == 2 && (if arAsrc s i then arAlock s i else arRateOk s i)

/-- A live receiver whose input is lost conceals; settling starts anew (R351). -/
def arLose (s : State) (i : Nat) : State :=
  let s := setAesRx s i { aesRxOf s i with settle := 0, err := true }
  if arState s i = 2 then arSet (setAesRx s i { aesRxOf s i with concK := 0 }) i 3 else s
/-- The conditions of R351 are looked at again. -/
def arJudge (s : State) (i : Nat) : State := if arGood s i then s else arLose s i
/-- ALOCK clears (R350). -/
def arUnlock (s : State) (i : Nat) : State :=
  if arAlock s i then arJudge (rset (rputBit s (arA i + 4) 26 false) (arA i + 0x14) 0) i else s

/-- The receiver leaves locked (R347, R351). -/
def arLeave (s : State) (i : Nat) : State :=
  let was := arLstate s i
  let s := setAesRx (rput s (arA i + 4) 27 2 0) i { aesRxOf s i with good := 0, bad := 0, blk := none, csA := [], csB := [], ubA := [], ubB := [], hist := [] }
  if was ≠ 2 then s else
  let s := arEv (rinc s (arA i + 0xC) 0 8) i 0 false
  let s := arJudge (arUnlock s i) i
  if refSel s = 4 ∧ rfld s 0x3A0100 22 4 = i then refLost s else s

/-- Bits gathered over a block, as bytes, first bit least significant. -/
def bitsBytes (n : Nat) (bs : List Bool) : List Byte :=
  match n with
  | 0 => []
  | n + 1 => BitVec.ofNat 8 ((List.range 8).foldl (fun a k => a + b2n (bs.getD k false) * 2 ^ k) 0) :: bitsBytes n (bs.drop 8)
/-- CRC-8/AES3 over bytes (R398). -/
def crc8Aes (bs : List Byte) : Nat :=
  crcResult (bs.foldl crcByte { width := 8, poly := 0x1D, acc := 0xFF, refin := true, refout := true })

/-- The channel-status capture of one subframe at a Z (R352); true: its CRC fails. -/
def arCapCs (s : State) (i : Nat) (sub : Bool) (bits : List Bool) : Bool × State :=
  let r := aesRxOf s i
  let old := if sub then r.capB else r.capA
  let cs := bitsBytes 24 bits
  if bits.getD 0 false && leAt cs 23 1 != crc8Aes (cs.take 23) then
    (true, arEv (rinc s (arA i + 8) 0 16) i 2 false)
  else
    let c := { old with cs := cs }
    let s := setAesRx s i (if sub then { r with capB := c } else { r with capA := c })
    let s := rputBit s (arA i + 4) (if sub then 24 else 23) (bits.getD 0 false)
    (false, if old.cs = cs then s else arEv s i 3 (nbit (rb (portOf s (arP i)) 2) 3))

/-- The captures at a Z that ends a block of 192 frames (R352). -/
def arCapture (s : State) (i : Nat) : State :=
  let r := aesRxOf s i
  let a := arCapCs s i false r.csA
  let b := arCapCs a.2 i true r.csB
  let q := aesRxOf b.2 i
  setAesRx b.2 i { q with capA := { q.capA with ub := bitsBytes 24 r.ubA }, capB := { q.capB with ub := bitsBytes 24 r.ubB },
                          err := r.err || a.1 || b.1 }

/-- A block has ended: one more without an error, or settling starts anew; after SETTLE of them the receiver leaves wait or
rejoins (R351, R363). -/
def arBlock (s : State) (i : Nat) : State :=
  let r := aesRxOf s i
  let n := if r.err || !arGood s i then 0 else r.settle + 1
  let s := setAesRx s i { r with settle := n, err := !arGood s i }
  if n < arSettle s i then s else
  let s := setAesRx s i { aesRxOf s i with ready := true }
  match arState s i with
  | 1 => if algOpen s (arP i) then arSet s i 2 else s
  | 3 => arSet (setAesRx s i { aesRxOf s i with upK := if arConc s i = 2 then 0 else 64 }) i 2
  | _ => s

/-- Block position at a frame in locked: a Z ends a block or is misplaced (R347). -/
def arZ (s : State) (i : Nat) (z : Bool) : State :=
  let r := aesRxOf s i
  if !z then setAesRx s i { r with blk := r.blk.map (· + 1) } else
  let s := match r.blk with
    | some 191 => arBlock (arCapture s i) i
    | some _ => rinc (setAesRx s i { r with settle := 0, err := !arGood s i }) (arA i + 0xC) 8 8
    | none => setAesRx s i { r with err := !arGood s i }
  setAesRx s i { aesRxOf s i with blk := some 0, csA := [], csB := [], ubA := [], ubB := [] }

/-- The channel-status and user bits of a frame of a block. -/
def arBits (s : State) (i : Nat) (a b : Subframe) : State :=
  let r := aesRxOf s i
  if r.blk.isNone ∨ r.csA.length ≥ 192 then s else
  setAesRx s i { r with csA := r.csA ++ [a.c], csB := r.csB ++ [b.c], ubA := r.ubA ++ [a.u], ubB := r.ubB ++ [b.u] }

/-- A bit string's parity is odd. -/
def oddBits (n v : Nat) : Bool :=
  match n with
  | 0 => false
  | n + 1 => oddBits n (v / 2) != (v % 2 == 1)
/-- The P bit as received: it makes the parity even where the subframe has no parity error. -/
def subP (x : Subframe) : Bool := (oddBits 24 x.audio.toNat != (x.v != (x.u != x.c))) != !x.parity
/-- The sample of a subframe; none where it is in error (R345, R351). -/
def arSample (raw vact valid first : Bool) (x : Subframe) : Option Word :=
  if !valid || !x.parity || (vact && x.v) then none
  else if raw then some (am824In x.audio.toNat (b2n first * 48 + b2n (subP x) * 8 + b2n x.c * 4 + b2n x.u * 2 + b2n x.v))
  else some (wireIn 24 x.audio.toNat)

/-- A live receiver in SYNC mode writes the samples of a frame (R348, R351); BUSY writes are not retried (R474). -/
def arDeliver (s : State) (i : Nat) (vs : List (Option Word)) : State :=
  let r := aesRxOf s i
  let out : List Word := (List.range 2).map (fun ch =>
    match vs.getD ch none with
    | some w => rejoinWord (arConc s i) (arRaw s i) w (r.upK + 1)
    | none => if arConc s i = 0 then r.last.getD ch 0 else 0)
  let s := setAesRx s i { r with last := out }
  forN 2 s (fun s ch => portIn s (arP i) ch (out.getD ch 0))

/-- A frame enters the converter: a sample in error is replaced as R351 says; the window holds the frames of 512 ticks (R350: twice the
longest group delay is less). -/
def arFeed (s : State) (i : Nat) (vs : List (Option Word)) (next : Bool) : State :=
  let r := aesRxOf s i
  let t := domTick s (portM s (arP i)) + b2n next
  let old : List Word := match r.hist.getLast? with | some x => x.2 | none => []
  let ws := (List.range 2).map (fun ch => (vs.getD ch none).getD (if arConc s i = 0 then old.getD ch 0 else 0))
  setAesRx s i { r with hist := r.hist.filter (fun x => decide (t < x.1 + 512)) ++ [(t, ws)] }

/-- A frame decoded in locked (R347, R348, R351, R352). -/
def arLocked (s : State) (i : Nat) (a b : Subframe) (valid next : Bool) : State :=
  let pe := b2n (!a.parity) + b2n (!b.parity)
  let s := rincBy s (arA i + 8) 16 16 pe
  let s := arZ s i (a.pre == 2)
  let s := arBits s i a b
  let s := if pe > 0 ∨ !valid then setAesRx s i { aesRxOf s i with err := true } else s
  let s := arJudge s i
  let vact := nbit (rb (portOf s (arP i)) 2) 1
  let vs := [arSample (arRaw s i) vact valid (a.pre == 2) a, arSample (arRaw s i) vact valid false b]
  if arAsrc s i then arFeed s i vs next else
  if next then setAesRx s i { aesRxOf s i with held := some vs }
  else
    let s := setAesRx s i { aesRxOf s i with frames := (aesRxOf s i).frames + 1 }
    if arState s i = 2 then
      let s := if (aesRxOf s i).frames = 2 then rinc s (arA i + 0xC) 16 16 else s
      arDeliver s i vs
    else s

/-- A decoded frame, with the measured frame rate in units of 10 Hz; `next`: it ends in the last 250 ns of the tick. -/
def arFrame (s : State) (i : Nat) (a b : Subframe) (frate : Nat) (next : Bool) : State :=
  if !(portOf s (arP i)).en ∨ arLstate s i = 0 then s else
  let old := rfld s (arA i + 4) 0 15
  let s := rput s (arA i + 4) 0 15 frate
  let s := if ((frate : Int) - old).natAbs * 1000 > old then arUnlock s i else s
  let valid := a.cells && b.cells && (a.pre == 0 || a.pre == 2) && b.pre == 1
  let r := aesRxOf s i
  if arLstate s i = 1 then
    if !valid then setAesRx s i { r with good := 0 }
    else if r.good + 1 < 8 then setAesRx s i { r with good := r.good + 1 }
    else setAesRx (rput s (arA i + 4) 27 2 2) i { r with good := 0, bad := 0, settle := 0, err := true, blk := none }
  else if !valid ∧ r.bad ≥ 1 then arLeave s i
  else arLocked (setAesRx s i { r with bad := if valid then 0 else 1 }) i a b valid next

/-- What the engine writes for a tick in which no frame gave the samples (R348, R350, R351); before the halves swap. -/
def arTickEnd (s : State) (i : Nat) : State :=
  let r := aesRxOf s i
  let put := fun (s : State) (ws : List Word) => forN 2 s (fun s ch => portIn s (arP i) ch (ws.getD ch 0))
  let s := match arState s i with
    | 1 => put s [0, 0]
    | 2 =>
      if arAsrc s i then
        let t := domTick s (portM s (arP i)) + 1
        let ws := (List.range 2).map (fun ch => rejoinWord (arConc s i) false
          (Config.asrcSample (s.freeCtr + ch) (rfld s (arA i + 0x10) 0 24) (r.hist.map (fun x => (t - x.1, x.2.getD ch 0)))) (r.upK + 1))
        put (setAesRx (drawn (drawn s)) i { r with last := ws, upK := min 64 (r.upK + 1) }) ws
      else
        let s := if r.frames = 0 then rinc s (arA i + 0xC) 16 16 else s
        let s := setAesRx s i { r with upK := min 64 (r.upK + 1) }
        if r.frames = 0 then put s r.last else s
    | 3 =>
      let ws := (List.range 2).map (fun ch => concealWord (arConc s i) (arRaw s i) (r.last.getD ch 0) (r.concK + 1))
      put (setAesRx s i { r with concK := r.concK + 1 }) ws
    | _ => s
  setAesRx s i { aesRxOf s i with frames := 0 }

/-- A tick begins: a group that has started lets its receiver go live; a frame that belongs to this tick is written. -/
def arTickStart (s : State) (i : Nat) : State :=
  let r := aesRxOf s i
  let s := if arState s i = 1 ∧ r.ready ∧ algOpen s (arP i) then arJudge (arSet s i 2) i else s
  match r.held with
  | none => s
  | some vs =>
    let s := setAesRx s i { aesRxOf s i with held := none, frames := 1 }
    if arState s i = 2 then arDeliver s i vs else s

/-- A receiver's binding has changed: it waits in nosig, or is unbound (R347, R351). -/
def arBound (s : State) (i : Nat) (old : PortBind) : State :=
  let b := portOf s (arP i)
  let r := aesRxOf s i
  let s := setAesRx s i { capA := r.capA, capB := r.capB }
  let s := rset (rset (rput (rputBit (rput s (arA i + 4) 27 2 0) (arA i + 4) 26 false) (arA i + 4) 0 15 0) (arA i + 0x10) 0) (arA i + 0x14) 0
  let st := if b.en then 1 else 0
  if arState s i = st then s
  else
    let flag := nbit (rb b 2) 2 || nbit (rb old 2) 2
    arEv (rput s (arA i + 4) 29 3 st) i 1 flag

/-- The group delay at a ratio of Fout to Fin in Q4.28: 32/Fin + 24/Fout, a measured value within 1/Fout of it; in 1/256 output samples
(R350, R364). -/
def arGd (ratio gd : Nat) : Nat :=
  let x := 24 * 256 + 32 * 256 * ratio / 2 ^ 28
  max (x - 256) (min (x + 256) gd)
/-- The converter's ratio estimate has held: ALOCK, RATIO and the group delay (R350, R364). -/
def arRatioLock (s : State) (i : Nat) (ratio : W32) (gd : BitVec 24) : State :=
  if !(portOf s (arP i)).en ∨ !arAsrc s i ∨ arLstate s i ≠ 2 then s else
  rset (rset (rsetBit s (arA i + 4) 26) (arA i + 0x14) ratio) (arA i + 0x10) (BitVec.ofNat 32 (arGd ratio.toNat gd.toNat))

/-! ### Transmitters -/

def atPro (b : PortBind) : Bool := nbit (rb b 0) 0
def atRaw (b : PortBind) : Bool := nbit (rb b 0) 1
def atCrcg (b : PortBind) : Bool := nbit (rb b 0) 2
def atZto (b : PortBind) : Nat := leAt b.raw 2 2
/-- AES_TX_STAT.STATE (R364): it changes with the event EVE enables (R353). -/
def atSet (s : State) (j st : Nat) (eve : Bool) : State :=
  if rfld s (atA j + 0xC) 29 3 = st then s else
  let s := rput s (atA j + 0xC) 29 3 st
  if eve then evRaise s (132 + j) else s

def txChan (t : AesTx) (ch : Nat) : TxChan := if ch = 0 then t.a else t.b
def setTxChan (s : State) (j ch : Nat) (c : TxChan) : State :=
  let t := aesTxOf s j
  let s := setAesTx s j (if ch = 0 then { t with a := c } else { t with b := c })
  let s := rputBit s (atA j + 0xC) (2 + ch) (c.mode == 1)
  rputBit s (atA j + 0xC) ch (c.mode == 0 && c.gain.n == 0)
/-- The effective target gain (R356). -/
def txTarget (s : State) (j ch : Nat) : Dyadic :=
  if rbit s (atA j + 8) ch then {} else ⟨(rget s (atA j + 4 * ch)).toNat, 30⟩

/-- A change starts: it waits for a zero crossing; a running ramp freezes; a running wait goes on (R356). -/
def txChange (s : State) (j ch : Nat) : State :=
  let c := txChan (aesTxOf s j) ch
  if !(portOf s (atP j)).en ∨ c.mode = 1 then s else setTxChan s j ch { c with mode := 1, n := 0 }
/-- A write of a target gain (R356). -/
def txGain (s : State) (j ch : Nat) (v : W32) : State := txChange (rset s (atA j + 4 * ch) v) j ch
/-- A write of AES_TX_MUTE: a changed bit starts a change (R364). -/
def txMute (s : State) (j v : Nat) : State :=
  let old := rfld s (atA j + 8) 0 2
  let s := rput s (atA j + 8) 0 2 v
  forN 2 s (fun s ch => if nbit old ch = nbit v ch then s else txChange s j ch)

/-- One output sample, before its gain, passes a channel: the gain that applies to it (R356). -/
def txStep (s : State) (j ch : Nat) (x : Int) : Dyadic × State :=
  let c := txChan (aesTxOf s j) ch
  let t := txTarget s j ch
  let c' : TxChan := match c.mode with
    | 1 =>
      let cross := decide (x = 0) || (match c.prev with | some p => decide (p < 0) != decide (x < 0) | none => false)
      if cross then { c with gain := t, mode := 0, n := 0 } else { c with n := c.n + 1 }
    | 2 =>
      let k := c.n + 1
      if k ≥ 64 then { c with gain := t, mode := 0, n := 0 }
      else { c with gain := dyAdd (dyScale c.from_ (64 - k) 6) (dyScale t k 6), n := k }
    | _ => c
  (c'.gain, setTxChan s j ch { c' with prev := some x })

/-- No crossing within ZTO samples: the ramp starts (R356). -/
def txTimeout (s : State) (j ch : Nat) : State :=
  let c := txChan (aesTxOf s j) ch
  if c.mode = 1 ∧ c.n + 1 ≥ atZto (portOf s (atP j)) then
    rinc (setTxChan s j ch { c with mode := 2, n := 0, from_ := c.gain }) (atA j + 0x10) 0 16
  else s

/-- A word with its gain as a 24-bit audio field: rounded to WLEN and saturated; whether it clamped (R345, R356). -/
def txAudio (raw : Bool) (wlen : Nat) (w : Word) (g : Dyadic) : Nat × Bool :=
  if raw then
    let a := am824Out w
    let v := rneShift (sext 24 a.1 * g.n) g.e
    ((sclamp 24 v % 2 ^ 24).toNat, a.2.2 || !sfits 24 v)
  else
    let v := rneShift (w.toInt * g.n) (65 - wlen + g.e)
    ((sclamp wlen v * 2 ^ (24 - wlen) % 2 ^ 24).toNat, !sfits wlen v)

/-- Channel-status bytes as sent: byte 23 generated (R355). -/
def txCs (b : PortBind) (cs : List Byte) : List Byte :=
  if atPro b && atCrcg b then cs.take 23 ++ [BitVec.ofNat 8 (crc8Aes (cs.take 23))] else cs
/-- One channel-status bit. -/
def csBit (cs : List Byte) (pos : Nat) : Bool := nbit (leAt cs (pos / 8) 1) (pos % 8)

/-- A commit becomes live at a Z that starts at least one frame period after it (R355). -/
def txCommitAtZ (s : State) (j : Nat) (z : Bool) : State :=
  let t := aesTxOf s j
  if !rbit s (atA j + 0x14) 30 then s
  else if z ∧ t.age ≥ 1 then rputBit (setAesTx s j { t with csA := t.pendA, csB := t.pendB }) (atA j + 0x14) 30 false
  else setAesTx s j { t with age := t.age + 1 }

/-- A frame of a bound transmitter (R354): `silent`, the safe-clock gate is closed; `hold`, the group has not started. -/
def txFrame (s : State) (j : Nat) : State :=
  let b := portOf s (atP j)
  let raw := atRaw b
  let silent := safeGated s
  let hold := !algOpen s (atP j)
  let s := if hold then s else atSet s j 2 (nbit (rb b 0) 4)
  let ra := portOut s (atP j) 0
  let rc := portOut ra.2 (atP j) 1
  let xa : Word := if hold || silent then 0 else ra.1
  let xb : Word := if hold || silent then 0 else rc.1
  let val := fun (w : Word) => if raw then sext 24 (am824Out w).1 else w.toInt
  let ga := txStep rc.2 j 0 (val xa)
  let gb := txStep ga.2 j 1 (val xb)
  let s := gb.2
  let ua := txAudio raw (rb b 1) xa ga.1
  let ub := txAudio raw (rb b 1) xb gb.1
  let s := rincBy s (atA j + 0x10) 16 16 (b2n ua.2 + b2n ub.2)
  let la := nbits xa.toNat 0 8
  let lb := nbits xb.toNat 0 8
  let z := if raw then nbits la 4 2 == 3 else mediaIndex s (domOf s b.cl) % 192 == 0
  let s := txCommitAtZ s j z
  let t := aesTxOf s j
  let pos := if z then 0 else (t.pos + 1) % 192
  let s := setAesTx s j { t with pos := pos }
  let vuc := fun (l : Nat) (cs : List Byte) =>
    if silent then 1 + 4 * b2n (csBit (txCs b cs) pos) else if raw then l % 8 else 4 * b2n (csBit (txCs b cs) pos)
  if bootGate s then
    emit s (.aesFrame j (if z then 2 else 0) ua.1 ub.1 (vuc la t.csA + 8 * vuc lb t.csB))
  else s

/-- A frame of a transmitter that a swap unbound while it was not muted: zero audio (R357). -/
def txZeroFrame (s : State) (j : Nat) : State :=
  let t := aesTxOf s j
  let pos := (t.pos + 1) % 192
  let s := setAesTx s j { t with pos := pos }
  if bootGate s then emit s (.aesFrame j (if pos = 0 then 2 else 0) 0 0 (4 * b2n (csBit t.csA pos) + 32 * b2n (csBit t.csB pos))) else s

/-- AES3_FRAME_START. -/
def txStart (s : State) (j : Nat) : State :=
  if (portOf s (atP j)).en then txFrame s j
  else if (aesTxOf s j).zero then txZeroFrame s j
  else s

/-- The channel-status bytes a shadow holds. -/
def txShadow (s : State) (a : Nat) : List Byte := (List.range 6).flatMap (fun k => leBytes 4 (rget s (a + 4 * k)).toNat)
/-- CSCTL.COMMIT (R355). -/
def txCommit (s : State) (j : Nat) : State :=
  let t := aesTxOf s j
  rsetBit (setAesTx s j { t with pendA := txShadow s (atA j + 0x20), pendB := txShadow s (atA j + 0x40), age := 0 }) (atA j + 0x14) 30

/-- A transmitter's binding has changed (R355, R356, R357). -/
def txBound (s : State) (j : Nat) (old : PortBind) : State :=
  let b := portOf s (atP j)
  let muted := rfld s (atA j + 0xC) 0 2 = 3
  let hard := old.en && !muted
  let s := if hard then evRaise (rsetBit s (atA j + 0xC) 28) (132 + j) else s
  let s := rputBit s (atA j + 0x14) 30 false
  let t := aesTxOf s j
  if !b.en then
    let s := setTxChan (setTxChan (setAesTx s j { t with zero := hard }) j 0 {}) j 1 {}
    atSet s j 0 (nbit (rb old 0) 4)
  else
    let cs := slice b.raw 8 24
    let load := fun (s : State) (a : Nat) => forN 6 s (fun s k => rset s (a + 4 * k) (BitVec.ofNat 32 (leAt cs (4 * k) 4)))
    let s := load (load s (atA j + 0x20)) (atA j + 0x40)
    let pos := (mediaIndex s (domOf s b.cl) + 191) % 192
    let s := setAesTx s j { csA := cs, csB := cs, pos := pos }
    let start := nbit (rb b 0) 3
    let s := rput (rset (rset s (atA j) 0x40000000) (atA j + 4) 0x40000000) (atA j + 8) 0 2 (if start then 0 else 3)
    let s := forN 2 s (fun s ch => setTxChan s j ch (if start then { mode := 1 } else {}))
    atSet s j 1 (nbit (rb b 0) 4)

/-- The safe-clock gate opens: each channel that was unmuted begins an unmute change from a gain of 0 (R357). -/
def txGateOpen (s : State) : State :=
  forN 16 s (fun s j => forN 2 s (fun s ch =>
    let c := txChan (aesTxOf s j) ch
    if !(portOf s (atP j)).en ∨ (c.mode = 0 ∧ c.gain.n = 0) then s
    else setTxChan s j ch { c with gain := {}, mode := 1, n := 0 }))

/-! ### TDM ports -/

def tdMaster (b : PortBind) : Bool := rb b 0 == 1
def tdSlots (b : PortBind) : Nat := rb b 1
def tdWlen (b : PortBind) : Nat := rb b 2
def tdTri (b : PortBind) : Bool := nbit (rb b 3) 4
def tdConc (b : PortBind) : Nat := rb b 0x10 % 4
def tdState (s : State) (q : Nat) : Nat := rfld s (tdA q + 0x10) 29 3
def tdSet (s : State) (q st : Nat) : State := rput s (tdA q + 0x10) 29 3 st
/-- Set an EV bit: it raises the port's source while enabled (R365). -/
def tdEv (s : State) (q bit : Nat) : State :=
  let s := rsetBit s (tdA q + 0x18) bit
  if rbit s (tdA q + 0x1C) bit then evRaise s (148 + q) else s

/-- A mask write goes to its shadow; `late`: it landed within 2 bit clocks before a sync (R361). -/
def tdMaskWrite (s : State) (q : Nat) (tx : Bool) (v : W32) (late : Bool) : State :=
  let t := tdmOf s q
  let s := setTdm s q (if tx then { t with txSh := v.toNat, txLate := late, txSkip := false }
    else { t with rxSh := v.toNat, rxLate := late, rxSkip := false })
  rsetBit s (tdA q + (if tx then 0xC else 8)) 31

/-- One mask at a frame sync: a pending write applies, or waits one sync more (R361). -/
def tdMaskSync (s : State) (q : Nat) (tx : Bool) : State :=
  let a := tdA q + (if tx then 0xC else 8)
  let t := tdmOf s q
  if !rbit s a 31 then s
  else if (if tx then t.txLate else t.rxLate) then
    setTdm s q (if tx then { t with txLate := false, txSkip := true } else { t with rxLate := false, rxSkip := true })
  else
    let s := setTdm s q (if tx then { t with tx := t.txSh } else { t with rx := t.rxSh })
    let s := rput (rputBit s a 31 false) a 0 16 (rfld s (tdA q + 0x10) 0 16)
    tdEv (rputBit s a 30 (if tx then t.txSkip else t.rxSkip)) q 3

/-- One slot of an output frame (R345, R359, R360): the word, left-justified in 32 bits; none: high-impedance; whether it
clamped. -/
def tdSlot (b : PortBind) (quiet on : Bool) (w : Word) : Option Nat × Bool :=
  if quiet then (some 0, false)
  else if on then
    let r := wireOut (tdWlen b) w
    (some ((r.1 % 2 ^ 32 * 2 ^ (32 - tdWlen b) % 2 ^ 32).toNat), r.2)
  else (if tdTri b then none else some 0, false)

/-- The output frame that a frame sync starts (R359, R360, R363); while the audio outputs are gated every slot is 0, a slave's too (R50, R51,
R443). -/
def tdOut (s : State) (q : Nat) : State :=
  let b := portOf s (tdP q)
  let hold := !algOpen s (tdP q)
  let quiet := hold || safeGated s
  let r : List Word × State := (List.range (tdSlots b)).foldl (fun (a : List Word × State) ch =>
    let x := portOut a.2 (tdP q) ch
    (a.1 ++ [x.1], x.2)) ([], s)
  let on := fun (ch : Nat) => nbit (tdmOf s q).tx ch
  let slots := (List.range (tdSlots b)).map (fun ch =>
    if hold && !on ch then tdSlot b false false 0 else tdSlot b quiet (on ch) (r.1.getD ch 0))
  let s := rincBy r.2 (tdA q + 0x14) 16 16 (slots.filter (fun x => x.2)).length
  if bootGate s then emit s (.tdmFrame q (slots.map (fun x => x.1))) else s

/-- A frame sync arrives or is generated (R361): FCNT, masks, the output frame. -/
def tdSync (s : State) (q : Nat) : State :=
  let b := portOf s (tdP q)
  if !b.en then s else
  let t := tdmOf s q
  let s := if t.load then
      let s := setTdm s q { t with load := false, lost := false, rx := leAt b.raw 8 4, tx := leAt b.raw 0xC 4 }
      rput s (tdA q + 0x10) 0 16 0
    else rincMod (setTdm s q { t with lost := false }) (tdA q + 0x10) 0 16
  tdOut (tdMaskSync (tdMaskSync s q false) q true) q

/-- A master starts its frame sync (R359). -/
def tdStart (s : State) (q : Nat) : State :=
  let b := portOf s (tdP q)
  if b.en && tdMaster b && bootGate s then emit s (.tdmSync q) else s

/-- The samples of a frame: masked slots give 0 (R361). -/
def tdWords (s : State) (q : Nat) (words : List Nat) : List Word :=
  let b := portOf s (tdP q)
  (List.range (tdSlots b)).map (fun ch =>
    if nbit (tdmOf s q).rx ch then wireIn (tdWlen b) (words.getD ch 0 % 2 ^ 32 / 2 ^ (32 - tdWlen b)) else 0)
/-- Write one word a slot into the input half. -/
def tdPut (s : State) (q : Nat) (ws : List Word) : State :=
  forN (tdSlots (portOf s (tdP q))) s (fun s ch => portIn s (tdP q) ch (ws.getD ch 0))
/-- A live port writes the samples of a frame, with its rejoin ramp. -/
def tdDeliver (s : State) (q : Nat) (ws : List Word) : State :=
  let t := tdmOf s q
  let out := ws.map (fun w => rejoinWord (tdConc (portOf s (tdP q))) false w (t.upK + 1))
  tdPut (setTdm s q { t with last := out }) q out

/-- A slave loses its frames: it conceals, or holds in wait (R362). -/
def tdLose (s : State) (q : Nat) : State :=
  let s := setTdm s q { tdmOf s q with good := 0 }
  if tdState s q = 2 then tdEv (tdSet (setTdm s q { tdmOf s q with concK := 0 }) q 3) q 2 else s
/-- REJOIN good frames: the slave leaves wait, or rejoins (R362, R363). -/
def tdRejoin (s : State) (q : Nat) : State :=
  let b := portOf s (tdP q)
  if (tdmOf s q).good < rb b 0x11 then s else
  let s := setTdm s q { tdmOf s q with ready := true }
  match tdState s q with
  | 1 => if algOpen s (tdP q) then tdSet s q 2 else s
  | 3 => tdSet (setTdm s q { tdmOf s q with upK := if tdConc b = 2 then 0 else 64 }) q 2
  | _ => s

/-- A completed input frame (R360, R362): the 32 bits of each slot, its bit-clock count; `next`: it ends in the last 250 ns of
the tick. -/
def tdFrame (s : State) (q : Nat) (words : List Nat) (clocks : Nat) (next : Bool) : State :=
  let b := portOf s (tdP q)
  if !b.en then s
  else if !tdMaster b && (tdmOf s q).lost then s
  else if !tdMaster b && clocks ≠ tdSlots b * 32 then
    tdLose (tdEv (rinc (setTdm s q { tdmOf s q with bad := true }) (tdA q + 0x14) 0 8) q 1) q
  else
    let s := if tdMaster b then s
      else tdRejoin (setTdm s q { tdmOf s q with bad := false, good := min 255 ((tdmOf s q).good + 1) }) q
    let ws := tdWords s q words
    if next then setTdm s q { tdmOf s q with held := some ws }
    else
      let s := setTdm s q { tdmOf s q with frames := (tdmOf s q).frames + 1 }
      if tdState s q = 2 then
        let s := if !tdMaster b ∧ (tdmOf s q).frames = 2 then tdEv (rinc s (tdA q + 0x14) 8 8) q 0 else s
        tdDeliver s q ws
      else s

/-- No frame sync for 2 nominal frame times (R362). -/
def tdSyncLoss (s : State) (q : Nat) : State :=
  let b := portOf s (tdP q)
  if !b.en || tdMaster b then s else tdLose (setTdm s q { tdmOf s q with lost := true }) q

/-- What the engine writes for a tick in which no frame gave the samples; slips (R360, R362); before the halves swap. -/
def tdTickEnd (s : State) (q : Nat) : State :=
  let b := portOf s (tdP q)
  let t := tdmOf s q
  let s := if tdMaster b then s else
    match tdState s q with
    | 1 => tdPut s q []
    | 2 =>
      let s := if t.frames = 0 then tdEv (rinc s (tdA q + 0x14) 8 8) q 0 else s
      let s := setTdm s q { t with upK := min 64 (t.upK + 1) }
      if t.frames = 0 then tdPut s q t.last else s
    | 3 =>
      let ws := (List.range (tdSlots b)).map (fun ch =>
        if nbit t.rx ch then concealWord (tdConc b) false (t.last.getD ch 0) (t.concK + 1) else 0)
      tdPut (setTdm s q { t with concK := t.concK + 1 }) q ws
    | _ => s
  setTdm s q { tdmOf s q with frames := 0 }

/-- A tick begins for a TDM port (R360, R363). -/
def tdTickStart (s : State) (q : Nat) : State :=
  let t := tdmOf s q
  let s := if tdState s q = 1 ∧ t.ready ∧ algOpen s (tdP q) then
      let s := tdSet s q 2
      if t.lost ∨ t.bad then tdLose s q else s
    else s
  match t.held with
  | none => s
  | some ws =>
    let s := setTdm s q { tdmOf s q with held := none, frames := 1 }
    if tdState s q = 2 then tdDeliver s q ws else s

/-- A TDM port's binding has changed (R361, R362, R363). -/
def tdBound (s : State) (q : Nat) : State :=
  let b := portOf s (tdP q)
  let s := forEach [tdA q + 8, tdA q + 0xC] s (fun s a => if rbit s a 31 then rsetBit (rputBit s a 31 false) a 29 else s)
  let s := rputBit s (tdA q + 0x10) 28 (b.en && tdMaster b)
  let keep : TdmRun := { rx := (tdmOf s q).rx, tx := (tdmOf s q).tx }
  if !b.en then tdSet (setTdm s q keep) q 0
  else tdSet (setTdm s q { keep with load := true, lost := !tdMaster b }) q
    (if tdMaster b then 2 else 1)

/-! ### The commands -/

/-- HOP (R48): a step of more than 1,000 ppm of the device's clock clears ALOCK (R350). -/
def hopCmd (s : State) : State :=
  let r0 : Int := (fbOf s : Int) * (256000000000 + s.clk.p)
  let s := hopDo s
  let r1 : Int := (fbOf s : Int) * (256000000000 + s.clk.p)
  if (r1 - r0).natAbs * 1000 > r0.natAbs then forN 16 s (fun s i => if (portOf s (arP i)).en && arAsrc s i then arUnlock s i else s) else s

/-- HOP (R48). -/
def execHop (st : State) : Res := .next (hopCmd st)
/-- AES3_FRAME_RECEIVED (R348). -/
def execAes3FrameReceived (i : Fin 16) (a b : Subframe) (frate : Fin 32768) (next : Bool) (acc : List (Nat × Access)) (st : State) : Res :=
  .next (withAcc acc st (fun s => arFrame s i.val a b frate.val next))
/-- AES3_NO_SIGNAL (R347). -/
def execAes3NoSignal (i : Fin 16) (st : State) : Res := .next (if (portOf st (arP i.val)).en then arLeave st i.val else st)
/-- AES3_TRANSITIONS_APPEAR (R347). -/
def execAes3TransitionsAppear (i : Fin 16) (st : State) : Res :=
  .next (if (portOf st (arP i.val)).en ∧ arLstate st i.val = 0 then rput st (arA i.val + 4) 27 2 1 else st)
/-- ASRC_RATIO_LOCK (R350). -/
def execAsrcRatioLock (i : Fin 16) (ratio : W32) (gd : BitVec 24) (st : State) : Res := .next (arRatioLock st i.val ratio gd)
/-- AES3_FRAME_START (R354). -/
def execAes3FrameStart (j : Fin 16) (acc : List (Nat × Access)) (st : State) : Res := .next (withAcc acc st (fun s => txStart s j.val))
/-- ZERO_CROSSING_TIMEOUT (R356). -/
def execZeroCrossingTimeout (j : Fin 16) (ch : Fin 2) (st : State) : Res := .next (txTimeout st j.val ch.val)
/-- AES_TX_GAIN_WRITE (R356). -/
def execAesTxGainWrite (j : Fin 16) (ch : Fin 2) (v : W32) (st : State) : Res := .next (txGain st j.val ch.val v)
/-- AES_TX_MUTE_WRITE (R356). -/
def execAesTxMuteWrite (j : Fin 16) (v : BitVec 2) (st : State) : Res := .next (txMute st j.val v.toNat)
/-- AES_TX_CS_COMMIT (R355). -/
def execAesTxCsCommit (j : Fin 16) (st : State) : Res := .next (txCommit st j.val)

/-- The capture AES_RX_IDX selects. -/
def arSelected (s : State) : AesCap :=
  let r := aesRxOf s (rfld s 0x360C00 0 4)
  if rbit s 0x360C00 4 then r.capB else r.capA
/-- A read of AES_RX_CS(0) latches the capture in the context's view (R364). -/
def arLatch (s : State) (ctx : Nat) : State := { s with ser := { s.ser with view := mset {} s.ser.view ctx (arSelected s) } }
/-- AES_RX_CS_LATCH (R364): the data of the read is put out. -/
def execAesRxCsLatch (ctx : Fin 9) (st : State) : Res :=
  .next (emit (arLatch st ctx.val) (.regData (BitVec.ofNat 32 (leAt (arSelected st).cs 0 4))))
/-- AES_RX_CTL_CLR (R364). -/
def execAesRxCtlClr (i : Fin 16) (st : State) : Res := .next (rset (rset st (arA i.val + 8) 0) (arA i.val + 0xC) 0)
/-- TDM_FRAME_START (R359). -/
def execTdmFrameStart (q : Fin 8) (st : State) : Res := .next (tdStart st q.val)
/-- TDM_FRAME_SYNC (R361). -/
def execTdmFrameSync (q : Fin 8) (acc : List (Nat × Access)) (st : State) : Res := .next (withAcc acc st (fun s => tdSync s q.val))
/-- TDM_FRAME_RECEIVED (R360). -/
def execTdmFrameReceived (q : Fin 8) (words : List W32) (clocks : Nat) (next : Bool) (acc : List (Nat × Access)) (st : State) : Res :=
  .next (withAcc acc st (fun s => tdFrame s q.val (words.map BitVec.toNat) clocks next))
/-- TDM_SYNC_LOSS (R362). -/
def execTdmSyncLoss (q : Fin 8) (st : State) : Res := .next (tdSyncLoss st q.val)
/-- TDM_RXMASK_WRITE (R361). -/
def execTdmRxmaskWrite (q : Fin 8) (v : W32) (late : Bool) (st : State) : Res := .next (tdMaskWrite st q.val false v late)
/-- TDM_TXMASK_WRITE (R361). -/
def execTdmTxmaskWrite (q : Fin 8) (v : W32) (late : Bool) (st : State) : Res := .next (tdMaskWrite st q.val true v late)
/-- TDM_CTL_CLR (R365). -/
def execTdmCtlClr (q : Fin 8) (st : State) : Res := .next (rset st (tdA q.val + 0x14) 0)

end Sys2Proof.Machine
end

