-- ==== Sys2Proof/Machine/Stop.lean ====
section
/-! DEFINITION. What stops a structure (R303, R443), what a swap of port bindings does in the engines (R337, R351, R357, R361),
and what clears a slot or a cluster (R54, R256, R467). -/

namespace Sys2Proof.Machine

/-- The engines learn of the bindings that changed at the boundary in progress. -/
def portHooks (s : State) : State :=
  let ch := s.port.chg
  forEach ch { s with port := { s.port with chg := [] } } (fun s e =>
    let n := e.1 % 4096
    match e.1 / 4096 with
    | 1 => flowBound s n e.2
    | 2 => arBound s n e.2
    | 3 => txBound s n e.2
    | 4 => tdBound s n
    | _ => s)

/-- CEL_GOOD and CEL_SPARE of a slot (R78). -/
def celGoodA (k : Nat) : Nat := 0x100100 + 0x1000 * (k / 68) + 4 * (k % 68 / 32)
def celSpareA (k : Nat) : Nat := 0x100110 + 0x1000 * (k / 68) + 4 * (k % 68 / 32)
def fltRetA (k : Nat) : Nat := 0x460104 + 0x10 * (k / 68) + 4 * (k % 68 / 32)
def slotGood (s : State) (k : Nat) : Bool := rbit s (celGoodA k) (k % 68 % 32)
def slotSpare (s : State) (k : Nat) : Bool := rbit s (celSpareA k) (k % 68 % 32)
def slotRetired (s : State) (k : Nat) : Bool := rbit s (fltRetA k) (k % 68 % 32)
/-- A slot enters or leaves the spare pool of its cluster. -/
def setSpare (s : State) (k : Nat) (b : Bool) : State := rputBit s (celSpareA k) (k % 68 % 32) b
def setRetired (s : State) (k : Nat) (b : Bool) : State := rputBit s (fltRetA k) (k % 68 % 32) b
/-- The lowest-numbered slot of a cluster's spare pool (R433). -/
def lowestSpare (s : State) (c : Nat) : Option Nat := ((List.range 68).map (fun j => c * 68 + j)).find? (slotSpare s)

/-- The CEL_ERR, CEL_FLAG, CEL_BVEC and CEL_BTASK registers of a slot are cleared with it (R54, R78). -/
def wipeSlotRegs (s : State) (k : Nat) : State :=
  let o := 0x1000 * (k / 68) + 4 * (k % 68)
  forEach [0x100400, 0x100600, 0x100800, 0x100A00, 0x100C00] s (fun s b => rset s (b + o) 0)
/-- A slot is cleared: its registers and memories are zero (R54, R440). -/
def wipeSlot (s : State) (k : Nat) : State :=
  let m := s.mem
  wipeSlotRegs { s with cells := mset {} s.cells k {},
                        mem := { m with cell := mclearRange m.cell (k * 0x4000) 0x4000, mark := mclearRange m.mark (k * 0x4000) 0x4000,
                                        page := mclearRange m.page (k * 2) 2 } } k

/-- Logical cells of a cluster that are fenced (R438). -/
def fencedCells (s : State) (c : Nat) : List Nat :=
  (List.range 64).filterMap (fun i =>
    match slotOf s (c * 64 + i) with
    | some k => if slotState s k = 3 then some (c * 64 + i) else none
    | none => none)

/-- XCH_ERR.FENCE of a cluster: a driver of its lanes is fenced (R143). -/
def fenceFlag (s : State) (c : Nat) : State :=
  let fs := fencedCells s c
  let b := (liveTable s c).desc.any (fun (e : Nat × W64) =>
    let d := e.2.toNat
    (ldKind d == 1 || ldKind d == 2 || ldKind d == 4) && fs.contains (c * 64 + ldDrv d))
  if rbit s (xchErrA c) 3 = b then s else evClusterFlags (rputBit s (xchErrA c) 3 b) c

/-- The exchange state of a cluster, cleared. -/
def exchWipe (x : ExchSt) (c : Nat) : ExchSt :=
  { x with live := mset none x.live c none, shadow := mset none x.shadow c none, lanes := mclearRange x.lanes (c * 256) 256,
           contrib := x.contrib.filter (fun e => e.1 % 16 != c), arrived := x.arrived.filter (fun e => e.1 % 16 != c),
           lastContrib := x.lastContrib.filter (fun e => e.1 % 16 != c), added := x.added.filter (fun e => e.1 % 16 != c),
           bridges := mclearRange x.bridges (c * 32) 32, rwords := mclearRange x.rwords (c * 2) 2 }
/-- The Wellhead state of a cluster, cleared. -/
def welWipe (w : WelSt) (c : Nat) : WelSt :=
  { ent := mclearRange w.ent (c * 32768) 32768, entPend := mclearRange w.entPend (c * 32768) 32768,
    line := mclearRange w.line (c * 1024) 1024, linePend := mclearRange w.linePend (c * 1024) 1024,
    wcc := mset 0 w.wcc c 0, wccPend := mset none w.wccPend c none, run := mclearRange w.run (c * 32768) 32768,
    acc := mclearRange w.acc (c * 1024) 1024, close := mclearRange w.close (c * 1024) 1024, closed := mset false w.closed c false,
    inlet := mclearRange w.inlet (c * 1024) 1024, inletWait := mclearRange w.inletWait (c * 1024) 1024,
    drive := mclearRange w.drive (c * 256) 256, ld := w.ld, cap := mset false w.cap c false }
/-- The memories of a cluster, cleared (R18, R256). -/
def memWipe (m : MemSt) (c : Nat) : MemSt :=
  { cist := mclearRange m.cist (c * 0x80000) 0x80000, cell := mclearRange m.cell (c * 68 * 0x4000) (68 * 0x4000),
    mark := mclearRange m.mark (c * 68 * 0x4000) (68 * 0x4000), stale := m.stale.filter (fun x => x.addr / 0x80000 != c),
    page := mclearRange m.page (c * 136) 136, busy := mclearRange m.busy (8 * c) 8 }
/-- Everything a cluster holds is cleared (R18, R256). -/
def wipeCluster (s : State) (c : Nat) : State :=
  let s := { s with mem := memWipe s.mem c, cells := mclearRange s.cells (c * 68) 68,
                    ex := exchWipe s.ex c, wel := welWipe s.wel c }
  let s := forN 68 s (fun s j => wipeSlotRegs s (c * 68 + j))
  fenceFlag (rputBit (rputBit s (0x120000 + 0x1000 * c) 0 false) (welStatA c) 0 false) c

/-- An idle slot takes the place of a running, fenced or lending one. -/
def slotIdle (s : State) (k : Nat) : State :=
  match slotState s k with
  | 1 => setSlotState s k 0
  | 3 => setSlotState s k 0
  | 6 => setSlotState s k 4
  | _ => s

/-- CAPTURE commands of a stream that is no longer enabled end (R302). -/
def captureLost (s : State) : State :=
  let os := s.host.ops.filter (fun o => o.opc == 0x31 && o.started && !sdEn (strOf s o.arg) && !(runOf s o.arg).done)
  forEach os s (fun s o => opEnd s o 4 1 [])

/-- The members of a group lose what they have pending (R231, R240, R303). -/
def memberDiscard (s : State) (m : Nat) : State :=
  let i := m % 65536
  match m / 65536 with
  | 1 =>
    let k := mapSlot s i
    let pen := [0x800 * (1 - ppage s k), 0x1000 + 0x800 * (1 - kpage s k)]
    let s := if hasSlot s i then forEach (memSlots s k) s (fun s q => forEach pen s (fun s p => clearMarks s q p 0x800)) else s
    onCmtCell s i (fun c => { c with vmark := false, pswap := false, xfe := false, gMark := [], gPend := c.gAct, asg := none, rsP := hasSlot s i, rsK := hasSlot s i,
                                     noprog := false, nocoef := false })
  | 2 => { s with ex := { s.ex with shadow := mset none s.ex.shadow i none,
                                    chainsShadow := (chainsOf s i).foldl (fun m e => mset none m e.1 none) s.ex.chainsShadow } }
  | 3 => { s with wel := { s.wel with entPend := s.wel.entPend.filter (fun e => e.1 / 32768 != i),
                                      linePend := s.wel.linePend.filter (fun e => e.1 / 1024 != i), wccPend := mset none s.wel.wccPend i none },
                  glc := { s.glc with strPend := s.glc.strPend.filter (fun e => match e.2 with | some d => !(strHomes s e.1 d).contains i | none => true) } }
  | 4 => { s with port := { s.port with pend := mset none s.port.pend i none } }
  | _ => s

/-- Every group that is not due, or every group, is cancelled, its pending content and its claims discarded: those of its load and those of its
standing list (R240, R303). -/
def cancelGroups (s : State) (all : Bool) : State :=
  let gs := s.cmt.groups.filterMap (fun e => if all || e.2.state != 3 then some e.1 else none)
  forEach gs s (fun s g =>
    let s := forEach (claims s g) s memberDiscard
    let s := if (groupOf s g).state = 0 then s else groupResult s g 4 0 0 0 false
    pendDone (setGroup s g { groupOf s g with load := [], mem := [] }) g)

/-- A cell that has become idle keeps its registers; nothing else of its work remains. -/
def cellStopped (c : Cell) : Cell :=
  { d := c.d, a := c.a, af := c.af, p := c.p, i := c.i, z := c.z, lp := c.lp, bx := c.bx, st := c.st, lfsrA := c.lfsrA, lfsrB := c.lfsrB }
/-- Every cell becomes idle. -/
def cellsStopped (m : SMap Cell) : SMap Cell :=
  (m.map (fun (e : Nat × Cell) => (e.1, cellStopped e.2))).filter (fun (e : Nat × Cell) => decide (e.2 ≠ ({} : Cell)))

/-- Every meter and histogram record is disabled (R392); what the units have measured stays. -/
def attsOff (m : MeterSt) : MeterSt :=
  let off : W64 := 0x7FFFFFFFFFFFFFFF
  { m with mtr := (m.mtr.map (fun (e : Nat × Meter) => (e.1, { e.2 with att := e.2.att &&& off }))).filter
             (fun (e : Nat × Meter) => decide (e.2 ≠ ({} : Meter))),
           hist := (m.hist.map (fun (e : Nat × Hist) => (e.1, { e.2 with att := e.2.att &&& off }))).filter
             (fun (e : Nat × Hist) => decide (e.2 ≠ ({} : Hist))) }

/-- Every slot and every logical cell becomes idle, and no block task is in progress (R303). -/
def stopCells (s : State) : State :=
  let s := forN 1088 s slotIdle
  let s := forN 1024 s (fun s l => rputBit s (celMapA l) 31 false)
  forN 1088 s (fun s k => if bstate s k = 0 then s else setBstate s k 0)

/-- Slots keep their registers alone, the exchange, the walks and the streams lose what they hold, no record is enabled (R303, R392). -/
def stopUnits (s : State) : State :=
  { s with cells := cellsStopped s.cells, mem := { s.mem with mark := [], page := [], stale := [], busy := [] }, ex := {}, mtr := attsOff s.mtr,
           wel := { ld := s.wel.ld }, glc := { s.glc with str := [], strPend := [], run := [] } }

/-- Every port is unbound (R303). -/
def stopPorts (s : State) : State :=
  let bound := s.port.live.filterMap (fun e => if e.2.en then some (e.1, e.2) else none)
  portHooks { s with port := { live := [], pend := [], rel := [], inw := [], fresh := [], chg := bound } }

/-- No load, no glide, no open fault and no takeover of the structure's units is left (R303, R426, R427). -/
def stopWork (s : State) : State :=
  { s with cisLate := [], flt := { workDrop s.flt (fun w => w.cls == 1 && w.unit / 4096 == 1) with openf := s.flt.openf.filter (fun e => e.1 / 65536 != 1 && e.1 / 65536 != 2 && e.1 / 65536 != 3) },
           cmt := { s.cmt with cells := [], pend := [], live := false, start := none, clearAt := none } }

/-- The structure stops at a base boundary (R303, R392): cells idle, lanes unused, walks empty, streams disabled, ports unbound, meter
and histogram records disabled, cisterns with CTL, the ownership lock open. -/
def stopStructure (s : State) : State :=
  let s := stopUnits (stopCells s)
  let s := forN 16 s (fun s c => rputBit (rputBit s (0x120000 + 0x1000 * c) 0 false) (welStatA c) 0 false)
  let s := stopPorts (captureLost s)
  let s := stopWork (forN 128 s (fun s k => cisSetOwner s k 5))
  forN 16 (rsetBit s 0x180A00 0) fenceFlag

end Sys2Proof.Machine
end

