-- ==== Sys2Proof/Machine/Takeover.lean ====
section
/-! DEFINITION. Spare-cell takeover, fencing, the return of slots and scrubbing (R433–R441). -/

namespace Sys2Proof.Machine

/-- Fault information of a logical cell's takeover. -/
def cellInfo (s : State) (cls l new old : Nat) : FltInfo :=
  { cls := cls, sev := 1, unit := 0x1000 + l, btc := tickEndBtc s (domOf s (l / 64)), detail := rfld s (celErrA (l / 64 * 68 + old)) 16 6,
    nslot := new, oslot := old }

/-- What a cell keeps when its tick's faults have been acted on. -/
def cellCalm (c : Cell) : Cell :=
  { c with sample := false, done := false, quench := 0, held := false, faultCyc := none, zst := false, fenceNext := false,
           schedFault := false, half := 0, loops := [], atZero := false, dead := 0, npc := none, iss := [], void := false, frz := 0 }

/-- Logical cell `l` of slot `k` is remapped to spare slot `j`, which runs on the memories lent (R433, R434, R435, R119). -/
def remapTo (s : State) (l k j : Nat) : State :=
  let mem := memSlot s k
  let zst := (cellAt s k).zst
  let ran := (cellAt s k).started
  let s := setSpare s j false
  let s := rset s (celMapA l) (fput (fput (fput (rget s (celMapA l)) 8 7 (k % 68)) 0 7 (j % 68)) 15 1 1)
  let s := rset s (celSlotA j) (fput (rget s (celSlotA k)) 0 3 1)
  let s := onCell s j (fun c => { cellCalm c with lender := some mem, ownState := zst, copied := false, started := ran })
  let s := setBstate (onCell (setSlotState s k 6) k cellCalm) k 0
  let s := rinc s (0x460100 + 0x10 * (l / 64)) 12 8
  let s := blockRestart (showPage s j) j
  fltWork s { cls := 1, sev := 1, unit := 0x1000 + l }

/-- The copy of a takeover into slot `j` (R434): both program and coefficient pages, the marks, the state memory unless the new
slot uses its own; `bad`, uncorrectable words of active pages and what stands for them (R435). -/
def copyMem (s : State) (j : Nat) (bad : List Nat) : State :=
  let m := memSlot s j
  if m = j then s else
  let n := if (cellAt s j).ownState then 0x2000 else 0x3000
  let subst := bad.map (fun o =>
    let p := if (o / 0x800) % 2 = 0 then o + 0x800 else o - 0x800
    (o, if mget false s.mem.mark (m * 0x4000 + p) then (0 : Word) else cellWord s m p))
  let s : State := { s with mem := { s.mem with
    cell := mcopyRange 0 s.mem.cell s.mem.cell (m * 0x4000) (j * 0x4000) n,
    mark := mcopyRange false s.mem.mark s.mem.mark (m * 0x4000) (j * 0x4000) 0x2000,
    page := mcopyRange {} s.mem.page s.mem.page (m * 2) (j * 2) 2 } }
  forEach subst s (fun s e => cellPut s j e.1 e.2)

/-- The clearing and the self-test of a slot that returns are the handler's work (R427, R440). -/
def slotReturns (s : State) (k : Nat) : State := fltWork s { cls := 1, sev := 1, unit := 0x2000 + k }

/-- Switch-over (R434): the new slot uses its own memories, the old one passes to clearing, the recovered entry is logged. -/
def switchOver (s : State) (l j : Nat) : State :=
  match (cellAt s j).lender with
  | none => s
  | some old =>
    let s := onCell s j (fun c => { c with lender := none, ownState := false, copied := false })
    let s := setSlotState s old 4
    slotReturns (fltRecover s (cellInfo s 1 l (j % 68) (old % 68))) old

/-- The copy engine's work in a cluster: the slot being filled, if any. Takeovers wait for it in the handler's order (R434). -/
def copySlot (s : State) (c : Nat) : Option Nat :=
  (workOrder s.flt).findSome? (fun w =>
    if w.cls = 1 ∧ w.unit / 4096 = 1 ∧ w.unit % 4096 / 64 = c then
      match slotOf s (w.unit % 4096) with
      | some j => if (cellAt s j).lender.isSome && !(cellAt s j).copied then some j else none
      | none => none
    else none)

/-- The copy of a takeover ends (R434, R435). -/
def copyDone (s : State) (l : Nat) (bad : List Nat) : State :=
  match slotOf s l with
  | none => s
  | some j =>
    if copySlot s (l / 64) ≠ some j then s else
    let m := memSlot s j
    let active := fun (o : Nat) => decide (o < 0x2000) && (if o < 0x1000 then o / 0x800 == ppage s j else (o - 0x1000) / 0x800 == kpage s j)
    let bad := bad.filter active
    let marked := bad.any (fun o => mget false s.mem.mark (m * 0x4000 + (if (o / 0x800) % 2 = 0 then o + 0x800 else o - 0x800)))
    onCell (copyMem s j bad) j (fun c => { c with copied := true, fenceNext := c.fenceNext || marked })

/-- The output set of a cell (R431): the channels of output buffers that lie in the cisterns its sample program declares to
write; in a crossfade, of both programs. -/
def outputSet (s : State) (l : Nat) : List (Nat × Nat) :=
  let k := mapSlot s l
  let p := fun (n : Nat) => mget ({} : PageInfo) s.mem.page (memSlot s k * 2 + n)
  let old := if (cmtCell s l).xj = 0 then [] else (p (1 - ppage s k)).decls
  outChannels s (l / 64) (declWrites ((p (ppage s k)).decls ++ old))

/-- A logical cell is fenced (R437, R438). -/
def fenceCell (s : State) (l k cls : Nat) : State :=
  let s := if (cellAt s k).lender.isSome then
      let s := copyMem s k []
      match (cellAt s k).lender with
      | some old => slotReturns (setSlotState (onCell s k (fun c => { c with lender := none, ownState := false, copied := false })) old 4) old
      | none => s
    else s
  let info := { cellInfo s cls l (k % 68) (k % 68) with hold := (cellAt s k).held }
  let s := setBstate (onCell (setSlotState s k 3) k cellCalm) k 0
  let s := fltLog (fltWorkDone s 1 (0x1000 + l)) 3 info
  let txs := ((outputSet s l).filter (fun x => x.1 / 4096 == 3)).map (fun x => x.1 % 4096)
  forEach txs.eraseDups s (fun s j =>
    if rfld s (atA j + 0xC) 0 2 = 3 then s else evRaise (rsetBit s (atA j + 0xC) 28) (132 + j))

/-- A fence is lifted: the cell is remapped to a spare, lending from the slot it was fenced on (R439). -/
def unfenceCell (s : State) (l k j : Nat) : State :=
  let s := fltLog (remapTo s l k j) 6 (cellInfo s 1 l (j % 68) (k % 68))
  setOpen s 1 (0x1000 + l) true

/-- A cell of the domain has faults to act on at the boundary that ends its tick: 0 none, 1 remap, 2 fence with class 1, 3 fence
with class 2 (R429, R433, R435, R437); `sched`, a schedule fault of this tick; `pool`, a spare exists. -/
def faultAct (c : Cell) (sched pool : Bool) : Nat :=
  let data := c.faultCyc.isSome && decide (c.quench ≠ 2)
  if data || c.fenceNext then (if !pool || c.lender.isSome || c.schedFault || c.fenceNext then 2 else 1)
  else if sched && (c.schedFault || c.lender.isSome) then 3
  else 0

/-- Step 5 of R43 for a cluster (R433, R434, R437, R439): switch-overs at a base boundary, then remaps, fences and lifted fences in
ascending logical index. `scheds`, logical cells with a schedule fault in the tick; `lifts`, cells claimed by groups that swap. -/
def remapStep (s : State) (c : Nat) (base : Bool) (scheds lifts : List Nat) : State :=
  let s := if base then
      forN 64 s (fun s i =>
        let l := c * 64 + i
        match slotOf s l with
        | some j => if (cellAt s j).copied && slotState s j == 1 then switchOver s l j else s
        | none => s)
    else s
  forN 64 s (fun s i =>
    let l := c * 64 + i
    match slotOf s l with
    | none => s
    | some k =>
      if slotState s k = 1 then
        let sched := scheds.contains l
        match faultAct (cellAt s k) sched (lowestSpare s c).isSome with
        | 1 => match lowestSpare s c with
          | some j => remapTo s l k j
          | none => s
        | 2 => fenceCell s l k 1
        | 3 => fenceCell s l k 2
        | _ => s
      else if slotState s k = 3 ∧ lifts.contains l then
        match lowestSpare s c with
        | some j => unfenceCell s l k j
        | none => s
      else s)

/-- A slot in clearing has been cleared; its self-test begins (R440). -/
def slotCleared (s : State) (k : Nat) : State := if slotState s k = 4 then wipeSlot s k else s

/-- A SELF_TEST that waits for a slot takes its result; its NOTE holds the slots awaited in bits [67:0] and the faults found above
(R302). -/
def selfTestNote (s : State) (k : Nat) (pass : Bool) : State :=
  let j := k % 68
  let os := s.host.ops.filter (fun o => o.opc == 0x32 && o.started && nbit o.note j
    && (if o.arg / 2 ^ 14 = 1 then o.arg % 2048 == k else o.arg % 2048 == k / 68))
  forEach os s (fun s o =>
    let left := nput o.note j 1 0
    let note := if pass then left else nput left (68 + j) 1 1
    if note % 2 ^ 68 = 0 then
      let f := note / 2 ^ 68
      opEnd s o (if f = 0 then 0 else 2) (if f = 0 then 0 else 1) (leBytes 9 f)
    else opUpdate s { o with note := note })

/-- A slot's self-test ends: it enters the spare pool, or is retired (R440). -/
def slotTested (s : State) (k : Nat) (pass : Bool) : State :=
  if slotState s k ≠ 4 then s else
  let info : FltInfo := { cls := 1, sev := 1, unit := 0x2000 + k, btc := tickEndBtc s (domOf s (k / 68)), oslot := k % 68 }
  let s := if !slotGood s k then setSlotState s k 5
    else if pass then fltLog (setRetired (setSpare (setSlotState (wipeSlot s k) k 2) k true) k false) 4 info
    else fltLog (setRetired (setSpare (setSlotState s k 0) k false) k true) 5 info
  selfTestNote (fltWorkDone s 1 (0x2000 + k)) k pass

/-- Where the scrub engine reads (R441). -/
def scrubCell (s : State) (k off : Nat) (e : Ecc) : State :=
  match e with
  | .ok => s
  | .single => rinc s (celErrA k) 0 16
  | .double =>
    let mem := if off < 0x1000 then 0 else if off < 0x2000 then 1 else 2
    let s := if rbit s (celErrA k) 16 then s else rput s (celErrA k) 20 2 mem
    let s := rsetBit s (celErrA k) 16
    fltLog s 1 { cls := 1, sev := 1, unit := if slotState s k = 1 then 0x1000 + logicalOf s k else 0x2000 + k,
                 btc := tickEndBtc s (domOf s (k / 68)), detail := rfld s (celErrA k) 16 6, oslot := k % 68 }
def scrubCistern (s : State) (k w : Nat) (e : Ecc) : State :=
  match e with
  | .ok => s
  | .single => rinc s (cisStatA k) 0 16
  | .double =>
    let s := cisErr s k 0
    let s := if rbit s (cisEaddrA k) 31 then s else rset s (cisEaddrA k) (BitVec.ofNat 32 (2 ^ 31 + w))
    fltLog s 1 { cls := 6, sev := 2, unit := 0x4000 + k, btc := tickEndBtc s (domOf s (k / 8)), detail := rfld s (cisErrA k) 0 16 }
def scrubWell (s : State) (c : Nat) (e : Ecc) : State :=
  match e with
  | .ok => s
  | .single => welCorr s c
  | .double => fltLog s 1 { cls := 5, sev := 2, unit := 0x3000 + c, btc := tickEndBtc s (domOf s c), detail := rfld s (welErrA c) 0 16 }

/-- TAKEOVER_COPY_DONE (R434): the logical cell, the uncorrectable words the copy met. -/
def execTakeoverCopyDone (l : Fin 1024) (bad : List (Fin 0x3000)) (st : State) : Res := .next (copyDone st l.val (bad.map Fin.val))
/-- SLOT_CLEARING_DONE (R440). -/
def execSlotClearingDone (c : Fin 16) (s : Fin 68) (st : State) : Res := .next (slotCleared st (c.val * 68 + s.val))
/-- SLOT_SELF_TEST_DONE (R440). -/
def execSlotSelfTestDone (c : Fin 16) (s : Fin 68) (pass : Bool) (st : State) : Res := .next (slotTested st (c.val * 68 + s.val) pass)
/-- SCRUB_READ (R441): memory 0 cell, 1 cistern, 2 Wellhead; the unit; the word; what the check bits find; `last`, the walk ends;
a rewrite that another access disturbs is abandoned without a trace. -/
def execScrubRead (mem : Fin 3) (unit word : Nat) (ecc : Ecc) (abandoned last : Bool) (st : State) : Res :=
  if !rbit st 0x460020 31 then .next st else
  let e := if abandoned && ecc == .single then .ok else ecc
  let s := match mem.val with
    | 0 => if unit < 1088 ∧ !clusterDown st (unit / 68) ∧ word < 0x3000 then scrubCell st unit word e else st
    | 1 => if unit < 128 ∧ !cisDown st unit ∧ word < 65536 then scrubCistern st unit word e else st
    | _ => if unit < 16 ∧ !clusterDown st unit then scrubWell st unit e else st
  .next (if last then rput s 0x460020 0 16 (rfld s 0x460020 0 16 + 1) else s)
/-- FLT_LOG_POP (R448). -/
def execFltLogPop (st : State) : Res := .next { st with flt := { st.flt with log := st.flt.log.tail } }

end Sys2Proof.Machine
end

