-- ==== Sys2Proof/Machine/Power.lean ====
section
/-! DEFINITION. Power domains of the clusters (R467), heat (R469, R470) and the critical temperature (R443). -/

namespace Sys2Proof.Machine

def onPwr (s : State) (f : PwrSt → PwrSt) : State := { s with pwr := f s.pwr }
def pwrStep (s : State) (c : Nat) : Nat := mget 0 s.pwr.step c
def setPwrStep (s : State) (c v : Nat) : State := onPwr s (fun p => { p with step := mset 0 p.step c v })
def setPwrDown (s : State) (c : Nat) (b : Bool) : State := onPwr s (fun p => { p with down := mset false p.down c b })
/-- PWR_STAT.CLON of a cluster (R467). -/
def clon (s : State) (c : Nat) : Bool := rbit s 0x480000 c
/-- CIS_STAT.CLR and PWR of the cisterns of a cluster (R257). -/
def setCisPower (s : State) (c : Nat) (clr pwr : Bool) : State :=
  forN 8 s (fun s j => rputBit (rputBit s (cisStatA (8 * c + j)) 31 clr) (cisStatA (8 * c + j)) 30 pwr)

/-- Power-up of a cluster is requested, with the domain it will tick in (R467, R32). -/
def powerUp (s : State) (c d : Nat) : State :=
  let s := setPwrDown (onPwr s (fun p => { p with dom := mset 0 p.dom c d })) c false
  if pwrStep s c = 0 then onPwr (setPwrStep s c 1) (fun p => { p with queue := p.queue ++ [c] }) else s
/-- Step 2 of R467: the isolation of the cluster in step 1 lifts, its clearing begins, and the next cluster enters step 1. -/
def isolationLift (s : State) (c : Nat) : State :=
  if s.pwr.queue.head? = some c ∧ pwrStep s c = 1 then
    setCisPower (onPwr (setPwrStep s c 2) (fun p => { p with queue := p.queue.tail })) c true true
  else s
/-- Step 3 of R467: clearing is complete (R256). -/
def clearingDone (s : State) (c : Nat) : State :=
  if pwrStep s c = 2 then rsetBit (setCisPower (wipeCluster (setPwrStep s c 3) c) c false true) 0x480000 c else s
/-- The switches of a cluster open: its content is lost (R18, R467). -/
def powerOff (s : State) (c : Nat) : State :=
  let s := onPwr (setPwrStep s c 0) (fun p => { p with queue := p.queue.filter (· != c) })
  let s := setCisPower (rputBit (setPwrDown s c false) 0x480000 c false) c true false
  let s := forN 68 s (fun s j => slotIdle s (c * 68 + j))
  let s := { s with flt := workDrop s.flt (fun w => w.cls == 1 &&
    ((w.unit / 4096 == 1 && w.unit % 4096 / 64 == c) || (w.unit / 4096 == 2 && w.unit % 4096 / 68 == c))) }
  setDom (wipeCluster s c) c 3
/-- The running load has a cluster powered up (R212 step 3). -/
def powerWanted (s : State) (c : Nat) : Bool := match s.load.run with
  | some r => r.undo.power.contains c
  | none => false
/-- A rate domain changes at the base boundary in progress, with its record (R32, R53). -/
def domChange (s : State) (c v : Nat) : State :=
  if rfld s 0x20000C (2 * c) 2 = v then s else bndRecord (setDom s c v) s.btc 9 (c * 256 + v * 4096)
/-- A base boundary: a power-down takes effect, or a cleared cluster starts to tick (R32, R467). A cluster that the running load has
asked for in the meantime is powered up again. -/
def powerBoundary (s : State) : State :=
  forN 16 s (fun s c =>
    if pwrStep s c ≠ 3 then s
    else if mget false s.pwr.down c then
      let d := mget 0 s.pwr.dom c
      let s := powerOff (domChange s c 3) c
      if powerWanted s c then powerUp s c d else s
    else domChange s c (if domOf s c = 0 then mget 0 s.pwr.dom c else rfld s 0x20000C (2 * c) 2))

/-- Thresholds (R470, R473): values at or above TCRIT act as TCRIT − 1. -/
def tCrit (s : State) : Int := sext 8 (rfld s 0x480008 24 8)
def tWarn (s : State) : Int :=
  let w := sext 8 (rfld s 0x480008 0 8)
  if w ≥ tCrit s then tCrit s - 1 else w

/-- No load runs any more, and the handler knows the critical temperature (R443). -/
def loadsStop (s : State) : State :=
  { s with flt := { s.flt with critical := true }, load := { s.load with run := none, arm := none } }

/-- The critical temperature (R443, R470): the structure stops, every output is gated, every cluster is powered down, THERM_N is
asserted. -/
def criticalStop (s : State) : State :=
  let s := stopStructure (cancelGroups s true)
  let s := forN 16 s (fun s c => powerOff s c)
  let s := loadsStop s
  let s := forEach (s.host.ops.filter (fun o => o.started && o.opc == 0x10)) s (fun s o => opEnd s o 4 0 [])
  let s := forEach (s.host.ops.filter (fun o => o.opc == 0x11)) s (fun s o => opEnd s o 0 0 (leBytes 8 s.btc.toNat))
  let s := forN 4 s (fun s o => rsetBit s (ckoA o + 8) 30)
  rsetBit s 0x480000 27

/-- The calibration slots go stale when the die has moved by 20 °C or more since they were written (R369). -/
def calStale (s : State) : State :=
  forN 2 s (fun s x => forN 4 s (fun s k =>
    let a := synA x + 0x10 + 4 * k
    if rbit s a 31 && decide ((dieC s - sext 8 (rfld s a 16 8)).natAbs ≥ 20) then rsetBit s a 30 else s))

/-- The die temperature has been updated (R469, R470, R393). -/
def temperature (s : State) (sens : List (BitVec 16)) (vdd vddm : Nat) : State :=
  let s := rput (rput s 0x48000C 0 16 vdd) 0x48000C 16 16 vddm
  let s := forN 17 s (fun s k => if k < 16 ∧ pwrStep s k < 2 then s else rput s (0x480040 + 4 * k) 0 16 (sens.getD k 0).toNat)
  let t : Int := (List.range 17).foldl (fun (m : Int) k => max m (sext 16 (rfld s (0x480040 + 4 * k) 0 16))) (-32768)
  let was := sext 15 (rfld s 0x480004 16 15)
  let s := rput (rput s 0x480004 0 16 (t % 65536).toNat) 0x480004 16 15 ((if s.pwr.seen then max was t else t) % 32768).toNat
  let s := onPwr s (fun p => { p with seen := true })
  let s := calStale (histSample s 6 0 t)
  let info : FltInfo := { cls := 0xB, sev := 2, unit := 0xA000, btc := tickEndBtc s 1 }
  let s := if !s.pwr.warn && decide (t ≥ 4 * tWarn s) then
      evSignalLevel (fltDetect (onPwr s (fun p => { p with warn := true })) info) 173 true
    else if s.pwr.warn && decide (t < 4 * (tWarn s - 3)) then
      fltRecover (evSignalLevel (onPwr s (fun p => { p with warn := false })) 173 false) info
    else s
  if t ≥ 4 * tCrit s ∧ !rbit s 0x480000 27 then
    criticalStop (fltDetect s { cls := 0xC, sev := 0, unit := 0xA000, btc := tickEndBtc s 1 })
  else s

/-- The die has stayed below TWARN for 1 s (R470). -/
def thermRelease (s : State) : State := if dieQuarter s < 4 * tWarn s then rputBit s 0x480000 27 false else s

/-- CLUSTER_ISOLATION_LIFT (R467). -/
def execClusterIsolationLift (c : Fin 16) (st : State) : Res := .next (isolationLift st c.val)
/-- CLUSTER_CLEARING_DONE (R256). -/
def execClusterClearingDone (c : Fin 16) (st : State) : Res := .next (clearingDone st c.val)
/-- TEMPERATURE_SAMPLE (R469): the sensors in units of 0.25 °C, VDD and VDDM in mV. -/
def execTemperatureSample (sens : List (BitVec 16)) (vdd vddm : BitVec 16) (st : State) : Res :=
  .next (temperature st sens vdd.toNat vddm.toNat)
/-- THERM_RELEASE (R470). -/
def execThermRelease (st : State) : Res := .next (thermRelease st)
/-- PWR_TEMP_CLR (R473). -/
def execPwrTempClr (st : State) : Res := .next (rput st 0x480004 16 15 (rfld st 0x480004 0 16))

end Sys2Proof.Machine
end

