-- ==== Sys2Proof/Machine/Sha384.lean ====
section
/-! DEFINITION. ECDSA P-384 verification (R406, R417), and the fields of flash slots, flag records and packages
(R411–R417). -/

namespace Sys2Proof.Machine

/-- The field prime, the group order and the coefficients of P-384. -/
def p384P : Nat := 2 ^ 384 - 2 ^ 128 - 2 ^ 96 + 2 ^ 32 - 1
def p384N : Nat := 0xffffffffffffffffffffffffffffffffffffffffffffffffc7634d81f4372ddf581a0db248b0a77aecec196accc52973
def p384B : Nat := 0xb3312fa7e23ee7e4988e056be3f82d19181d9c6efe8141120314088f5013875ac656398d8a2ed19d2a85c8edd3ec2aef
def p384Gx : Nat := 0xaa87ca22be8b05378eb1c71ef320ad746e1d3b628ba79b9859f741e082542a385502f25dbf55296c3a545e3872760ab7
def p384Gy : Nat := 0x3617de4a96262c6f5d9e98bf9292dc29f8f41dbd289a147ce9da3113b5f0b8c00a60b1ce1d7e819d7a431d7c90ea0e5f

/-- b^e mod m over the low `n` bits of `e`, times `acc`. -/
def powModN (n b e m acc : Nat) : Nat :=
  match n with
  | 0 => acc
  | n + 1 => powModN n (b * b % m) (e / 2) m (if e % 2 = 1 then acc * b % m else acc)
/-- Inverse modulo a 384-bit prime. -/
def invMod (a m : Nat) : Nat := powModN 384 (a % m) (m - 2) m 1

/-- A point of P-384; none: the point at infinity. -/
abbrev EcPoint := Option (Nat × Nat)
/-- The sum of two points. -/
def ecAdd (u v : EcPoint) : EcPoint :=
  match u, v with
  | none, _ => v
  | _, none => u
  | some (x1, y1), some (x2, y2) =>
    let p := p384P
    if x1 = x2 ∧ (y1 + y2) % p = 0 then none else
    let l := if x1 = x2 then (3 * x1 * x1 + 3 * (p - 1)) * invMod (2 * y1) p % p
      else (y2 + p - y1) * invMod (x2 + p - x1) p % p
    let x := (l * l + 2 * p - x1 - x2) % p
    some (x, (l * (x1 + p - x) + p - y1) % p)
/-- k × P over the low `n` bits of `k`, plus `acc`. -/
def ecMulN (n k : Nat) (q acc : EcPoint) : EcPoint :=
  match n with
  | 0 => acc
  | n + 1 => ecMulN n (k / 2) (ecAdd q q) (if k % 2 = 1 then ecAdd acc q else acc)

/-- ECDSA P-384 with SHA-384: the public key's 97 bytes, the message, the signature r followed by s (R417). -/
def ecdsaP384 (pub msg sig : List Byte) : Bool :=
  let x := beAt pub 1 48
  let y := beAt pub 49 48
  let r := beAt sig 0 48
  let t := beAt sig 48 48
  let p := p384P
  let n := p384N
  if beAt pub 0 1 ≠ 4 ∨ x ≥ p ∨ y ≥ p ∨ y * y % p ≠ (x * x * x + (p - 3) * x + p384B) % p ∨ r = 0 ∨ r ≥ n ∨ t = 0 ∨ t ≥ n then false else
  let w := invMod t n
  let z := beNat (sha384 msg)
  match ecAdd (ecMulN 384 (z * w % n) (some (p384Gx, p384Gy)) none) (ecMulN 384 (r * w % n) (some (x, y)) none) with
  | none => false
  | some q => q.1 % n == r

end Sys2Proof.Machine
end

