-- ==== Sys2Proof/Machine/Boot.lean ====
section
/-! DEFINITION. Boot, resets, firmware slots, updates, debug access (ch. 20) and the resets of ch. 22. -/

namespace Sys2Proof.Machine

def onBoot (s : State) (f : BootSt → BootSt) : State := { s with boot := f s.boot }
/-- BOT_STAT.MODE: 0 stage 0, 1 stage 1 unverified, 2 verified, 3 recovery; READY; RUNS. -/
def botMode (s : State) : Nat := rfld s 0x440000 30 2
def botReady (s : State) : Bool := rbit s 0x440000 26
def botRuns (s : State) : Nat := rfld s 0x440000 24 1
/-- Set an event bit of BOT_EV and raise source 174 (R425). -/
def botEv (s : State) (bit : Nat) : State := evRaise (rsetBit s 0x44000C bit) 174

/-! ### Flash (R405, R411, R414, R415) -/

/-- The epoch floor (R406). -/
def epochFloor (s : State) : Nat := max (min 64 Config.fuseFloor) s.boot.floor
/-- A slot's bytes. -/
def slotRaw (s : State) (n : Nat) : List Byte := (mget none s.boot.slots n).getD (Config.flashSlot n)
/-- Fields of a slot header (R414). -/
def shLen (b : List Byte) : Nat := leAt b 8 4
def shSeq (b : List Byte) : Nat := leAt b 0x10 8
def shEpoch (b : List Byte) : Nat := leAt b 0x18 8
def shRaise (b : List Byte) : Bool := nbit (leAt b 0x24 4) 0
/-- The header keeps the table of R414. -/
def headerOk (b : List Byte) : Bool :=
  let len := shLen b
  leAt b 0 4 == 0x544C5357 && leAt b 4 2 == 1 && leAt b 6 2 == 0 && len % 64 == 0 && decide (256 ≤ len) && decide (len ≤ 3669952)
    && decide (leAt b 0xC 4 < len) && decide (leAt b 0x24 4 ≤ 1) && leAt b 0x28 216 == 0
/-- The header is valid: the table and the floor (R414). -/
def slotValid (s : State) (n : Nat) : Bool := headerOk (slotRaw s n) && decide (epochFloor s ≤ shEpoch (slotRaw s n))

/-- Derived keys (R411). -/
def kSlot (e : Nat) : List Byte := hkdf32 Config.fuseDuk (leBytes 8 e) (asciiBytes "slot mac")
def kFlag : List Byte := hkdf32 Config.fuseDuk (leBytes 8 0) (asciiBytes "flags")
def kDbg : List Byte := hkdf32 Config.fuseCfk (leBytes 8 Config.fuseSerial.toNat) (asciiBytes "debug unlock")
def kBoot : List Byte := hkdf32 Config.fuseCfk (leBytes 8 Config.fuseSerial.toNat) (asciiBytes "bootstrap AG4")

def flagRecs (s : State) : List (List Byte) := s.boot.flags.getD Config.flashFlags
/-- A flag record is valid (R415). -/
def recValid (r : List Byte) : Bool :=
  leAt r 0 4 == 0x474C4657 && decide (leAt r 4 1 ≤ 1) && (leAt r 5 1 == 1 || leAt r 5 1 == 2) && leAt r 6 2 == 0 && leAt r 0x18 8 == 0
    && slice r 0x20 32 == hmacSha256 kFlag (slice r 0 32)
/-- A slot is active (R415): its valid record of the highest COUNT sets it; with no valid record at all both slots are. -/
def slotActive (s : State) (n : Nat) : Bool :=
  let vs := (flagRecs s).filter recValid
  if vs.isEmpty then true else
  let own := vs.filter (fun r => leAt r 4 1 == n && leAt r 8 8 == shSeq (slotRaw s n))
  let best := own.foldl (fun (b : Option (Nat × Nat)) r =>
    let c := leAt r 0x10 8
    match b with
    | some x => if c > x.1 then some (c, leAt r 5 1) else b
    | none => some (c, leAt r 5 1)) none
  match best with
  | some x => x.2 == 1
  | none => false
/-- A flag record's 64 bytes. -/
def flagRec (slot act seq count : Nat) : List Byte :=
  let h := [0x57, 0x46, 0x4C, 0x47] ++ leBytes 1 slot ++ leBytes 1 act ++ [0, 0] ++ leBytes 8 seq ++ leBytes 8 count ++ leBytes 8 0
  h ++ hmacSha256 kFlag h
/-- Append a record that sets (1) or clears (2) a slot's active flag; a full area is rewritten with the current state (R415). -/
def flagAppend (s : State) (n act : Nat) : State :=
  let rs := flagRecs s
  let top := rs.foldl (fun (m : Nat) r => if recValid r then max m (leAt r 0x10 8) else m) 0
  let seq := fun (k : Nat) => shSeq (slotRaw s k)
  let code := fun (k : Nat) => if slotActive s k then 1 else 2
  if rs.length ≥ 1024 then
    onBoot s (fun b => { b with flags := some [flagRec 0 (code 0) (seq 0) (top + 1), flagRec 1 (code 1) (seq 1) (top + 2),
                                               flagRec n act (seq n) (top + 3)] })
  else onBoot s (fun b => { b with flags := some (rs ++ [flagRec n act (seq n) (top + 1)]) })

/-- BOT_ATT.FAILA and FAILB (R410). -/
def slotFailed (s : State) (n : Nat) : Bool := rbit s 0x440004 (29 - n)
/-- The slot may be chosen: it has not failed, and its header is valid (R410, R414). -/
def slotUsable (s : State) (n : Nat) : Bool := !slotFailed s n && slotValid s n
/-- The slot stage 0 chooses (R416); the flag: by the trial request. None: recovery. -/
def chooseSlot (s : State) : Option (Nat × Bool) :=
  let t := rfld s 0x440004 30 1
  if rbit s 0x440004 31 && slotUsable s t then some (t, true) else
  let ok := (List.range 2).filter (fun n => slotActive s n && slotUsable s n)
  match ok with
  | [0, 1] => some (if shSeq (slotRaw s 1) > shSeq (slotRaw s 0) then 1 else 0, false)
  | n :: _ => some (n, false)
  | [] => ((List.range 2).find? (slotUsable s)).map (fun n => (n, false))
/-- BOT_SLOT registers of a slot (R425). -/
def showSlot (s : State) (n : Nat) : State :=
  let b := slotRaw s n
  let a := 0x440020 + 0x20 * n
  let s := rset64 (rset64 s a (BitVec.ofNat 64 (shSeq b))) (a + 8) (BitVec.ofNat 64 (shEpoch b))
  let s := rset s (a + 0x10) (BitVec.ofNat 32 (leAt b 0x20 4))
  rset s (a + 0x14) (BitVec.ofNat 32 (b2n (slotValid s n) * 2 ^ 31 + b2n (slotActive s n) * 2 ^ 30 + b2n (slotFailed s n) * 2 ^ 29))

/-! ### Resets (R407, R455–R457) -/

/-- What every reset keeps beside the always-on domain: the model's own fields, the flash and the fuses. -/
def resetKeep (s : State) : State :=
  { State.reset with pending := s.pending, freeCtr := s.freeCtr, out := s.out,
                     boot := { slots := s.boot.slots, flags := s.boot.flags, floor := s.boot.floor } }
/-- A power-on reset: the device is held, the always-on content is discarded (R455). -/
def powerOnReset (s : State) : State := resetKeep s
/-- A warm reset: the always-on domain is kept (R407, R187), as are the fault counts and retirements since power-on (R440, R448). -/
def warmReset (s : State) (cause : Nat) : State :=
  let r := resetKeep s
  let keep := fun (r : State) (a : Nat) => rset r a (rget s a)
  let b := s.boot
  let tres := if b.trial then 3 else if rbit s 0x440004 31 then 1 else 0
  let r : State := { r with
    boot := { r.boot with held := false, wrong := b.wrong, bist := b.bist, sealOff := b.sealOff },
    clk := { r.clk with used := s.clk.used, uses := s.clk.uses },
    glc := { r.glc with dram := s.glc.dram, stored := s.glc.stored, storedT := s.glc.storedT, reuse := decide (s.glc.stored ≠ 0),
                        warm := decide (s.glc.stored ≠ 0), undefGen := s.glc.undefGen } }
  let r := forN 2 r (fun r x => forN 4 r (fun r k => keep r (synA x + 0x10 + 4 * k)))
  let r := forN 16 r (fun r c => rput (forN 3 r (fun r i => keep r (0x460104 + 0x10 * c + 4 * i))) (0x460100 + 0x10 * c) 12 8
    (rfld s (0x460100 + 0x10 * c) 12 8))
  let r := forN 4 r (fun r k => rput r (0x460030 + 4 * k) 16 16 (rfld s (0x460030 + 4 * k) 16 16))
  let r := rput r 0x480000 30 2 (rfld s 0x480000 30 2)
  let r := rset (rset r 0x480010 (rget s 0x480010)) 0x440010 (BitVec.ofNat 32 (tres * 2 ^ 30))
  let r := rinc (rset r 0x440004 (rget s 0x440004)) 0x440004 16 8
  rput r 0x440000 20 3 cause

/-- POWER_GOOD: step 1 of R407; the bank supplies are sensed (R451). -/
def powerGood (s : State) : State :=
  if !s.boot.held ∨ s.boot.trip then s
  else rset (onBoot s (fun b => { b with held := false })) 0x480010 (Config.bankSense.zeroExtend 32)

/-- Registers whose reset value the fuses give (R15, R406). -/
def loadFuses (s : State) : State :=
  let s := rput s 0x308000 8 8 Config.fuseRev.toNat
  let s := forN 2 s (fun s p => rset64 s (netA p + 8) (Config.fuseMac p |>.zeroExtend 64))
  let s := forN 1088 s (fun s k =>
    if Config.fuseGood (k / 68) (k % 68) then rsetBit s (celGoodA k) (k % 68 % 32) else setSlotState s k 5)
  let s := forN 128 s (fun s k => rput s (cisStatA k) 24 3 (min 4 (Config.fuseSpareCols k).toNat))
  let s := rset s 0x440008 (BitVec.ofNat 32 (b2n Config.fuseCfkv * 2 ^ 31 + b2n Config.fuseNetboot * 2 ^ 30 + Config.fuseDbg.toNat * 2 ^ 28
    + epochFloor s))
  let s := rset64 s 0x440060 Config.fuseSerial
  let s := rput s 0x480000 28 2 (b2n Config.fuseGradeE)
  rset s 0x480008 (BitVec.ofNat 32 (if Config.fuseGradeE then 120 * 2 ^ 24 + 105 else 115 * 2 ^ 24 + 100))

/-- Stage 1 sets to work (R407 step 8): the hop off the safe clock (at the earliest BTC, to 48 kHz with no pull: DESIGN CHOICE, log entry
72), clearing (its clusters tick ×1 until an image assigns a domain: DESIGN CHOICE, log entry 72), the watchdogs, the boot values of the
network (R15), CEIL and Glacier training (R189). -/
def stageOne (s : State) : State :=
  let s := hopSchedule s (s.btc.toNat + 64) false 0 .boot 0 0
  let s := forN 16 s (fun s c => powerUp s c 0)
  let s := forN 2 s (fun s p => rset s (netA p + 0x24) (Config.bootEgr p ++ Config.bootIng p))
  let s := rset64 s 0x340510 Config.bootMoff
  let s := forN 4 s (fun s k => rput s (0x460030 + 4 * k) 0 16 100)
  let s := rput (onBoot s (fun b => { b with bist := true })) 0x160004 0 3 6
  if glcChans = 0 then s else setGlcState s 2

/-- Steps 2 to 8 of R407: the crystal is stable, the fuses are loaded, stage 0 chooses a slot (R416) and starts the hash engine, or
recovery (R422): stage 0 goes on, so its region stays readable, no firmware runs, and the values firmware sets at boot keep 0 (DESIGN
CHOICE, log entry 72). A trial request whose slot has failed reads failed (R419). `t0`, `t1`: times of the
milestones. -/
def crystalStable (s : State) (t0 t1 : Nat) : State :=
  if s.boot.held ∨ botMode s ≠ 0 ∨ rbit s 0x440000 27 then s else
  let s := rput (rput (loadFuses s) 0x440070 0 16 t0) 0x440074 0 16 t1
  let both := slotActive s 0 && slotActive s 1
  let choice := chooseSlot s
  let asked := rbit s 0x440004 31
  let s := forN 2 (rputBit s 0x440004 31 false) showSlot
  let s := if both then botEv s 4 else s
  let s := if asked && !(match choice with | some x => x.2 | none => false) then rput s 0x440010 30 2 3 else s
  match choice with
  | some (n, trial) =>
    let s := rsetBit (rsetBit s 0x440000 28) 0x440000 27
    let s := rput (rput (rputBit s 0x440000 23 trial) 0x440000 24 1 n) 0x440000 30 2 1
    stageOne (onBoot s (fun b => { b with hash := true, trial := trial }))
  | none =>
    let s := crcMode (rsetBit (rput s 0x440000 30 2 3) 0x308000 0) 3
    forN 16 s (fun s c => powerUp s c 0)

/-- The hash engine passes the slot (R407 step 9, R408, R412). -/
def verifyPass (s : State) (t : Nat) : State :=
  if !s.boot.hash then s else
  let e := shEpoch (slotRaw s (botRuns s))
  let lo := max (epochFloor s) (e - 16)
  let seals := if s.boot.sealOff then [] else (List.range (e - lo)).map (fun i => lo + i) ++ [e]
  let s := onBoot s (fun b => { b with hash := false, seals := seals })
  let s := rputBit (rput (rsetBit s 0x440000 29) 0x440000 30 2 2) 0x440000 28 false
  botEv (ckoGateAll (rput s 0x440078 0 16 t) 0 false) 0

/-- The hash engine fails the slot: its FAIL bit and a warm reset (R410). -/
def verifyFail (s : State) : State :=
  if s.boot.hash then warmReset (rsetBit s 0x440004 (29 - botRuns s)) 3 else s

/-- A trial that reaches READY passes: the flags flip, the floor rises (R419). -/
def trialPass (s : State) : State :=
  if !s.boot.trial then s else
  let n := botRuns s
  let s := flagAppend (flagAppend s n 1) (1 - n) 2
  let b := slotRaw s n
  let up := min 64 (shEpoch b)
  let s := if shRaise b ∧ up > epochFloor s then
      let s := onBoot s (fun b => { b with floor := up })
      botEv (rput s 0x440008 0 7 up) 3
    else s
  let s := rput (onBoot s (fun b => { b with trial := false })) 0x440010 30 2 2
  botEv (forN 2 s showSlot) 2

/-- Step 10 of R407: READY; the network bootstrap opens AG4 (R301). -/
def bootReady (s : State) (t : Nat) : State :=
  if botMode s < 2 ∨ botReady s then s else
  let s := trialPass (rput (rsetBit s 0x440000 26) 0x44007C 0 16 t)
  if botMode s = 2 ∧ Config.fuseNetboot ∧ Config.fuseCfkv then
    rput (setNs s 4 { key := kBoot, prefixLen := 0 }) (nsA 4) 0 32 (2 ^ 30 + 3 * 2 ^ 26 + 49740)
  else s

/-- A brown-out (R456): VDD alone sets BOR. -/
def brownOut (s : State) (aon : Bool) : State :=
  let s := powerOnReset s
  if aon then s else rsetBit s 0x480000 31
/-- A thermal trip holds the device in power-on reset with THERM_N asserted (R470). -/
def thermalTrip (s : State) : State := rsetBit (onBoot (powerOnReset s) (fun b => { b with trip := true })) 0x480000 27
/-- Every sensor is below 100 °C: TRIP is set, boot follows (R470). -/
def tripRelease (s : State) : State :=
  if !s.boot.trip then s
  else rset (rsetBit (rputBit (onBoot s (fun b => { b with trip := false, held := false })) 0x480000 27 false) 0x480000 30) 0x480010
    (Config.bankSense.zeroExtend 32)

/-! ### Updates (R417–R421) -/

/-- An FW_UPDATE ends with a failure at a step (R418, R420). -/
def fwFail (s : State) (o : CmdOp) (step detail : Nat) : State :=
  let s := rput (rputBit (onBoot s (fun b => { b with upd := [] })) 0x440010 28 false) 0x440010 24 4 step
  botEv (opEnd s o 2 detail []) 1

/-- The DETAIL of step 2's checks; 0: the package is good (R417, R418, R420, R422). -/
def fwCheck (s : State) (len : Nat) (p : List Byte) : Nat :=
  let plen := leAt p 8 4
  let pay := slice p 160 plen
  let rec_ := botMode s == 3
  if p.length ≠ len ∨ len ≠ plen + 256 ∨ leAt p 0 4 ≠ 0x50574657 ∨ leAt p 4 2 ≠ 1 ∨ leAt p 6 2 ≠ 0 ∨ leAt p 0xC 4 ≠ 0
      ∨ leAt p 0x81 31 ≠ 0 ∨ !headerOk pay ∨ shLen pay ≠ plen ∨ shSeq pay ≠ leAt p 0x10 8 ∨ shEpoch pay ≠ leAt p 0x18 8 then 1
  else if sha384 (slice p 0x20 97) ≠ Config.fuseVkh then 2
  else if !ecdsaP384 (slice p 0x20 97) (p.take (160 + plen)) (slice p (160 + plen) 96) then 3
  else if shEpoch pay < epochFloor s then 4
  else if !rec_ ∧ shSeq pay ≤ shSeq (slotRaw s (botRuns s)) then 5
  else 0

/-- The target of an update: the slot that is not running; slot A in recovery (R418, R422). -/
def fwTarget (s : State) : Nat := if botMode s = 3 then 0 else 1 - botRuns s

/-- FW_UPDATE, steps 1 to 3 of R418; none: the package could not be read. -/
def fwUpdate (s : State) (a h : Nat) (pkg : Option (List Byte)) : State :=
  match opOf s a h 0x70 with
  | none => s
  | some o =>
    if o.started then s else
    let s := opStart (rsetBit s 0x440010 28) o
    match pkg with
    | none => fwFail s o 1 7
    | some p =>
      let d := fwCheck s (leAt o.params 8 4) p
      if d ≠ 0 then fwFail s o 2 d else
      let s := showSlot (flagAppend s (fwTarget s) 2) (fwTarget s)
      rput (rputBit (onBoot s (fun b => { b with upd := slice p 160 (leAt p 8 4) })) 0x440010 29 false) 0x440010 24 4 4

/-- Steps 4 to 6 of R418: the flash work ends well, or not. In recovery the slot is set active and a warm reset is due (R422), whose
RCAUSE the manual does not give. -/
def fwDone (s : State) (ok : Bool) : State :=
  match opFind s (fun o => o.opc == 0x70 && o.started) with
  | none => s
  | some o =>
    if s.boot.upd.isEmpty then s else
    let n := fwTarget s
    let pay := s.boot.upd
    if !ok then fwFail (showSlot (onBoot s (fun b => { b with slots := mset none b.slots n (some []) })) n) o 4 6 else
    let raw := pay ++ hmacSha256 (kSlot (shEpoch pay)) pay
    let s := onBoot s (fun b => { b with slots := mset none b.slots n (some raw), upd := [] })
    let s := rput (rputBit (rsetBit (rputBit s 0x440004 (29 - n) false) 0x440010 29) 0x440010 28 false) 0x440010 24 4 6
    let s := if botMode s = 3 then
        onBoot (flagAppend s n 1) (fun b => { b with due := some (Config.freeNat s.freeCtr % 8) })
      else s
    botEv (opEnd (showSlot s n) o 0 0 (leBytes 1 n ++ [0, 0, 0] ++ leBytes 8 (shSeq pay))) 1

/-- FW_TRIAL: the request for the next boot; the warm reset is due (R419). -/
def fwTrial (s : State) (a h : Nat) : State :=
  match opOf s a h 0x71 with
  | none => s
  | some o =>
    let n := 1 - botRuns s
    let s := rput (rsetBit (rput s 0x440004 30 1 n) 0x440004 31) 0x440010 30 2 1
    opEnd (onBoot s (fun b => { b with due := some 2 })) o 0 0 []

/-- DEV_RESET: the warm reset is due (R302). -/
def devReset (s : State) (a h : Nat) : State :=
  match opOf s a h 0x7F with
  | none => s
  | some o => opEnd (onBoot s (fun b => { b with due := some 1 })) o 0 0 []

/-- The warm reset that is due happens. -/
def warmDue (s : State) : State :=
  match s.boot.due with
  | none => s
  | some c => warmReset s c

/-! ### Debug access (R423) -/

/-- DBG_CHALLENGE: 16 random bytes. -/
def dbgChallenge (s : State) (a h : Nat) : State :=
  match opOf s a h 0x72 with
  | none => s
  | some o =>
    let c := slice (Config.freeBytes s.freeCtr) 0 16
    opEnd (onBoot (drawn s) (fun b => { b with chal := some c })) o 0 0 c

/-- DBG_UNLOCK: a correct response opens debug access and withdraws the sealing keys. -/
def dbgUnlock (s : State) (a h : Nat) : State :=
  match opOf s a h 0x73 with
  | none => s
  | some o =>
    let c := s.boot.chal.getD []
    let want := hmacSha256 kDbg (c ++ leBytes 8 Config.fuseSerial.toNat)
    let s := onBoot s (fun b => { b with chal := none })
    if slice o.params 0 32 = want then
      let s := crcMode (rsetBit (onBoot s (fun b => { b with seals := [], sealOff := true })) 0x440000 25) 2
      botEv (opEnd s o 0 0 []) 5
    else opEnd (onBoot s (fun b => { b with wrong := b.wrong + 1 })) o 2 1 []

/-! ### Control cores (R442) -/

/-- A watchdog expires: the core is reset, the commands it ran fail, the PTP servo holds over; a second expiry within 10 s is a warm
reset. `now`: ms; `ran`: the agents and handles of its commands; `ptp`: it ran the servo. -/
def watchdog (s : State) (k now : Nat) (ran : List (Nat × Nat)) (ptp : Bool) : State :=
  let s := rinc s (0x460030 + 4 * k) 16 16
  let again := match s.flt.lastExp with
    | some t => decide (now ≤ t + 10000)
    | none => false
  if again then warmReset s 4 else
  let info : FltInfo := { cls := 0xD, sev := 0, unit := 0x9000 + k, btc := tickEndBtc s 1 }
  let s := fltWork (fltDetect s info) { cls := 0xD, sev := 0, unit := 0x9000 + k }
  let s := { s with flt := { s.flt with lastExp := some now, restarting := mset false s.flt.restarting k true } }
  let s := forEach ran s (fun s x =>
    match opFind s (fun o => o.agent == x.1 && o.handle == x.2 && o.started) with
    | some o => opEnd s o 2 0xFF []
    | none => s)
  if ptp then servoLoss s else s
/-- The core's services run again (R442). -/
def coreRestarted (s : State) (k : Nat) : State :=
  if !mget false s.flt.restarting k then s else
  fltRecover { s with flt := { s.flt with restarting := mset false s.flt.restarting k false } }
    { cls := 0xD, sev := 0, unit := 0x9000 + k, btc := tickEndBtc s 1 }

/-! ### The commands -/

/-- FW_UPDATE (R418): the agent and handle of the command, the package as read, none where the host read fails. -/
def execFwUpdate (a : Fin 8) (h : BitVec 16) (pkg : Option (List Byte)) (st : State) : Res := .next (fwUpdate st a.val h.toNat pkg)
/-- FW_UPDATE_DONE (R418). -/
def execFwUpdateDone (ok : Bool) (st : State) : Res := .next (fwDone st ok)
/-- FW_TRIAL (R419). -/
def execFwTrial (a : Fin 8) (h : BitVec 16) (st : State) : Res := .next (fwTrial st a.val h.toNat)
/-- DBG_CHALLENGE (R423). -/
def execDbgChallenge (a : Fin 8) (h : BitVec 16) (st : State) : Res := .next (dbgChallenge st a.val h.toNat)
/-- DBG_CHALLENGE_EXPIRY (R423). -/
def execDbgChallengeExpiry (st : State) : Res := .next (onBoot st (fun b => { b with chal := none }))
/-- DBG_UNLOCK (R423). -/
def execDbgUnlock (a : Fin 8) (h : BitVec 16) (st : State) : Res := .next (dbgUnlock st a.val h.toNat)
/-- DEV_RESET (R302). -/
def execDevReset (a : Fin 8) (h : BitVec 16) (st : State) : Res := .next (devReset st a.val h.toNat)
/-- THERMAL_TRIP (R470). -/
def execThermalTrip (st : State) : Res := .next (thermalTrip st)
/-- THERMAL_TRIP_RELEASE (R470). -/
def execThermalTripRelease (st : State) : Res := .next (tripRelease st)
/-- POWER_GOOD (R407). -/
def execPowerGood (st : State) : Res := .next (powerGood st)
/-- POWER_ON_RESET (R455). -/
def execPowerOnReset (st : State) : Res := .next (powerOnReset st)
/-- BROWN_OUT (R456): VDDAON, or VDD alone. -/
def execBrownOut (aon : Bool) (st : State) : Res := .next (brownOut st aon)
/-- WARM_RESET (R407): the one a command has made due. -/
def execWarmReset (st : State) : Res := .next (warmDue st)
/-- VERIFICATION_PASS (R407), with its time in BOT_TIME. -/
def execVerificationPass (t : BitVec 16) (st : State) : Res := .next (verifyPass st t.toNat)
/-- VERIFICATION_FAIL (R410). -/
def execVerificationFail (st : State) : Res := .next (verifyFail st)
/-- BOOT_READY (R407). -/
def execBootReady (t : BitVec 16) (st : State) : Res := .next (bootReady st t.toNat)
/-- CRYSTAL_STABLE (R407). -/
def execCrystalStable (t0 t1 : BitVec 16) (st : State) : Res := .next (crystalStable st t0.toNat t1.toNat)
/-- WATCHDOG_EXPIRY (R442). -/
def execWatchdogExpiry (k : Fin 4) (now : Nat) (ran : List (Nat × Nat)) (ptp : Bool) (st : State) : Res :=
  .next (watchdog st k.val now ran ptp)
/-- CORE_RESTART_DONE (R442). -/
def execCoreRestartDone (k : Fin 4) (st : State) : Res := .next (coreRestarted st k.val)

end Sys2Proof.Machine
end

