-- ==== Sys2Proof/Machine/EvtCmd.lean ====
section
/-! DEFINITION. The meanings of the event controller's commands (ch. 14), of meters and histogram engines (ch. 18), and of the
cistern registers' writes (ch. 11). -/

namespace Sys2Proof.Machine

/-- A synchronised level change on an event pin, with the transitions counted at the pin (R319). -/
def pinChange (s : State) (p : Nat) (level : Bool) (edges : Nat) : State :=
  let a := 0x320100 + 4 * p
  let was := rbit s a 16
  let s := rput (rputBit s a 16 level) a 0 8 (rfld s a 0 8 + edges)
  if was = level then s else evSignalLevel s (64 + p) level

/-- A field of EVC_SRC is written: the others keep their values, STORM is not cleared. -/
def evField (s : State) (n lo w v : Nat) : State :=
  evSrcWrite s n (fput (rget s (evSrcA n) &&& 0xBFFFFFFF) lo w v)

/-- The storm limiter's window ends: every delivery count restarts (R318). -/
def stormWindow (s : State) : State :=
  forEach (s.ctl.filterMap (fun e => if 0x321800 ≤ e.1 ∧ e.1 < 0x322000 then some e.1 else none)) s
    (fun s a => rput s a 16 16 0)

/-- RMS of a snapshot: √ms as unsigned Q8.24, rounded half-even (R388); `ms` in units of 2^-128. -/
def mtrRms (ms : Nat) : Nat :=
  let r := isqrt 40 (ms / 2 ^ 80)
  let h := (2 * r + 1) * (2 * r + 1) * 2 ^ 78
  let v := if ms > h ∨ (ms = h ∧ r % 2 = 1) then r + 1 else r
  min v 0xFFFFFFFF

/-- A snapshot of every meter at a base boundary of BTC `b`, and the engines that freeze with it; a GO written too late for this boundary
stays pending (R388, R390, R395). -/
def mtrSnapshot (s : State) (b : W64) : State :=
  let go := fun (m : Meter) =>
    { m with snap := { pkmax := if m.n = 0 then 0 else m.pkmax, pkmin := if m.n = 0 then 0 else m.pkmin, rms := mtrRms m.ms,
                       n := m.n, ovr := m.ovr },
             pkmax := 0, pkmin := 0, n := 0, ovr := 0 }
  let hits := s.mtr.mtr.filterMap (fun e =>
    let thr := nbits e.2.att.toNat 40 16
    let pk := if e.2.n = 0 then 0 else max e.2.pkmax.natAbs e.2.pkmin.natAbs
    if e.2.att.getLsbD 63 ∧ thr ≠ 0 ∧ pk ≥ thr * 2 ^ 52 then some e.1 else none)
  let ks := s.mtr.mtr.filterMap (fun e => if e.2.att.getLsbD 63 then some e.1 else none)
  let s := { s with mtr := { s.mtr with mtr := ks.foldl (fun m k => mset ({} : Meter) m k (go (mget ({} : Meter) m k))) s.mtr.mtr, sbtc := b } }
  let s := rputBit (rsetBit s 0x3E0000 29) 0x3E0000 30 (rbit s 0x3E0000 30 && s.mtr.late)
  let s := forEach hits s (fun s k => rsetBit s (0x3E0200 + 4 * (k / 32)) (k % 32))
  let s := if hits.isEmpty then s else evRaise s 163
  let es := s.mtr.hist.filterMap (fun e => if e.2.att.getLsbD 63 && e.2.att.getLsbD 57 && !e.2.frozen then some e.1 else none)
  forEach es s (fun s k => histFreeze s k (fun h => { h with auto := true }))

/-- A write of MTR_SNAP.GO, before or after T − 65 of the coming base boundary (R388). -/
def mtrGo (s : State) (late : Bool) : State :=
  if rbit s 0x3E0000 30 then s else rsetBit { s with mtr := { s.mtr with late := late } } 0x3E0000 30

/-- A write of MTR_IDX in an access context (R389). -/
def mtrIdx (s : State) (ctx m : Nat) : State :=
  { s with mtr := { s.mtr with view := mset {} s.mtr.view ctx { meter := m, fig := (mget {} s.mtr.mtr m).snap, sbtc := s.mtr.sbtc } } }

/-- The engine HIS_IDX selects. -/
def hisSel (s : State) : Nat := rfld s 0x400000 0 8
def hisPut (s : State) (k : Nat) (h : Hist) : State := { s with mtr := { s.mtr with hist := mset {} s.mtr.hist k h } }
/-- HIS_CTL.CLR (R395). -/
def hisClr (s : State) : State :=
  let k := hisSel s
  let h := mget {} s.mtr.hist k
  hisPut s k { att := h.att, fbtc := h.fbtc }
/-- HIS_CTL.FRZ (R395). -/
def hisFrz (s : State) : State :=
  let k := hisSel s
  if (mget {} s.mtr.hist k).frozen then s else histFreeze s k id
/-- HIS_CTL.RUN (R395). -/
def hisRun (s : State) : State :=
  let k := hisSel s
  hisPut s k { mget {} s.mtr.hist k with frozen := false }

/-- EVENT_PIN_CHANGE (R319). -/
def execEventPinChange (p : Fin 16) (level : Bool) (edges : Nat) (st : State) : Res := .next (pinChange st p.val level edges)
/-- EVC_CLAIM_READ (R311): the data of the read is put out. -/
def execEvcClaimRead (a : Fin 8) (st : State) : Res :=
  let r := evClaim st a.val
  .next (emit r.2 (.regData (BitVec.ofNat 32 r.1)))
/-- EVC_EOI (R313). -/
def execEvcEoi (a : Fin 8) (src : BitVec 10) (st : State) : Res := .next (evEoi st a.val src.toNat)
/-- EVC_RAISE (R320). -/
def execEvcRaise (src : BitVec 10) (st : State) : Res :=
  .next (if 448 ≤ src.toNat ∧ src.toNat ≤ 511 then evRaise st src.toNat else st)
/-- EVC_SRC_EN_WRITE (R317). -/
def execEvcSrcEnWrite (n : Fin 512) (en : Bool) (st : State) : Res := .next (evField st n.val 31 1 (b2n en))
/-- EVC_SRC_MASK_WRITE (R315). -/
def execEvcSrcMaskWrite (n : Fin 512) (mask : BitVec 8) (st : State) : Res := .next (evField st n.val 16 8 mask.toNat)
/-- EVC_SRC_SENSE_WRITE (R306). -/
def execEvcSrcSenseWrite (n : Fin 512) (sense : Fin 8) (st : State) : Res := .next (evField st n.val 0 3 sense.val)
/-- EVC_STORM_CLEAR (R318). -/
def execEvcStormClear (n : Fin 512) (st : State) : Res := .next (evField st n.val 30 1 1)
/-- EVC_CFG_SPLIT_WRITE (R308): running groups are recomputed. -/
def execEvcCfgSplitWrite (split : Fin 8) (st : State) : Res := .next (evSettle (rput st 0x320000 0 3 split.val))
/-- STORM_WINDOW (R318). -/
def execStormWindow (st : State) : Res := .next (stormWindow st)
/-- EVC_PIN_CLR (R321). -/
def execEvcPinClr (p : Fin 16) (st : State) : Res := .next (rput st (0x320100 + 4 * p.val) 0 8 0)
/-- MTR_SNAP_GO (R388). -/
def execMtrSnapGo (late : Bool) (st : State) : Res := .next (mtrGo st late)
/-- MTR_IDX_WRITE (R389). -/
def execMtrIdxWrite (ctx : Fin 9) (m : Fin 4096) (st : State) : Res := .next (mtrIdx st ctx.val m.val)
/-- HIS_CLR (R395). -/
def execHisClr (st : State) : Res := .next (hisClr st)
/-- HIS_FRZ (R395). -/
def execHisFrz (st : State) : Res := .next (hisFrz st)
/-- HIS_RUN (R395). -/
def execHisRun (st : State) : Res := .next (hisRun st)
/-- CIS_OWNER_WRITE by firmware or an agent, before or after T − 65 of the coming boundary (R246, R248). -/
def execCisOwnerWrite (firmware : Bool) (k : Fin 128) (v : W32) (late : Bool) (st : State) : Res :=
  .next (cisOwnerWrite st firmware k.val v late)
/-- CIS_EADDR_CLR (R257). -/
def execCisEaddrClr (k : Fin 128) (st : State) : Res := .next (rset st (cisEaddrA k.val) 0)

end Sys2Proof.Machine
end

