-- ==== Sys2Proof/Machine/Pump.lean ====
section
/-! DEFINITION. The pumps (ch. 12): channels, descriptors, bursts with conversion, completion, errors. -/

namespace Sys2Proof.Machine

def pmpA (n : Nat) : Nat := 0x1A0000 + 0x40 * n
def pumpOf (s : State) (n : Nat) : PumpCh := mget {} s.pump n
def setPump (s : State) (n : Nat) (p : PumpCh) : State := { s with pump := mset {} s.pump n p }
/-- PMP_CH_STAT.STATE (R259). -/
def pmpState (s : State) (n : Nat) : Nat := rfld s (pmpA n + 4) 29 3
def setPmpState (s : State) (n v : Nat) : State := rput s (pmpA n + 4) 29 3 v
def pmpHead (s : State) (n : Nat) : Nat := (rget64 s (pmpA n + 8)).toNat
def setPmpHead (s : State) (n v : Nat) : State := rset64 s (pmpA n + 8) (BitVec.ofNat 64 v)
/-- The T-port user of a channel: firmware's PM60–PM63 act as CTL, the others as PMP (R244, R258). -/
def pmpUser (n : Nat) : Nat := if n ≥ 60 then 5 else 4

/-- Fields of a descriptor (R261). -/
def dsSp (d : List Byte) (o : Nat) : Nat := leAt d o 8 / 2 ^ 60
def dsAddr (d : List Byte) (o : Nat) : Nat := leAt d o 8 % 2 ^ 60
def dsW (d : List Byte) (o : Nat) : Nat := leAt d o 4
def dsCount (d : List Byte) : Nat := nbits (dsW d 16) 0 24
def dsHcirc (d : List Byte) : Nat := nbits (dsW d 16) 24 5
def dsFstr (d : List Byte) : Int := sext 16 (nbits (dsW d 20) 16 16)
def dsIrq (d : List Byte) : Bool := nbit (dsW d 20) 12
def dsLand (d : List Byte) : Bool := nbit (dsW d 20) 11
def dsRnd (d : List Byte) : Bool := nbit (dsW d 20) 10
def dsSwp (d : List Byte) : Nat := nbits (dsW d 20) 8 2
def dsDfmt (d : List Byte) : Nat := nbits (dsW d 20) 4 4
def dsSfmt (d : List Byte) : Nat := nbits (dsW d 20) 0 4

/-- Bytes of a host format's element (R263). -/
def hostSize (f : Nat) : Nat := match f with | 8 => 9 | 9 => 16 | 10 => 2 | 11 => 4 | 12 => 4 | 13 => 4 | _ => 1
/-- Elements per fabric word (R263). -/
def perWord (f : Nat) : Nat := if f = 4 then 2 else 1
/-- A fabric sample format; a host sample format (R263). -/
def fabSample (f : Nat) : Bool := decide (1 ≤ f) && decide (f ≤ 4)
def hostSample (f : Nat) : Bool := decide (10 ≤ f) && decide (f ≤ 13)
def hostWordFmt (f : Nat) : Bool := f == 8 || f == 9

/-- The descriptor's spaces, formats, reserved bits and HCIRC are valid (R261, R263, R265, R267). -/
def dsValid (d : List Byte) : Bool :=
  let ss := dsSp d 0
  let dd := dsSp d 8
  let sf := dsSfmt d
  let df := dsDfmt d
  let h := dsHcirc d
  let hf := if ss = 0 then sf else df
  let ha := if ss = 0 then dsAddr d 0 else dsAddr d 8
  let host := ss == 0 || dd == 0
  let pair := fun (f g : Nat) => (f == 0 && hostWordFmt g) || (fabSample f && hostSample g)
  let combo := if ss = 0 ∧ dd = 1 then pair df sf else if ss = 1 ∧ dd = 0 then pair sf df
    else if ss = 1 ∧ dd = 1 then (sf == 0 && df == 0) || (fabSample sf && fabSample df) else false
  -- SWP and the start's alignment act on the host side alone; a fabric-to-fabric transfer has none
  combo && (ss != 1 || decide (dsAddr d 0 < 2 ^ 32)) && (dd != 1 || decide (dsAddr d 8 < 2 ^ 32))
    && nbits (dsW d 16) 29 3 == 0 && nbits (dsW d 20) 13 3 == 0 && nbits (dsW d 28) 0 21 == 0 && decide (dsCount d ≥ 1)
    && (h == 0 || (decide (6 ≤ h) && decide (h ≤ 30) && (!host || (hf != 8 && ha % hostSize hf == 0))))
    && (dsSwp d == 0 || !host || hostSample hf)

/-- An exact value: n × 2^-f, or not a number, or an infinity. -/
inductive Samp where
  | num (n : Int) (f : Nat)
  | nan
  | inf (neg : Bool)
  deriving DecidableEq, Repr

/-- The value a host element holds (R263, R268). -/
def hostValue (fmt : Nat) (bs : List Byte) : Samp :=
  let v := leNat bs
  match fmt with
  | 10 => .num (sext 16 v) 15
  | 11 => .num (sext 24 (v / 256)) 23
  | 12 => .num (sext 32 v) 31
  | _ =>
    let e := nbits v 23 8
    let m := nbits v 0 23
    let neg := nbit v 31
    if e = 255 then (if m = 0 then .inf neg else .nan) else
    let mag : Int := ((if e = 0 then m else (2 ^ 23 + m) * 2 ^ (e - 1) : Nat) : Int)
    .num (if neg then -mag else mag) 149

/-- Round a value to `t` fraction bits and saturate to `w` bits; and whether it clamped (R268). -/
def toFixed (x : Samp) (t w : Nat) (trunc : Bool) : Int × Bool :=
  match x with
  | .nan => (0, false)
  | .inf neg => (if neg then -(2 ^ (w - 1)) else 2 ^ (w - 1) - 1, true)
  | .num n f =>
    let r := if f ≤ t then n * 2 ^ (t - f) else if trunc then n / 2 ^ (f - t) else rneShift n (f - t)
    (sclamp w r, !sfits w r)

/-- binary32 bits of n × 2^-f, nearest, ties to even (R268). -/
def toF32 (n : Int) (f : Nat) : Nat :=
  if n = 0 then 0 else
  let mag := n.natAbs
  let l := Nat.log2 mag
  let m : Nat := if l ≤ 23 then mag * 2 ^ (23 - l) else (rneShift (mag : Int) (l - 23)).toNat
  let q := if m ≥ 2 ^ 24 then (m / 2, l + 1) else (m, l)
  (if n < 0 then 2 ^ 31 else 0) + (q.2 + 127 - f) * 2 ^ 23 + (q.1 - 2 ^ 23)

/-- A host element's bytes for a value (R268), and whether it clamped. -/
def hostBytes (fmt : Nat) (n : Int) (f : Nat) (trunc : Bool) : List Byte × Bool :=
  let conv := fun (t w : Nat) => toFixed (.num n f) t w trunc
  let bits := fun (w : Nat) (v : Int) => (v % (2 ^ w : Nat)).toNat
  match fmt with
  | 10 => let r := conv 15 16; (leBytes 2 (bits 16 r.1), r.2)
  | 11 => let r := conv 23 24; (leBytes 4 (bits 24 r.1 * 256), r.2)
  | 12 => let r := conv 31 32; (leBytes 4 (bits 32 r.1), r.2)
  | _ => (leBytes 4 (toF32 n f), false)

/-- Element `e` of a fabric format in a word: its value and fraction bits (R263). -/
def fabValue (fmt e : Nat) (w : Word) : Int × Nat :=
  match fmt with
  | 1 => (w.toInt, 64)
  | 2 => (w.hi.toInt, 32)
  | 3 => (w.lo.toInt, 32)
  | _ => ((if e % 2 = 0 then w.hi else w.lo).toInt, 32)

/-- Mask and word that an element of a fabric format writes (R263, R264), and whether it clamped. -/
def fabElem (fmt e : Nat) (x : Samp) (trunc : Bool) : Word × Word × Bool :=
  if fmt = 1 then
    let r := toFixed x 64 72 trunc
    (fullMask, BitVec.ofInt 72 r.1, r.2)
  else
    let r := toFixed x 32 36 trunc
    let h : Half := BitVec.ofInt 36 r.1
    if fmt = 2 ∨ (fmt = 4 ∧ e % 2 = 0) then (Word.pack (BitVec.allOnes 36) 0, Word.pack h 0, r.2)
    else (Word.pack 0 (BitVec.allOnes 36), Word.pack 0 h, r.2)

/-- Host address of transfer byte `o` (R265). -/
def hostAddr (h ha o : Nat) : Nat :=
  if h = 0 then ha + o else ha / 2 ^ h * 2 ^ h + (ha + o) % 2 ^ h
/-- Fabric address of element `e` (R264). -/
def fabAddr (d : List Byte) (base fmt e : Nat) : Nat := (((base : Int) + dsFstr d * (e / perWord fmt : Nat)) % (2 ^ 32 : Nat)).toNat

/-- The byte of an aligned lane that SWP puts at an address (R267). -/
def swpPartner (swp a : Nat) : Nat := a ^^^ swp

/-- Elements the next burst moves: up to 256 host bytes, or up to 32 fabric words where there is no host side (R260, as its example
counts). -/
def burstLen (d : List Byte) (left : Nat) : Nat :=
  min left (if dsSp d 0 = 0 then 256 / hostSize (dsSfmt d) else if dsSp d 8 = 0 then 256 / hostSize (dsDfmt d)
    else 32 * min (perWord (dsSfmt d)) (perWord (dsDfmt d)))

/-- The pieces of a run of host bytes from address `a` in a circular buffer of 2^h bytes: address and length (R265). -/
def wrapSegs (n h a len : Nat) : List (Nat × Nat) :=
  match n with
  | 0 => []
  | n + 1 =>
    if len = 0 then [] else
    let l := if h = 0 then len else min len (2 ^ h - a % 2 ^ h)
    (a, l) :: wrapSegs n h (a / 2 ^ h * 2 ^ h) (len - l)
/-- A host access rounded outward to whole beats: address and length (R266). -/
def beatsOf (x : Nat × Nat) : Nat × Nat := (x.1 / 8 * 8, (x.1 % 8 + x.2 + 7) / 8 * 8)

/-- Some word of the run of `n` words from `base` at the descriptor's stride lies at fabric address `a` (R264). -/
def fabHits (d : List Byte) (base n a : Nat) : Bool :=
  let f := dsFstr d
  let t := if f < 0 then (base + 2 ^ 32 - a) % 2 ^ 32 else (a + 2 ^ 32 - base) % 2 ^ 32
  if f = 0 then t == 0 else
  (List.range 129).any (fun j => let u := t + j * 2 ^ 32; u % f.natAbs == 0 && decide (u / f.natAbs < n))
/-- A destination word lies in the source range: its content is undefined (R273). -/
def fabOverlap (d : List Byte) (a : Nat) : Bool :=
  dsSp d 0 == 1 && fabHits d (dsAddr d 0) ((dsCount d + perWord (dsSfmt d) - 1) / perWord (dsSfmt d)) a

/-- A descriptor fetch at HEAD (R279). -/
def pmpFetch (s : State) (n : Nat) : State :=
  emit (setPump s n { pumpOf s n with fetch := true }) (.hostRead (pmpHead s n) 32)

/-- FLUSH: reads of a dropped channel are outstanding (R277). -/
def pmpFlush (s : State) (n : Nat) : Bool := rbit s (pmpA n + 4) 28

/-- The channel comes up at HEAD (R259). -/
def pmpStart (s : State) (n : Nat) : State :=
  pmpFetch (setPmpState (rput (setPump s n {}) (pmpA n + 4) 20 7 0) n 1) n

/-- PMP_CH_CTL.EN written 1 (R259, R277); it recovers a halted channel's fault when it starts again (R426). -/
def pmpEnable (s : State) (n : Nat) : State :=
  let s := rputBit (rsetBit s (pmpA n) 31) (pmpA n + 0x1C) 31 false
  if pmpState s n ≠ 0 then s else
  let s := fltRecover s { cls := 10, sev := 3, unit := 0x7000 + n, btc := tickEndBtc s 1 }
  if pmpFlush s n then setPump s n { pumpOf s n with enWait := true } else pmpStart s n

/-- PMP_CH_CTL.EN written 0: the channel drops; a fetch, read data or a flush read may be outstanding (R277). -/
def pmpDisable (s : State) (n : Nat) : State :=
  let s := rputBit s (pmpA n) 31 false
  if pmpState s n = 0 then setPump s n { pumpOf s n with enWait := false } else
  let p := pumpOf s n
  let fl := rbit s (pmpA n + 4) 25 && dsSp p.desc 8 == 0
  let out := p.fetch || decide (p.want > 0) || fl
  let s := setPump s n { fetch := p.fetch, want := p.want, fl := fl }
  let s := rput s (pmpA n + 4) 20 7 0
  let s := rputBit (setPmpState s n 0) (pmpA n + 4) 28 out
  drawn (rset s (pmpA n + 0x14) (BitVec.ofNat 32 (Config.freeNat s.freeCtr % 2 ^ 24)))

/-- An outstanding read of a dropped channel has ended (R277). -/
def pmpFlushed (s : State) (n : Nat) : State :=
  let w := (pumpOf s n).enWait
  let s := rputBit (setPump s n {}) (pmpA n + 4) 28 false
  if w then pmpStart s n else s

/-- The channel becomes stopped at a descriptor boundary (R277). -/
def pmpStopped (s : State) (n : Nat) : State := evRaise (setPmpState s n 4) n

/-- PMP_CH_CTL.STOP (R277). -/
def pmpStop (s : State) (n : Nat) : State :=
  match pmpState s n with
  | 1 => pmpStopped s n
  | 2 => setPmpState s n 3
  | _ => s

/-- PMP_CH_DB (R280). -/
def pmpDoorbell (s : State) (n : Nat) : State :=
  let st := pmpState s n
  if (pumpOf s n).fetch then (if st ≤ 3 then rsetBit s (pmpA n + 4) 26 else s)
  else if st = 1 then pmpFetch s n else s

/-- The status write-back of bytes 28–31 (R271, R275). -/
def pmpWriteBack (s : State) (n : Nat) (ok : Bool) (code : Nat) (late : Bool) : State :=
  let p := pumpOf s n
  let v := (if ok then 2 ^ 29 else 2 ^ 28) + code * 2 ^ 24 + b2n p.coll * 2 ^ 23 + b2n p.sat * 2 ^ 22 + b2n late * 2 ^ 21
  emit s (.hostWrite (pmpHead s n + 28) (leBytes 4 v))

/-- An error halts the channel (R275, R276): cause, address, write, fabric space, descriptor access, late. -/
def pmpHalt (s : State) (n cause addr : Nat) (wr fab dsc late : Bool) : State :=
  let a := pmpA n
  let s := if dsc then s else pmpWriteBack s n false cause late
  let s := rset s (a + 0x1C) (BitVec.ofNat 32 (2 ^ 31 + b2n wr * 2 ^ 30 + b2n fab * 2 ^ 28 + b2n dsc * 2 ^ 27 + cause * 2 ^ 20))
  let s := rset64 s (a + 0x20) (BitVec.ofNat 64 addr)
  let s := if late then rset (rsetBit s (a + 4) 27) (a + 0x14) 0 else s
  let s := rputBit (setPmpState (setPump s n {}) n 5) (a + 4) 25 false
  let s := evRaise s n
  fltDetect s { cls := 10, sev := 3, unit := 0x7000 + n, btc := tickEndBtc s 1, detail := nbits (rget s (a + 0x1C)).toNat 16 16 }

/-- Completion of a descriptor in order (R271); `lat`: its latency in ns (R393). -/
def pmpComplete (s : State) (n : Nat) (lat : Nat) : State :=
  let d := (pumpOf s n).desc
  let a := pmpA n
  let s := pmpWriteBack s n true 0 false
  let s := rset s (a + 0x18) (rget s (a + 0x18) + 1)
  let s := if dsIrq d then evRaise s n else s
  let s := histSample s 2 n lat
  let s := rputBit (setPmpHead (setPump s n {}) n (pmpHead s n + 32)) (a + 4) 25 false
  if pmpState s n = 3 then pmpStopped s n else pmpFetch s n

/-- A returned descriptor (R262, R278, R279, R280). -/
def pmpFetched (s : State) (n : Nat) (d : List Byte) : State :=
  let p := pumpOf s n
  let a := pmpA n
  if !p.fetch then s
  else if pmpFlush s n then pmpFlushed s n
  else
    let s := setPump s n { p with fetch := false, desc := [] }
    let st := pmpState s n
    if st = 3 then pmpStopped s n
    else if st ≠ 1 ∧ st ≠ 2 then s
    else if !nbit (dsW d 28) 31 then
      if rbit s (a + 4) 26 then pmpFetch (rputBit (setPmpState s n 1) (a + 4) 26 false) n else setPmpState s n 1
    else
      let s := rputBit (setPmpState s n 2) (a + 4) 26 false
      if nbit (dsW d 28) 30 then
        let links := rfld s (a + 4) 20 5 + 1
        let ok := dsSp d 0 == 0 && dsAddr d 0 % 32 == 0 && leAt d 8 20 == 0
        let s := rput s (a + 4) 20 5 (min links 17)
        if links > 16 then pmpHalt s n 6 (pmpHead s n) false false false false
        else if !ok then pmpHalt s n 5 (pmpHead s n) false false false false
        else pmpFetch (setPmpHead s n (dsAddr d 0)) n
      else
        let s := rput (setPump s n { desc := d.take 32 }) (a + 4) 20 5 0
        if dsValid d then rset s (a + 0x14) (BitVec.ofNat 32 (dsCount d))
        else pmpHalt s n 5 (pmpHead s n) false false false false

/-- The host reads of a burst of `cnt` elements from element `e`: whole 8-byte beats, split at every wrap (R265, R266). -/
def burstReads (d : List Byte) (e cnt : Nat) : List (Nat × Nat) :=
  let sz := hostSize (dsSfmt d)
  (wrapSegs 6 (dsHcirc d) (hostAddr (dsHcirc d) (dsAddr d 0) (e * sz)) (cnt * sz)).map beatsOf

/-- The channel has data to move: no fetch, no read data and no landing is awaited (R260). -/
def pmpReady (s : State) (n : Nat) : Bool :=
  let p := pumpOf s n
  let st := pmpState s n
  (st == 2 || st == 3) && !p.desc.isEmpty && !p.fetch && p.want == 0 && !rbit s (pmpA n + 4) 25
/-- The turn is the channel's: none that has data to move comes before it in the round (R260). -/
def pmpTurn (s : State) (n : Nat) : Bool :=
  ((List.range 64).map (fun i => (s.pumpLast + 1 + i) % 64)).find? (pmpReady s) == some n

/-- A burst in the channel's turn: its read is issued (R260, R266). Out of its turn a channel moves nothing. -/
def pmpBurst (s : State) (n : Nat) : State :=
  if !pmpTurn s n then s else
  let p := pumpOf s n
  let cnt := burstLen p.desc (dsCount p.desc - p.moved)
  let s := setPump { s with pumpLast := n } n { p with want := cnt }
  if dsSp p.desc 0 = 0 then emitAll s ((burstReads p.desc p.moved cnt).map (fun x => Out.hostRead x.1 x.2)) else s

/-- One access with BUSY retries (R270). -/
def accTry (n : Nat) (f : State → Meet → TRes) (s : State) (ms : List Meet) : TRes :=
  let r := f s (ms.headD .none)
  match n with
  | 0 => r
  | n + 1 => if r.busy then accTry n f r.st ms.tail else r

/-- A burst in progress: the state, facts of the accesses to come, the words read, elements done, the failing access. -/
structure Burst where
  st : State
  acc : List Access := []
  out : List Byte := []
  err : Option (Nat × Bool × Bool) := none
  done : Nat := 0

/-- A pump access: retries, COLL on a BUSY that remains, an error response ends the burst (R269, R270, R275). -/
def pmpAccess (b : Burst) (n addr : Nat) (wr last : Bool) (f : State → Ecc → Meet → TRes) : Burst × Word :=
  if b.err.isSome then (b, 0) else
  let x := b.acc.headD {}
  let r := accTry (rfld b.st (pmpA n) 24 3) (fun s m => f s x.ecc m) b.st x.meets
  let s := if r.busy then setPump (rinc r.st (pmpA n + 0x28) 0 16) n { pumpOf r.st n with coll := true } else r.st
  ({ b with st := s, acc := b.acc.tail, err := if r.err then some (addr, wr, last) else none }, r.data)

/-- A conversion clamped: SAT, and SATC counts; a NaN counts alone (R268). -/
def pmpSat (b : Burst) (n : Nat) (clamp : Bool) (x : Samp) : Burst :=
  if clamp then { b with st := setPump (rinc b.st (pmpA n + 0x28) 16 16) n { pumpOf b.st n with sat := true } }
  else if x = .nan then { b with st := rinc b.st (pmpA n + 0x28) 16 16 } else b

/-- The source element `e` of the descriptor: its exact value, or its word (R263, R267, R268). `bytes`: the burst's host beats,
from the beat that holds host byte `o0`. -/
def pmpSource (b : Burst) (n : Nat) (d : List Byte) (e : Nat) (bytes : List Byte) (o0 : Nat) : Burst × Samp × Word :=
  let sf := dsSfmt d
  if dsSp d 0 = 0 then
    let sz := hostSize sf
    let a0 := hostAddr (dsHcirc d) (dsAddr d 0) o0
    let bs := (List.range sz).map (fun j =>
      let i := a0 % 8 + (e * sz + j - o0)
      bytes.getD (swpPartner (dsSwp d) i) 0)
    (b, hostValue sf bs, BitVec.ofNat 72 (leNat (bs.take 9)))
  else
    let a := fabAddr d (dsAddr d 0) sf e
    let r := pmpAccess b n a false false (fun s ec m => fabRead s a ec m)
    let v := fabValue sf e r.2
    (r.1, .num v.1 v.2, r.2)

/-- One fabric write of the destination (R269); a word of the source range takes an undefined value (R273). -/
def pmpStore (b : Burst) (n : Nat) (d : List Byte) (e : Nat) (m w : Word) (last : Bool) : Burst :=
  let a := fabAddr d (dsAddr d 8) (dsDfmt d) e
  let o := fabOverlap d a && b.err.isNone
  let w := if o then (freeW b.st).1 else w
  let b := if o then { b with st := (freeW b.st).2 } else b
  (pmpAccess b n a true last (fun s ec mt => fabWrite s (pmpUser n) a m w ec mt)).1

/-- One element moves (R263, R264, R268): FIRN_P pairs are written as one word. -/
def pmpElem (n : Nat) (d bytes : List Byte) (o0 : Nat) (b : Burst) (e : Nat) : Burst :=
  if b.err.isSome then b else
  let cnt := dsCount d
  let sf := dsSfmt d
  let df := dsDfmt d
  let last := decide (e + 1 = cnt)
  if dsSp d 8 = 1 then
    if df = 4 ∧ e % 2 = 1 then { b with done := b.done + (if b.err.isSome then 0 else 1) } else
    let r := pmpSource b n d e bytes o0
    if df = 0 then
      let q := pmpStore r.1 n d e fullMask r.2.2 last
      { q with done := if q.err.isSome then q.done else q.done + 1 }
    else
      let x := fabElem df e r.2.1 (dsRnd d)
      let b1 := pmpSat r.1 n x.2.2 r.2.1
      let pair := decide (df = 4) && decide (e + 1 < cnt)
      let r2 := if pair then pmpSource b1 n d (e + 1) bytes o0 else (b1, .num 0 0, 0)
      let x2 := fabElem df (e + 1) r2.2.1 (dsRnd d)
      let b2 := if pair then pmpSat r2.1 n x2.2.2 r2.2.1 else r2.1
      let q := pmpStore b2 n d e (if pair then x.1 ||| x2.1 else x.1) (if pair then x.2.1 ||| x2.2.1 else x.2.1)
        (last || (pair && decide (e + 2 = cnt)))
      { q with done := if q.err.isSome then q.done else q.done + 1 }
  else
    let r := pmpSource b n d e bytes o0
    if r.1.err.isSome then r.1 else
    if sf = 0 then
      { r.1 with out := r.1.out ++ leBytes (hostSize df) r.2.2.toNat, done := r.1.done + 1 }
    else match r.2.1 with
      | .num v f =>
        let h := hostBytes df v f (dsRnd d)
        let b := pmpSat r.1 n h.2 (.num v f)
        { b with out := b.out ++ h.1, done := b.done + 1 }
      | _ => r.1

/-- A run of bytes from address `a0` after SWP; a lane's byte that the transfer does not have is undefined (R267). -/
def swapBytes (swp a0 : Nat) (bs : List Byte) (free : Word) : List Byte :=
  (List.range bs.length).map (fun i =>
    let p := swpPartner swp (a0 + i)
    if p < a0 then free.extractLsb' (8 * (p % 4)) 8
    else if p ≥ a0 + bs.length then free.extractLsb' (32 + 8 * (p % 4)) 8
    else bs.getD (p - a0) 0)

/-- The host writes of bytes at transfer offset `o0`, split at every wrap (R265, R266). -/
def burstWrites (d : List Byte) (o0 : Nat) (bs : List Byte) : List Out :=
  let segs := wrapSegs 6 (dsHcirc d) (hostAddr (dsHcirc d) (dsAddr d 8) o0) bs.length
  (segs.foldl (fun (r : List Byte × List Out) x => (r.1.drop x.2, r.2 ++ [Out.hostWrite x.1 (r.1.take x.2)])) (bs, [])).2

/-- What a burst writes to host memory: with SWP the bytes of a lane that the next burst fills up wait for it (R266, R267). -/
def pmpHostOut (s : State) (n : Nat) (d : List Byte) (o0 : Nat) (bs : List Byte) (more : Bool) : State :=
  let p := pumpOf s n
  let raw := p.held ++ bs
  let o := o0 - p.held.length
  let a := hostAddr (dsHcirc d) (dsAddr d 8) o
  let keep := if dsSwp d ≠ 0 ∧ more then min raw.length ((a + raw.length) % 4) else 0
  let out := raw.take (raw.length - keep)
  let free := freeW s
  let s := setPump (if dsSwp d ≠ 0 then free.2 else s) n { p with held := raw.drop (raw.length - keep) }
  emitAll s (burstWrites d o (if dsSwp d = 0 then out else swapBytes (dsSwp d) a out free.1))

/-- The last written beat of a host destination: its address (R272). -/
def lastBeat (d : List Byte) : Nat :=
  hostAddr (dsHcirc d) (dsAddr d 8) (dsCount d * hostSize (dsDfmt d) - 1) / 8 * 8

/-- Read data returns: the burst is converted and written, and the descriptor goes on, ends, waits for its landing, or fails
(R266–R276). -/
def pmpReadDone (s : State) (n : Nat) (bytes : List Byte) (acc : List Access) (lat : Nat) : State :=
  let p := pumpOf s n
  if p.want = 0 then s
  else if pmpFlush s n then pmpFlushed s n
  else
    let d := p.desc
    let e0 := p.moved
    let o0 := e0 * hostSize (if dsSp d 0 = 0 then dsSfmt d else dsDfmt d)
    let s := setPump s n { p with want := 0 }
    let b := (List.range p.want).foldl (fun b i => pmpElem n d bytes o0 b (e0 + i)) { st := s, acc := acc }
    let moved := e0 + b.done
    let s := if dsSp d 8 = 0 then pmpHostOut b.st n d o0 b.out (decide (moved < dsCount d) && b.err.isNone) else b.st
    let s := setPump s n { pumpOf s n with moved := moved }
    let s := rset s (pmpA n + 0x14) (BitVec.ofNat 32 (dsCount d - moved))
    match b.err with
    | some (a, wr, last) => pmpHalt s n 4 a wr true false last
    | none =>
      if moved < dsCount d then s
      else if dsLand d then
        let s := rsetBit s (pmpA n + 4) 25
        if dsSp d 8 = 0 then emit s (.hostRead (lastBeat d) 8) else s
      else pmpComplete s n lat

/-- A read of host memory that fails (causes 1 to 3), or an error response of fabric space that comes after the access (cause 4), the
last write's among them (R274–R276). EADDR is the address of the read request: that of its first beat (DEDUCED, log entry 76); a cause
that the access awaited cannot have changes nothing. -/
def pmpError (s : State) (n cause part : Nat) : State :=
  let p := pumpOf s n
  let d := p.desc
  let host := decide (cause ≤ 3)
  if pmpFlush s n then (if host then pmpFlushed s n else s)
  else if pmpState s n = 0 ∨ pmpState s n ≥ 4 then s
  else if p.fetch then (if host then pmpHalt s n cause (pmpHead s n) false false true false else s)
  else if p.want > 0 then
    if dsSp d 0 = 0 then
      let rs := burstReads d p.moved p.want
      if host then pmpHalt s n cause (rs.getD part (rs.headD (0, 0))).1 false false false false else s
    else if host then s else pmpHalt s n cause (fabAddr d (dsAddr d 0) (dsSfmt d) p.moved) false true false false
  else if rbit s (pmpA n + 4) 25 then
    if dsSp d 8 = 0 then (if host then pmpHalt s n cause (lastBeat d) false false false false else s)
    else if host then s else pmpHalt s n cause (fabAddr d (dsAddr d 8) (dsDfmt d) (dsCount d - 1)) true true false true
  else s

/-- An agent's write reaches a channel's registers: firmware's channels ignore agents (R258). -/
def pmpMay (firmware : Bool) (n : Nat) : Bool := firmware || decide (n < 60)

/-- PUMP_ENABLE (R259). -/
def execPumpEnable (firmware : Bool) (n : Fin 64) (st : State) : Res := .next (if pmpMay firmware n.val then pmpEnable st n.val else st)
/-- PUMP_DISABLE (R277). -/
def execPumpDisable (firmware : Bool) (n : Fin 64) (st : State) : Res := .next (if pmpMay firmware n.val then pmpDisable st n.val else st)
/-- PUMP_STOP (R277). -/
def execPumpStop (firmware : Bool) (n : Fin 64) (st : State) : Res := .next (if pmpMay firmware n.val then pmpStop st n.val else st)
/-- PUMP_DOORBELL (R280). -/
def execPumpDoorbell (firmware : Bool) (n : Fin 64) (st : State) : Res :=
  .next (if pmpMay firmware n.val then pmpDoorbell st n.val else st)
/-- PUMP_POLL (R280). -/
def execPumpPoll (n : Fin 64) (st : State) : Res :=
  .next (if pmpState st n.val = 1 ∧ rbit st (pmpA n.val) 29 ∧ !(pumpOf st n.val).fetch then pmpFetch st n.val else st)
/-- PUMP_DESCRIPTOR_FETCHED (R279). -/
def execPumpDescriptorFetched (n : Fin 64) (d : List Byte) (st : State) : Res := .next (pmpFetched st n.val (slice d 0 32))
/-- PUMP_BURST (R260). -/
def execPumpBurst (n : Fin 64) (st : State) : Res := .next (pmpBurst st n.val)
/-- PUMP_READ_COMPLETION (R266, R268): the host beats, the facts of the fabric accesses, the descriptor's latency in ns. -/
def execPumpReadCompletion (n : Fin 64) (bytes : List Byte) (acc : List Access) (lat : Nat) (st : State) : Res :=
  .next (pmpReadDone st n.val bytes acc lat)
/-- PUMP_BUS_ERROR (R275): an Unsupported Request or Completer Abort, a poisoned completion, or an error response. -/
def execPumpBusError (r : BurstRead) (cause : Fin 3) (st : State) : Res :=
  .next (pmpError st r.n.val (cause.val + 2) r.part.val)
/-- PUMP_COMPLETION_TIMEOUT (R274). -/
def execPumpCompletionTimeout (r : BurstRead) (st : State) : Res := .next (pmpError st r.n.val 1 r.part.val)
/-- PUMP_LANDING (R272): the landing is confirmed; the flush read of a dropped channel returns (R277). -/
def execPumpLanding (n : Fin 64) (lat : Nat) (st : State) : Res :=
  .next (if pmpFlush st n.val then (if (pumpOf st n.val).fl then pmpFlushed st n.val else st)
    else if rbit st (pmpA n.val + 4) 25 then pmpComplete st n.val lat else st)

end Sys2Proof.Machine
end

