-- ==== Sys2Proof/Machine/Loader.lean ====
section
/-! DEFINITION. How the loader measures and checks a program page (R55, R76, R99–R106, R114). A reject is a code of R218 with a
program address. -/

namespace Sys2Proof.Machine

/-- A cistern access of the walk: issue cycle, write, half-word store (R202, R250). -/
structure CisAcc where
  u : Nat
  wr : Bool
  half : Bool
  deriving DecidableEq, Repr

/-- A send or a read of an exchange lane: issue cycle, lane, in the reduction form, program address (R125, R126). -/
structure LaneUse where
  u : Nat
  lane : Nat
  red : Bool
  pc : Nat
  deriving DecidableEq, Repr

/-- A loop of the walk: first and last address of the body, passes left, LP (R103). -/
structure WalkLoop where
  first : Nat
  last : Nat
  left : Nat
  lp : Nat
  deriving DecidableEq, Repr

/-- What the loader's walk of a sample program yields (R103, R104). Lists are newest first. -/
structure Walk where
  pc : Nat := 0
  /-- Issue cycle of the next instruction, and the length so far. -/
  t : Nat := 0
  len : Nat := 0
  loops : List WalkLoop := []
  /-- The first breach of each reject value, in issue order: code, address. -/
  fails : List (Nat × Nat) := []
  reached : SMap Bool := []
  /-- One more than the cycle from which a part's first write shows: to every reader, and to an accumulating MAC. -/
  vis : SMap Nat := []
  visF : SMap Nat := []
  /-- Parts that results in flight will reach, with the cycle (R76). -/
  lands : List (Nat × Nat) := []
  /-- Cistern loads: D register, number of the access, issue cycle. -/
  loads : List (Nat × Nat × Nat) := []
  /-- State ports the last instruction holds in the next cycle (R102). -/
  held : Nat := 0
  cis : List CisAcc := []
  sends : List LaneUse := []
  reads : List LaneUse := []
  /-- Reads of a register that a cistern load wrote, 5 cycles after the load or later: number of the access, cycles since,
  address (R101). -/
  late : List (Nat × Nat × Nat) := []
  /-- Dithered cistern stores, by number of the access (R66). -/
  dith : List Nat := []
  /-- Output operations in order: 0 cistern store, 1 lane send, 2 XRED (R238). -/
  outs : List Nat := []
  deriving DecidableEq, Repr

/-- Record the first breach of a reject value. -/
def Walk.fail (w : Walk) (code addr : Nat) : Walk :=
  if w.fails.any (fun f => f.1 == code) then w else { w with fails := w.fails ++ [(code, addr)] }
/-- Record a breach where the condition holds. -/
def Walk.failIf (w : Walk) (b : Bool) (code : Nat) : Walk := if b then w.fail code w.pc else w

/-- The separately written parts of a register, numbered. -/
def partKeys (p : Part) : List Nat := ((List.range 8).filter (fun i => nbit p.mask i)).map (fun i => p.reg * 8 + i)
/-- Every part is visible at cycle `t`. -/
def partsSeen (m : SMap Nat) (t : Nat) (ps : List Part) : Bool :=
  ps.all (fun p => (partKeys p).all (fun k => decide (mget 0 m k ≠ 0) && decide (mget 0 m k ≤ t + 1)))
/-- The earlier of two visibilities. -/
def visMin (m : SMap Nat) (k v : Nat) : SMap Nat := mset 0 m k (if mget 0 m k = 0 then v + 1 else min (mget 0 m k) (v + 1))

/-- R55 and R101: the reads of an instruction. -/
def Walk.doReads (w : Walk) (ops : List CellOp) : Walk :=
  let rs := ops.map opReads
  let ok := rs.all (fun r => partsSeen w.vis w.t r.1 && partsSeen w.visF w.t r.2)
  let regs := (rs.flatMap (fun r => r.1.map (fun p => p.reg))).eraseDups
  let loads := w.loads.filter (fun l => decide (w.t - l.2.2 ≤ 260))
  let late := loads.filterMap (fun l =>
    if regs.contains l.1 && decide (l.2.2 + 5 ≤ w.t) then some (l.2.1, w.t - l.2.2, w.pc) else none)
  { w.failIf (!ok) 0x0203 with loads := loads, late := late ++ w.late }

/-- R76 and R55: the writes of an instruction. -/
def Walk.doWrites (w : Walk) (ops : List CellOp) : Walk :=
  let ws := ops.flatMap opWrites
  let new := ws.flatMap (fun x => (partKeys x.part).map (fun k => (k, w.t + x.lat)))
  let live := w.lands.filter (fun l => decide (w.t < l.2))
  let clash := new.any (fun n => live.contains n)
  let vis := ws.foldl (fun (m : SMap Nat) x => (partKeys x.part).foldl (fun (m : SMap Nat) k => visMin m k (w.t + x.lat)) m) w.vis
  let visF := ws.foldl (fun (m : SMap Nat) x => (partKeys x.part).foldl (fun (m : SMap Nat) k => visMin m k (w.t + x.latF)) m) w.visF
  { w.failIf clash 0x0205 with lands := new ++ live, vis := vis, visF := visF }

/-- The accesses and exchange operations of one operation. -/
def Walk.note (w : Walk) (op : CellOp) : Walk :=
  match op with
  | .load 2 _ d _ _ => { w with cis := ⟨w.t, false, false⟩ :: w.cis, loads := (d, w.cis.length, w.t) :: w.loads }
  | .store 1 fmt _ _ ext =>
    { w with cis := ⟨w.t, true, fmt == 1 || fmt == 2⟩ :: w.cis, outs := 0 :: w.outs,
             dith := if (dthDepth (ext.getD 0)).isSome then w.cis.length :: w.dith else w.dith }
  | .store 2 _ _ dop _ => { w with sends := ⟨w.t, nbits dop.toNat 1 8, false, w.pc⟩ :: w.sends, outs := 1 :: w.outs }
  | .xred _ lane => { w with sends := ⟨w.t, lane, true, w.pc⟩ :: w.sends, outs := 2 :: w.outs }
  | .xrd _ lane => { w with reads := ⟨w.t, lane, false, w.pc⟩ :: w.reads }
  | .xra _ lane => { w with reads := ⟨w.t, lane, true, w.pc⟩ :: w.reads }
  | _ => w

/-- R97 and R103: where issue goes after the instruction at `pc`. -/
def walkNext (loops : List WalkLoop) (pc : Nat) : Nat × List WalkLoop :=
  match loops with
  | [] => (pc + 1, [])
  | l :: r =>
    if l.last ≠ pc then (pc + 1, l :: r)
    else if l.left > 1 then (l.first, { l with left := l.left - 1 } :: r)
    else walkNext r pc

/-- The walk goes on after the instruction at its address. -/
def Walk.advance (w : Walk) : Walk :=
  let q := walkNext w.loops w.pc
  { w with pc := q.1, loops := q.2 }

/-- The loop a REP opens, where it may (R96, R104). -/
def Walk.openLoop (w : Walk) (lp len : Nat) (count : BitVec 16) : Walk :=
  let last := w.pc + 1 + len
  let bad := decide (w.loops.length ≥ 4) || w.loops.any (fun l => l.lp == lp)
    || (match w.loops with | l :: _ => decide (l.last < last) | [] => false)
  let w := w.failIf bad 0x0202
  if bad then w.advance else { w with pc := w.pc + 1, loops := ⟨w.pc + 1, last, count.toNat, lp⟩ :: w.loops }

/-- One instruction of the walk, and whether the walk goes on (R103, R104). -/
def walkStep (word : Nat → Word) (w : Walk) : Walk × Bool :=
  if w.pc > 2047 then ({ w with fails := (w.fail 0x0202 0x7FF).fails }, false) else
  let v := word w.pc
  let codes := wordCodes false v w.pc
  let w := { w with reached := mset false w.reached w.pc true }
  if !codes.isEmpty then
    let w := codes.foldl (fun (w : Walk) c => w.fail c w.pc) w
    ({ { w with len := max w.len (w.t + 1), held := 0, lands := w.lands.filter (fun l => decide (w.t < l.2)) }.advance with t := w.t + 1 }, true)
  else
    let ops := (decodeWord v).getD []
    let w := w.doReads ops
    let w := w.failIf (decide (w.held + (wordPorts ops).2.2 > 2)) 0x0208
    let w := w.doWrites ops
    let w := ops.foldl Walk.note w
    let badLp := ops.any (fun o => match o with | .movs true 3 i _ => w.loops.any (fun l => l.lp == i) | _ => false)
    let w := w.failIf badLp 0x0202
    let w := { w with len := max w.len (w.t + ops.foldl (fun (m : Nat) o => max m (retireOf o)) 1), held := heldPorts ops }
    match ops with
    | [_, _, _, .end_] => ({ w.failIf (!w.loops.isEmpty) 0x0202 with t := w.t + 1 }, false)
    | [_, _, _, .rep lp len n] => ({ w.openLoop lp len n with t := w.t + 1 }, true)
    | _ => ({ w.advance with t := w.t + 1 }, true)

/-- The walk, for at most `n` instructions. -/
def walkGo (n : Nat) (word : Nat → Word) (w : Walk) : Walk :=
  match n with
  | 0 => w
  | n + 1 =>
    let r := walkStep word w
    if r.2 then walkGo n word r.1 else r.1

/-- The walk of a sample program from its entry (R103): four nested loops of 65,535 passes over 2,048 words stay below 2^80. -/
def walkProgram (word : Nat → Word) (entry : Nat) : Walk := walkGo (2 ^ 80) word { pc := entry }

/-- The vectors of a page: sample program and entry, block task and its vectors (R109, R202). -/
structure PageVecs where
  sample : Bool := false
  entry : Nat := 0
  blk : Bool := false
  bentry : Nat := 0
  yld : Nat := 0
  rsm : Nat := 0
  deriving DecidableEq, Repr

/-! ### Block code (R102, R106, R114) -/

/-- Where block code goes after a word, as far as the page shows it (R98). -/
def blockNext (ops : List CellOp) (pc : Nat) : List Nat :=
  let dest := fun (off : BitVec 9) => ((pc + 2048 + off.toInt).toNat % 2048)
  let ft := (pc + 1) % 2048
  match ops with
  | [_, _, _, .br off] => [dest off]
  | [_, _, _, .brt _ off] => [ft, dest off]
  | [_, _, _, .brf _ off] => [ft, dest off]
  | [_, _, _, .jmp t] => [t.toNat]
  | [_, _, _, .jmpp _] => []
  | [_, _, _, .yend] => []
  | _ => [ft]

/-- The addresses block code reaches from the work list. -/
def blockReach (n : Nat) (word : Nat → Word) (work : List Nat) (seen : SMap Bool) : SMap Bool :=
  match n, work with
  | 0, _ => seen
  | _, [] => seen
  | n + 1, a :: r =>
    if mget false seen a then blockReach n word r seen
    else blockReach n word (blockNext (issueOps true (word a) a) a ++ r) (mset false seen a true)

/-- The words that count as block code: those reached from the vectors; where one of them is a JMPP, whose target the page does not
show, also every word the sample walk does not reach (DESIGN CHOICE, log entry 71). -/
def blockCode (word : Nat → Word) (v : PageVecs) (walked : SMap Bool) : SMap Bool :=
  let seen := if v.blk then blockReach 8192 word [v.bentry, v.yld, v.rsm] [] else []
  let jmpp := seen.any (fun e => (issueOps true (word e.1) e.1).any (fun o => match o with | .jmpp _ => true | _ => false))
  if jmpp then (List.range 2048).foldl (fun (m : SMap Bool) a => if mget false walked a then m else mset false m a true) seen
  else seen

/-- R102 in block code: state accesses of `b` beyond the ports that `a`, issued before it, still holds. -/
def portClash (word : Nat → Word) (a b : Nat) : Bool :=
  decide (heldPorts (issueOps true (word a) a) + (wordPorts (issueOps true (word b) b)).2.2 > 2)

/-- The breaches of R102 in block code, by address. -/
def blockPorts (word : Nat → Word) (seen : SMap Bool) : List (Nat × Nat) :=
  seen.flatMap (fun e =>
    let ops := issueOps true (word e.1) e.1
    let nxt := (e.1 + 1) % 2048
    let f := if (blockNext ops e.1).contains nxt && mget false seen nxt && portClash word e.1 nxt then [(0x0208, nxt)] else []
    let l := match ops with
      | [_, _, _, .rep _ len n] =>
        if n ≠ 0 ∧ e.1 + 1 + len ≤ 2047 ∧ portClash word (e.1 + 1 + len) (e.1 + 1) then [(0x0208, e.1 + 1)] else []
      | _ => []
    f ++ l)

/-- The save half's measuring walk: YEND issues within `n` issue cycles (R114). -/
def saveFits (n : Nat) (word : Nat → Word) (pc : Nat) (loops : List WalkLoop) : Bool :=
  match n with
  | 0 => false
  | n + 1 =>
    match issueOps true (word pc) pc with
    | [_, _, _, .yend] => true
    | [_, _, _, .rep lp len c] => saveFits n word (pc + 1) (⟨pc + 1, pc + 1 + len, c.toNat, lp⟩ :: loops)
    | _ =>
      let q := walkNext loops pc
      saveFits n word (q.1 % 2048) q.2

/-- A jump or branch of block code. -/
def opJumps (o : CellOp) : Bool :=
  match o with
  | .br _ | .brt .. | .brf .. | .jmp _ | .jmpp _ => true
  | _ => false

/-- The breaches of R114 in the save half from YIELD. -/
def saveHalf (word : Nat → Word) (y : Nat) : List (Nat × Nat) :=
  let yends := fun (a : Nat) => (issueOps true (word a) a).any (fun o => match o with | .yend => true | _ => false)
  match ((List.range (2048 - y)).map (· + y)).find? yends with
  | none => [(0x020C, y)]
  | some e =>
    let rng := (List.range (e + 1 - y)).map (· + y)
    let bad := rng.filter (fun a =>
      let ops := (decodeWord (word a)).getD []
      decide ((wordPorts ops).2.1 > 0) || ops.any opSampleOnly || ops.any (fun o => match o with | .bwait => true | _ => false)
        || (ops.any opJumps && (blockNext ops a).any (fun t => decide (t < y) || decide (e < t)) ))
    let jumps := rng.any (fun a => (issueOps true (word a) a).any opJumps)
    bad.map (fun a => (0x020C, a)) ++ (if jumps || saveFits 19 word y [] then [] else [(0x020C, y)])

/-! ### A page (R104) -/

/-- Every breach of a page, in the order in which breaches of one value are reported (R104); the walk of its sample program. -/
def pageFails (word : Nat → Word) (v : PageVecs) : List (Nat × Nat) × Walk :=
  let w := if v.sample then walkProgram word v.entry else {}
  let seen := blockCode word v w.reached
  let rest := (List.range 2048).flatMap (fun a =>
    let x := word a
    if mget false w.reached a then
      (if mget false seen a then ((wordCodes true x a).filter (fun c => c == 0x0206)).map (fun c => (c, a)) else []) else
    if x = 0 then [] else
    let both := ((decodeWord x).getD []).any opSampleOnly && ((decodeWord x).getD []).any opBlockOnly
    ((wordCodes true x a).filter (fun c => c != 0x0206 || mget false seen a || both)).map (fun c => (c, a)))
  (w.fails ++ rest ++ blockPorts word seen ++ (if v.blk then saveHalf word v.yld else []), w)

/-- The breach that is reported: the first of the lowest value (R104). -/
def lowestFail (fs : List (Nat × Nat)) : Option (Nat × Nat) :=
  fs.foldl (fun (b : Option (Nat × Nat)) f => match b with
    | some x => if f.1 < x.1 then some f else b
    | none => some f) none

end Sys2Proof.Machine
end

