-- ==== Sys2Proof/Machine/Bounds.lean ====
section
/-! DEFINITION. The sample programs of a structure where they are placed (R36, R215, R239), and their worst-case stall counts
(R249, R250). The structure is the live part of a state. -/

namespace Sys2Proof.Machine

/-- What a page of a slot holds, as the loader reads it. -/
def pageWords (s : State) (k page : Nat) : SMap Word :=
  let lo := k * 0x4000 + 0x800 * page
  s.mem.cell.filterMap (fun e => if lo ≤ e.1 ∧ e.1 < lo + 0x800 then some (e.1 - lo, e.2) else none)
/-- The vectors of a page's facts. -/
def infoVecs (p : PageInfo) : PageVecs := ⟨p.present, p.entry, p.hasBlk, p.vEntry, p.vYield, p.vResume⟩

/-- A program of a logical cell: its page's facts, its breaches and its walk. -/
structure CellProg where
  l : Nat
  info : PageInfo
  fails : List (Nat × Nat)
  walk : Walk
  deriving DecidableEq, Repr

/-- The program in page `page` of the memories a slot uses. -/
def progOf (s : State) (l page : Nat) : CellProg :=
  let m := memSlot s (mapSlot s l)
  let p := mget ({} : PageInfo) s.mem.page (m * 2 + page)
  let ws := pageWords s m page
  let r := pageFails (fun a => mget 0 ws a) (infoVecs p)
  ⟨l, p, r.1, r.2⟩

/-- The multiplier of a cluster in the structure: its domain, or the one it will start to tick in (R32); 0 unpowered. -/
def domPlan (s : State) (c : Nat) : Nat :=
  if mget false s.pwr.down c then 0
  else if domOf s c ≠ 0 then domOf s c
  else if mget 0 s.pwr.step c = 0 then 0
  else match mget 0 s.pwr.dom c with | 0 => 1 | 1 => 2 | 2 => 4 | _ => 0

/-- The assigned logical cells of a structure (R199, R202). -/
def assigned (s : State) : List Nat := (List.range 1024).filter (fun l => rbit s (celMapA l) 31)

/-- A program placed in the tick: its phase, its access declarations, its walk; `send`: its output operations take effect
(R238). -/
structure Placed where
  l : Nat
  at_ : Nat
  decls : List Nat
  walk : Walk
  send : Bool := true
  deriving DecidableEq, Repr

/-- The cistern accesses of a placed program: arbitration cycle, cistern of the cluster, length (R250). -/
def placedAcc (p : Placed) : List (Nat × Nat × Nat) :=
  List.zipWith (fun (a : CisAcc) (d : Nat) => (p.at_ + a.u + 1, d % 8, if a.wr && a.half then 2 else 1)) p.walk.cis.reverse p.decls

/-- Cisterns of the cluster that 2^K words from a cluster word address touch, as a mask. -/
def spanMask (base n : Nat) : Nat :=
  (List.range 8).foldl (fun (m : Nat) k => if base < (k + 1) * 65536 ∧ k * 65536 < base + n then m + 2 ^ k else m) 0
/-- The cisterns a line's region covers. -/
def lineMask (d : W32) : Nat := spanMask (lnBase d) (2 ^ lnK d)

/-- The slots of the walk in order: the cisterns each occupies in its issue cycle, and whether it is a write slot (R153, R166). -/
def walkPlan (s : State) (c : Nat) : List (Nat × Bool) :=
  let taps := (entriesOf s.wel.ent c).flatMap (fun x => List.replicate (entSlots x.2) (lineMask (lineOf s c (teLine x.2)), false))
  let regions := (inletRegions s.wel.line c).foldl (fun (m : SMap Nat) r => mset 0 m r.1 (spanMask r.1 (2 ^ r.2))) []
  taps ++ regions.flatMap (fun r => [(r.2, true), (r.2, true)])
/-- The cisterns the Wellhead occupies in each cycle; a write slot holds its bank for two cycles (R249, R250). -/
def welOccupies (s : State) (c : Nat) : Array Nat :=
  let ps := walkPlan s c
  let now := ps.map (fun p => p.1)
  let next := 0 :: ps.map (fun p => if p.2 then p.1 else 0)
  (List.zipWith (fun a b => a ||| b) (now ++ [0]) next).toArray

/-- Cycles of [t, t + W] in which an access finds its cistern occupied (R250). -/
def busyCycles (occ : Array Nat) (others : List (Nat × Nat × Nat × Nat)) (t k len w : Nat) : Nat :=
  let os := others.filter (fun b => b.2.1 == k)
  ((List.range (w + 1)).filter (fun i =>
    let y := t + i
    nbit (occ.getD y 0) k || (len == 2 && nbit (occ.getD (y + 1) 0) k)
      || os.any (fun b => decide (b.1 ≤ y) && decide (y + 1 ≤ b.1 + b.2.2.2 + b.2.2.1)))).length

/-- The accesses of the other cells, each with its cell's W: arbitration cycle, cistern, length, W. -/
def otherAcc (ps : List (Placed × Nat)) (l : Nat) : List (Nat × Nat × Nat × Nat) :=
  ps.flatMap (fun q => if q.1.l = l then [] else (placedAcc q.1).map (fun a => (a.1, a.2.1, a.2.2, q.2)))

/-- One pass of the fixed-point method (R250). -/
def boundPass (occ : Array Nat) (ps : List (Placed × Nat)) : List (Placed × Nat) :=
  ps.map (fun p =>
    if p.2 > 256 then p else
    let os := otherAcc ps p.1.l
    let n := (placedAcc p.1).foldl (fun (a : Nat) x => a + busyCycles occ os x.1 x.2.1 x.2.2 p.2) 0
    (p.1, if n > p.2 then min n 257 else p.2))
/-- Passes until nothing changes; each grows a bound that is held at 257. -/
def boundFix (n : Nat) (occ : Array Nat) (ps : List (Placed × Nat)) : List (Placed × Nat) :=
  match n with
  | 0 => ps
  | n + 1 =>
    let q := boundPass occ ps
    if q.map (fun x => x.2) = ps.map (fun x => x.2) then ps else boundFix n occ q
/-- The programs of a cluster with their worst-case stall counts W (R250). -/
def bounds (s : State) (c : Nat) (ps : List Placed) : List (Placed × Nat) :=
  boundFix 40000 (welOccupies s c) (ps.map (fun p => (p, 0)))
/-- The per-access bounds w of a program, in the order of its accesses (R101, R250). -/
def accBounds (occ : Array Nat) (ps : List (Placed × Nat)) (p : Placed × Nat) : List Nat :=
  (placedAcc p.1).map (fun x => busyCycles occ (otherAcc ps p.1.l) x.1 x.2.1 x.2.2 p.2)

/-- The placement of the programs as they run alone. -/
def placeFinal (ps : List CellProg) : List Placed :=
  ps.filterMap (fun p => if p.info.present then some ⟨p.l, p.info.phase, p.info.decls, p.walk, true⟩ else none)

/-- The second placement of a crossfade (R239): the old program at its phase, the new one 4 cycles after the old one's latest end;
`wOld`, the old programs' stall bounds. -/
def placeCross (ps olds : List CellProg) (wOld : Nat → Nat) : List Placed :=
  ps.flatMap (fun p => if !p.info.present then [] else
    match olds.find? (fun o => o.l == p.l) with
    | none => [⟨p.l, p.info.phase, p.info.decls, p.walk, true⟩]
    | some o => [⟨p.l, o.info.phase, o.info.decls, o.walk, false⟩,
                 ⟨p.l, o.info.phase + o.walk.len + wOld p.l + 4, p.info.decls, p.walk, true⟩])
/-- The second placement with its bounds: the new programs' places follow the old ones' bounds until both agree. -/
def boundsCross (n : Nat) (s : State) (c : Nat) (ps olds : List CellProg) (wOld : Nat → Nat) : List (Placed × Nat) :=
  let r := bounds s c (placeCross ps olds wOld)
  let w := fun (l : Nat) => ((r.find? (fun x => x.1.l == l && !x.1.send)).map (fun x => x.2)).getD 0
  match n with
  | 0 => r
  | n + 1 => if olds.all (fun o => w o.l == wOld o.l) then r else boundsCross n s c ps olds w

/-- The program a cell's crossfade fades from (R238). -/
def oldProgs (s : State) (ls : List Nat) : List CellProg :=
  ls.filterMap (fun l => if (cmtCell s l).xj = 0 then none else some (progOf s l (1 - ppage s (mapSlot s l))))

/-- After a swap, each page carries its program's length and stall bound; in a crossfade the old page carries those of the second
placement, and every bound covers both (R39, R103, R238, R239). -/
def boundsApply (s : State) : State :=
  forN 16 s (fun s c =>
    let ls := ((List.range 64).map (fun i => c * 64 + i)).filter (fun l => rbit s (celMapA l) 31)
    let ps := ls.map (fun l => progOf s l (ppage s (mapSlot s l)))
    let olds := oldProgs s ls
    let put := fun (s : State) (l page len w : Nat) => forEach (memSlots s (mapSlot s l)) s (fun s m =>
      { s with mem := { s.mem with page := mmod {} s.mem.page (m * 2 + page) (fun p => { p with len := len, w := w }) } })
    let s' := forEach (bounds s c (placeFinal ps)) s (fun st x => put st x.1.l (ppage s (mapSlot s x.1.l)) x.1.walk.len x.2)
    if olds.isEmpty then s' else
    forEach (boundsCross 300 s c ps olds (fun _ => 0)) s' (fun st x =>
      if x.1.send then
        let k := memSlot s (mapSlot s x.1.l) * 2 + ppage s (mapSlot s x.1.l)
        put st x.1.l (ppage s (mapSlot s x.1.l)) x.1.walk.len (max x.2 (mget ({} : PageInfo) st.mem.page k).w)
      else put st x.1.l (1 - ppage s (mapSlot s x.1.l)) x.1.walk.len x.2))

end Sys2Proof.Machine
end

