-- ==== Sys2Proof/Machine/ValidExch.lean ====
section
/-! DEFINITION. The validator's checks of the exchange (R45, R122–R135, R139). A finding is a reject code, an ordering key and the
ITEM of R216. -/

namespace Sys2Proof.Machine

/-- A finding: reject code of R218, ordering key (R215), ITEM (R216). -/
structure Finding where
  code : Nat
  key : Nat
  item : Nat
  deriving DecidableEq, Repr

/-- An exchange item: cluster, lane, chain (R216). -/
def itemX (c lane chain : Nat) : Nat := c + lane * 16 + chain * 4096
def findX (code c lane chain : Nat) : Finding := ⟨code, c * 2 ^ 20 + lane * 4096 + chain, itemX c lane chain⟩
/-- A finding where the condition holds. -/
def findIf (b : Bool) (f : Finding) : List Finding := if b then [f] else []

/-- The powered clusters of a structure. -/
def poweredClusters (s : State) : List Nat := (List.range 16).filter (fun c => domPlan s c != 0)
/-- The lanes of a cluster's table that have a descriptor. -/
def lanesOf (s : State) (c : Nat) : List (Nat × Nat) := (liveTable s c).desc.map (fun e => (e.1, e.2.toNat))
/-- The entries of a reduction lane's chain list. -/
def chainList (s : State) (c d : Nat) : List Nat := (List.range (ldCnt d)).map (fun j => mget 0 (liveTable s c).chain (ldFirst d + j) % 4096)

/-- R123, R124: the fields a KIND uses, and no others. -/
def descOk (d ncl : Nat) : Bool :=
  let used := fun (keep : Nat) => d - d % 2 ^ 53 + (d % 2 ^ 53 &&& keep) == d
  let cell := decide (ldDrv d ≤ 63)
  let list := decide (1 ≤ ldCnt d) && decide (ldCnt d ≤ 1024) && decide (ldFirst d + ldCnt d ≤ ncl)
  match ldKind d with
  | 0 => d == 0
  | 1 => cell && used 0
  | 2 => cell && used (0x1FF * 2 ^ 42 ||| 0xF * 2 ^ 38) && (!ldDbr d || decide (ldDln d < 32))
  | 3 => ldDrv d == 0x41 && used 0
  | 4 => cell && used 0x7FFFFF && list
  | 5 => ldDrv d == 0x41 && used 0x7FFFFF && list
  | 6 => ldDrv d == 0x42 && used 0x7FF800 && decide (ldFirst d < 32)
  | 7 => ldDrv d == 0x40 && used (2 ^ 38 - 1) && decide (1 ≤ ldCnt d) && decide (ldCnt d ≤ 1024)
  | _ => false

/-- One program's sends and reads, at cycles of its tick: cluster, cell, W, the uses. -/
structure ProgUses where
  c : Nat
  i : Nat
  l : Nat
  at_ : Nat
  w : Nat
  sends : List LaneUse
  reads : List LaneUse
  deriving DecidableEq, Repr

def usesOf (p : Placed × Nat) : ProgUses :=
  { c := p.1.l / 64, i := p.1.l % 64, l := p.1.l, at_ := p.1.at_, w := p.2,
    sends := if p.1.send then p.1.walk.sends.reverse else [], reads := p.1.walk.reads.reverse }

/-- Sends of a lane: cycle and W of the sender. -/
def sendsOn (us : List ProgUses) (c lane : Nat) (red : Bool) : List (Nat × Nat) :=
  us.flatMap (fun u => if u.c = c then (u.sends.filter (fun x => x.lane == lane && x.red == red)).map (fun x => (u.at_ + x.u, u.w)) else [])

/-- The words of a lane in a tick, by arrival: earliest and latest arrival (R124, R128). -/
def laneWords (s : State) (us : List ProgUses) (c lane : Nat) : List (Nat × Nat) :=
  let d := laneDesc s c lane
  let ws : List (Nat × Nat) := match ldKind d with
    | 1 | 2 => (sendsOn us c lane false).map (fun (x : Nat × Nat) => (x.1 + 12, x.1 + 12 + x.2))
    | 3 => (poweredClusters s).flatMap (fun e => (lanesOf s e).flatMap (fun x =>
        if ldKind x.2 = 2 ∧ ldDbr x.2 = false ∧ ldDcl x.2 = c ∧ ldDln x.2 = lane then
          (sendsOn us e x.1 false).map (fun y => (y.1 + 12 + 4 * ringHops e c, y.1 + 12 + 4 * ringHops e c + y.2)) else []))
    | 5 => (chainList s c d).map (fun ch => (chHadd (chainDesc s ch) + 6, chHadd (chainDesc s ch) + 6))
    | 6 => [(32, 32)]
    | 7 => (List.range (ldCnt d)).map (fun j => (ldCyc d + j + 8, ldCyc d + j + 8))
    | _ => []
  ws.mergeSort (fun (a b : Nat × Nat) => decide (a.1 ≤ b.1))

/-- PREV of the schedule entry of a read (R127). -/
def prevOf (t : SlotTable) (i lane u : Nat) : Bool :=
  t.sched.any (fun e => bitOf e 31 && bitOf e 30 && fld e 24 6 == i && fld e 16 8 == lane && fld e 0 15 == u)

/-- R128 for one read. -/
def readOk (ws : List (Nat × Nat)) (prev : Bool) (u w : Nat) : Bool :=
  match ws with
  | [] => prev
  | a :: r =>
    if prev then decide (u + w < a.1)
    else ((a :: r).zip (r.map some ++ [none])).any (fun (x : (Nat × Nat) × Option (Nat × Nat)) => decide (x.1.2 ≤ u) && (match x.2 with | some n => decide (u + w < n.1) | none => true))

/-- The lane has an arrival register (R125). -/
def readable (d : Nat) : Bool := let k := ldKind d; k == 1 || k == 2 || k == 3 || k == 5 || k == 6 || k == 7

/-- 0x0301–0x0304: descriptors, read sets, drivers, schedule entries. -/
def exchTables (s : State) (us : List ProgUses) (sched : Bool) : List Finding :=
  (poweredClusters s).flatMap (fun c =>
    let t := liveTable s c
    let ncl := (t.chain.foldl (fun (m : Nat) e => max m (e.1 + 1)) 0)
    let here := us.filter (fun u => u.c == c)
    let f1 := (lanesOf s c).flatMap (fun x => findIf (!descOk x.2 (max ncl 4096)) (findX 0x0301 c x.1 0))
    let f2 := t.reads.flatMap (fun e =>
      let red := e.2.filter (fun n => ldKind (laneDesc s c n) == 5)
      let bad := e.2.filter (fun n => !readable (laneDesc s c n))
      bad.map (fun n => findX 0x0302 c n 0)
        ++ findIf (decide (red.length > 8) || decide (e.2.length - red.length > 32)) (findX 0x0302 c 0 0))
    let f2' := here.flatMap (fun u => u.reads.flatMap (fun x =>
      findIf (!(mget [] t.reads u.i).contains x.lane || (ldKind (laneDesc s c x.lane) == 5) != x.red) (findX 0x0302 c x.lane 0)))
    let f3 := here.flatMap (fun u => u.sends.flatMap (fun x =>
      let d := laneDesc s c x.lane
      let own := ldDrv d == u.i && (if x.red then ldKind d == 4 else ldKind d == 1 || ldKind d == 2)
      findIf (!own || decide ((u.sends.filter (fun y => y.u == x.u && y.lane == x.lane)).length > 1)) (findX 0x0303 c x.lane 0)))
    let want : List (Nat × Nat × Nat × Nat) := (here.flatMap (fun u => u.sends.map (fun x => (0, u.i, x.lane, u.at_ + x.u)) ++ u.reads.map (fun x => (1, u.i, x.lane, u.at_ + x.u))))
    let have_ : List (Nat × Nat × Nat × Nat) := t.sched.map (fun e => (b2n (bitOf e 31), fld e 24 6, fld e 16 8, fld e 0 15))
    let enc := fun (x : Nat × Nat × Nat × Nat) => ((x.2.2.1 * 64 + x.2.1) * 2 + x.1) * 2 ^ 15 + x.2.2.2
    let le := fun (a b : Nat) => decide (a ≤ b)
    let wl := (want.map enc).mergeSort le
    let hl := (have_.map enc).mergeSort le
    let lane := match (wl.filter (fun x => !hl.contains x) ++ hl.filter (fun x => !wl.contains x)).mergeSort le with
      | x :: _ => x / 2 ^ 22 | [] => 0
    let f4 := findIf (sched && (wl != hl || t.sched.any (fun e => !bitOf e 31 && bitOf e 30))) (findX 0x0304 c lane 0)
    f1 ++ f2 ++ f2' ++ f3 ++ f4)

/-- 0x0305–0x0307: read timing, one word a cycle on a lane, the commit window (R45, R128). -/
def exchTiming (s : State) (us : List ProgUses) (prevAt : Nat → Nat → Nat → Nat → Bool) : List Finding :=
  (poweredClusters s).flatMap (fun c =>
    let C := domC (domPlan s c)
    let here := us.filter (fun u => u.c == c)
    let used := ((lanesOf s c).map (fun x => x.1))
    used.flatMap (fun lane =>
      let d := laneDesc s c lane
      let ws := laneWords s us c lane
      let reads := here.flatMap (fun u => (u.reads.filter (fun x => x.lane == lane)).map (fun x => (u, x)))
      let f5 := reads.flatMap (fun x => findIf (!readOk ws (prevAt x.1.l x.1.at_ lane x.2.u) (x.1.at_ + x.2.u) x.1.w) (findX 0x0305 c lane 0))
      let all := sendsOn us c lane false ++ sendsOn us c lane true
      let f6 := findIf (!(all.map (fun x => x.1)).Nodup) (findX 0x0306 c lane 0)
      let f7 := findIf ((ldKind d != 7 && ldKind d != 5 && ws.any (fun x => decide (C < x.2 + 65))) || all.any (fun x => decide (C ≤ x.1 + x.2 + 64)))
        (findX 0x0307 c lane 0)
      f5 ++ f6 ++ f7))

/-- A word's window on a ring link: stop it leaves, up, earliest and latest cycle of the base tick; exporter and lane. -/
structure LinkWin where
  stop : Nat
  up : Bool
  lo : Nat
  hi : Nat
  c : Nat
  lane : Nat
  deriving DecidableEq, Repr

/-- Windows of the exported words on the links they cross, over a base tick (R129, R130). -/
def linkWindows (s : State) (us : List ProgUses) : List LinkWin :=
  (poweredClusters s).flatMap (fun e => (lanesOf s e).flatMap (fun x =>
    if ldKind x.2 ≠ 2 then [] else
    let m := domPlan s e
    let hu := (ldDcl x.2 + 16 - e) % 16
    let hd := (e + 16 - ldDcl x.2) % 16
    let up := decide (hu ≤ hd)
    (sendsOn us e x.1 false).flatMap (fun y => (List.range m).flatMap (fun r => (List.range (min hu hd)).map (fun i =>
      let lo := r * domC m + y.1 + 6 + 4 * i
      ⟨if up then (e + i) % 16 else (e + 16 - i) % 16, up, lo, lo + y.2, e, x.1⟩)))))

/-- 0x0308, 0x0309: ring occupancy, export destinations (R130). Two export lanes that name one import lane are no reject: R130 and R218
give none, and the words merge at the lane (DESIGN CHOICE, log entry 75). -/
def exchRing (s : State) (us : List ProgUses) : List Finding :=
  let ws := linkWindows s us
  let ovl := ws.filter (fun w => decide ((ws.filter (fun v => v.stop == w.stop && v.up == w.up && decide (v.lo ≤ w.lo) && decide (w.lo ≤ v.hi))).length > 4))
  let f8 := ovl.map (fun w => findX 0x0308 w.c w.lane 0)
  let f9 := (poweredClusters s).flatMap (fun e => (lanesOf s e).flatMap (fun x =>
    if ldKind x.2 ≠ 2 then [] else
    let dc := ldDcl x.2
    let ratio := fun (a b : Nat) => match a, b with | 1, 2 => 1 | 2, 1 => 2 | 2, 4 => 3 | 4, 2 => 4 | 1, 4 => 5 | 4, 1 => 6 | _, _ => 0
    let b := mget 0 (liveTable s dc).bridge (ldDln x.2)
    let ok := if ldDbr x.2 then bitOf b 31 && fld b 24 4 == e && fld b 28 3 == ratio (domPlan s e) (domPlan s dc)
        && fld b 28 3 != 0
      else domPlan s dc == domPlan s e && ldKind (laneDesc s dc (ldDln x.2)) == 3
    findIf (!ok) (findX 0x0309 e x.1 0)))
  f8 ++ f9

/-- The enabled chains (R131, R133). -/
def chainsOn (s : State) : List (Nat × Nat) := s.ex.chains.filterMap (fun e => if e.2 = 0 then none else some (e.1, e.2.toNat))

/-- 0x030A–0x030D: chains (R131, R133, R134). -/
def exchChains (s : State) (us : List ProgUses) : List Finding :=
  let chs := chainsOn s
  let fa := chs.flatMap (fun x =>
    let d := x.2
    let C := domC (domPlan s (chHome d))
    let far := 4 * max (chUph d) (chDnh d)
    findIf (decide (chUph d > 8) || decide (chDnh d > 8) || decide (chUph d + chDnh d > 15) || d % 2 ^ 37 != 0
      || decide (chHadd d < far) || (domPlan s (chHome d) != 0 && decide (C < chHadd d + 6 + 65))) (findX 0x030A (chHome d) 0 x.1))
  let fb := (poweredClusters s).flatMap (fun c => (lanesOf s c).flatMap (fun x =>
    if ldKind x.2 ≠ 4 then [] else
    let list := chainList s c x.2
    let ok := fun (ch : Nat) => (chainPlace (chainDesc s ch) c).isSome && domPlan s (chHome (chainDesc s ch)) == domPlan s c
    let bad := (list.filter (fun ch => !ok ch)).map (fun ch => findX 0x030B c x.1 ch)
    let ss := sendsOn us c x.1 true
    let many := findIf (decide (ss.length > ldCnt x.2)) (findX 0x030B c x.1 0)
    let late := (ss.zip list).flatMap (fun y => match chainPlace (chainDesc s y.2) c with
      | some (_, h) => findIf (decide (chHadd (chainDesc s y.2) < y.1.1 + y.1.2 + 6 + 4 * h)) (findX 0x030B c x.1 y.2)
      | none => [])
    bad ++ many ++ late))
  let slots := chs.flatMap (fun x =>
    let d := x.2
    let m := domPlan s (chHome d)
    (List.range m).flatMap (fun r =>
      let b := r * domC m + chHadd d
      ((List.range (chUph d)).map (fun i => ((chHome d + 15 - i) % 16, true, b - 4 * (i + 1), x.1)))
        ++ ((List.range (chDnh d)).map (fun i => ((chHome d + 1 + i) % 16, false, b - 4 * (i + 1), x.1)))
        ++ (if chUph d = 0 then [] else [(chHome d, true, b, x.1)]) ++ (if chDnh d = 0 then [] else [(chHome d, false, b, x.1)])))
  let fc := slots.flatMap (fun x =>
    findIf (slots.any (fun y => y.1 == x.1 && y.2.1 == x.2.1 && y.2.2.1 == x.2.2.1 && decide (y.2.2.2 < x.2.2.2))) (findX 0x030C x.1 0 x.2.2.2))
  let deliv := (poweredClusters s).flatMap (fun c => (lanesOf s c).flatMap (fun x =>
    if ldKind x.2 = 5 then (chainList s c x.2).map (fun ch => (c, x.1, ch)) else []))
  let fd := deliv.flatMap (fun x =>
      findIf (chainDesc s x.2.2 == 0 || chHome (chainDesc s x.2.2) != x.1) (findX 0x030D x.1 x.2.1 x.2.2))
    ++ chs.flatMap (fun x => findIf ((deliv.filter (fun y => y.2.2 == x.1)).length != 1) (findX 0x030D (chHome x.2) 0 x.1))
  fa ++ fb ++ fc ++ fd

/-- 0x030E: bridges (R135, R139). -/
def exchBridges (s : State) (us : List ProgUses) : List Finding :=
  (poweredClusters s).flatMap (fun c =>
    let t := liveTable s c
    let fe := t.bridge.flatMap (fun e =>
      if !bitOf e.2 31 then [] else
      let r := fld e.2 28 3
      let sc := fld e.2 24 4
      let ol := fld e.2 16 8
      let pair := (domPlan s sc, domPlan s c)
      let dom := match r with
        | 1 => pair == (1, 2) | 2 => pair == (2, 1) | 3 => pair == (2, 4) | 4 => pair == (4, 2) | 5 => pair == (1, 4) | 6 => pair == (4, 1)
        | _ => false
      let feeds := (lanesOf s sc).filter (fun x => ldKind x.2 == 2 && ldDbr x.2 && ldDcl x.2 == c && ldDln x.2 == e.1)
      let other := (poweredClusters s).any (fun q => q != sc && (lanesOf s q).any (fun x => ldKind x.2 == 2 && ldDbr x.2 && ldDcl x.2 == c
        && ldDln x.2 == e.1))
      let one := match feeds with | [x] => (sendsOn us sc x.1 false).length == 1 | _ => false
      let lane := ldKind (laneDesc s c ol) == 6 && ldFirst (laneDesc s c ol) == e.1
      findIf (!dom || !one || other || !lane) (findX 0x030E c ol 0))
    let fl := (lanesOf s c).flatMap (fun x => findIf (ldKind x.2 == 6 &&
      !(bitOf (mget 0 t.bridge (ldFirst x.2)) 31 && fld (mget 0 t.bridge (ldFirst x.2)) 16 8 == x.1)) (findX 0x030E c x.1 0))
    fe ++ fl)

/-- The exchange of a structure with its programs where they are placed. `sched`: the schedule entries are checked, and PREV is
theirs; in the second placement of a crossfade PREV is that of the final placement's entry (R127, R239). -/
def exchFindings (s : State) (ps finals : List (Placed × Nat)) (sched : Bool) : List Finding :=
  let us := ps.map usesOf
  let prevAt := fun (l at_ lane u : Nat) =>
    let a := if sched then at_ else ((finals.find? (fun f => f.1.l == l)).map (fun f => f.1.at_)).getD at_
    prevOf (liveTable s (l / 64)) (l % 64) lane (a + u)
  exchTables s us sched ++ exchTiming s us prevAt ++ exchRing s us ++ exchChains s us ++ exchBridges s us

end Sys2Proof.Machine
end

