-- ==== Sys2Proof/Machine/ValidWel.lean ====
section
/-! DEFINITION. The validator's checks of the Wellheads (R146, R148, R151–R154, R168) and of the Glacier (R180–R182). -/

namespace Sys2Proof.Machine

/-- A Wellhead item: cluster, entry or line (R216). -/
def findW (code c n : Nat) : Finding := ⟨code, c * 2 ^ 20 + n, c + n * 16⟩
/-- A Glacier item: stream (R216), ordered within its cluster. -/
def findG (code c n : Nat) : Finding := ⟨code, c * 2 ^ 20 + n, n⟩

/-- The words of two ranges meet. -/
def meets (a n b m : Nat) : Bool := decide (a < b + m) && decide (b < a + n)
/-- The cisterns of cluster `c` in a mask all have the owner. -/
def maskOwned (s : State) (c mask o : Nat) : Bool := (List.range 8).all (fun k => !nbit mask k || cisOwner s (8 * c + k) == o)

/-- The enabled lines of a cluster. -/
def linesOn (s : State) (c : Nat) : List (Nat × W32) :=
  s.wel.line.filterMap (fun e => if e.1 / 1024 = c ∧ lnEn e.2 then some (e.1 % 1024, e.2) else none)

/-- An enabled entry breaks a rule of R168: reserved values, exponents, its line, its delay range. -/
def entryBad (s : State) (c e : Nat) (t : TapEntry) (slot : Nat) : Bool :=
  let l := lineOf s c (teLine t)
  let d := nbits t.w0.toNat 16 20
  nbits t.w1.toNat 64 7 != 0 || nbits t.w1.toNat 0 28 != 0
    || teInterp t == 3 || teDgm t == 3 || teGgm t == 3 || decide (teDk t > 16) || decide (teGk t > 16)
    || !lnEn l || decide (d < 1 + b2n (teInterp t == 2) + b2n (decide (slot > wccOf s c))) || decide (d + 3 > 2 ^ lnK l)
    || decide (e ≥ 32768)

/-- 0x0401–0x0407 of one powered cluster. -/
def welCluster (s : State) (c : Nat) : List Finding :=
  let C := domC (domPlan s c)
  let wcc := wccOf s c
  let ents := (entriesOf s.wel.ent c).filter (fun x => teEn x.2)
  let lines := linesOn s c
  let f1 := findIf (decide (walkSlots s.wel.ent s.wel.line c > C) || decide (wcc + 65 > C)) (findW 0x0401 c 0)
  let f2 := ents.flatMap (fun x => findIf (teDgm x.2 == 2 && entSlot s.wel.ent c x.1 == wcc) (findW 0x0402 c x.1))
  let f3 := ents.flatMap (fun x => findIf (entryBad s c x.1 x.2 (entSlot s.wel.ent c x.1)) (findW 0x0403 c x.1))
  let f4 := lines.flatMap (fun x =>
    let b := lnBase x.2
    let n := 2 ^ lnK x.2
    let ovl := lines.any (fun y => y.1 != x.1 && meets b n (lnBase y.2) (2 ^ lnK y.2)
      && !(lnBase y.2 == b && lnK y.2 == lnK x.2 && lnHalf y.2 != lnHalf x.2))
    findIf (decide (lnK x.2 < 4) || decide (lnK x.2 > 19) || b % n != 0 || ovl) (findW 0x0404 c x.1))
  let f5 := lines.flatMap (fun x => findIf (!maskOwned s c (lineMask x.2) 1) (findW 0x0405 c x.1))
  let f6 := lines.flatMap (fun x =>
    let k := ldKind (laneDesc s c (lnInlane x.2))
    findIf (if lnWrt x.2 then lnInlane x.2 != 0 else !(k == 1 || k == 2 || k == 3 || k == 6)) (findW 0x0406 c x.1))
  let f7 := (lanesOf s c).flatMap (fun x => findIf (ldKind x.2 == 7 &&
    (decide (ldCyc x.2 < wcc) || decide (ldFirst x.2 + ldCnt x.2 > 1024) || decide (ldCyc x.2 + ldCnt x.2 + 7 + 65 > C))) (findW 0x0407 c x.1))
  f1 ++ f2 ++ f3 ++ f4 ++ f5 ++ f6 ++ f7

/-- 0x0401–0x0407. -/
def welFindings (s : State) : List Finding := (poweredClusters s).flatMap (welCluster s)

/-- Reserved bits of a stream descriptor (R175). -/
def strReserved (d : StrDesc) : Bool :=
  fld d.w0 0 12 != 0 || fld d.w1 28 4 != 0 || fld d.w2 28 4 != 0 || fld d.w3 24 8 != 0 || fld d.w4 29 3 != 0 || fld d.w4 13 3 != 0
/-- A stream's rate term of R181 under the multiplier of the structure, in 1/1000 byte a second; `fb`, the base rate. -/
def strLoad (s : State) (fb : Nat) (d : StrDesc) : Nat :=
  (if sdKind d = 1 then 2 else 1) * 64 * domPlan s (sdCl d) * fb * 1045 / 12

/-- The stream changes although it was enabled: more than CONC (R182). -/
def strChanged (old new : StrDesc) : Bool :=
  sdEn old && sdEn new && { old with w0 := old.w0 &&& 0xEFFFFFFF } != { new with w0 := new.w0 &&& 0xEFFFFFFF }

/-- 0x0501–0x0508; `o`, the live structure before. -/
def glcFindings (o s : State) : List Finding :=
  let on := s.glc.str.filter (fun e => sdEn e.2)
  let f1 := s.glc.str.flatMap (fun e => findIf (strReserved e.2 || (sdEn e.2 && (glcState s != 3 || sdKind e.2 == 0 || sdNb e.2 == 0)))
    (findG 0x0501 (sdCl e.2) e.1))
  let f2 := on.flatMap (fun e =>
    let k := sdKind e.2
    findIf ((k == 1 || k == 3) && (decide (sdB e.2 < 64) || (k == 1 && decide (sdB e.2 > 12 * sdNb e.2)))) (findG 0x0502 (sdCl e.2) e.1))
  let f3 := on.flatMap (fun e =>
    findIf (decide (sdRbase e.2 + sdNb e.2 > glcBlocks s)
      || on.any (fun x => x.1 != e.1 && meets (sdRbase e.2) (sdNb e.2) (sdRbase x.2) (sdNb x.2))) (findG 0x0503 (sdCl e.2) e.1))
  let bufs := on.flatMap (fun e => [(e.1, sdCl e.2, sdWbuf e.2, 0), (e.1, sdCl e.2, sdHbuf e.2, 1)])
  let f4 := bufs.flatMap (fun b =>
    findIf (cisOwner s (clusterCis b.2.1 b.2.2.1) != 1
      || bufs.any (fun x => x.2.1 == b.2.1 && x.2.2.1 == b.2.2.1 && (x.1 != b.1 || x.2.2.2 != b.2.2.2))
      || (linesOn s b.2.1).any (fun l => meets b.2.2.1 64 (lnBase l.2) (2 ^ lnK l.2))) (findG 0x0504 b.2.1 b.1))
  let feeders := fun (c l : Nat) => on.filter (fun e => sdLinev e.2 && sdCl e.2 == c && sdLine e.2 == l && sdKind e.2 != 2)
  let f5 := on.flatMap (fun e => findIf (sdLinev e.2 && (sdKind e.2 == 2 ||
        (let l := lineOf s (sdCl e.2) (sdLine e.2); !lnEn l || !lnWrt l) || decide ((feeders (sdCl e.2) (sdLine e.2)).length > 1)))
        (findG 0x0505 (sdCl e.2) e.1))
    ++ (poweredClusters s).flatMap (fun c => ((linesOn s c).filter (fun l => lnWrt l.2)).flatMap (fun l =>
        findIf (feeders c l.1).isEmpty (findG 0x0505 c 0)))
  let f6 := on.flatMap (fun e =>
    let a := domPlan o (sdCl e.2)
    let b := domPlan s (sdCl e.2)
    findIf (o.cmt.live && a != 0 && b != 0 && a != b) (findG 0x0506 (sdCl e.2) e.1))
  let load := on.foldl (fun (a : Nat) e => a + strLoad s (fbOf s) e.2) 0
  let f7 := findIf (decide (load > glcLimit s * 10 ^ 9)) ⟨0x0507, 0, 0⟩
  let f8 := s.glc.str.flatMap (fun e => findIf (o.cmt.live && strChanged (strOf o e.1) e.2) (findG 0x0508 (sdCl e.2) e.1))
  f1 ++ f2 ++ f3 ++ f4 ++ f5 ++ f6 ++ f7 ++ f8

end Sys2Proof.Machine
end

