-- ==== Sys2Proof/Machine/ValidPort.lean ====
section
/-! DEFINITION. The validator's checks of cisterns (R215, R244), port bindings (R325, R344, R346, R353, R358), attachments (R385,
R393), standing lists (R209, R215) and unpowered clusters (R215). -/

namespace Sys2Proof.Machine

/-- A finding at a port code, in the order of the bindings' clusters and then of the codes (R215). -/
def findP (code : Nat) (e : Nat × PortBind) : Finding := ⟨code, e.2.cl * 65536 + e.1, e.1⟩
/-- A finding at a cistern. -/
def findC (code k : Nat) : Finding := ⟨code, k, k⟩
/-- A finding with no item (R216: otherwise 0). -/
def find0 (code key : Nat) : Finding := ⟨code, key, 0⟩

/-- Bytes of a class record are all zero. -/
def zeroAt (b : PortBind) (o n : Nat) : Bool := (List.range n).all (fun i => rb b (o + i) == 0)
/-- AGRP names a group or none. -/
def agrpOk (b : PortBind) (o : Nat) : Bool := let g := leAt b.raw o 2; decide (g < 64) || g == 0xFFFF
/-- The multiplier a binding's cluster has in the structure. -/
def bindM (s : State) (b : PortBind) : Nat := domPlan s (b.cl % 16)

/-- The owner code of a port's engine: 2 NET, 3 SER (R324, R344). -/
def engineOwner (p : Nat) : Nat := if p / 4096 = 1 then 2 else 3

/-- Words of a flow buffer (R327). -/
def jbufWords (b : PortBind) : Nat := if fcTx b then 2 * fcPs b * b.nch else b.nch * 2 ^ fcJbk b / 2
/-- The buffers of a binding: fabric address and words; an address outside the cluster is none (R208, R327). -/
def bindBufs (p : Nat) (b : PortBind) : List (Option Nat × Nat) :=
  let at_ : Nat → Option Nat := fun a => if a < 2 ^ 19 ∧ a + 2 * b.nch ≤ 2 ^ 19 then some (b.cl * 2 ^ 19 + a) else none
  (if bufHas b.bufin then [(at_ b.bufin, 2 * b.nch)] else []) ++ (if bufHas b.bufout then [(at_ b.bufout, 2 * b.nch)] else [])
    ++ (if p / 4096 = 1 then
          [(if fcJbuf b / 2 ^ 19 = b.cl ∧ fcJbuf b % 2 ^ 19 + jbufWords b ≤ 2 ^ 19 then some (fcJbuf b) else none, jbufWords b)] else [])
/-- The cisterns that a range of fabric words touches. -/
def cisSpan (a n : Nat) : List Nat := (List.range ((a % 65536 + n + 65535) / 65536)).map (fun i => a / 65536 + i)

/-- A flow's IP header on each leg is IPv4 (R325): its destination is IPv4-mapped. -/
def legV4 (b : PortBind) (p : Nat) : Bool := slice (fcDst b p) 0 12 == List.replicate 10 0 ++ [0xFF, 0xFF]
/-- RTP payload bytes of a flow. -/
def fcPayload (b : PortBind) : Nat := b.nch * fcPs b * encBytes (fcEnc b)
/-- PSAMP divided by m: 6, 12, 16 or 48 (R326). -/
def psOk (m ps : Nat) : Bool := ps == m * 6 || ps == m * 12 || ps == m * 16 || ps == m * 48

/-- 0x0701 of a flow by itself (R324, R325). -/
def flowBad (s : State) (b : PortBind) : Bool :=
  let tx := fcTx b
  let legs := (List.range 2).filter (fcLeg b)
  let mtu := if legs.all (fun p => rbit s (netA p) 25) then 9000 else 1500
  decide (rb b 0 > 1) || decide (rb b 1 > 2) || !(psOk 1 (fcPs b) || psOk 2 (fcPs b) || psOk 4 (fcPs b))
    || rb b 3 == 0 || decide (rb b 3 > 3) || decide (rb b 4 < 96) || decide (rb b 4 > 127) || decide (rb b 5 > 63) || decide (rb b 6 > 2)
    || rb b 7 == 0 || !agrpOk b 0x66 || decide (rb b 0x65 > 3) || !zeroAt b 0x1C 4 || !zeroAt b 0x68 8
    || decide (b.nch < 1) || decide (b.nch > 64) || (fcAm b && b.nch % 2 == 1)
    || (if tx then fcJbk b != 0 || fcPlay b != 0 || !zeroAt b 0x30 16 || !zeroAt b 0x50 16 || bufHas b.bufin || !bufHas b.bufout
        else decide (fcJbk b < 4) || decide (fcJbk b > 12) || !bufHas b.bufin || bufHas b.bufout
          || decide (fcPlay b < fcPs b) || decide (fcPlay b + fcPs b > 2 ^ fcJbk b))
    || (rb b 3 == 3 && legV4 b 0 != legV4 b 1)
    || legs.any (fun p => decide (fcPayload b + 20 + (if legV4 b p then 20 else 40) > mtu))

/-- 0x0701 of an AES3 receiver, an AES3 transmitter, a TDM port by itself (R344, R346, R353, R358). -/
def arBad (b : PortBind) : Bool :=
  decide (rb b 0 > 1) || decide (rb b 1 > 2) || decide (rb b 2 > 15) || (rb b 0 == 1 && nbit (rb b 2) 0) || rb b 3 == 0
    || decide (rb b 3 > 16) || !agrpOk b 4 || !zeroAt b 6 26 || b.nch != 2 || !bufHas b.bufin || bufHas b.bufout
def atBad (b : PortBind) : Bool :=
  decide (rb b 0 > 31) || (atCrcg b && !atPro b) || !(rb b 1 == 16 || rb b 1 == 20 || rb b 1 == 24) || atZto b == 0 || !agrpOk b 4
    || decide (leAt b.raw 6 2 > 1023) || b.nch != 2 || bufHas b.bufin || !bufHas b.bufout
def tdBad (b : PortBind) : Bool :=
  let n := tdSlots b
  decide (rb b 0 > 1) || !(n == 2 || n == 4 || n == 8 || n == 16 || n == 32) || !(rb b 2 == 16 || rb b 2 == 24 || rb b 2 == 32)
    || decide (rb b 3 > 31) || !agrpOk b 4 || decide (leAt b.raw 6 2 + 16 + nbits (rb b 3) 2 1 > n * 32)
    || decide (leAt b.raw 8 4 ≥ 2 ^ n) || decide (leAt b.raw 0xC 4 ≥ 2 ^ n) || decide (rb b 0x10 > 2) || rb b 0x11 == 0 || !zeroAt b 0x12 30
    || b.nch != n || (!bufHas b.bufin && !bufHas b.bufout)

def bindBad (s : State) (p : Nat) (b : PortBind) : Bool :=
  decide (b.cl > 15) || (match p / 4096 with | 1 => flowBad s b | 2 => arBad b | 3 => atBad b | 4 => tdBad b | _ => true)
/-- 0x0703: the domain of CL does not fit the record (R325, R344). -/
def bindRateBad (s : State) (p : Nat) (b : PortBind) : Bool :=
  let m := bindM s b
  match p / 4096 with
  | 1 => !psOk m (fcPs b)
  | 3 => decide (leAt b.raw 6 2 > 1024 / m - 1)
  | 4 => decide (tdSlots b * m > 32)
  | _ => false

/-- What must be equal for two receive flows to share their match fields on a leg (R331). -/
def matchFields (b : PortBind) (p : Nat) : List Nat × List Byte × List Byte :=
  let v := fcVlan b p
  ([p, if nbit v 15 then v % 4096 else 65536, leAt b.raw 0xC 2, leAt b.raw 0xE 2, rb b 4,
    if nbit (rb b 0x65) 0 then leAt b.raw 0x10 4 else 2 ^ 32], fcDst b p, fcSrc b p)

/-- Load of a flow leg in units of 1/48,000 bit/s (R325). -/
def legLoad (s : State) (b : PortBind) (p : Nat) : Nat :=
  let h := (if legV4 b p then 82 else 102) - (if nbit (fcVlan b p) 15 then 0 else 4)
  fbOf s * 1045 * 8 * (fcPayload b + h) * 48 * bindM s b / fcPs b
/-- Line rate of a port in bit/s (NET_PORT_CTL.SPEED). -/
def lineRate (s : State) (p : Nat) : Nat := match rfld s (netA p) 29 2 with | 0 => 25000000000 | 1 => 10000000000 | _ => 1000000000

/-- Accesses of NET in a domain tick to each cistern, for a flow (R325): a port-buffer word a channel, and a flow-buffer write and
read a channel. -/
def flowAccesses (b : PortBind) : List (Nat × Nat) :=
  let base := if fcTx b then b.bufout else b.bufin
  let pc := (List.range 8).map (fun k => (8 * b.cl + k, (List.range b.nch).countP (fun i =>
    (base + i) / 65536 % 8 == k || (base + b.nch + i) / 65536 % 8 == k)))
  pc ++ (cisSpan (fcJbuf b) (jbufWords b)).map (fun k => (k, 2 * b.nch))

/-- The bound ports of a structure whose cluster is powered. -/
def bindsOn (s : State) : List (Nat × PortBind) := s.port.live.filter (fun e => e.2.en && bindM s e.2 != 0)

/-- 0x0602: declarations and buffers in cisterns that do not admit them (R150, R215, R244). -/
def cisFindings (s : State) (ps : List CellProg) : List Finding :=
  ps.flatMap (fun p => if !p.info.present then [] else p.info.decls.flatMap (fun d =>
      let k := 8 * (p.l / 64) + d % 8
      findIf (!cisCellMay s k) (findC 0x0602 k)))
    ++ (bindsOn s).flatMap (fun e => (bindBufs e.1 e.2).flatMap (fun b => match b.1 with
      | none => []
      | some a => (cisSpan a b.2).flatMap (fun k => findIf (decide (cisOwner s k ≤ 1)) (findC 0x0602 k))))

/-- 0x0701–0x0704. -/
def portFindings (s : State) : List Finding :=
  let bs := s.port.live.filter (fun e => e.2.en)
  let on := bindsOn s
  let flows := on.filter (fun e => e.1 / 4096 == 1)
  let rx := flows.filter (fun e => !fcTx e.2)
  let f1 := bs.flatMap (fun e => findIf (bindBad s e.1 e.2) (findP 0x0701 e))
  let same := rx.flatMap (fun e => (List.range 2).flatMap (fun p => findIf (fcLeg e.2 p
    && decide ((rx.filter (fun x => fcLeg x.2 p && matchFields x.2 p == matchFields e.2 p)).length > 4)) (findP 0x0701 e)))
  let line := flows.flatMap (fun e => (List.range 2).flatMap (fun p => findIf (fcLeg e.2 p
    && decide ((flows.filter (fun x => fcLeg x.2 p)).foldl (fun (a : Nat) x => a + legLoad s x.2 p) 0 * 10 > 9 * lineRate s p * 48000))
      (findP 0x0701 e)))
  let alg := rx.flatMap (fun e => findIf (leAt e.2.raw 0x66 2 != 0xFFFF
    && rx.any (fun x => leAt x.2.raw 0x66 2 == leAt e.2.raw 0x66 2 && fcPlay x.2 * bindM s e.2 != fcPlay e.2 * bindM s x.2)) (findP 0x0701 e))
  let bufs : List (Nat × Option Nat × Nat) := on.flatMap (fun e => (bindBufs e.1 e.2).map (fun b => (e.1, b.1, b.2)))
  let place := bufs.zipIdx.flatMap (fun (b : (Nat × Option Nat × Nat) × Nat) => match b.1.2.1 with
    | none => [findP 0x0702 (b.1.1, portOf s b.1.1)]
    | some a =>
      let own := (cisSpan a b.1.2.2).any (fun k => decide (cisOwner s k > 1) && cisOwner s k != engineOwner b.1.1)
      let ovl := bufs.zipIdx.any (fun (x : (Nat × Option Nat × Nat) × Nat) => x.2 != b.2 && (match x.1.2.1 with
        | some c => meets a b.1.2.2 c x.1.2.2
        | none => false))
      findIf (own || ovl) (findP 0x0702 (b.1.1, portOf s b.1.1)))
  let acc : List (Nat × Nat × Nat) := flows.flatMap (fun e => (flowAccesses e.2).map (fun a => (e.1, a.1, a.2)))
  let busy := acc.flatMap (fun a => findIf (decide (a.2.2 > 0)
    && decide ((acc.filter (fun x => x.2.1 == a.2.1)).foldl (fun (n : Nat) x => n + x.2.2) 0 * 4 > domC (domPlan s (a.2.1 / 8 % 16)))) (findP 0x0702 (a.1, portOf s a.1)))
  let f3 := on.flatMap (fun e => findIf (bindRateBad s e.1 e.2) (findP 0x0703 e))
  let total := fun (l : List (Nat × PortBind)) => l.foldl (fun (a : Nat) e => a + e.2.nch * bindM s e.2) 0
  let f4 := findIf (decide (total rx > 4096) || decide (total (flows.filter (fun e => fcTx e.2)) > 4096)) (find0 0x0704 0)
  f1 ++ same ++ line ++ alg ++ place ++ busy ++ f3 ++ f4

/-- 0x0801 of a meter record (R385). -/
def meterBad (s : State) (v : Nat) : Bool :=
  let cls := nbits v 61 2
  let c := nbits v 36 4
  let port := nbits v 16 16
  let idx := nbits v 0 10
  nbits v 32 4 != 0 || (nbit v 63 && (cls == 0 || nbits v 59 2 == 3 || nbits v 57 2 == 3
    || (if cls = 3 then
          let b := portOf s port
          c != 0 || !b.en || decide (nbits v 10 6 ≥ b.nch) || !bufHas (if nbit v 56 then b.bufout else b.bufin)
        else nbit v 56 || port != 0 || nbits v 10 6 != 0 || domPlan s c == 0
          || (cls == 1 && (decide (idx ≥ 256) || (let k := ldKind (laneDesc s c idx); k == 0 || k == 4))))))
/-- 0x0801 of a histogram record (R393). -/
def histBad (v : Nat) : Bool :=
  let sel := nbits v 32 12
  nbits v 44 8 != 0 || (nbit v 63 && ((nbit v 58 && nbits v 52 5 != 0) || (match nbits v 59 4 with
    | 1 | 4 | 5 => decide (sel ≥ 1024)
    | 2 => decide (sel ≥ 64)
    | 3 => decide (sel ≥ 8)
    | 6 => sel != 0
    | _ => true)))
/-- 0x0801. -/
def attFindings (s : State) : List Finding :=
  s.mtr.mtr.flatMap (fun e => findIf (meterBad s e.2.att.toNat) (find0 0x0801 e.1))
    ++ s.mtr.hist.flatMap (fun e => findIf (histBad e.2.att.toNat) (find0 0x0801 (32768 + e.1)))

/-- A member exists in the structure (R215). -/
def memberExists (s : State) (m : Nat) : Bool :=
  let i := m % 65536
  match m / 65536 with
  | 1 => decide (i < 1024) && domPlan s (i / 64) != 0
  | 2 | 3 => decide (i < 16) && domPlan s i != 0
  | 4 => match i / 4096 with | 1 => decide (i % 4096 < 1024) | 2 | 3 => decide (i % 4096 < 16) | 4 => decide (i % 4096 < 8) | _ => false
  | _ => false
/-- 0x0802. -/
def memFindings (s : State) : List Finding :=
  s.cmt.groups.flatMap (fun e => e.2.mem.flatMap (fun m =>
    findIf (!memberExists s m || s.cmt.groups.any (fun x => x.1 != e.1 && x.2.mem.contains m)) (find0 0x0802 (e.1 * 2 ^ 20 + m))))

/-- 0x0901: an unpowered cluster is referenced; `named`, the clusters that sections of the load name (R199, R215). -/
def powerFindings (s : State) (named : List Nat) : List Finding :=
  (List.range 16).flatMap (fun c =>
    findIf (domPlan s c == 0 && (named.contains c || (assigned s).any (fun l => l / 64 == c)
      || !(lanesOf s c).isEmpty || !(liveTable s c).chain.isEmpty || !(liveTable s c).sched.isEmpty
      || !(linesOn s c).isEmpty || (entriesOf s.wel.ent c).any (fun x => teEn x.2)
      || s.glc.str.any (fun e => sdEn e.2 && sdCl e.2 == c) || s.port.live.any (fun e => e.2.en && e.2.cl == c))) (find0 0x0901 c))

end Sys2Proof.Machine
end

