-- ==== Sys2Proof/Machine/Validator.lean ====
section
/-! DEFINITION. The validator: its checks of cells (R37, R39, R42, R66, R101, R202, R235, R239), every check together (R215, R218),
and the validation of a commit group (R232). The structure proved is the live part of the state that the swap would give. -/

namespace Sys2Proof.Machine

/-- A finding at a program address of a logical cell, and at the cell (R216). -/
def findCell (code l ord addr : Nat) : Finding := ⟨code, l * 2 ^ 20 + ord, l + addr * 65536⟩
def findL (code l : Nat) : Finding := findCell code l 0 0x7FF

/-- A cistern of cluster `c` holds an output port buffer (R66). -/
def hasOutBuf (s : State) (c k : Nat) : Bool := !(outChannels s c [k]).isEmpty

/-- Breaches of one cell that need no stall bounds. -/
def cellAlone (s : State) (p : CellProg) : List Finding :=
  let C := domC (domPlan s (p.l / 64))
  let acc := p.walk.cis.reverse
  p.fails.zipIdx.map (fun f => findCell f.1.1 p.l f.2 f.1.2)
    ++ findIf ((p.info.present || p.info.hasBlk) && decide (p.info.phase ≥ C)) (findL 0x020B p.l)
    ++ findIf (p.info.hasBlk && decide (p.info.phase < 24)) (findL 0x020B p.l)
    ++ (if !p.info.present then [] else
      findIf (decide (p.info.phase + p.walk.len + 320 > C)) (findL 0x0209 p.l)
      ++ findIf (p.info.decls.length != acc.length || (p.info.decls.zip acc).any (fun x => nbit x.1 3 != x.2.wr)) (findL 0x0210 p.l)
      ++ p.walk.dith.flatMap (fun n => findIf (!hasOutBuf s (p.l / 64) (p.info.decls.getD n 0 % 8)) (findL 0x020D p.l)))

/-- Breaches of the programs of a cluster at their bounds (R39, R101). -/
def cellBounds (s : State) (c : Nat) (ps : List (Placed × Nat)) : List Finding :=
  let occ := welOccupies s c
  ps.flatMap (fun p =>
    let ws := accBounds occ ps p
    findIf (decide (p.2 > 256)) (findL 0x020A p.1.l)
      ++ p.1.walk.late.reverse.zipIdx.flatMap (fun x =>
          findIf (decide (x.1.2.1 ≤ 4 + ws.getD x.1.1 0)) (findCell 0x0207 p.1.l (x.2 + 1) x.1.2.2)))

/-- Breaches of a glide descriptor table (R235). -/
def glideBad (t : SMap W32) : Bool :=
  let on := t.filter (fun e => bitOf e.2 31)
  t.any (fun e => decide (fld e.2 23 5 > 16) || fld e.2 11 12 != 0)
    || on.any (fun e => on.any (fun x => x.1 != e.1 && fld x.2 0 11 == fld e.2 0 11))

/-- Breaches of a crossfade of a cell in the second placement of its cluster (R239). -/
def crossBad (s : State) (new old : CellProg) (r : List (Placed × Nat)) : List Finding :=
  let C := domC (domPlan s (new.l / 64))
  match r.find? (fun x => x.1.l == new.l && x.1.send), r.find? (fun x => x.1.l == new.l && !x.1.send) with
  | some a, some _ =>
    let e := a.1.at_ + new.walk.len
    findIf (decide (e + 320 > C) || decide (e + a.2 + 64 > C)) (findL 0x0209 new.l)
      ++ findIf (new.info.hasBlk && decide (old.info.phase < 24)) (findL 0x020B new.l)
      ++ findIf (new.walk.outs != old.walk.outs || decide (new.walk.outs.length > 64)) (findL 0x0210 new.l)
  | _, _ => []

/-- Every finding about a structure. `o`: the state before the swap; `xf`: cells whose crossfade the swap arms; `idle`: idle cells
with marked pages; `named`: clusters that sections name. -/
def allFindings (o s : State) (xf idle named : List Nat) : List Finding :=
  let ps := ((assigned s).filter (fun l => domPlan s (l / 64) != 0)).map (fun l => progOf s l (ppage s (mapSlot s l)))
  let of_ := fun (c : Nat) => ps.filter (fun p => p.l / 64 == c)
  let finals := (poweredClusters s).map (fun c => (c, bounds s c (placeFinal (of_ c))))
  let placed := finals.flatMap (fun x => x.2)
  let olds := xf.map (fun l => progOf s l (1 - ppage s (mapSlot s l)))
  let cross := if olds.isEmpty then [] else finals.map (fun x =>
    let os := olds.filter (fun p => p.l / 64 == x.1)
    if os.isEmpty then x else (x.1, boundsCross 300 s x.1 (of_ x.1) os (fun _ => 0)))
  let crossed := cross.flatMap (fun x => x.2)
  ps.flatMap (cellAlone s)
    ++ finals.flatMap (fun x => cellBounds s x.1 x.2)
    ++ idle.flatMap (fun l =>
        let p := progOf s l (ppage s (mapSlot s l))
        (pageFails (fun a => mget 0 (pageWords s (memSlot s (mapSlot s l)) (ppage s (mapSlot s l))) a)
          { infoVecs p.info with sample := false }).1.zipIdx.map (fun f => findCell f.1.1 l f.2 f.1.2))
    ++ s.cmt.cells.flatMap (fun e => findIf (glideBad e.2.gAct) (findL 0x020E e.1))
    ++ exchFindings s placed placed true
    ++ (if olds.isEmpty then [] else
          cross.flatMap (fun x => cellBounds s x.1 x.2)
          ++ olds.flatMap (fun q => match ps.find? (fun p => p.l == q.l) with | some p => crossBad s p q crossed | none => [])
          ++ exchFindings s crossed placed false)
    ++ welFindings s ++ glcFindings o s ++ cisFindings s ps ++ portFindings s ++ attFindings s ++ memFindings s ++ powerFindings s named

/-- The failure that is reported: the first in the order of R218, and within one reject value the first item (R215). -/
def verdict (fs : List Finding) : Option Finding :=
  fs.foldl (fun (b : Option Finding) f => match b with
    | some x => if f.code < x.code ∨ (f.code = x.code ∧ f.key < x.key) then some f else b
    | none => some f) none

/-- The member that a finding's item belongs to; 0: none (R242). -/
def findMember (f : Finding) : Nat :=
  match f.code / 256 with
  | 2 => memCell (f.item % 1024)
  | 3 => memTable (f.item % 16)
  | 4 => memWel (f.item % 16)
  | 5 => memWel (f.key / 2 ^ 20)
  | 7 => memPort f.item
  | _ => 0

/-- Logical cells whose crossfade the swap from `o` to `s` arms: its pages flip, whatever crossfade still runs before it (R238, R239). -/
def crossArmed (o s : State) : List Nat :=
  s.cmt.cells.filterMap (fun e => if e.2.xj ≠ 0 ∧ ppage o (mapSlot o e.1) ≠ ppage s (mapSlot s e.1) then some e.1 else none)
/-- Idle cells among members whose pending program page is marked (R106, R232). -/
def idleMarked (o s : State) (ms : List Nat) : List Nat :=
  ms.filterMap (fun m =>
    let l := m % 65536
    if m / 65536 = 1 ∧ hasSlot o l ∧ rbit s (celMapA l) 31 = false
      ∧ marksIn o (memSlot o (mapSlot o l)) (0x800 * (1 - ppage o (mapSlot o l))) 0x800 ≠ [] then some l else none)

/-- The target of a group for the order of R232; a next-tick group that has none yet counts as the earliest it can get. -/
def groupTarget (s : State) (g : Nat) : Nat := let x := groupOf s g; if x.rbtc = 0 then s.btc.toNat + 3 else x.rbtc
/-- Groups that swap before or with `g`: armed or due for an earlier target, or already armed for the same, whichever ARM came first, so
that of two groups with one target the one validated later includes the other (R232, log entry 69), in the order of their swaps. -/
def groupsBefore (s : State) (g : Nat) : List Nat :=
  let k := fun (h : Nat) => groupTarget s h * 2 ^ 64 + (groupOf s h).seq
  ((s.cmt.groups.map (fun e => e.1)).filter (fun h =>
    h != g && decide ((groupOf s h).state ≥ 2) && decide (groupTarget s h ≤ groupTarget s g))).mergeSort
    (fun a b => decide (k a ≤ k b))

/-- The structure after a list of groups has swapped. -/
def wouldBe (s : State) (gs : List Nat) : State :=
  forEach gs s (fun s g => pendDoms (cisGroupHandover (pendOwners (groupsSwap s [g]) g) g) g s.btc)

/-- Validation of a group ends (R231, R232). -/
def validateGroup (s : State) (g : Nat) : State :=
  let x := groupOf s g
  if x.state ≠ 1 then s else
  let hs := groupsBefore s g
  let t := wouldBe s (hs ++ [g])
  let ms := (hs ++ [g]).flatMap (claims s)
  match verdict (allFindings s t (crossArmed s t) (idleMarked s t ms) []) with
  | none => cmtResolve (setGroup s g { x with state := 2, assumed := hs }) g
  | some f => revalidate (groupResult s g 3 0 (findMember f) f.code false) g

/-- COMMIT_VALIDATION_DONE (R232). -/
def execCommitValidationDone (g : Fin 256) (st : State) : Res := .next (validateGroup st g.val)

end Sys2Proof.Machine
end

