-- ==== Sys2Proof/Machine/Load.lean ====
section
/-! DEFINITION. Image loads (ch. 9): the header, the sections and the trailer of a Forlet image, its checks in the order of R212, the
writing of its items into pending copies, a rejected load (R222), the start of a full image (R214). -/

namespace Sys2Proof.Machine

/-- A reject of a load: code of R218, image byte offset, item (R216). -/
structure Rej where
  code : Nat
  off : Nat
  item : Nat := 0
  deriving DecidableEq, Repr

/-- No section, no offset (R216). -/
def noSect : Nat := 0xFFFF
def noOff : Nat := 0xFFFFFFFF
/-- The first check that fails. -/
def firstRej (cs : List (Bool × Rej)) : Option Rej := (cs.find? (fun c => c.1)).map (fun c => c.2)

/-- Change the running load. -/
def onRun (s : State) (f : LoadRun → LoadRun) : State :=
  match s.load.run with
  | some r => { s with load := { s.load with run := some (f r) } }
  | none => s

/-- `n` pieces of `sz` bytes. -/
def chunk (n sz : Nat) (bs : List Byte) : List (List Byte) :=
  match n with
  | 0 => []
  | n + 1 => bs.take sz :: chunk n sz (bs.drop sz)
/-- 72-bit words packed in 9 bytes each (R191). -/
def words9 (n : Nat) (bs : List Byte) : List Word := (chunk n 9 bs).map (fun b => BitVec.ofNat 72 (leNat b))
/-- Numbers of `sz` bytes each (R190). -/
def nums (n sz : Nat) (bs : List Byte) : List Nat := (chunk n sz bs).map leNat
/-- A list as a table from 0. -/
def listMap {α : Type} [DecidableEq α] (z : α) (l : List α) : SMap α := l.zipIdx.filterMap (fun x => if x.1 = z then none else some (x.2, x.1))

/-- Where the trailer starts (R193). -/
def trailerAt (r : LoadRun) : Nat := leAt r.bytes 8 4 - (if r.hmac then 40 else 8)

/-- The window ranges that a load writes in a cell's memories: the pending pages, and the state memory of a cell that is not
assigned (R220): offset and length. -/
def loadRanges (s : State) (l : Nat) : List (Nat × Nat) :=
  let k := mapSlot s l
  [(0x800 * (1 - ppage s k), 0x800), (0x1000 + 0x800 * (1 - kpage s k), 0x800)] ++ (if rbit s (celMapA l) 31 then [] else [(0x2000, 0x1000)])
/-- What those ranges of a cell hold, as a rejected load restores them. -/
def pageUndo (s : State) (l : Nat) : PageUndo :=
  let k := memSlot s (mapSlot s l)
  let cut := fun (n : Nat) => (loadRanges s l).any (fun r => decide (k * 0x4000 + r.1 ≤ n) && decide (n < k * 0x4000 + r.1 + r.2))
  { cell := l, words := s.mem.cell.filterMap (fun e => if cut e.1 then some (e.1 - k * 0x4000, e.2) else none),
    marks := s.mem.mark.filterMap (fun e => if cut e.1 then some (e.1 - k * 0x4000, e.2) else none),
    page := mget {} s.mem.page (k * 2 + (1 - ppage s (mapSlot s l))) }
/-- They are put back into the memories the cell has now (R222). -/
def pageRestore (s : State) (u : PageUndo) : State :=
  let rs := loadRanges s u.cell
  let p := 1 - ppage s (mapSlot s u.cell)
  forEach (memSlots s (mapSlot s u.cell)) s (fun s m =>
    let s := forEach rs s (fun s r =>
      { s with mem := { s.mem with cell := mputRange 0 s.mem.cell (m * 0x4000 + r.1) r.2 (mfrom u.words r.1),
                                   mark := mputRange false s.mem.mark (m * 0x4000 + r.1) r.2 (mfrom u.marks r.1) } })
    { s with mem := { s.mem with page := mset {} s.mem.page (m * 2 + p) u.page } })
/-- A cell's pending marks return to what they were (R222). -/
def cmtRestore (s : State) (l : Nat) (u : CellCmt) : State :=
  onCmtCell s l (fun c => { c with vmark := u.vmark, noprog := u.noprog, nocoef := u.nocoef, asg := u.asg })

/-- The load writes a member: it is locked from now on, and what it held is kept (R221, R222). -/
def loadTouch (s : State) (m : Nat) : State :=
  if loadLocked s m then s else
  let i := m % 65536
  let u := fun (full : Bool) (u : LoadUndo) => match m / 65536 with
    | 1 => { u with cells := u.cells ++ [(i, cmtCell s i)],
                    pages := u.pages ++ (if hasSlot s i && !full then [pageUndo s i] else []) }
    | 2 => { u with tables := u.tables ++ [(i, mget none s.ex.shadow i)] }
    | 4 => { u with ports := u.ports ++ [(i, mget none s.port.pend i)] }
    | _ => u
  onRun s (fun r => { r with written := r.written ++ [m], undo := u r.full r.undo })
/-- Keep what a rejected load restores. -/
def loadUndo (s : State) (f : LoadUndo → LoadUndo) : State := onRun s (fun r => { r with undo := f r.undo })

/-- The group key of the load's items that are no member: 256 for a full image. -/
def loadKey (r : LoadRun) : Nat := if r.full then 256 else r.group
/-- Change the load's items that are no member. -/
def onPend (s : State) (g : Nat) (f : LoadPend → LoadPend) : State :=
  { s with cmt := { s.cmt with pend := mset {} s.cmt.pend g (f (mget {} s.cmt.pend g)) } }

/-- The completion of the load's command. -/
def loadEnd (s : State) (r : LoadRun) (status detail : Nat) (result : List Byte) : State :=
  let s := { s with load := { s.load with run := none } }
  match opOf s r.agent r.handle 0x10 with
  | some o => opEnd s o status detail result
  | none => s

/-- The items of a table that a load wrote return to what they were, or, `drop`, are pending no more; a second writing of one does not
count. -/
def putBack {α : Type} [DecidableEq α] (drop : Bool) (l : List (Nat × Option α)) (m : SMap (Option α)) : SMap (Option α) :=
  l.foldr (fun e m => mset none m e.1 (if drop then none else e.2)) m
/-- The shadow items a load wrote return to what they were, or are pending no more (R222). -/
def shadowRestore (s : State) (u : LoadUndo) (drop : Bool) : State :=
  { s with ex := { s.ex with shadow := putBack drop u.tables s.ex.shadow, chainsShadow := putBack drop u.chains s.ex.chainsShadow },
           wel := { s.wel with entPend := putBack drop u.ents s.wel.entPend, linePend := putBack drop u.lines s.wel.linePend,
                               wccPend := putBack drop u.wccs s.wel.wccPend },
           glc := { s.glc with strPend := putBack drop u.strs s.glc.strPend },
           port := { s.port with pend := putBack drop u.ports s.port.pend } }
/-- A full image's items are pending no more (R222): those of its shadow tables, and its cells'. -/
def fullDrop (s : State) (r : LoadRun) : State :=
  pendDone (forEach (r.undo.cells.map (fun e => memCell e.1)) (shadowRestore s r.undo true) memberDiscard) 256

/-- What a rejected load wrote is undone (R222): a partial load restores every item; a full one discards them. -/
def loadRestore (s : State) (r : LoadRun) : State :=
  let u := r.undo
  let s := if r.full then fullDrop s r else
    let s := forEach u.cells s (fun s e => cmtRestore s e.1 e.2)
    let s := shadowRestore (forEach u.pages s pageRestore) u false
    let s := forEach u.maps s (fun s l =>
      let k := mapSlot s l
      let s := { s with cmt := { s.cmt with hasSlot := mset false s.cmt.hasSlot l false } }
      rset (setSlotState (setSpare s k true) k 2) (celMapA l) 0)
    if r.phase = 0 then s else onPend s r.group (fun _ => u.pend)
  forEach u.power s (fun s c => setPwrDown s c true)

/-- The load is rejected: one record in its completion (R216, R303). -/
def loadReject (s : State) (r : LoadRun) (sect : Nat) (j : Rej) : State :=
  let s := loadRestore s r
  loadEnd s r 1 0 (leBytes 2 j.code ++ leBytes 2 sect ++ leBytes 4 j.off ++ leBytes 4 j.item)

/-- R192, R198: the checks of the 64 header bytes, in the order of R212. -/
def headerChecks (r : LoadRun) (b : List Byte) : List (Bool × Rej) :=
  let tlen := leAt b 8 4
  let flags := leAt b 0x10 4
  let partial_ := nbit flags 0
  let hm := nbit flags 1
  [(slice b 0 4 != [0x46, 0x52, 0x4C, 0x54], ⟨0x0101, 0, 0⟩), (leAt b 4 2 != 0x0100, ⟨0x0102, 4, 0⟩), (leAt b 6 2 != 64, ⟨0x0103, 6, 0⟩),
   (tlen % 8 != 0 || decide (tlen > 0x08000000) || tlen != r.len || decide (tlen < 64 + (if hm then 40 else 8)), ⟨0x0103, 8, 0⟩),
   (leAt b 0xC 4 == 0 || decide (leAt b 0xC 4 > 65535), ⟨0x010F, 0xC, 0⟩), (decide (flags ≥ 4), ⟨0x0108, 0x10, 0⟩),
   (leAt b 0x14 4 != 0x9740, ⟨0x0101, 0x14, 0⟩), (partial_ && leAt b 0x20 8 != 0, ⟨0x0105, 0x20, 0⟩),
   (partial_ && decide (leAt b 0x28 2 > 255), ⟨0x0107, 0x28, 0⟩), (!partial_ && leAt b 0x28 2 != 0, ⟨0x0105, 0x28, 0⟩),
   (slice b 0x2A 22 != List.replicate 22 0, ⟨0x0108, 0x2A, 0⟩), (hm && r.key.isNone, ⟨0x010C, 0x10, 0⟩), (!hm && r.require, ⟨0x010D, 0x10, 0⟩)]

/-- The load-state check (R217) and the staging-cistern check (R210). -/
def stateChecks (s : State) (r : LoadRun) (b : List Byte) : List (Bool × Rej) :=
  let partial_ := nbit (leAt b 0x10 4) 0
  [(if partial_ then !s.cmt.live else s.cmt.live, ⟨0x0110, 0x10, 0⟩),
   (partial_ && (groupOf s (leAt b 0x28 2)).state != 0, ⟨0x0110, 0x28, 0⟩),
   (cisDown s r.stag || (partial_ && cisOwner s r.stag != 5), ⟨0x0111, noOff, 0⟩)]

/-- The usable slots of a cluster, in ascending order (R17). -/
def usableSlots (s : State) (c : Nat) : List Nat := ((List.range 68).map (fun j => c * 68 + j)).filter (fun k => slotGood s k && !slotRetired s k)
/-- A logical cell takes a slot (R17). -/
def mapTo (s : State) (l k : Nat) : State :=
  let s := if slotState s k = 4 then wipeSlot s k else s
  let s := setSpare (setSlotState s k 0) k false
  let s := rput (rset s (celMapA l) (BitVec.ofNat 32 (k % 68 * 257))) (celSlotA k) 8 6 (l % 64)
  { s with cmt := { s.cmt with hasSlot := mset false s.cmt.hasSlot l true } }
/-- A full load that is taken in place of one that has passed and waits for its start: that one does not start (log entry 70). -/
def armDrop (s : State) : State :=
  match s.load.arm with
  | some r =>
    let s := fullDrop s r
    { s with load := { s.load with arm := none }, cmt := { s.cmt with start := none } }
  | none => s
/-- A full load maps the logical cells of every cluster (R17): all of them, or, below 64 usable slots, none so far; the other usable slots
are spares, which are cleared (R54). -/
def mapCells (s : State) : State :=
  forN 16 s (fun s c =>
    let us := usableSlots s c
    let s := forN 64 s (fun s i =>
      rset { s with cmt := { s.cmt with hasSlot := mset false s.cmt.hasSlot (c * 64 + i) false } } (celMapA (c * 64 + i)) 0)
    let n := if us.length ≥ 64 then 64 else 0
    let s := forN n s (fun s i => mapTo s (c * 64 + i) (us.getD i 0))
    forEach (us.drop n) s (fun s k =>
      let s := if slotState s k = 2 then s else wipeSlot s k
      setSpare (setSlotState s k 2) k true))

/-- IMAGE_HEADER_CHECK (R212 step 2). -/
def imageHeader (s : State) (given : Option (List Byte)) : State :=
  match s.load.run with
  | none => s
  | some r =>
    if r.phase ≠ 0 ∨ (r.net ∧ r.feed.length < 64) then s else
    match (if r.net then some r.feed else given) with
    | none => loadReject s r noSect ⟨0x010E, 0, 0⟩
    | some bs =>
      let b := slice bs 0 64
      match firstRej (headerChecks r b ++ stateChecks s r b) with
      | some j => loadReject s r noSect j
      | none =>
        let full := !nbit (leAt b 0x10 4) 0
        let r := { r with phase := 1, bytes := b, feed := r.feed.drop 64, full := full, hmac := nbit (leAt b 0x10 4) 1, nsec := leAt b 0xC 4,
                          sq := leAt b 0x18 8, start := leAt b 0x20 8, group := leAt b 0x28 2 }
        let r := if full then r else { r with undo := { r.undo with pend := mget {} s.cmt.pend r.group } }
        let s := { s with load := { s.load with run := some { r with phase := if trailerAt r ≤ 64 then 2 else 1 } } }
        let s := if full then mapCells (cisSetOwner (armDrop s) r.stag 5) else s
        if r.net then s else emit s (.hostRead (r.addr + 64) (r.len - 64))

/-- The header of a section (R194): image offset, TYPE, TARGET, SLEN, AUX. -/
structure SecHead where
  o : Nat
  typ : Nat
  tgt : Nat
  slen : Nat
  aux : Nat
  deriving DecidableEq, Repr

/-- The item a section's target names (R216). -/
def secItem (h : SecHead) : Nat :=
  match h.typ with
  | 3 => h.tgt % 1024 + 0x7FF * 65536
  | 4 | 6 | 7 => h.tgt % 16
  | 9 => h.tgt
  | _ => 0
/-- Largest TARGET of a type (R199). -/
def maxTarget (t : Nat) : Nat :=
  match t with
  | 3 => 1023 | 4 | 6 | 7 => 15 | 9 => 0xFFFF | 0xA => 0xFFFF | 0xB => 255 | _ => 0
/-- The order key of a section within its type: target, first item, one past the last (R195). -/
def secKey (h : SecHead) : Nat × Nat × Nat :=
  match h.typ with
  | 5 => (0, h.aux, h.aux + h.slen / 8)
  | 7 => (h.tgt, h.aux % 32768, h.aux % 32768 + h.aux / 65536)
  | 8 => (0, h.aux, h.aux + h.slen / 20)
  | 0xA => (h.tgt / 32768, h.tgt % 32768, h.tgt % 32768 + h.aux)
  | _ => (h.tgt, 0, 0)

/-- What every section is checked for: its SCRC first (R212), reserved bytes and padding, type, order, target, AUX (R194, R195, R199). -/
def sectionChecks (r : LoadRun) (h : SecHead) (b : List Byte) : List (Bool × Rej) :=
  let it := secItem h
  let k := secKey h
  let ranged := h.typ == 5 || h.typ == 7 || h.typ == 8 || h.typ == 0xA
  let again := r.secs > 0 && h.typ == r.lastT
  [(crc32c (b.take 12 ++ b.drop 16) != leAt b 12 4, ⟨0x0109, h.o + 12, 0⟩), (leAt b 1 1 != 0, ⟨0x0108, h.o + 1, 0⟩),
   ((b.drop (16 + h.slen)).any (fun x => x != 0), ⟨0x0108, h.o + 16 + h.slen, 0⟩),
   (h.typ == 0 || decide (h.typ > 0xB), ⟨0x0105, h.o, 0⟩), (r.secs > 0 && decide (h.typ < r.lastT), ⟨0x0106, h.o, 0⟩),
   (decide (h.tgt > maxTarget h.typ), ⟨0x0107, h.o + 2, it⟩),
   (again && !ranged && decide (k.1 ≤ r.lastG), ⟨0x0106, h.o + 2, it⟩),
   (again && ranged && (decide (k.1 < r.lastG) || (k.1 == r.lastG && decide (k.2.1 < r.lastE))), ⟨0x0106, h.o + 8, it⟩),
   (h.aux != 0 && !(h.typ == 5 || h.typ == 7 || h.typ == 8 || h.typ == 0xA), ⟨0x0107, h.o + 8, it⟩)]

/-- Local checks of a cluster-assignment section (R200). -/
def secClusters (r : LoadRun) (h : SecHead) (p : List Byte) : List (Bool × Rej) :=
  (h.slen != 64, ⟨0x0104, h.o + 4, 0⟩) :: (List.range 16).flatMap (fun c =>
    let o := h.o + 16 + 4 * c
    let keep := leAt p (4 * c + 1) 1
    [(leAt p (4 * c + 2) 2 != 0, ⟨0x0108, o + 2, 0⟩), (r.full && keep != 0, ⟨0x0105, o + 1, 0⟩), (decide (keep > 1), ⟨0x0107, o + 1, 0⟩),
     (keep == 0 && decide (leAt p (4 * c) 1 > 3), ⟨0x0901, o, 0⟩)])
def putClusters (s : State) (r : LoadRun) (p : List Byte) : State :=
  forN 16 s (fun s c =>
    let d := leAt p (4 * c) 1
    if !r.full && leAt p (4 * c + 1) 1 == 1 then s else
    let s := onPend s (loadKey r) (fun x => { x with dom := mset none x.dom c (some d) })
    let down := mget false s.pwr.down c
    if d < 3 ∧ (pwrStep s c = 0 ∨ down) then
      let s := if down then onPwr s (fun p => { p with dom := mset 0 p.dom c d }) else powerUp s c d
      loadUndo s (fun u => { u with power := u.power ++ [c] })
    else s)

/-- Local checks of a cistern section (R201, R210). -/
def secCisterns (r : LoadRun) (h : SecHead) (p : List Byte) : List (Bool × Rej) :=
  (h.slen != 512, ⟨0x0104, h.o + 4, 0⟩) :: (List.range 128).flatMap (fun k =>
    let o := h.o + 16 + 4 * k
    let v := leAt p (4 * k) 1
    [(leAt p (4 * k + 1) 3 != 0, ⟨0x0108, o + 1, k⟩), (r.full && v == 15, ⟨0x0105, o, k⟩), (v != 15 && decide (v > 6), ⟨0x0601, o, k⟩),
     (!r.full && k == r.stag && v != 15 && v != 5, ⟨0x0111, o, k⟩)])
def putCisterns (s : State) (r : LoadRun) (p : List Byte) : State :=
  onPend s (loadKey r) (fun x => { x with own := (List.range 128).foldl (fun (m : SMap (Option Nat)) k =>
    let v := leAt p (4 * k) 1
    if v = 15 then m else mset none m k (some v)) x.own })

/-- Fields of a cell section (R202). -/
structure CellSec where
  phase : Nat
  flags : Nat
  entry : Nat
  bentry : Nat
  yld : Nat
  rsm : Nat
  np : Nat
  nk : Nat
  ns : Nat
  nd : Nat
  deriving DecidableEq, Repr
def cellSec (p : List Byte) : CellSec :=
  let f := fun (i : Nat) => leAt p (2 * i) 2
  ⟨f 0, f 1, f 2, f 3, f 4, f 5, f 6, f 7, f 8, f 9⟩
def CellSec.sample (c : CellSec) : Bool := nbit c.flags 0
def CellSec.block (c : CellSec) : Bool := nbit c.flags 1
def CellSec.noprog (c : CellSec) : Bool := nbit c.flags 2
def CellSec.nocoef (c : CellSec) : Bool := nbit c.flags 3
def CellSec.decls (c : CellSec) (p : List Byte) : List Nat := nums c.nd 4 (p.drop (24 + 9 * (c.np + c.nk + c.ns)))

/-- Local checks of a cell section (R202, R220, R103, R104, R106, R114, R17). -/
def secCell (s : State) (r : LoadRun) (h : SecHead) (p : List Byte) : List (Bool × Rej) :=
  let c := cellSec p
  let l := h.tgt
  let po := h.o + 16
  let it := l + 0x7FF * 65536
  let ds := c.decls p
  let prog := listMap (0 : Word) (words9 c.np (p.drop 24))
  let bad : Option (Nat × Nat) :=
    if c.noprog then none
    else lowestFail (pageFails (fun a => mget 0 prog a) ⟨c.sample, c.entry, c.block, c.bentry, c.yld, c.rsm⟩).1
  let full := h.slen == 24 + 9 * (c.np + c.nk + c.ns) + 4 * c.nd
  [(decide (h.slen < 24) || !full, ⟨0x0104, h.o + 4, it⟩), (decide (c.flags ≥ 16), ⟨0x0108, po + 2, it⟩),
   (leAt p 0x14 4 != 0, ⟨0x0108, po + 0x14, it⟩), (ds.any (fun d => decide (d ≥ 16)), ⟨0x0108, po + 24 + 9 * (c.np + c.nk + c.ns), it⟩),
   (match sealedBy s (memCell l) with | some g => !r.full && g != r.group | none => false, ⟨0x0110, h.o + 2, it⟩)]
  ++ [(decide (c.np > 2048) || (c.noprog && c.np != 0), ⟨0x020E, po + 0xC, it⟩),
      (decide (c.nk > 2048) || (c.nocoef && c.nk != 0), ⟨0x020E, po + 0xE, it⟩), (decide (c.ns > 4096), ⟨0x020E, po + 0x10, it⟩),
      (decide (c.entry > 2047), ⟨0x020E, po + 4, it⟩),
      (if c.block then decide (c.bentry > 2047) || decide (c.yld > 2047) || decide (c.rsm > 2047)
       else c.bentry != 0 || c.yld != 0 || c.rsm != 0, ⟨0x020E, po + 6, it⟩),
      (r.full && (c.noprog || c.nocoef), ⟨0x020E, po + 2, it⟩)]
  ++ (match bad with
      | some f => [(true, ⟨f.1, if f.2 < c.np then po + 24 + 9 * f.2 else po + 4, l + f.2 * 65536⟩)]
      | none => [])
  ++ [(!r.full && c.ns != 0 && rbit s (celMapA l) 31, ⟨0x020F, po + 0x10, it⟩),
      (!hasSlot s l && (lowestSpare s (l / 64)).isNone, ⟨0x0902, h.o + 2, it⟩)]

/-- Words of a whole page, with its marks. -/
def putPage (s : State) (k lo : Nat) (ws : SMap Word) (mark : Bool) : State :=
  let ms : SMap Bool := if mark then (List.range 0x800).map (fun i => (i, true)) else []
  { s with mem := { s.mem with cell := mputRange 0 s.mem.cell (k * 0x4000 + lo) 0x800 ws, mark := mputRange false s.mem.mark (k * 0x4000 + lo) 0x800 ms } }

/-- A page of a slot from an offset, as a table. -/
def pageAt (s : State) (k lo : Nat) : SMap Word :=
  s.mem.cell.filterMap (fun e => if k * 0x4000 + lo ≤ e.1 ∧ e.1 < k * 0x4000 + lo + 0x800 then some (e.1 - (k * 0x4000 + lo), e.2) else none)

/-- The items of a cell section are written (R202, R220). -/
def putCell (s : State) (h : SecHead) (p : List Byte) : State :=
  let c := cellSec p
  let l := h.tgt
  let running := rbit s (celMapA l) 31
  let s := loadTouch s (memCell l)
  let s := if hasSlot s l then s else match lowestSpare s (l / 64) with
    | some k =>
      let s := loadUndo (mapTo s l k) (fun u => { u with maps := u.maps ++ [l] })
      s
    | none => s
  let k := mapSlot s l
  let pen := 0x800 * (1 - ppage s k)
  let penK := 0x1000 + 0x800 * (1 - kpage s k)
  let rest := p.drop 24
  let prog := listMap (0 : Word) (words9 c.np rest)
  let coef := listMap (0 : Word) (words9 c.nk (rest.drop (9 * c.np)))
  let st := listMap (0 : Word) (words9 c.ns (rest.drop (9 * (c.np + c.nk))))
  let s := forEach (memSlots s k) s (fun s m =>
    let act := mget ({} : PageInfo) s.mem.page (m * 2 + ppage s k)
    let s := if c.noprog then putPage s m pen (pageAt s m (0x800 * ppage s k)) false else putPage s m pen prog true
    let s := if c.nocoef then putPage s m penK (pageAt s m (0x1000 + 0x800 * kpage s k)) false else putPage s m penK coef true
    let s := if running then s else { s with mem := { s.mem with cell := mputRange 0 s.mem.cell (m * 0x4000 + 0x2000) 0x1000 st } }
    let vecs := if c.noprog then (act.vEntry, act.vYield, act.vResume) else (c.bentry, c.yld, c.rsm)
    let info : PageInfo :=
      { entry := c.entry, phase := c.phase, hasBlk := c.block, present := c.sample, decls := c.decls p, vEntry := vecs.1,
        vYield := vecs.2.1, vResume := vecs.2.2 }
    { s with mem := { s.mem with page := mset {} s.mem.page (m * 2 + (1 - ppage s k)) info } })
  onCmtCell s l (fun x => { x with vmark := true, noprog := c.noprog, nocoef := c.nocoef, asg := some (c.sample || c.block) })

/-- Local checks of an exchange slot table (R203). -/
def secTable (s : State) (r : LoadRun) (h : SecHead) (p : List Byte) : List (Bool × Rej) :=
  let ncl := leAt p 0 4
  let nse := leAt p 4 4
  let po := h.o + 16
  let it := h.tgt
  let full := decide (h.slen ≥ 0x1088) && decide (ncl ≤ 4096) && decide (nse ≤ 61440) && h.slen == 0x1088 + 2 * ncl + 4 * nse
  (!full, ⟨0x0104, h.o + 4, it⟩)
  :: (nums 256 8 (p.drop 8)).zipIdx.map (fun x => (nbits x.1 51 2 != 0, ⟨0x0108, po + 8 + 8 * x.2, it + x.2 * 16⟩))
  ++ (nums 32 4 (p.drop 0x1008)).zipIdx.map (fun x => (nbits x.1 0 16 != 0, ⟨0x0108, po + 0x1008 + 4 * x.2, it⟩))
  ++ (nums (if full then ncl else 0) 2 (p.drop 0x1088)).zipIdx.map (fun x => (decide (x.1 ≥ 4096), ⟨0x0108, po + 0x1088 + 2 * x.2, it⟩))
  ++ (nums (if full then nse else 0) 4 (p.drop (0x1088 + 2 * ncl))).zipIdx.map (fun x =>
      (nbit x.1 15, ⟨0x0108, po + 0x1088 + 2 * ncl + 4 * x.2, it⟩))
  ++ [(match sealedBy s (memTable it) with | some g => !r.full && g != r.group | none => false, ⟨0x0110, h.o + 2, it⟩)]

/-- The lanes of a 32-byte read set (R203). -/
def readSet (b : List Byte) : List Nat := let v := leNat b; (List.range 256).filter (fun i => nbit v i)
/-- The slot table that a payload spells (R203). -/
def tableOf (p : List Byte) : SlotTable :=
  let ncl := leAt p 0 4
  { desc := (listMap 0 (nums 256 8 (p.drop 8))).map (fun (e : Nat × Nat) => (e.1, BitVec.ofNat 64 e.2)),
    reads := listMap [] ((chunk 64 32 (p.drop 0x808)).map readSet),
    bridge := (listMap 0 (nums 32 4 (p.drop 0x1008))).map (fun (e : Nat × Nat) => (e.1, BitVec.ofNat 32 e.2)),
    chain := listMap 0 (nums ncl 2 (p.drop 0x1088)),
    sched := (nums (leAt p 4 4) 4 (p.drop (0x1088 + 2 * ncl))).map (fun v => BitVec.ofNat 32 v) }
def putTable (s : State) (h : SecHead) (p : List Byte) : State :=
  let s := loadTouch s (memTable h.tgt)
  { s with ex := { s.ex with shadow := mset none s.ex.shadow h.tgt (some (tableOf p)) } }

/-- The home clusters a chain has, live and new. -/
def chainHomes (s : State) (n : Nat) (d : Nat) : List Nat :=
  let old := chainDesc s n
  ((if d = 0 then [] else [chHome d]) ++ (if old = 0 then [] else [chHome old])).eraseDups
/-- The item of a chain: its number and its home (R216). -/
def chainItem (s : State) (n d : Nat) : Nat := n * 4096 + (chainHomes s n d).headD 0
/-- Local checks of a chain section (R204, R131). -/
def secChains (s : State) (r : LoadRun) (h : SecHead) (p : List Byte) : List (Bool × Rej) :=
  let n := h.slen / 8
  (h.slen == 0 || h.slen % 8 != 0, ⟨0x0104, h.o + 4, 0⟩) :: (decide (h.aux + n > 4096), ⟨0x0107, h.o + 8, 0⟩)
  :: (nums n 8 p).zipIdx.flatMap (fun x =>
      [(x.1 % 2 ^ 37 != 0, ⟨0x0108, h.o + 16 + 8 * x.2, chainItem s (h.aux + x.2) x.1⟩),
       (!r.full && (chainHomes s (h.aux + x.2) x.1).any (fun c =>
          match sealedBy s (memTable c) with | some g => g != r.group | none => false), ⟨0x0110, h.o + 16 + 8 * x.2, chainItem s (h.aux + x.2) x.1⟩)])
def putChains (s : State) (h : SecHead) (p : List Byte) : State :=
  forEach (nums (h.slen / 8) 8 p).zipIdx s (fun s x =>
    let n := h.aux + x.2
    let s := forEach (chainHomes s n x.1) s (fun s c => loadTouch s (memTable c))
    let s := loadUndo s (fun u => { u with chains := u.chains ++ [(n, mget none s.ex.chainsShadow n)] })
    { s with ex := { s.ex with chainsShadow := mset none s.ex.chainsShadow n (some (BitVec.ofNat 64 x.1)) } })

/-- The Wellhead of a cluster is sealed by another group than the load's (R228). -/
def welSealed (s : State) (r : LoadRun) (c : Nat) : Bool :=
  match sealedBy s (memWel c) with | some g => !r.full && g != r.group | none => false
/-- The multiplier a cluster has with what pends in the load (R199: the assignment section comes first). -/
def loadDom (s : State) (r : LoadRun) (c : Nat) : Nat :=
  match mget none (mget {} s.cmt.pend (loadKey r)).dom c with
  | some 0 => 1 | some 1 => 2 | some 2 => 4 | some _ => 0
  | none => domPlan s c
/-- Local checks of a Wellhead walk section (R205, R146, R168). -/
def secWalk (s : State) (r : LoadRun) (h : SecHead) (p : List Byte) : List (Bool × Rej) :=
  let c := h.tgt
  let po := h.o + 16
  let ls : List (Nat × Nat) := (nums 1024 4 (p.drop 8)).zipIdx
  let on : List (W32 × Nat) := ls.filterMap (fun x => if nbit x.1 31 then some (BitVec.ofNat 32 x.1, x.2) else none)
  let at_ := fun (n : Nat) => po + 8 + 4 * n
  let m := loadDom s r c
  [(h.slen != 4104, ⟨0x0104, h.o + 4, c⟩), (leAt p 2 6 != 0, ⟨0x0108, po + 2, c⟩)]
  ++ ls.map (fun x => (nbit x.1 15, ⟨0x0108, at_ x.2, c + x.2 * 16⟩))
  ++ [(welSealed s r c, ⟨0x0110, h.o + 2, c⟩), (m != 0 && decide (leAt p 0 2 + 65 > domC m), ⟨0x0401, po, c⟩)]
  ++ on.map (fun x =>
      let b := lnBase x.1
      let n := 2 ^ lnK x.1
      let ovl := on.any (fun y => decide (y.2 < x.2) && meets b n (lnBase y.1) (2 ^ lnK y.1)
        && !(lnBase y.1 == b && lnK y.1 == lnK x.1 && lnHalf y.1 != lnHalf x.1))
      (decide (lnK x.1 < 4) || decide (lnK x.1 > 19) || b % n != 0 || ovl, ⟨0x0404, at_ x.2, c + x.2 * 16⟩))
  ++ on.map (fun x => (lnWrt x.1 && lnInlane x.1 != 0, ⟨0x0406, at_ x.2, c + x.2 * 16⟩))
def putWalk (s : State) (h : SecHead) (p : List Byte) : State :=
  let c := h.tgt
  let s := loadTouch s (memWel c)
  let new : SMap (Option W32) := (nums 1024 4 (p.drop 8)).zipIdx.map (fun x => (x.2, some (BitVec.ofNat 32 x.1)))
  let old := (List.range 1024).map (fun k => (c * 1024 + k, mget none s.wel.linePend (c * 1024 + k)))
  let s := loadUndo s (fun u => { u with lines := u.lines ++ old, wccs := u.wccs ++ [(c, mget none s.wel.wccPend c)] })
  { s with wel := { s.wel with wccPend := mset none s.wel.wccPend c (some (leAt p 0 2)),
                               linePend := mputRange none s.wel.linePend (c * 1024) 1024 new } }

/-- A tap entry of 18 bytes (R205). -/
def tapOf (b : List Byte) : TapEntry := ⟨BitVec.ofNat 72 (leNat (b.take 9)), BitVec.ofNat 72 (leNat (b.drop 9))⟩
/-- Local checks of a tap-entry section (R205, R152, R168). -/
def secTaps (s : State) (r : LoadRun) (h : SecHead) (p : List Byte) : List (Bool × Rej) :=
  let c := h.tgt
  let n := h.aux / 65536
  let first := h.aux % 32768
  [(nbit h.aux 15, ⟨0x0108, h.o + 8, c⟩), (n == 0 || decide (n > 8192) || decide (first + n > 32768), ⟨0x0107, h.o + 8, c + first * 16⟩),
   (h.slen != 18 * n, ⟨0x0104, h.o + 4, c⟩), (welSealed s r c, ⟨0x0110, h.o + 2, c⟩)]
  ++ (chunk (min n 8192) 18 p).zipIdx.flatMap (fun x =>
      let t := tapOf x.1
      let off := h.o + 16 + 18 * x.2
      let it := c + (first + x.2) * 16
      [(nbits t.w1.toNat 64 7 != 0 || nbits t.w1.toNat 0 28 != 0, ⟨0x0108, off + 9, it⟩),
       (teEn t && (teInterp t == 3 || teDgm t == 3 || teGgm t == 3 || decide (teDk t > 16) || decide (teGk t > 16)), ⟨0x0403, off + 9, it⟩)])
def putTaps (s : State) (h : SecHead) (p : List Byte) : State :=
  let s := loadTouch s (memWel h.tgt)
  let n := h.aux / 65536
  let lo := h.tgt * 32768 + h.aux % 32768
  let old := (List.range n).map (fun k => (lo + k, mget none s.wel.entPend (lo + k)))
  let s := loadUndo s (fun u => { u with ents := u.ents ++ old })
  let new : SMap (Option TapEntry) := (chunk n 18 p).zipIdx.map (fun x => (x.2, some (tapOf x.1)))
  { s with wel := { s.wel with entPend := mputRange none s.wel.entPend lo n new } }

/-- A stream descriptor of 20 bytes (R206). -/
def strOfBytes (b : List Byte) : StrDesc :=
  let w := fun (k : Nat) => BitVec.ofNat 32 (leAt b (4 * k) 4)
  ⟨w 0, w 1, w 2, w 3, w 4⟩
/-- Local checks of a stream section (R206, R175). -/
def secStreams (s : State) (r : LoadRun) (h : SecHead) (p : List Byte) : List (Bool × Rej) :=
  let n := h.slen / 20
  [(h.slen == 0 || h.slen % 20 != 0, ⟨0x0104, h.o + 4, 0⟩), (decide (h.aux + n > 4096), ⟨0x0107, h.o + 8, h.aux % 4096⟩)]
  ++ (chunk n 20 p).zipIdx.flatMap (fun x =>
      let d := strOfBytes x.1
      let off := h.o + 16 + 20 * x.2
      [(strReserved d, ⟨0x0108, off, h.aux + x.2⟩), ((strMembers s (h.aux + x.2) d).any (welSealed s r), ⟨0x0110, off, h.aux + x.2⟩),
       (sdEn d && (sdKind d == 0 || sdNb d == 0), ⟨0x0501, off, h.aux + x.2⟩)])
def putStreams (s : State) (h : SecHead) (p : List Byte) : State :=
  forEach (chunk (h.slen / 20) 20 p).zipIdx s (fun s x =>
    let n := h.aux + x.2
    let d := strOfBytes x.1
    let s := forEach (strHomes s n d) s (fun s c => loadTouch s (memWel c))
    let s := loadUndo s (fun u => { u with strs := u.strs ++ [(n, mget none s.glc.strPend n)] })
    { s with glc := { s.glc with strPend := mset none s.glc.strPend n (some d) } })

/-- Bytes of a class record (R208); 0: no such class. -/
def recBytes (cls : Nat) : Nat := match cls with | 1 => 112 | 2 | 3 => 32 | 4 => 48 | _ => 0
/-- The port code names a port of the device (R215). -/
def portExists (p : Nat) : Bool :=
  match p / 4096 with | 1 => decide (p % 4096 < 1024) | 2 | 3 => decide (p % 4096 < 16) | 4 => decide (p % 4096 < 8) | _ => false
/-- Local checks of a port binding (R208). -/
def secPort (s : State) (r : LoadRun) (h : SecHead) (p : List Byte) : List (Bool × Rej) :=
  let full := 16 + recBytes (h.tgt / 4096)
  let en := leAt p 0 1
  [(!portExists h.tgt, ⟨0x0107, h.o + 2, h.tgt⟩), (decide (h.slen < 16) || !(h.slen == full || (en == 0 && h.slen == 16)), ⟨0x0104, h.o + 4, h.tgt⟩),
   (decide (en > 1), ⟨0x0107, h.o + 16, h.tgt⟩), (en == 1 && leAt p 0xC 4 != 0, ⟨0x0108, h.o + 16 + 0xC, h.tgt⟩),
   (match sealedBy s (memPort h.tgt) with | some g => !r.full && g != r.group | none => false, ⟨0x0110, h.o + 2, h.tgt⟩)]
def putPort (s : State) (h : SecHead) (p : List Byte) : State :=
  let s := loadTouch s (memPort h.tgt)
  let b : PortBind := if leAt p 0 1 = 0 then {} else
    { en := true, cl := leAt p 1 1, nch := leAt p 2 2, bufin := leAt p 4 4, bufout := leAt p 8 4, raw := p.drop 16 }
  { s with port := { s.port with pend := mset none s.port.pend h.tgt (some b) } }

/-- Local checks of an attachment section (R207, R385, R393). -/
def secAtt (h : SecHead) (p : List Byte) : List (Bool × Rej) :=
  let hist := h.tgt / 32768 == 1
  let first := h.tgt % 32768
  [(h.aux == 0 || decide (first + h.aux > (if hist then 256 else 4096)), ⟨0x0107, h.o + 2, 0⟩), (h.slen != 8 * h.aux, ⟨0x0104, h.o + 4, 0⟩)]
  ++ (nums (min h.aux 4096) 8 p).zipIdx.map (fun x => (if hist then nbits x.1 44 8 != 0 else nbits x.1 32 4 != 0, ⟨0x0108, h.o + 16 + 8 * x.2, 0⟩))
def putAtt (s : State) (r : LoadRun) (h : SecHead) (p : List Byte) : State :=
  let new : SMap (Option W64) := (nums h.aux 8 p).zipIdx.map (fun y => (y.2, some (BitVec.ofNat 64 y.1)))
  onPend s (loadKey r) (fun x => { x with att := mputRange none x.att h.tgt h.aux new })

/-- Local checks of a group section (R209, R220). -/
def secGroup (r : LoadRun) (h : SecHead) (p : List Byte) : List (Bool × Rej) :=
  [(h.slen % 4 != 0, ⟨0x0104, h.o + 4, 0⟩)]
  ++ (nums (h.slen / 4) 4 p).zipIdx.map (fun x => (nbits x.1 16 12 != 0, ⟨0x0108, h.o + 16 + 4 * x.2, 0⟩))
  ++ [(!r.full && h.tgt == r.group, ⟨0x0802, h.o + 2, 0⟩)]
def putGroup (s : State) (r : LoadRun) (h : SecHead) (p : List Byte) : State :=
  let ms := ((nums (h.slen / 4) 4 p).map (fun v => v / 2 ^ 28 * 65536 + v % 65536)).eraseDups
  onPend s (loadKey r) (fun x => { x with memb := mset none x.memb h.tgt (some ms) })

/-- The local checks of a section (R212 step 3). -/
def localChecks (s : State) (r : LoadRun) (h : SecHead) (p : List Byte) : List (Bool × Rej) :=
  match h.typ with
  | 1 => secClusters r h p
  | 2 => secCisterns r h p
  | 3 => secCell s r h p
  | 4 => secTable s r h p
  | 5 => secChains s r h p
  | 6 => secWalk s r h p
  | 7 => secTaps s r h p
  | 8 => secStreams s r h p
  | 9 => secPort s r h p
  | 0xA => secAtt h p
  | _ => secGroup r h p
/-- The items of a section are written. -/
def putSection (s : State) (r : LoadRun) (h : SecHead) (p : List Byte) : State :=
  match h.typ with
  | 1 => putClusters s r p
  | 2 => putCisterns s r p
  | 3 => putCell s h p
  | 4 => putTable s h p
  | 5 => putChains s h p
  | 6 => putWalk s h p
  | 7 => putTaps s h p
  | 8 => putStreams s h p
  | 9 => putPort s h p
  | 0xA => putAtt s r h p
  | _ => putGroup s r h p
/-- The clusters a section names (R199). -/
def secNames (h : SecHead) : List Nat := match h.typ with | 3 => [h.tgt / 64] | 4 | 6 | 7 => [h.tgt] | _ => []

/-- Bytes are staged in a half of the staging cistern, nine to a word (R210). -/
def stage (s : State) (r : LoadRun) (half : Nat) (b : List Byte) : State :=
  let n := (b.length + 8) / 9
  { s with mem := { s.mem with cist := mputRange 0 s.mem.cist (r.stag * 65536 + half * 32768) n (listMap (0 : Word) (words9 n b)) } }
/-- The staging cistern does not admit the load's writes: a bus error of the read (R211, R244). -/
def stageRefused (s : State) (r : LoadRun) : Bool := cisDown s r.stag || !cisTMay s r.stag 5
/-- That refusal, as the cistern shows it (R244), and the load's end. -/
def stageReject (s : State) (r : LoadRun) (sect o : Nat) : State :=
  loadReject (if cisDown s r.stag then s else cisErr s r.stag 3) r sect ⟨0x010E, o, 0⟩

/-- A cluster that the load powers up is not yet cleared (R212 step 3). -/
def powerWaits (s : State) (r : LoadRun) : Bool := r.undo.power.any (fun c => pwrStep s c != 3 || mget false s.pwr.down c)

/-- IMAGE_SECTION_CHECK (R212 step 3): the next section is staged, checked and written. -/
def imageSection (s : State) (given : Option (List Byte)) : State :=
  match s.load.run with
  | none => s
  | some r =>
    let o := r.bytes.length
    let ts := trailerAt r
    let bs := if r.net then some r.feed else given
    if r.phase ≠ 1 ∨ powerWaits s r then s else
    match bs with
    | none => loadReject s r r.secs ⟨0x010E, o, 0⟩
    | some bs =>
      let have_ := if r.net then bs.length else ts - o
      let slen := leAt bs 4 4
      let size := 16 + (slen + 7) / 8 * 8
      let h : SecHead := ⟨o, leAt bs 0 1, leAt bs 2 2, slen, leAt bs 8 4⟩
      if have_ < min 16 (ts - o) then s else
      match firstRej [(decide (r.secs ≥ r.nsec), ⟨0x010F, 0xC, 0⟩), (decide (ts < o + 16), ⟨0x0103, o, 0⟩),
                      (decide (size > 262144), ⟨0x0104, o + 4, 0⟩), (decide (ts < o + size), ⟨0x0103, o + 4, 0⟩)] with
      | some j => loadReject s r r.secs j
      | none =>
        if have_ < size then s else
        let b := slice bs 0 size
        let p := (b.drop 16).take slen
        if stageRefused s r then stageReject s r r.secs o else
        let s := stage s r (r.secs % 2) b
        match firstRej (sectionChecks r h b ++ localChecks s r h p) with
        | some j => loadReject s r r.secs j
        | none =>
          let k := secKey h
          let s := onRun (putSection s r h p) (fun r =>
            { r with bytes := r.bytes ++ b, feed := if r.net then r.feed.drop size else r.feed, secs := r.secs + 1, lastT := h.typ, lastG := k.1,
                     lastE := k.2.2, hadDom := r.hadDom || h.typ == 1, hadOwn := r.hadOwn || h.typ == 2, named := r.named ++ secNames h })
          if o + size ≥ ts then onRun s (fun r => { r with phase := 2 }) else s

/-- Glide tables are empty, no glide runs (R235). -/
def glidesEmpty (s : State) : State :=
  let cs : SMap CellCmt := (s.cmt.cells.map (fun (e : Nat × CellCmt) => (e.1, { e.2 with gAct := [], gPend := [], gMark := [], run := [] }))).filter
    (fun (e : Nat × CellCmt) => decide (e.2 ≠ ({} : CellCmt)))
  { s with cmt := { s.cmt with cells := cs } }
/-- Keep only the pending items whose key the load wrote. -/
def keepKeys {α : Type} (m : SMap α) (ks : List Nat) : SMap α := m.filter (fun e => ks.contains e.1)
/-- Pending content of slot tables, chains, Wellheads and streams that the load did not write does not become live with a full image
(R199, R215). -/
def foreignDropped (s : State) (r : LoadRun) : State :=
  let u := r.undo
  { s with ex := { s.ex with shadow := keepKeys s.ex.shadow (u.tables.map (fun e => e.1)),
                             chainsShadow := keepKeys s.ex.chainsShadow (u.chains.map (fun e => e.1)) },
           wel := { s.wel with entPend := keepKeys s.wel.entPend (u.ents.map (fun e => e.1)),
                               linePend := keepKeys s.wel.linePend (u.lines.map (fun e => e.1)),
                               wccPend := keepKeys s.wel.wccPend (u.wccs.map (fun e => e.1)) },
           glc := { s.glc with strPend := keepKeys s.glc.strPend (u.strs.map (fun e => e.1)) } }

/-- Meters and histogram engines that a full image does not name take their reset record (R199). -/
def attsReset (s : State) : State :=
  let p := (mget {} s.cmt.pend 256).att
  let named := fun (n : Nat) => (mget none p n).isSome
  { s with mtr := { s.mtr with mtr := s.mtr.mtr.filter (fun e => e.2.att == 0 || named e.1),
                               hist := s.mtr.hist.filter (fun e => e.2.att == 0 || named (32768 + e.1)) } }

/-- The image is live: no start waits, and a critical stop ends (R214, R392, R426). -/
def imageLive (s : State) : State :=
  { s with cmt := { s.cmt with live := true, start := none }, load := { s.load with arm := none }, flt := { s.flt with critical := false } }

/-- Steps 7 and 8 of the boundary at which a full image starts (R214): every loaded item becomes live, ownership takes effect, the
ownership lock closes (R248), what a critical stop gated is released (R443). `b`: the BTC of the boundary. -/
def imageStart (s : State) (r : LoadRun) (b : W64) : State :=
  let before := bridgeAll s
  let s := attsReset (foreignDropped (glidesEmpty s) r)
  let gs : SMap Group := (s.cmt.groups.map (fun (e : Nat × Group) => (e.1, { e.2 with mem := [], load := [] }))).filter
    (fun (e : Nat × Group) => decide (e.2 ≠ ({} : Group)))
  let s := { s with cmt := { s.cmt with groups := gs } }
  let doms := (mget {} s.cmt.pend 256).dom
  let on := (List.range 16).filter (fun c => (mget none doms c).getD 0 != 3)
  let s := pendDoms s 256 b
  let s := forEach r.written s memberSwap
  let s := forEach (on.filter (fun c => !r.written.contains (memTable c))) s (fun s c => memberSwap s (memTable c))
  let s := forEach (on.filter (fun c => !r.written.contains (memWel c))) s (fun s c => memberSwap s (memWel c))
  let s := forEach on s (fun s c => rsetBit s (0x120000 + 0x1000 * c) 0)
  let s := bridgeHistory before (pendOwners (pendSwap s 256) 256)
  let crit := s.flt.critical
  let s := pendDone (imageLive s) 256
  let s := rput s 0x180A00 0 1 0
  if crit then fltRecover s { cls := 0xC, sev := 0, unit := 0xA000, btc := b.toNat } else s

/-- A partial load's items are claimed by its group, and by no other group's load any more (R219, R227). -/
def loadClaims (s : State) (r : LoadRun) : State :=
  let s := forEach ((s.cmt.groups.map (fun e => e.1)).filter (fun g => g != r.group)) s (fun s g =>
    let x := groupOf s g
    if x.load.any (fun m => r.written.contains m) then setGroup s g { x with load := x.load.filter (fun m => !r.written.contains m) } else s)
  let g := groupOf s r.group
  setGroup s r.group { g with load := (g.load ++ r.written).eraseDups }

/-- The structure a load would make live, and the findings about it (R215). -/
def loadVerdict (s : State) (r : LoadRun) : Option Finding :=
  if r.full then verdict (allFindings s (imageStart s r s.btc) [] [] r.named)
  else
    let t := wouldBe (loadClaims s r) [r.group]
    verdict (allFindings s t (crossArmed s t) [] r.named)

/-- A load that has passed, inside a base tick, so that the first boundary at least 4 base ticks later is the fifth (R214): a full image is armed to start, a partial image's items are pending in LOADCG (R212 steps 6 and 7, R214,
R219, R246). -/
def loadDone (s : State) (r : LoadRun) : State :=
  if r.full then
    let b := max r.start (s.btc.toNat + 5)
    let s := loadEnd s r 0 0 (leBytes 8 r.sq ++ leBytes 8 b ++ leBytes 4 r.refused)
    { s with load := { s.load with arm := some r }, cmt := { s.cmt with start := some b, seq := s.cmt.seq } }
  else
    let s := loadClaims s r
    let own := (mget {} s.cmt.pend r.group).own
    let s := forEach own s (fun s e => match e.2 with | some o => cisRequest s e.1 o true r.group false | none => s)
    let s := onPend s r.group (fun x => { x with own := [] })
    loadEnd s r 0 0 (leBytes 8 r.sq ++ leBytes 8 0 ++ leBytes 4 r.refused)

/-- IMAGE_TRAILER_CHECK (R212 steps 4 to 7). -/
def imageTrailer (s : State) (given : Option (List Byte)) : State :=
  match s.load.run with
  | none => s
  | some r =>
    let n := if r.hmac then 40 else 8
    let ts := r.bytes.length
    if r.phase ≠ 2 ∨ powerWaits s r ∨ (r.net ∧ r.feed.length < n) then s else
    match (if r.net then some r.feed else given) with
    | none => loadReject s r noSect ⟨0x010E, ts, 0⟩
    | some bs =>
      let b := slice bs 0 n
      if stageRefused s r then stageReject s r noSect ts else
      let s := stage s r (r.secs % 2) b
      match firstRej [(r.secs != r.nsec, ⟨0x010F, 0xC, 0⟩), (r.full && !(r.hadDom && r.hadOwn), ⟨0x0106, noOff, 0⟩),
                      (leAt b 4 4 != 0, ⟨0x0108, ts + 4, 0⟩), (crc32c r.bytes != leAt b 0 4, ⟨0x010A, ts, 0⟩),
                      (r.hmac && hmacSha256 (r.key.getD []) (r.bytes ++ b.take 8) != b.drop 8, ⟨0x010B, ts + 8, 0⟩)] with
      | some j => loadReject s r noSect j
      | none =>
        match loadVerdict s r with
        | some f => loadReject s r noSect ⟨f.code, noOff, f.item⟩
        | none => loadDone s r

/-- IMAGE_LOAD begins (R210, R212 step 1). -/
def imageLoad (s : State) (a h : Nat) : State :=
  match opOf s a h 0x10 with
  | none => s
  | some o =>
    if o.started ∨ s.load.run.isSome then s else
    let net := nbit o.flags 0
    let r : LoadRun := { agent := a, handle := h, net := net, addr := leAt o.params 0 8, len := leAt o.params 8 4,
                         stag := if o.arg = 0xFFFF then 127 else o.arg % 128, key := s.load.accKey, require := s.load.accRequire }
    let s := { opStart s o with load := { s.load with run := some r } }
    if net then s else emit s (.hostRead r.addr 64)

/-- The feed of a load has stalled for 1 s (R302). -/
def feedStall (s : State) : State :=
  match s.load.run with
  | none => s
  | some r =>
    if !r.net then s else
    let s := loadRestore s r
    loadEnd s r 4 1 (leBytes 2 0x010E ++ leBytes 2 (if r.phase = 1 then r.secs else noSect) ++ leBytes 4 (r.bytes.length + r.feed.length)
      ++ leBytes 4 0)

/-- IMAGE_DATA (R298, R303): bytes at the next expected offset are kept; every message is answered. -/
def imageData (s : State) (a : Nat) (body : List Byte) : State :=
  let h := leAt body 0 2
  let off := leAt body 4 4
  match s.load.run with
  | none => nsSend s a 0x0A (leBytes 2 h ++ leBytes 2 0 ++ leBytes 4 0)
  | some r =>
    let at_ := r.bytes.length + r.feed.length
    let mine := r.net && r.agent == a && r.handle == h
    let data := (body.drop 8).take (r.len - at_)
    let ok := mine && off == at_ && decide (body.length > 8) && decide (body.length ≤ 8 + 1024)
    let r' := if ok then { r with feed := r.feed ++ data } else r
    nsSend { s with load := { s.load with run := some r' } } a 0x0A
      (leBytes 2 h ++ leBytes 2 0 ++ leBytes 4 (if mine then r'.bytes.length + r'.feed.length else 0))

/-- IMAGE_LOAD (R212). -/
def execImageLoad (a : Fin 8) (h : BitVec 16) (st : State) : Res := .next (imageLoad st a.val h.toNat)
/-- IMAGE_HEADER_CHECK (R212 step 2). -/
def execImageHeaderCheck (bytes : Option (List Byte)) (st : State) : Res := .next (imageHeader st bytes)
/-- IMAGE_SECTION_CHECK (R212 step 3). -/
def execImageSectionCheck (bytes : Option (List Byte)) (st : State) : Res := .next (imageSection st bytes)
/-- IMAGE_TRAILER_CHECK (R212 steps 4 to 7). -/
def execImageTrailerCheck (bytes : Option (List Byte)) (st : State) : Res := .next (imageTrailer st bytes)
/-- IMAGE_FEED_STALL (R302). -/
def execImageFeedStall (st : State) : Res := .next (feedStall st)
/-- IMAGE_DATA (R303). -/
def execImageData (n : Fin 4) (p : Peer) (bytes : List Byte) (st : State) : Res :=
  let r := nsReceive st (4 + n.val) 0x09 p bytes
  .next (match r.1 with | some b => imageData r.2 (4 + n.val) b | none => r.2)

end Sys2Proof.Machine
end

