-- ==== Sys2Proof/Machine/TickBoundary.lean ====
section
/-! DEFINITION. The tick boundary (R43): its steps in their order, at base and minor boundaries. -/

namespace Sys2Proof.Machine

/-- CMT_CL_STALL and CMT_CL_OVR of a cluster (R40, R41, R52). -/
def clStallA (c : Nat) : Nat := 0x200080 + 4 * c
def clOvrA (c : Nat) : Nat := 0x2000C0 + 4 * c

/-- Keys of the slots of a cluster that run or hold anything. -/
def slotKeys (s : State) (c : Nat) : List Nat :=
  ((List.range 68).map (fun j => c * 68 + j)).filter (fun k => slotState s k == 1 || s.cells.any (fun e => e.1 == k))
/-- The running slots of a cluster. -/
def runningSlots (s : State) (c : Nat) : List Nat := (slotKeys s c).filter (fun k => slotState s k == 1)

/-- The stall bound W of what a slot ran in the tick: in a crossfade that of both programs (R39, R238). -/
def tickBound (s : State) (k : Nat) : Nat :=
  let p := fun (n : Nat) => (mget ({} : PageInfo) s.mem.page (memSlot s k * 2 + n)).w
  p (ppage s k) + (if xfRuns s k then p (1 - ppage s k) else 0)

/-- The sample program has not retired by cycle C − 64 of a tick in which the cell was not quenched (R41). -/
def overran (s : State) (k : Nat) : Bool :=
  let c := cellAt s k
  decide (c.quench = 0) && (c.sample || (c.done && decide (c.retire > cellC s k - 64)))

/-- The overrun record of a cluster, and the boundary record of the tick's first one (R41, R53): the first of each boundary over all
clusters, with the BTC of the base tick a minor boundary lies in (DESIGN CHOICE, log entry 73). -/
def recordOverrun (s : State) (k : Nat) (first : Bool) : State :=
  let c := k / 68
  let a := clOvrA c
  let s := if rbit s a 0 then s else rput (rsetBit s a 0) a 8 7 (k % 68)
  let s := rinc s a 16 16
  if first then bndRecord s (BitVec.ofNat 64 (tickEndBtc s (domOf s c))) 8 (c * 256 + k % 68 * 4096) else s

/-- The stall count of a slot's tick: the cluster's largest (R40). -/
def recordStalls (s : State) (k : Nat) : State :=
  let a := clStallA (k / 68)
  let n := (cellAt s k).stalls
  if n > rfld s a 0 9 then rput (rput s a 0 9 (min n 511)) a 16 7 (k % 68) else s

/-- Cycle C − 64 for a running slot (R40, R41, R57, R393): flags, stalls, the overrun check, the slack sources. Answers whether the cell
has a schedule fault and whether an overrun has been recorded. -/
def slotWindow (s : State) (k : Nat) (seen : Bool) : Bool × Bool × State :=
  let m := domOf s (k / 68)
  let l := logicalOf s k
  let s := recordStalls s k
  let c := cellAt s k
  let ovl := overran s k
  let s := if ovl then recordOverrun s k (!seen) else s
  let stl := decide (c.stalls > tickBound s k)
  let s := if stl then rsetBit s (celErrA k) 18 else s
  let s := histSample s 4 l ((cellC s k : Int) - 88 - (pageOf s k).len - c.stalls)
  let s := histSample s 5 l c.stalls
  let s := if ovl || stl then
      fltDetect s { cls := 2, sev := 1, unit := 0x1000 + l, hold := true, btc := tickEndBtc s m, detail := rfld s (celErrA k) 16 6,
                    cyc := baseCycle s m (cellC s k - 64), oslot := k % 68 }
    else s
  (ovl || stl, seen || ovl, s)

/-- Cycle C − 64 for a slot with content: results due by then have landed; ST.SAT and ST.AOV go to CEL_FLAG (R57). -/
def slotFlags (s : State) (k : Nat) : State :=
  let s := onCell s k (fun (c : Cell) => passTo (cellC s k - 64) c)
  let c := cellAt s k
  let f := (stOf c false).toNat % 4
  if f = 0 then s else rput s (celFlagA k) 0 2 (nbits (rfld s (celFlagA k) 0 2 ||| f) 0 2)

/-- What a boundary has learnt of the tick it ends: logical cells with a schedule fault, held cells, an overrun recorded. -/
structure TickEnd where
  scheds : List Nat := []
  held : List Nat := []
  ovl : Bool := false

/-- Step 3 of R43 for a cluster: the commit window opens. -/
def windowOpens (s : State) (c : Nat) (t : TickEnd) : State × TickEnd :=
  let s := forEach (slotKeys s c) s slotFlags
  let r : State × TickEnd := (runningSlots s c).foldl (fun (a : State × TickEnd) k =>
    let w := slotWindow a.1 k a.2.ovl
    let l := logicalOf a.1 k
    let held := w.1 || (cellAt a.1 k).held
    (w.2.2, { scheds := if w.1 then a.2.scheds ++ [l] else a.2.scheds, held := if held then a.2.held ++ [l] else a.2.held,
              ovl := w.2.1 })) (s, t)
  let s := forEach (slotKeys r.1 c) r.1 (fun s k => onCell s k landAll)
  let s := rset s 0x46001C (rget s 0x46001C + BitVec.ofNat 32 (r.2.held.length - t.held.length))
  (welInletCapture s c, r.2)

/-- The cells claimed by the groups that swap at this boundary: fences they lift (R439). -/
def liftedBy (s : State) (gs : List Nat) : List Nat :=
  gs.flatMap (fun g => (claims s g).filterMap (fun m => if m / 65536 = 1 then some (m % 65536) else none))

/-- A running slot enters its next tick; a fault found in the commit window quenches and holds that tick (R42, R429, R430). -/
def slotNext (c : Cell) : Cell :=
  let late := decide (c.quench = 2)
  { c with cyc := 0, atZero := true, sample := false, done := false, stalls := 0, retire := 0, slotEnd := 0, loops := [],
           dead := 0, iss := [], void := false, frz := 0,
           quench := if late then 1 else 0, qAt := 0, held := late, faultCyc := if late then c.faultCyc else none }

/-- CEL_BTASK.ISSUE at a base boundary (R121). -/
def slotIssue (s : State) (k : Nat) : State :=
  let n := (cellAt s k).bissue
  let s := rput s (celBtaskA k) 16 15 n
  if n = 0 then s else onCell s k (fun c => { c with bissue := 0 })

/-- The schedule faults of the tick after the remap: a cell without one whose last tick had one has recovered (R426, R428). -/
def schedNext (s : State) (c : Nat) (scheds : List Nat) : State :=
  forEach (runningSlots s c) s (fun s k =>
    let l := logicalOf s k
    let now := scheds.contains l
    let was := (cellAt s k).schedFault
    let s := onCell s k (fun c => { c with schedFault := now })
    if was && !now then
      fltRecover s { cls := 2, sev := 1, unit := 0x1000 + l, btc := tickEndBtc s (domOf s c), detail := rfld s (celErrA k) 16 6,
                     oslot := k % 68 }
    else s)

/-- XCH_RING.MAXR at the end of a base tick. -/
def ringMax (s : State) (c : Nat) : State :=
  let a := 0x120010 + 0x1000 * c
  let n := max (mget 0 s.ex.rwords (c * 2)) (mget 0 s.ex.rwords (c * 2 + 1))
  let s := { s with ex := { s.ex with rwords := mset 0 (mset 0 s.ex.rwords (c * 2) 0) (c * 2 + 1) 0 } }
  if n > rfld s a 16 15 then rput s a 16 15 (min n 25600) else s

/-- Steps 5 and 6 of R43 for a cluster, and the end of its cells' tick. -/
def clusterStep5 (s : State) (c : Nat) (base : Bool) (scheds lifts : List Nat) : State :=
  let s := remapStep s c base scheds lifts
  let s := schedNext s c scheds
  let s := forEach (slotKeys s c) s (fun s k => onCell s k slotNext)
  let s := if base then forEach (slotKeys s c) s slotIssue else s
  let ls := (s.cmt.cells.filterMap (fun (e : Nat × CellCmt) => if e.1 / 64 = c then some e.1 else none))
  forEach ls s (fun s l => crossfadeStep (glideStep s l) l)

/-- The exchange and the Wellhead of a cluster end their tick (R122, R136, R155). -/
def clusterLinks (s : State) (c : Nat) (base : Bool) : State :=
  let s := exchTickEnd s c
  let s := { s with wel := { s.wel with drive := mclearRange s.wel.drive (c * 256) 256, closed := mset false s.wel.closed c false },
                    mem := { s.mem with stale := s.mem.stale.filter (fun x => x.addr / 0x80000 != c), busy := mclearRange s.mem.busy (8 * c) 8 } }
  if base then ringMax s c else s

/-- Live bridge channels: cluster and channel. -/
def liveBridges (s : State) : List (Nat × Nat) :=
  (List.range 16).flatMap (fun c => (liveTable s c).bridge.filterMap (fun (e : Nat × W32) => if bitOf e.2 31 then some (c, e.1) else none))

/-- The bridges at a boundary of the clusters `due`: a source domain's boundary captures; a base boundary filters (R136, R137). -/
def bridgesStep (s : State) (due : Nat → Bool) (base : Bool) : State :=
  let bs := liveBridges s
  let s := forEach bs s (fun s x => if due (fld (bridgeEntry s x.1 x.2) 24 4) then bridgeCapture s x.1 x.2 else s)
  if base then forEach bs s (fun s x => bridgeFilter s x.1 x.2) else s

/-- The groups whose target is the coming base boundary (step 4 of R43). -/
def latchedGroups (s : State) : List Nat :=
  s.cmt.groups.filterMap (fun (e : Nat × Group) => if e.2.state = 3 ∧ e.2.rbtc = s.btc.toNat + 1 then some e.1 else none)

/-- Gating shown by the clock outputs follows the critical stop (R381). -/
def ckoRefresh (s : State) : State :=
  forN 4 s (fun s o => rputBit s (ckoA o + 8) 30 (rfld s (ckoA o + 8) 0 5 ≠ 0 || s.flt.critical))

/-- A full image whose boundary this is starts (R214); CRC_MODE becomes normal (R399). -/
def startImage (s : State) (b : W64) : State :=
  match s.cmt.start, s.load.arm with
  | some n, some r =>
    if n = b.toNat then
      let s := boundsApply (ckoRefresh (imageStart s r b))
      if rbit s 0x440000 25 then s else crcMode s 1
    else s
  | _, _ => s

/-- A CLEAR whose boundary this is stops the structure and completes (R303). -/
def clearImage (s : State) (b : W64) : State :=
  if s.cmt.clearAt = some b.toNat then
    let s := stopStructure s
    forEach (s.host.ops.filter (fun o => o.opc == 0x11)) s (fun s o => opEnd s o 0 0 (leBytes 8 b.toNat))
  else s

/-- Step 7 of R43: what swaps at a base boundary of BTC `b`. -/
def swapStep (s : State) (gs : List Nat) (b : W64) : State :=
  let s := if gs.isEmpty then s else boundsApply (captureLost (groupsSwap s gs))
  clearImage (startImage s b) b

/-- Step 8 of R43 (R246). -/
def handoverStep (s : State) (cs gs : List Nat) : State :=
  let s := forEach cs s cisHandover
  forEach gs s (fun s g => pendOwners (cisGroupHandover s g) g)

/-- Live ports of the clusters `due`. -/
def duePorts (s : State) (due : Nat → Bool) : List Nat :=
  s.port.live.filterMap (fun (e : Nat × PortBind) => if e.2.en && due e.2.cl then some e.1 else none)

/-- What the engines write for the tick that ends, before the halves swap. -/
def portTickEnd (s : State) (p : Nat) : State :=
  match p / 4096 with
  | 2 => arTickEnd s (p % 4096)
  | 4 => tdTickEnd s (p % 4096)
  | _ => s
/-- What the engines do as a tick begins. -/
def portTickStart (s : State) (p : Nat) : State :=
  match p / 4096 with
  | 1 => flowTick s (p % 4096)
  | 2 => arTickStart s (p % 4096)
  | 4 => tdTickStart s (p % 4096)
  | _ => s
/-- Flows that still write the zeros of an unbinding (R337), in the clusters `due`. -/
def zeroFlows (s : State) (due : Nat → Bool) : List Nat :=
  s.net.flow.filterMap (fun (e : Nat × FlowRun) => if e.2.zeros > 0 && due e.2.was.cl then some e.1 else none)

/-- A snapshot of the meters is due at the base boundary of BTC `b` (R388). -/
def snapshotDue (s : State) (b : W64) : Bool :=
  let per := rfld s 0x3E0000 0 24
  (rbit s 0x3E0000 30 && !s.mtr.late) || (per != 0 && (b.toNat + moffOf s) % 2 ^ 64 % per == 0)

/-- Step 9 of R43 at a base boundary: snapshot, the BTC, records of groups and clocks, power (R46, R53, R234, R388, R467). -/
def baseStep (s : State) (gs : List Nat) (b : W64) : State :=
  let s := if snapshotDue s b then mtrSnapshot s b else s
  let s := { s with mtr := { s.mtr with late := false } }
  let s := groupsDone { s with btc := b, quarter := 0 } gs b
  let gated := rbit s 0x200008 3
  let s := clkBoundary s
  let s := if gated && !rbit s 0x200008 3 then txGateOpen s else s
  evtFlush (powerBoundary s)

/-- One boundary, at position `q` of the base tick that starts or runs (R31, R43). -/
def boundary (s : State) (q : Nat) : State :=
  let base := decide (q = 0)
  let m0 := if q = 0 then 1 else if q = 2 then 2 else 4
  let dom := fun (s : State) (c : Nat) => decide (domOf s c ≥ m0)
  let cs := (List.range 16).filter (dom s)
  let due := fun (c : Nat) => cs.contains c
  let b := s.btc + 1
  let r : State × TickEnd := cs.foldl (fun (a : State × TickEnd) c => windowOpens a.1 c a.2) (s, {})
  let s := r.1
  let heldCh := r.2.held.flatMap (outputSet s)
  let fenced := cs.flatMap (fencedCells s)
  let gs := if base then latchedGroups s else []
  let lifts := liftedBy s gs
  let s := forEach cs s (fun s c => clusterStep5 s c base r.2.scheds lifts)
  let still := cs.flatMap (fencedCells s)
  let fencedCh := (fenced.filter (fun l => still.contains l)).flatMap (outputSet s)
  let s := bridgesStep (forEach cs s (fun s c => clusterLinks s c base)) due base
  let s := forEach (duePorts s due) s portTickEnd
  let s := if base then swapStep s gs b else s
  let s := forEach cs (handoverStep s cs gs) fenceFlag
  let s := if base then baseStep s gs b else { s with quarter := q }
  let s := forEach (duePorts s due) s (fun s p =>
    portSwapHalves s p (fun ch => if fencedCh.contains (p, ch) then 2 else if heldCh.contains (p, ch) then 1 else 0))
  let s := portHooks s
  let s := if base then algBoundary s else s
  let s := forEach (zeroFlows s due) s flowZeros
  let s := forEach (duePorts s due) s portTickStart
  linkRecovered s

/-- The boundaries up to the one at position `q` of its base tick: `n` of them. -/
def boundaries (n : Nat) (s : State) : State :=
  match n with
  | 0 => s
  | n + 1 => boundaries n (boundary s ((s.quarter + 1) % 4))

/-- How many ×4 boundaries lie ahead up to position `q`: 1 to 4. -/
def boundariesTo (s : State) (q : Nat) : Nat := (q + 3 - s.quarter % 4) % 4 + 1

/-- TICK_BOUNDARY (R43): the next boundary at ×4 position `q` of its base tick (0: the base boundary), with every minor boundary before
it. In power-on reset no tick runs (R405). -/
def execTickBoundary (q : Fin 4) (f : BoundaryFacts) (st : State) : Res :=
  .next (if st.boot.held then st else
    let s := forEach (f.wdraw.map Fin.val) st (fun s k => if slotState s k = 1 then rinc s (celBtaskA k) 8 8 else s)
    withAcc f.acc s (boundaries (boundariesTo s q.val)))

end Sys2Proof.Machine
end

