-- ==== Sys2Proof/Machine/Views.lean ====
section
/-! DEFINITION. What a read of a control register finds (R11–R15): the stored content, or the value that other state gives it.
Access contexts: 0–7 the agents, 8 BAR0 (R14). -/

namespace Sys2Proof.Machine

/-- A register with fields (low bit, width, value) put into it. -/
def fputs (v : W32) (fs : List (Nat × Nat × Nat)) : W32 := fs.foldl (fun (v : W32) (f : Nat × Nat × Nat) => fput v f.1 f.2.1 f.2.2) v
/-- One half of a 64-bit value: the upper where `hi`. -/
def half64 (hi : Bool) (v : W64) : W32 := if hi then v.extractLsb' 32 32 else v.extractLsb' 0 32
/-- Bit j set where `f j` holds, j = 0–31. -/
def bitmap (f : Nat → Bool) : W32 :=
  BitVec.ofNat 32 ((List.range 32).foldl (fun (a : Nat) (j : Nat) => if f j then a + 2 ^ j else a) 0)

/-- XCH_ registers at offset `o` of cluster `c` (R145). A chain counts as homed where its live descriptor is not zero. -/
def xchView (s : State) (c o : Nat) (v : W32) : W32 :=
  if o = 0 then
    let lanes := ((liveTable s c).desc.filter (fun (e : Nat × W64) => decide (ldKind e.2.toNat ≠ 0))).length
    let homed := (s.ex.chains.filter (fun (e : Nat × W64) => decide (chHome e.2.toNat = c))).length
    fputs v [(4, 9, lanes), (16, 13, homed)]
  else if 0x100 ≤ o then
    let e := mget 0 (liveTable s c).bridge ((o - 0x100) / 4)
    fputs v [(31, 1, fld e 31 1), (28, 3, fld e 28 3), (24, 4, fld e 24 4), (16, 8, fld e 16 8)]
  else v

/-- Anything of a Wellhead is pending (R164). -/
def welPends (s : State) (c : Nat) : Bool :=
  s.wel.entPend.any (fun (e : Nat × Option TapEntry) => e.1 / 32768 == c && e.2.isSome)
    || s.wel.linePend.any (fun (e : Nat × Option W32) => e.1 / 1024 == c && e.2.isSome) || (mget none s.wel.wccPend c).isSome

/-- WEL_ registers (R170). -/
def welView (s : State) (c o : Nat) (v : W32) : W32 :=
  if o = 0 then
    let xfn := (s.wel.run.filter (fun (e : Nat × TapRun) => e.1 / 32768 == c && e.2.xf)).length
    fputs v [(1, 1, b2n (welPends s c)), (16, 15, xfn)]
  else if o = 4 then fputs 0 [(0, 15, walkSlots s.wel.ent s.wel.line c), (16, 15, wccOf s c)]
  else if 0x1000 ≤ o then lineShadow s c ((o - 0x1000) / 4)
  else v

/-- GLC_ registers (R189). -/
def glcView (s : State) (o : Nat) (v : W32) : W32 :=
  if o = 0 then fputs v [(0, 13, glcAct s), (13, 3, glcState s), (16, 2, Config.strapPop.toNat)]
  else if o = 0x18 then
    let load := (glcLoadMilli s (s.glc.str.map (fun (e : Nat × StrDesc) => e.2)) (fbOf s) + (10 ^ 9 - 1)) / 10 ^ 9
    fputs 0 [(0, 16, min 65535 load), (16, 16, glcLimit s)]
  else v

/-- The oldest commit record's words (R242). -/
def recView (s : State) (k : Nat) : W32 :=
  match s.cmt.recs with
  | r :: _ => if k = 0 then r.w0 else if k = 1 then r.w1 else r.w2
  | [] => 0

/-- A member has pending content (R241). -/
def memberPends (s : State) (m : Nat) : Bool :=
  let i := m % 65536
  match m / 65536 with
  | 1 =>
    let c := cmtCell s i
    let k := memSlot s (mapSlot s i)
    c.vmark || c.pswap || c.noprog || c.nocoef || c.asg.isSome || c.gMark.any (fun (e : Nat × Bool) => e.2)
      || (hasSlot s i && (!(marksIn s k (0x800 * (1 - ppage s (mapSlot s i))) 0x800).isEmpty
        || !(marksIn s k (0x1000 + 0x800 * (1 - kpage s (mapSlot s i))) 0x800).isEmpty))
  | 2 => (mget none s.ex.shadow i).isSome || !(chainsOf s i).isEmpty
  | 3 => welPends s i || strPends s i
  | 4 => (mget none s.port.pend i).isSome
  | _ => false

/-- CMT_G_STAT of a group (R241). -/
def groupStat (s : State) (g : Nat) : W32 :=
  let x := groupOf s g
  let pend := (claims s g).any (memberPends s)
  fputs 0 [(29, 3, x.state), (26, 3, x.last), (25, 1, b2n pend), (24, 1, b2n x.moved), (12, 12, (claims s g).length),
           (0, 12, min 4095 x.refused)]

/-- The registers that show the group CMT_G_IDX selects, the claim CMT_MEM_RIDX names, the cell CMT_CELL_IDX selects (R241). -/
def cmtSelView (s : State) (o : Nat) (v : W32) : W32 :=
  let g := groupOf s (rfld s 0x200100 0 8)
  let l := rfld s 0x200130 0 10
  let c := cmtCell s l
  let k := mapSlot s l
  match o with
  | 0x104 => fputs 0 [(28, 2, g.trig), (25, 3, g.armr)]
  | 0x108 => g.ta
  | 0x10C => g.tb
  | 0x110 => g.tc
  | 0x114 => BitVec.ofNat 32 g.rbtc
  | 0x118 => BitVec.ofNat 32 (g.rbtc / 2 ^ 32)
  | 0x128 =>
    let gi := rfld s 0x200124 16 8
    let n := rfld s 0x200124 0 12
    match (claims s gi)[n]? with
    | some m => fputs 0 [(28, 4, m / 65536), (27, 1, 1), (26, 1, b2n ((groupOf s gi).load.contains m)), (0, 16, m % 65536)]
    | none => 0
  | 0x130 => match claimOf s (memCell l) with
    | some q => fputs v [(24, 1, 1), (16, 8, q)]
    | none => v
  | 0x134 => fputs 0 [(31, 1, b2n c.pswap), (30, 1, b2n c.xfe), (26, 4, c.xk), (0, 11, c.xj)]
  | 0x138 =>
    let has := hasSlot s l
    let pm := if has then (marksIn s (memSlot s k) (0x800 * (1 - ppage s k)) 0x800).length else 0
    let km := if has then (marksIn s (memSlot s k) (0x1000 + 0x800 * (1 - kpage s k)) 0x800).length else 0
    fputs 0 [(31, 1, b2n (c.rsP || c.rsK)), (30, 1, b2n (decide (c.xj ≠ 0))), (29, 1, b2n (c.gMark.any (fun (e : Nat × Bool) => e.2))),
             (28, 1, b2n (decide (pm > 0) || c.vmark || c.pswap || c.noprog)), (12, 12, km), (0, 12, pm)]
  | 0x150 => fputs v [(0, 6, s.cmt.recs.length)]
  | 0x154 => recView s 0
  | 0x158 => recView s 1
  | 0x15C => recView s 2
  | _ => if 0x400 ≤ o then groupStat s ((o - 0x400) / 4) else v

/-- CMT_ registers (R52, R53, R241, R242). -/
def cmtView (s : State) (o : Nat) (v : W32) : W32 :=
  let rec0 : BndRec := s.bnd.headD {}
  match o with
  | 0 => half64 false s.btc
  | 4 => half64 true s.btc
  | 0x30 => fputs v [(0, 5, s.bnd.length)]
  | 0x34 => half64 false rec0.btc
  | 0x38 => half64 true rec0.btc
  | 0x3C => fputs 0 [(0, 4, rec0.typ), (8, 16, rec0.detail / 256)]
  | _ => if o < 0x100 then v else cmtSelView s o v

/-- The registers of an agent page at offset `o` (R304, R321). -/
def agentView (s : State) (p o : Nat) (v : W32) : W32 :=
  match o with
  | 4 =>
    let held := if agSt s p = 2 ∨ ringHeld s p ≥ 2 ^ rfld s (pageA p + 0x30) 0 4 - 1 then
        (s.host.fin.filter (fun c => c.agent == p)).length else 0
    fputs 0 [(16, 9, (outstanding s p).length), (0, 9, held)]
  | 0x808 =>
    let st := evStack s p
    fputs 0 [(28, 4, st.length), (20, 8, (evRun s p).getD 0), (0, 10, st.headD 0x3FF)]
  | _ => v

/-- EVC_ registers (R321). -/
def evcView (s : State) (o : Nat) (v : W32) : W32 :=
  if 0x40 ≤ o ∧ o < 0x80 then bitmap (fun j => evPend s (32 * ((o - 0x40) / 4) + j))
  else if 0x80 ≤ o ∧ o < 0xC0 then bitmap (fun j => rbit s (evSrcA (32 * ((o - 0x80) / 4) + j)) 30)
  else if 0x1000 ≤ o ∧ o < 0x1800 ∧ !evExists ((o - 0x1000) / 4) then 0
  else v

/-- NET_ registers (R342): the flow registers show the context NET_FC_IDX selects. -/
def netView (s : State) (o : Nat) (v : W32) : W32 :=
  let n := rfld s 0x340200 0 10
  let f := flowOf s n
  match o with
  | 0x204 => flowStat s n
  | 0x208 => fputs 0 [(16, 16, f.late), (0, 16, f.miss)]
  | 0x20C => fputs 0 [(16, 16, f.early), (8, 8, f.fmt), (0, 8, f.slip)]
  | 0x210 => fputs 0 [(0, 20, f.minm)]
  | _ => if 0x300 ≤ o ∧ o < 0x400 then fputs v [(30, 2, algState s ((o - 0x300) / 4))] else v

/-- AES_ registers (R364): the captures come from the context's view. -/
def aesView (s : State) (ctx o : Nat) (v : W32) : W32 :=
  if o < 0x400 then
    if o % 0x40 = 4 then fputs v [(25, 1, b2n (decide (refSel s = 4) && decide (rfld s 0x3A0100 22 4 = o / 0x40)))] else v
  else if o < 0xC00 then
    if o % 0x80 = 0xC then fputs v [(27, 1, b2n (!bootGate s || safeGated s))] else v
  else
    let w := mget {} s.ser.view ctx
    if 0xC10 ≤ o ∧ o < 0xC28 then BitVec.ofNat 32 (leAt w.cs (o - 0xC10) 4)
    else if 0xC30 ≤ o ∧ o < 0xC48 then BitVec.ofNat 32 (leAt w.ub (o - 0xC30) 4) else v

/-- TDM_ registers (R365): a mask reads as the shadow while its write is pending, the live mask otherwise. -/
def tdmView (s : State) (o : Nat) (v : W32) : W32 :=
  let q := o / 0x40
  let t := tdmOf s q
  match o % 0x40 with
  | 0 => BitVec.ofNat 32 (if rbit s (tdA q + 8) 31 then t.rxSh else t.rx)
  | 4 => BitVec.ofNat 32 (if rbit s (tdA q + 0xC) 31 then t.txSh else t.tx)
  | _ => v

/-- MTR_ registers (R389, R396): the figures come from the context's view. -/
def mtrRegView (s : State) (ctx o : Nat) (v : W32) : W32 :=
  let w := mget {} s.mtr.view ctx
  let att := (mget {} s.mtr.mtr w.meter).att
  match o with
  | 4 => half64 false w.sbtc
  | 8 => half64 true w.sbtc
  | 0x10 => BitVec.ofNat 32 w.meter
  | 0x14 => BitVec.ofInt 32 (w.fig.pkmax / 2 ^ 40)
  | 0x18 => BitVec.ofInt 32 (w.fig.pkmin / 2 ^ 40)
  | 0x1C => BitVec.ofNat 32 w.fig.rms
  | 0x20 => fputs 0 [(16, 16, min 65535 w.fig.ovr), (0, 16, min 65535 w.fig.n)]
  | 0x24 => half64 false att
  | 0x28 => half64 true att
  | _ => v

/-- HIS_ registers show the engine HIS_IDX selects (R397). -/
def hisView (s : State) (o : Nat) (v : W32) : W32 :=
  let h := mget {} s.mtr.hist (hisSel s)
  match o with
  | 4 => fputs 0 [(28, 1, b2n h.frozen), (27, 1, b2n h.satf), (26, 1, b2n h.auto)]
  | 8 => half64 false h.att
  | 0xC => half64 true h.att
  | 0x10 => BitVec.ofNat 32 h.n
  | 0x14 => BitVec.ofNat 32 h.under
  | 0x18 => BitVec.ofNat 32 h.ovr
  | 0x1C => BitVec.ofInt 32 h.min
  | 0x20 => BitVec.ofInt 32 h.max
  | 0x24 => half64 false h.fbtc
  | 0x28 => half64 true h.fbtc
  | _ => if 0x100 ≤ o then BitVec.ofNat 32 (mget 0 h.bins ((o - 0x100) / 4)) else v

/-- FLT_ registers (R448): the log registers show the oldest entry. -/
def fltView (s : State) (o : Nat) (v : W32) : W32 :=
  let e : FltEntry := s.flt.log.headD {}
  match o with
  | 0 => match s.flt.cur with
    | some w => fputs 0 [(31, 1, 1), (29, 2, w.sev), (21, 8, w.cls), (0, 16, s.flt.queue.length)]
    | none => fputs 0 [(0, 16, s.flt.queue.length)]
  | 4 => fputs v [(0, 6, s.flt.log.length)]
  | 8 => e.w0
  | 0xC => e.w1
  | 0x10 => e.w2
  | 0x14 => e.w3
  | _ =>
    if 0x100 ≤ o ∧ o % 0x10 = 0 then
      let c := (o - 0x100) / 0x10
      let spares := ((List.range 68).filter (fun j => slotSpare s (c * 68 + j))).length
      let fenced := ((List.range 68).filter (fun j => decide (slotState s (c * 68 + j) = 3))).length
      fputs v [(28, 4, spares), (27, 1, b2n (copySlot s c).isSome), (20, 7, (copySlot s c).getD 0 % 68), (4, 8, fenced)]
    else v

/-- What a read of a register shows in an access context, before its side effects; nothing is assigned: 0 (R13). -/
def regView (s : State) (ctx a : Nat) : W32 :=
  match regRow? a with
  | none => 0
  | some _ =>
    let v := rget s a
    let o := a % 0x20000
    match a / 0x20000 with
    | 9 => xchView s (o / 0x1000) (o % 0x1000) v
    | 10 => welView s (o / 0x2000) (o % 0x2000) v
    | 11 => glcView s o v
    | 12 => if 0xA10 ≤ o ∧ o < 0xA20 then bitmap (fun j => rget s (cisErrA (32 * ((o - 0xA10) / 4) + j)) != 0) else v
    | 13 => if o = 0x1004 then bitmap (fun j => pmpState s j == 5) else if o = 0x1008 then bitmap (fun j => pmpState s (32 + j) == 5) else v
    | 16 => cmtView s o v
    | 24 => if o < 0x8000 then agentView s (o / 0x1000) (o % 0x1000) v else v
    | 25 => evcView s o v
    | 26 => netView s o v
    | 27 => aesView s ctx o v
    | 28 => tdmView s o v
    | 31 => mtrRegView s ctx o v
    | 32 => hisView s o v
    | 35 => fltView s o v
    | _ => v

end Sys2Proof.Machine
end

