-- ==== Sys2Proof/Machine/RegAccess.lean ====
section
/-! DEFINITION. Reads and writes of control registers with their side effects (R11–R15), from BAR0 or by an agent's commands. -/

namespace Sys2Proof.Machine

/-- The access context of BAR0; contexts 0–7 are the agents' (R14). -/
def barCtx : Nat := 8

/-- The agent page a control address lies in (R282, R321). -/
def pageOf? (a : Nat) : Option Nat := if 0x300000 ≤ a ∧ a < 0x308000 then some ((a - 0x300000) / 0x1000) else none

/-- The access reaches the register: an aligned 32-bit access; an agent reaches its own page; BAR0 reaches pages AG0–AG3, in recovery
AG0's, and before READY nothing but reads of the BOT_ block and of HST_ID (R13, R303, R321, R409, R422). -/
def regServed (s : State) (ctx a width : Nat) (read : Bool) : Bool :=
  width == 4 && a % 4 == 0 && decide (a < 0x2000000) &&
  (match pageOf? a with
   | some p => if ctx = barCtx then decide (p < 4) && (!inRecovery s || p == 0) else p == ctx
   | none => true)
  && (decide (ctx ≠ barCtx) || devReady s || (read && (a / 0x20000 == 34 || a == 0x308000)))

/-! ### Reads -/

/-- RC bits clear once read (R11); NET_FC counters stand with the flow that NET_FC_IDX selects. -/
def rcClear (s : State) (a : Nat) : State :=
  let n := rfld s 0x340200 0 10
  match a with
  | 0x340208 => setFlow s n { flowOf s n with late := 0, miss := 0 }
  | 0x34020C => setFlow s n { flowOf s n with early := 0, fmt := 0, slip := 0 }
  | _ =>
    match regRow? a with
    | some r => if r.rc = 0 then s else rset s a (rget s a &&& ~~~(BitVec.ofNat 32 r.rc))
    | none => s

/-- A read of the lower half of a 64-bit register latches the upper half (R14). -/
def readLower (s : State) (ctx a : Nat) : W32 × State :=
  (regView s ctx a, { s with latch := mset none s.latch ctx (some (a, regView s ctx (a + 4))) })
/-- A read of the upper half returns the value latched for it and unloads the latch, or the live value (R14). -/
def readUpper (s : State) (ctx a : Nat) : W32 × State :=
  match mget none s.latch ctx with
  | some (b, v) => if b + 4 = a then (v, { s with latch := mset none s.latch ctx none }) else (regView s ctx a, s)
  | none => (regView s ctx a, s)

/-- A served read of a control register: its data, and the state after its side effects. -/
def readReg (s : State) (ctx a : Nat) : W32 × State :=
  match regRow? a with
  | none => (0, s)
  | some r =>
    if (pageOf? a).isSome ∧ a % 0x1000 = 0x800 then
      let q := evClaim s ((pageOf? a).getD 0)
      (BitVec.ofNat 32 q.1, q.2)
    else if a = 0x360C10 then
      let s := arLatch s ctx
      (regView s ctx a, s)
    else if r.half = 1 then readLower s ctx a
    else if r.half = 2 then readUpper s ctx a
    else (regView s ctx a, rcClear s a)

/-- A read by any access: what is not served reads 0 (R13, R409). -/
def readAny (s : State) (ctx a width : Nat) : W32 × State :=
  if regServed s ctx a width true then readReg s ctx a else (0, s)

/-! ### Writes -/

/-- RW bits take the value, W1C bits written 1 clear (R11, R12). -/
def putReg (s : State) (a : Nat) (v : W32) : State :=
  match regRow? a with
  | none => s
  | some r =>
    let rw := BitVec.ofNat 32 r.rw
    rset s a (((rget s a &&& ~~~rw) ||| (v &&& rw)) &&& ~~~(v &&& BitVec.ofNat 32 r.w1c))

/-- The lock or state that a 64-bit register needs to be written is there (R258, R281, R304, R399). -/
def pairOpen (s : State) (fw : Bool) (a : Nat) : Bool :=
  match a / 0x20000 with
  | 13 => let n := a % 0x20000 / 0x40; let st := pmpState s n; pmpMay fw n && (st == 0 || st == 4 || st == 5)
  | 24 => agSt s (a % 0x20000 / 0x1000) == 0
  | 33 => crcOpen s
  | _ => true

/-- A write of the lower half is held in the context's write holder (R14). -/
def writeLower (s : State) (ctx a : Nat) (v : W32) : State := { s with holder := mset none s.holder ctx (some (a, v)) }
/-- A write of the upper half takes effect, with the lower half the holder holds for the register, else the current one; the holder
is then emptied (R14). -/
def writeUpper (s : State) (ctx : Nat) (fw : Bool) (a : Nat) (v : W32) : State :=
  let lo := match mget none s.holder ctx with
    | some (b, w) => if b + 4 = a then w else rget s (a - 4)
    | none => rget s (a - 4)
  let s := { s with holder := mset none s.holder ctx none }
  if pairOpen s fw a then putReg (putReg s (a - 4) lo) a v else s

/-- CEL_ registers (R78, R121): offset in the cluster's block. -/
def wrCel (s : State) (a o : Nat) (v : W32) : State :=
  if 0x400 ≤ o ∧ o < 0x600 then
    let s := if bitOf v 16 then rput s a 20 2 0 else s
    putReg (if bitOf v 31 then rput s a 0 16 0 else s) a v
  else if 0xC00 ≤ o then (if bitOf v 31 then rput (rput s a 8 8 0) a 7 1 0 else s)
  else putReg s a v

/-- WEL_ registers (R169, R170). -/
def wrWel (s : State) (c a o : Nat) (v : W32) : State :=
  match o with
  | 8 => evClusterFlags (putReg s a v) c
  | 0x18 => if bitOf v 31 then welLdGo s c else s
  | 0x20 => welEntIdx s c (fld v 0 15) (bitOf v 31) (bitOf v 30)
  | 0x40 => welRunIdx s c (fld v 0 15) (bitOf v 31)
  | _ => if 0x1000 ≤ o then welLineWrite s c ((o - 0x1000) / 4) v else putReg s a v

/-- GLC_ registers (R189). -/
def wrGlc (s : State) (a o : Nat) (v : W32) : State :=
  match o with
  | 0x14 => if bitOf v 30 then rset s a 0 else s
  | 0x20 => glcStrIdx s (fld v 0 12) (bitOf v 31) (bitOf v 30) (bitOf v 28)
  | _ => putReg s a v

/-- CIS_ registers (R257). -/
def wrCis (s : State) (a o : Nat) (f : WrFacts) (v : W32) : State :=
  if o < 0x200 then cisOwnerWrite s f.fw (o / 4) v f.late
  else if 0x400 ≤ o ∧ o < 0x600 then evClusterFlags (putReg s a v) ((o - 0x400) / 32)
  else if 0x800 ≤ o ∧ o < 0xA00 then (if bitOf v 30 then rset s a 0 else s)
  else putReg s a v

/-- PMP_ registers (R281); the channels of firmware have no effect from agents (R258). -/
def wrPmp (s : State) (fw : Bool) (a o : Nat) (v : W32) : State :=
  let n := o / 0x40
  if 0x1000 ≤ o then putReg s a v
  else if !pmpMay fw n then s
  else match o % 0x40 with
    | 0 =>
      let s := rput (rputBit s a 29 (bitOf v 29)) a 24 3 (fld v 24 3)
      let s := if bitOf v 31 then pmpEnable s n else pmpDisable s n
      if bitOf v 30 then pmpStop s n else s
    | 0x10 => if bitOf v 0 then pmpDoorbell s n else s
    | _ => putReg s a v

/-- The registers of the group CMT_G_IDX selects (R241). -/
def wrGroup (s : State) (o : Nat) (v : W32) : State :=
  let g := rfld s 0x200100 0 8
  let x := groupOf s g
  match o with
  | 0x104 =>
    let s := setGroup s g { x with trig := fld v 28 2 }
    let s := if bitOf v 31 then groupArm s g else s
    if bitOf v 30 then groupCancel s g else s
  | 0x108 => setGroup s g { x with ta := v }
  | 0x10C => setGroup s g { x with tb := v }
  | _ => setGroup s g { x with tc := fput v 30 2 0 }

/-- CMT_ registers (R52, R53, R241, R242). -/
def wrCmt (s : State) (a o : Nat) (f : WrFacts) (v : W32) : State :=
  match o with
  | 0x10 => if bitOf v 0 then snapTaken s f.cyc (f.sec % 2 ^ 48) (f.ns % 10 ^ 9) else s
  | 0x30 => if bitOf v 8 then rset s a 0 else s
  | 0x40 => if bitOf v 0 then { s with bnd := s.bnd.tail } else s
  | 0x104 => wrGroup s o v
  | 0x108 => wrGroup s o v
  | 0x10C => wrGroup s o v
  | 0x110 => wrGroup s o v
  | 0x120 =>
    let s := putReg s a v
    let s := if bitOf v 31 then memCtl s (fld v 24 4) (fld v 16 8) (fld v 0 16) true else s
    if bitOf v 30 then memCtl s (fld v 24 4) (fld v 16 8) (fld v 0 16) false else s
  | 0x134 => cellCtlWrite s v
  | 0x140 => gldIdx s (fld v 6 10) (fld v 0 6) (bitOf v 28) (bitOf v 31) (bitOf v 30)
  | 0x150 => if bitOf v 8 then rset s a 0 else s
  | 0x160 => if bitOf v 0 then { s with cmt := { s.cmt with recs := s.cmt.recs.tail } } else s
  | _ =>
    if 0x80 ≤ o ∧ o < 0xC0 then (if bitOf v 31 then rset s a 0 else s)
    else if 0xC0 ≤ o ∧ o < 0x100 then (if bitOf v 0 then rset s a 0 else s)
    else putReg s a v

/-- HST_ registers and the agents' event registers (R304, R321). -/
def wrHst (s : State) (a o : Nat) (v : W32) : State :=
  let p := o / 0x1000
  if 0x8000 ≤ o then s
  else match o % 0x1000 with
    | 0 => match fld v 0 2 with
      | 0 => agentDown s p
      | 1 => agentWake s p
      | 2 => agentSleep s p
      | _ => s
    | 0x18 => if agSt s p = 0 then putReg s a v else s
    | 0x30 => if agSt s p = 0 then putReg s a v else s
    | 0x1C => doorbell s p (fld v 0 12)
    | 0x34 => headAdvance s p (fld v 0 12)
    | 0x804 => evEoi s p (fld v 0 10)
    | _ => putReg s a v

/-- EVC_ registers (R321). -/
def wrEvc (s : State) (a o : Nat) (v : W32) : State :=
  if o = 0 then evSettle (putReg s a v)
  else if o = 4 then (if 448 ≤ fld v 0 10 ∧ fld v 0 10 ≤ 511 then evRaise s (fld v 0 10) else s)
  else if 0x100 ≤ o ∧ o < 0x140 then (if bitOf v 31 then rput s a 0 8 0 else s)
  else if 0x1000 ≤ o ∧ o < 0x1800 then evSrcWrite s ((o - 0x1000) / 4) v
  else putReg s a v

/-- NET_ registers (R342): SPEED, FEC and JUMBO, and the PTP fields but LOCKTH, are written while EN = 0. -/
def wrNet (s : State) (a o : Nat) (v : W32) : State :=
  match o with
  | 0 => putReg s a (if rbit s a 31 then fput (fput v 27 4 (rfld s a 27 4)) 25 1 (rfld s a 25 1) else v)
  | 0x100 => putReg s a (if rbit s a 31 then fput (fput v 27 4 (rfld s a 27 4)) 25 1 (rfld s a 25 1) else v)
  | 0x210 =>
    let n := rfld s 0x340200 0 10
    if bitOf v 31 then setFlow s n { flowOf s n with minm := 0xFFFFF } else s
  | 0x500 =>
    let s := rput (if rbit s a 31 then s else rput s a 16 15 (fld v 16 15)) a 8 8 (fld v 8 8)
    ptpEnable s (bitOf v 31)
  | 0x520 => if fld v 0 4 < 2 ∨ 10 < fld v 0 4 then s else putReg s a v
  | _ => putReg s a v

/-- AES_ registers (R364). -/
def wrAes (s : State) (a o : Nat) (v : W32) : State :=
  if o < 0x400 then
    if o % 0x40 = 0 then
      let s := putReg s a v
      if bitOf v 31 then rset (rset s (a + 8) 0) (a + 0xC) 0 else s
    else putReg s a v
  else if o < 0xC00 then
    let j := (o - 0x400) / 0x80
    match o % 0x80 with
    | 0 => txGain s j 0 v
    | 4 => txGain s j 1 v
    | 8 => txMute s j (fld v 0 2)
    | 0x14 => if bitOf v 31 then txCommit s j else s
    | _ => putReg s a v
  else putReg s a v

/-- TDM_ registers (R365). -/
def wrTdm (s : State) (a o : Nat) (late : Bool) (v : W32) : State :=
  match o % 0x40 with
  | 0 => tdMaskWrite s (o / 0x40) false v late
  | 4 => tdMaskWrite s (o / 0x40) true v late
  | 0x1C =>
    let s := putReg s a v
    if bitOf v 31 then rset s (a - 8) 0 else s
  | _ => putReg s a v

/-- SYN_ registers (R383). -/
def wrSyn (s : State) (a o : Nat) (v : W32) : State :=
  match o with
  | 0x114 =>
    let s := putReg s a v
    let s := if bitOf v 31 then rampGo s (fld v 0 5) else s
    if bitOf v 30 then rampStop s else s
  | 0x118 => phaseAdd s (v.extractLsb' 0 16)
  | _ => putReg s a v

/-- MTR_ and HIS_ registers (R396, R397). -/
def wrMtr (s : State) (ctx a o : Nat) (late : Bool) (v : W32) : State :=
  match o with
  | 0 =>
    let s := putReg s a v
    if bitOf v 31 then mtrGo s late else s
  | 0x10 => mtrIdx s ctx (fld v 0 12)
  | _ => putReg s a v
def wrHis (s : State) (a o : Nat) (v : W32) : State :=
  if o = 4 then
    let s := if bitOf v 31 then hisClr s else s
    let s := if bitOf v 30 then hisFrz s else s
    if bitOf v 29 then hisRun s else s
  else putReg s a v

/-- CRC_ registers (R404): the parameters are written while the lock is open (R399). -/
def wrCrc (s : State) (a o : Nat) (ate : Nat) (v : W32) : State :=
  let u := o / 0x40
  if 0x400 ≤ o then s else
  let s := crcEat ate s u
  match o % 0x40 with
  | 0 => crcCtlWrite s u v
  | 0x10 => crcDin s u (leBytes 1 v.toNat)
  | 0x14 => crcDin s u (leBytes 2 v.toNat)
  | 0x18 => crcDin s u (leBytes 4 v.toNat)
  | 0x24 => if crcOpen s then putReg s a v else s
  | _ => putReg s a v

/-- A served write of a control register. -/
def writeReg (s : State) (ctx : Nat) (f : WrFacts) (a : Nat) (v : W32) : State :=
  match regRow? a with
  | none => s
  | some r =>
    let o := a % 0x20000
    if r.half = 1 then (if r.rw = 0 then s else writeLower s ctx a v)
    else if r.half = 2 then (if r.rw = 0 then s else writeUpper s ctx f.fw a v)
    else match a / 0x20000 with
      | 8 => wrCel s a (o % 0x1000) v
      | 9 => match o % 0x1000 with
        | 4 => evClusterFlags (putReg s a v) (o / 0x1000)
        | 0x10 => if bitOf v 31 then rput s a 16 15 0 else s
        | _ => putReg s a v
      | 10 => wrWel s (o / 0x2000) a (o % 0x2000) v
      | 11 => wrGlc s a o v
      | 12 => wrCis s a o f v
      | 13 => wrPmp s f.fw a o v
      | 16 => wrCmt s a o f v
      | 24 => wrHst s a o v
      | 25 => wrEvc s a o v
      | 26 => wrNet s a o v
      | 27 => wrAes s a o v
      | 28 => wrTdm s a o f.late v
      | 29 => wrSyn s a o v
      | 30 => if o % 0x10 = 0 then ckoCtlWrite s (o / 0x10) v else putReg s a v
      | 31 => wrMtr s ctx a o f.late v
      | 32 => wrHis s a o v
      | 33 => wrCrc s a o f.ate v
      | 35 => match o with
        | 4 => if bitOf v 8 then rput (rputBit s a 8 false) a 16 16 0 else s
        | 0x18 => if bitOf v 0 then { s with flt := { s.flt with log := s.flt.log.tail } } else s
        | _ => putReg s a v
      | 36 => if o = 4 then (if bitOf v 31 then rput s a 16 15 (rfld s a 0 16) else s) else putReg s a v
      | _ => putReg s a v

/-- A write by any access: what is not served has no effect (R13, R409). -/
def writeAny (s : State) (ctx : Nat) (f : WrFacts) (a width : Nat) (v : W32) : State :=
  if regServed s ctx a width false then writeReg s ctx f a v else s

/-- The half of a 64-bit register an address is (R14): 0 none, 1 the lower, 2 the upper. -/
def regHalf (a : Nat) : Nat := match regRow? a with | some r => r.half | none => 0

/-- REG64_LOWER_READ (R14): access context, control address. -/
def execReg64LowerRead (ctx : Fin 9) (a : Nat) (st : State) : Res :=
  .next (if regHalf a = 1 ∧ regServed st ctx.val a 4 true then
    emit (readLower st ctx.val a).2 (.regData (readLower st ctx.val a).1) else emit st (.regData 0))
/-- REG64_UPPER_READ (R14). -/
def execReg64UpperRead (ctx : Fin 9) (a : Nat) (st : State) : Res :=
  .next (if regHalf a = 2 ∧ regServed st ctx.val a 4 true then
    emit (readUpper st ctx.val a).2 (.regData (readUpper st ctx.val a).1) else emit st (.regData 0))
/-- REG64_LOWER_WRITE (R14). -/
def execReg64LowerWrite (ctx : Fin 9) (a : Nat) (v : W32) (st : State) : Res :=
  .next (if regHalf a = 1 then writeAny st ctx.val {} a 4 v else st)
/-- REG64_UPPER_WRITE (R14), by firmware or by another agent (R258). -/
def execReg64UpperWrite (who : Accessor) (a : Nat) (v : W32) (st : State) : Res :=
  .next (if regHalf a = 2 then writeAny st who.ctx.val { fw := who.firmware } a 4 v else st)
/-- REGISTER_WRITE (R11, R13): a write of `width` bytes; the facts of the registers whose effect hangs on them. -/
def execRegisterWrite (ctx : Fin 9) (a width : Nat) (v : W32) (f : WrFacts) (st : State) : Res :=
  .next (writeAny st ctx.val f a width v)
/-- RC_REGISTER_READ (R11, R13): a read of `width` bytes; its data are put out. -/
def execRcRegisterRead (ctx : Fin 9) (a width : Nat) (st : State) : Res :=
  .next (emit (readAny st ctx.val a width).2 (.regData (readAny st ctx.val a width).1))

end Sys2Proof.Machine
end

