-- ==== Sys2Proof/Machine/HostCat.lean ====
section
/-! DEFINITION. Commands of agents: the acceptance of an entry (R284–R288, R300, R302) and the meanings of the catalogue's commands
that no other chapter's file holds (R302, R303); the PCIe link (R295, R457). -/

namespace Sys2Proof.Machine

/-! ### Acceptance -/

/-- `n` parameter bytes from offset `o` are zero. -/
def pzero (p : List Byte) (o n : Nat) : Bool := (slice p o n).all (fun b => b == 0)

/-- The opcodes of the catalogue (R302). -/
def catalogue : List Nat :=
  [0x00, 0x10, 0x11, 0x12, 0x13, 0x14, 0x20, 0x21, 0x22, 0x30, 0x31, 0x32, 0x40, 0x41, 0x42, 0x50, 0x51, 0x60, 0x70, 0x71, 0x72, 0x73, 0x7F]

/-- The target of a COMMIT lies within 2^25 base ticks of the BTC, or within 600 s of the PTP time the mapping gives (R303). -/
def commitNear (s : State) (trig : Nat) (p : List Byte) : Bool :=
  match trig with
  | 1 => decide (leAt p 0 8 ≤ s.btc.toNat + 2 ^ 25)
  | 2 => !mapValid s || decide ((leAt p 0 6 * 10 ^ 9 + leAt p 8 4) * fbOf s ≤ (s.btc.toNat + moffOf s + 600 * fbOf s) * 10 ^ 9)
  | _ => true

/-- The parameters of COMMIT (R302): by trigger, the unused bytes 0. -/
def commitParams (trig : Nat) (p : List Byte) : Bool :=
  match trig with
  | 0 => pzero p 0 40
  | 1 => pzero p 8 32
  | 2 => pzero p 6 2 && decide (leAt p 8 4 < 10 ^ 9) && pzero p 12 28
  | _ => false

/-- Every reserved field is 0 and every parameter in range (R284, R302, R303, R376). -/
def fieldsOk (s : State) (a : Nat) (e : List Byte) : Bool :=
  let f := leAt e 1 1
  let g := leAt e 2 2
  let p := slice e 8 40
  (decide (4 ≤ a) || leAt e 48 4 == 0) && leAt e 52 4 == 0 &&
  (match leAt e 0 1 with
   | 0x10 => decide (f ≤ 1) && (decide (g < 128) || g == 0xFFFF) && decide (leAt p 0 8 < 2 ^ 60) && (f == 0 || pzero p 0 8) && pzero p 12 28
   | 0x12 => g == 0 && decide (f < 4) && (nbit f 1 || pzero p 32 8)
   | 0x13 => decide (4 ≤ g) && decide (g ≤ 7) && (f == 0 || f == 2) && (nbit f 1 || pzero p 32 8)
   | 0x14 => decide (4 ≤ g) && decide (g ≤ 7) && f == 0 && decide (leAt p 0 1 < 4) && pzero p 1 1 && decide (leAt p 4 1 ≤ 128)
       && decide (1 ≤ leAt p 5 1) && pzero p 24 16
   | 0x20 => decide (g < 256) && decide (f < 8) && commitParams (f % 4) p && (!nbit f 2 || commitNear s (f % 4) p)
   | 0x21 => decide (g < 256) && f == 0 && pzero p 0 40
   | 0x22 => decide (g < 256) && decide (f ≤ 1) && memberRange (leAt p 0 1 * 65536 + leAt p 2 2) && pzero p 1 1 && pzero p 4 36
   | 0x30 => g == 0 && decide (f ≤ 1) && decide (1 ≤ leAt p 0 1) && decide (leAt p 0 1 ≤ 6) && pzero p 1 39
   | 0x31 => decide (g < 4096) && f == 0 && decide (leAt p 0 8 < 2 ^ 60) && decide (10 ≤ leAt p 8 1) && decide (leAt p 8 1 ≤ 13) && pzero p 9 31
   | 0x32 => f == 0 && pzero p 0 40 &&
       (if g / 2 ^ 14 = 1 then decide (g % 2 ^ 14 < 1088) else g / 2 ^ 14 == 2 && decide (g % 2 ^ 14 < 16))
   | 0x41 => decide (1 ≤ g) && decide (g ≤ 5) && f == 0 && decide (leAt p 0 4 < 0x2000000) && pzero p 4 36
   | 0x42 => decide (1 ≤ g) && decide (g ≤ 8) && f == 0 && decide (leAt p 0 4 < 0x2000000) && pzero p (4 + 4 * g) (36 - 4 * g)
   | 0x50 => decide (g ≤ 5) && f == 0 && (if g = 4 then decide (leAt p 0 1 < 16) else pzero p 0 1) && pzero p 1 39
   | 0x51 => g == 0 && decide (f ≤ 1) && decide ((sext 32 (leAt p 0 4)).natAbs ≤ 45000000)
       && (leAt p 4 8 == 0 || decide (s.btc.toNat + 64 ≤ leAt p 4 8)) && pzero p 12 28
   | 0x60 => decide (g < 1024) && decide (f ≤ 1) && decide (leAt p 0 1 < 4) && pzero p 1 7
   | 0x70 => g == 0 && f == 0 && decide (leAt p 0 8 < 2 ^ 60) && pzero p 12 28
   | 0x73 => g == 0 && f == 0 && pzero p 32 8
   | _ => g == 0 && f == 0 && pzero p 0 40)

/-- The command is permitted to the agent (R302, R303). -/
def permitted (a : Nat) (e : List Byte) : Bool :=
  let op := leAt e 0 1
  if op = 0x10 then decide (a < 4) == (leAt e 1 1 == 0)
  else if op = 0x31 ∨ (0x70 ≤ op ∧ op ≤ 0x73) then decide (a < 4)
  else if op = 0x41 ∨ op = 0x42 then
    (List.range (leAt e 2 2)).all (fun i => match pageOf? (leAt e 8 4 + 4 * i) with
      | some p => p == a
      | none => true)
  else true

/-- Two SELF_TEST targets share a slot. -/
def testOverlap (g h : Nat) : Bool :=
  let c := fun (x : Nat) => if x / 2 ^ 14 = 1 then x % 2048 / 68 else x % 2048
  if g / 2 ^ 14 = 1 ∧ h / 2 ^ 14 = 1 then g % 2048 == h % 2048 else c g == c h
/-- The slots of a SELF_TEST target. -/
def testSlots (g : Nat) : List Nat :=
  if g / 2 ^ 14 = 1 then [g % 2048] else (List.range 68).map (fun j => g % 2048 * 68 + j)

/-- An operation of the same kind is running (R288, R303). -/
def kindRuns (s : State) (e : List Byte) : Bool :=
  let op := leAt e 0 1
  let has := fun (k : Nat) => s.host.ops.any (fun o => o.opc == k)
  match op with
  | 0x10 => has 0x10
  | 0x11 => has 0x11 || has 0x10
  | 0x30 => has 0x30 || glcState s == 2
  | 0x32 => s.host.ops.any (fun o => o.opc == 0x32 && testOverlap o.arg (leAt e 2 2))
      || (testSlots (leAt e 2 2)).any (fun k => slotState s k == 4)
  | 0x70 => has 0x70
  | _ => false

/-- The opcode may run in recovery: NOP, REG_RD of the BOT_ and HST_ blocks, FW_UPDATE, DEV_RESET, the debug commands (R422). -/
def recoveryOk (e : List Byte) : Bool :=
  let op := leAt e 0 1
  op == 0 || op == 0x70 || op == 0x7F || op == 0x72 || op == 0x73 ||
    (op == 0x41 && (List.range (leAt e 2 2)).all (fun i =>
      let b := (leAt e 8 4 + 4 * i) / 0x20000
      b == 34 || b == 24))

/-- The device or the resource is in a state that forbids the command (R302, R303, R372, R420, R422, R443). -/
def stateForbids (s : State) (a : Nat) (e : List Byte) : Bool :=
  let g := leAt e 2 2
  let wrapped := nbit (leAt e 1 1) 1
  (inRecovery s && !recoveryOk e) ||
  (match leAt e 0 1 with
   | 0x10 => rbit s 0x480000 27
   | 0x11 => !s.cmt.live
   | 0x12 => wrapped != decide (4 ≤ a)
   | 0x13 => wrapped != decide (4 ≤ a)
   | 0x30 => decide (glcAct s > 0) || glcState s == 0
   | 0x31 => let d := strOf s g; !(sdEn d && sdKind d == 2 && sdOne d)
   | 0x32 => (testSlots g).any (fun k => clusterDown s (k / 68) || slotState s k == 1 || slotState s k == 3 || slotState s k == 6)
   | 0x50 => s.clk.hop.isSome || s.host.ops.any (fun o => o.opc == 0x51)
   | 0x51 => s.clk.hop.isSome || s.host.ops.any (fun o => o.opc == 0x51) || trackerOwns s
   | 0x70 => rbit s 0x440000 25 || (!bootGate s && !inRecovery s)
   | 0x71 => !rbit s 0x440010 29
   | 0x72 => Config.fuseDbg != 0 || decide (s.boot.wrong ≥ 3)
   | 0x73 => s.boot.chal.isNone || decide (s.boot.wrong ≥ 3)
   | _ => false)

/-- The acceptance code of an entry: the checks in the order of R288, the first failure reported; 0 accepts it. -/
def accCode (s : State) (a : Nat) (e : List Byte) : Nat :=
  if !catalogue.contains (leAt e 0 1) then 1
  else if !fieldsOk s a e then 2
  else if (outstanding s a).length ≥ 256 then 3
  else if !permitted a e then 4
  else if kindRuns s e then 5
  else if stateForbids s a e then 6
  else 0

/-- What a command carries from its acceptance: the stop boundary of CLEAR (R303), the boundary of a hop (R376). -/
def accNote (s : State) (e : List Byte) : Nat :=
  match leAt e 0 1 with
  | 0x11 => s.btc.toNat + 4
  | 0x51 => if leAt e 12 8 = 0 then s.btc.toNat + 64 else leAt e 12 8
  | _ => 0

/-- A CLEAR is accepted: groups that are not due are cancelled; the structure stops at boundary `b` (R303). -/
def clearAccepted (s : State) (b : Nat) : State :=
  let s := cancelGroups s false
  { s with cmt := { s.cmt with clearAt := some b } }

/-- An entry is checked and, where it passes, accepted: its acceptance record, and the state (R284, R287, R288). -/
def entryTake (s : State) (a : Nat) (e : List Byte) : List Byte × State :=
  let code := accCode s a e
  if code ≠ 0 then (accRecord 0 code, s) else
  let note := accNote s e
  let r := opAccept s a e
  let s := { r.2 with host := { r.2.host with ops := r.2.host.ops.map (fun (o : CmdOp) =>
      if o.agent = a ∧ o.handle = r.1 ∧ o.lost = false then { o with note := note } else o) } }
  let s := if leAt e 0 1 = 0x10 then { s with load := { s.load with accKey := s.load.key, accRequire := s.load.require } }
    else if leAt e 0 1 = 0x11 then clearAccepted s note else s
  (accRecord r.1 0, s)

/-- A command-entry read returns (R286): the acceptance record is written as two 4-byte writes, the last 4 bytes last. -/
def entryRead (s : State) (a : Nat) (e : List Byte) : State :=
  let p := pageA a
  let head := rfld s (p + 0x20) 0 12
  if !pageOpen s a ∨ (agSt s a ≠ 1 ∧ agSt s a ≠ 2) ∨ rfld s (p + 0x1C) 0 12 = head then s else
  let r := entryTake s a (slice e 0 64)
  let addr := (rget64 s (p + 0x10)).toNat + 64 * head
  let s := rput r.2 (p + 0x20) 0 12 ((head + 1) % 2 ^ rfld s (p + 0x18) 0 4)
  emitAll s [.hostWrite (addr + 56) (r.1.take 4), .hostWrite (addr + 60) (r.1.drop 4)]

/-- One entry of a COMMAND datagram: its CID is new, known or old (R300). -/
def nsEntry (s : State) (a : Nat) (e : List Byte) : List Byte × State :=
  let cid := leAt e 48 4
  let n := nsOf s a
  if cid ≤ n.cidHigh then
    match n.cids.find? (fun (x : Nat × List Byte) => x.1 == cid) with
    | some x => (leBytes 4 cid ++ x.2, s)
    | none => ([], s)
  else
    let r := entryTake s a e
    let s := if leAt r.1 0 2 = 0 then r.2 else
      let n := nsOf r.2 a
      setNs r.2 a { n with cidHigh := cid, cids := (n.cids ++ [(cid, r.1)]).drop (n.cids.length + 1 - 256) }
    (leBytes 4 cid ++ r.1, s)

/-- A COMMAND datagram (R298, R300): 1 to 16 entries; the records go back in one ACCEPT. -/
def nsCommand (s : State) (a : Nat) (body : List Byte) : State :=
  let k := body.length / 64
  if body.length % 64 ≠ 0 ∨ k < 1 ∨ k > 16 ∨ (agSt s a ≠ 1 ∧ agSt s a ≠ 2) then s else
  let r := (List.range k).foldl (fun (q : List Byte × State) (i : Nat) =>
    let x := nsEntry q.2 a (slice body (64 * i) 64)
    (q.1 ++ x.1, x.2)) (([] : List Byte), s)
  if r.1.isEmpty then r.2 else nsSend r.2 a 0x02 r.1

/-! ### The commands -/

/-- A command's own step, on the outstanding command of an agent and handle; nothing where there is none. -/
def withOp (s : State) (a h opc : Nat) (f : State → CmdOp → State) : State :=
  match opOf s a h opc with
  | some o => f s o
  | none => s

/-- CLEAR begins (R303): it waits for its boundary, at which the structure stops. -/
def clearCmd (s : State) (o : CmdOp) : State := if o.started then s else opStart s o

/-- The key a command carries: plain from AG0–AG3, unwrapped under the sending session's key from AG4–AG7 (R301). -/
def carriedKey (s : State) (o : CmdOp) : Option (List Byte) :=
  if nbit o.flags 1 then aesUnwrap (hkdf32 (nsOf s o.agent).key [] (asciiBytes "wrap")) (slice o.params 0 40) else some (slice o.params 0 32)

/-- IMAGE_KEY (R198, R301, R302). -/
def imageKey (s : State) (o : CmdOp) : State :=
  match carriedKey s o with
  | none => opEnd s o 2 1 []
  | some k => opEnd { s with load := { s.load with key := some k, require := s.load.require || nbit o.flags 0 } } o 0 0 []

/-- SESSION_KEY (R297, R301): the key, both counters 0, the session keyed; the agent enters DOWN (R314), which discards the completion
of a SESSION_KEY of its own. -/
def sessionKey (s : State) (o : CmdOp) : State :=
  match carriedKey s o with
  | none => opEnd s o 2 1 []
  | some k =>
    let s := agentDown s o.arg
    let s := rput (setNs s o.arg { nsOf s o.arg with key := k, rxSeq := 0, txSeq := 0 }) (nsA o.arg) 30 2 2
    opEnd s (if o.agent = o.arg then { o with lost := true } else o) 0 0 []

/-- SESSION_CFG (R296, R299, R302). -/
def sessionCfg (s : State) (o : CmdOp) : State :=
  let p := o.params
  let s := setNs s o.arg { nsOf s o.arg with prefixLen := leAt p 4 1, count := leAt p 5 1, timer := leAt p 6 2, peer := slice p 8 16, peerAddr := [] }
  opEnd (rput (rput s (nsA o.arg) 26 2 (leAt p 0 1)) (nsA o.arg) 0 16 (leAt p 2 2)) o 0 0 []

/-- COMMIT (R231, R303): ARM of the named group with the command's trigger. -/
def commitCmd (s : State) (o : CmdOp) : State :=
  if o.started then s else
  let g := o.arg
  let p := o.params
  let t := o.flags % 4
  let x := groupOf s g
  let s := if x.state ≠ 0 then s else setGroup s g (match t with
    | 1 => { x with trig := t, ta := BitVec.ofNat 32 (leAt p 0 4), tb := BitVec.ofNat 32 (leAt p 4 4), tc := 0 }
    | 2 => { x with trig := t, ta := BitVec.ofNat 32 (leAt p 0 4), tb := BitVec.ofNat 32 (leAt p 4 2), tc := BitVec.ofNat 32 (leAt p 8 4) }
    | _ => { x with trig := t })
  let s := groupArm s g
  let y := groupOf s g
  if y.armr ≠ 0 then opEnd s o 2 y.armr []
  else if nbit o.flags 2 then opStart s o
  else opEnd s o 0 0 (leBytes 8 y.rbtc)

/-- COMMIT_CANCEL (R231). -/
def commitCancel (s : State) (o : CmdOp) : State :=
  let s := groupCancel s o.arg
  let r := (groupOf s o.arg).armr
  if r ≠ 0 then opEnd s o 2 r [] else opEnd s o 0 0 []

/-- COMMIT_MEMBER (R227). -/
def commitMember (s : State) (o : CmdOp) : State :=
  let m := leAt o.params 0 1 * 65536 + leAt o.params 2 2
  let r := if nbit o.flags 0 then memRem s o.arg m else memAdd s o.arg m
  opEnd r.2 o (if r.1 then 1 else 0) 0 []

/-- GLACIER_TRAIN (R186, R302): training begins; FULL: without the stored results. -/
def glacierTrain (s : State) (o : CmdOp) : State :=
  if o.started then s else
  let s := setGlcState (rput (opStart s o) 0x160004 0 3 (leAt o.params 0 1)) 2
  { s with glc := { s.glc with reuse := !nbit o.flags 0, warm := false } }

/-- Training or reuse ends (R172, R186, R187): the rate is at most CEIL; a GLACIER_TRAIN completes. -/
def glacierTrained (s : State) (rate step time : Nat) (retain : Bool) : State :=
  if glcState s ≠ 2 then s else
  let s := glcTrained s rate step time retain
  let rate := rfld s 0x160000 20 3
  let os := s.host.ops.filter (fun o => o.opc == 0x30 && o.started)
  forEach os s (fun s o => if rate = 0 then opEnd s o 2 1 []
    else opEnd s o 0 0 (leBytes 1 rate ++ [0] ++ leBytes 2 (min time 65535)))

/-- The bytes of a one-shot capture's ring in a host format (R177, R268, R302). -/
def captureBytes (s : State) (d : StrDesc) (fmt : Nat) : List Byte :=
  (List.range (sdNb d)).flatMap (fun b =>
    (blockOf s (sdRbase d + b)).words.flatMap (fun w => (hostBytes fmt w.hi.toInt 32 false).1 ++ (hostBytes fmt w.lo.toInt 32 false).1))

/-- CAPTURE (R302): the stream's samples go to host memory once it is DONE; until then the command waits. -/
def captureCmd (s : State) (o : CmdOp) : State :=
  let d := strOf s o.arg
  let r := runOf s o.arg
  if r.done then
    opEnd (emit s (.hostWrite (leAt o.params 0 8) (captureBytes s d (leAt o.params 8 1)))) o 0 0 (leBytes 4 (12 * sdNb d) ++ leBytes 4 r.conclN)
  else if !sdEn d then opEnd s o 4 1 []
  else opStart s o

/-- SELF_TEST (R302, R440): the slots leave the spare pool, are cleared and tested. -/
def selfTest (s : State) (o : CmdOp) : State :=
  if o.started then s else
  let ks := testSlots o.arg
  let ks := if ks.length = 1 then ks else ks.filter (slotGood s)
  let note := ks.foldl (fun (n : Nat) (k : Nat) => n + 2 ^ (k % 68)) 0
  if note = 0 then opEnd s o 0 0 [] else
  forEach ks (opUpdate s { o with started := true, note := note }) (fun s k => setSlotState (setSpare s k false) k 4)

/-- TIME (R35, R302): one capture. -/
def timeCmd (s : State) (o : CmdOp) (cyc sec ns : Nat) : State :=
  let s := snapTaken s cyc sec ns
  opEnd s o 0 0 (leBytes 8 s.btc.toNat ++ leBytes 2 cyc ++ leBytes 4 (ns / 2 * 2) ++ leBytes 6 sec)

/-- REG_RD (R303): up to 5 registers in ascending address order, in the agent's access context. -/
def regRd (s : State) (o : CmdOp) : State :=
  let r := (List.range o.arg).foldl (fun (q : List Byte × State) (i : Nat) =>
    let x := readAny q.2 o.agent (leAt o.params 0 4 + 4 * i) 4
    (q.1 ++ leBytes 4 x.1.toNat, x.2)) (([] : List Byte), s)
  opEnd r.2 o 0 0 r.1

/-- REG_WR (R303): up to 8 registers in ascending address order; a write of DOWN to the agent's own page discards the command's
completion with the others (R285). -/
def regWr (s : State) (o : CmdOp) (f : WrFacts) : State :=
  let s := forN o.arg s (fun s i => writeAny s o.agent { f with fw := false } (leAt o.params 0 4 + 4 * i) 4 (BitVec.ofNat 32 (leAt o.params (4 + 4 * i) 4)))
  opEnd s (if s.host.ops.contains o then o else { o with lost := true }) 0 0 []

/-- CLOCK_REF (R374): free-run completes at once, any other reference once it is locked. -/
def clockRef (s : State) (o : CmdOp) : State :=
  if o.started then s else
  let was := netAligned s
  let s := netRealign was (ptpRefChanged (refSelect (opStart s o) o.arg (leAt o.params 0 1)))
  if o.arg = 5 then opEnd s o 0 0 (leBytes 1 (rootSrc s)) else s

/-- CLOCK_HOP (R376). -/
def clockHop (s : State) (o : CmdOp) : State :=
  if o.started then s
  else if s.clk.hop.isSome then opEnd s o 4 2 []
  else hopSchedule (opStart s o) o.note (nbit o.flags 0) (sext 32 (leAt o.params 0 4)) .hop o.agent o.handle

/-- NET_JOIN (R323): the membership on each port named; a port keeps at most 2,048, and the manual does not say how the command ends
beyond them. -/
def netJoin (s : State) (o : CmdOp) : State :=
  let p := o.params
  let ports := (List.range 2).filter (fun k => nbit (leAt p 0 1) k)
  let mems := ports.map (fun k => ({ port := k, group := slice p 8 16, src := slice p 24 16, flow := o.arg } : Member))
  if nbit o.flags 0 then
    opEnd { s with net := { s.net with joins := s.net.joins.filter (fun m => !mems.contains m) } } o 0 0 []
  else
    let new := mems.filter (fun m => !s.net.joins.contains m)
    let fits := new.filter (fun m => decide ((s.net.joins.filter (fun x => x.port == m.port)).length < 2048))
    let s : State := { s with net := { s.net with joins := s.net.joins ++ fits } }
    if fits.length = new.length then opEnd s o 0 0 []
    else opEnd (drawn s) o 2 (Config.freeNat s.freeCtr % 65536) []

/-- AG0–AG3 enter DOWN and HST_LINK.UP falls (R295). -/
def pcieDown (s : State) : State := forN 4 (rputBit s 0x308004 31 false) (fun s a => agentDown s a)
/-- Link training completes (R304, R457), and the host sets PME_En and the masks of the MSI-X vectors (R292). -/
def pcieUp (s : State) (gen width : Nat) (pme : Bool) (mask : BitVec 64) : State :=
  msixMasks (rset { s with host := { s.host with pmeEn := pme } } 0x308004 (fputs 0 [(31, 1, 1), (4, 5, width), (0, 4, gen)])) mask

/-- NOP (R302). -/
def execNop (a : Fin 8) (h : BitVec 16) (st : State) : Res :=
  .next (withOp st a.val h.toNat 0x00 (fun s o => opEnd s o 0 0 (leBytes 8 s.btc.toNat)))
/-- CLEAR (R303). -/
def execClear (a : Fin 8) (h : BitVec 16) (st : State) : Res := .next (withOp st a.val h.toNat 0x11 clearCmd)
/-- IMAGE_KEY (R198). -/
def execImageKey (a : Fin 8) (h : BitVec 16) (st : State) : Res := .next (withOp st a.val h.toNat 0x12 imageKey)
/-- SESSION_KEY (R301). -/
def execSessionKey (a : Fin 8) (h : BitVec 16) (st : State) : Res := .next (withOp st a.val h.toNat 0x13 sessionKey)
/-- SESSION_CFG (R296). -/
def execSessionCfg (a : Fin 8) (h : BitVec 16) (st : State) : Res := .next (withOp st a.val h.toNat 0x14 sessionCfg)
/-- COMMIT (R303). -/
def execCommit (a : Fin 8) (h : BitVec 16) (st : State) : Res := .next (withOp st a.val h.toNat 0x20 commitCmd)
/-- COMMIT_CANCEL (R231). -/
def execCommitCancel (a : Fin 8) (h : BitVec 16) (st : State) : Res := .next (withOp st a.val h.toNat 0x21 commitCancel)
/-- COMMIT_MEMBER (R227). -/
def execCommitMember (a : Fin 8) (h : BitVec 16) (st : State) : Res := .next (withOp st a.val h.toNat 0x22 commitMember)
/-- GLACIER_TRAIN (R186). -/
def execGlacierTrain (a : Fin 8) (h : BitVec 16) (st : State) : Res := .next (withOp st a.val h.toNat 0x30 glacierTrain)
/-- CAPTURE (R302); given again when the stream has ended. -/
def execCapture (a : Fin 8) (h : BitVec 16) (st : State) : Res := .next (withOp st a.val h.toNat 0x31 captureCmd)
/-- SELF_TEST (R440). -/
def execSelfTest (a : Fin 8) (h : BitVec 16) (st : State) : Res := .next (withOp st a.val h.toNat 0x32 selfTest)
/-- TIME (R35): the cycle of the base tick and the PTP time at the capture. -/
def execTime (a : Fin 8) (h : BitVec 16) (cyc : Fin 25600) (sec : BitVec 48) (ns : Fin 1000000000) (st : State) : Res :=
  .next (withOp st a.val h.toNat 0x40 (fun s o => timeCmd s o cyc.val sec.toNat ns.val))
/-- REG_RD (R303). -/
def execRegRd (a : Fin 8) (h : BitVec 16) (st : State) : Res := .next (withOp st a.val h.toNat 0x41 regRd)
/-- REG_WR (R303), with the facts of the registers whose effect hangs on them. -/
def execRegWr (a : Fin 8) (h : BitVec 16) (f : WrFacts) (st : State) : Res := .next (withOp st a.val h.toNat 0x42 (fun s o => regWr s o f))
/-- CLOCK_REF (R374). -/
def execClockRef (a : Fin 8) (h : BitVec 16) (st : State) : Res := .next (withOp st a.val h.toNat 0x50 clockRef)
/-- CLOCK_HOP (R376). -/
def execClockHop (a : Fin 8) (h : BitVec 16) (st : State) : Res := .next (withOp st a.val h.toNat 0x51 clockHop)
/-- NET_JOIN (R323). -/
def execNetJoin (a : Fin 8) (h : BitVec 16) (st : State) : Res := .next (withOp st a.val h.toNat 0x60 netJoin)
/-- COMMAND_ENTRY_READ (R286, R288): the 64 bytes the read returns. -/
def execCommandEntryRead (a : Fin 4) (e : List Byte) (st : State) : Res := .next (entryRead st a.val e)
/-- NS_COMMAND (R300). -/
def execNsCommand (n : Fin 4) (p : Peer) (bytes : List Byte) (st : State) : Res :=
  let r := nsReceive st (4 + n.val) 0x01 p bytes
  .next (match r.1 with | some b => nsCommand r.2 (4 + n.val) b | none => r.2)
/-- PERST (R295, R457): the PCIe function is reset with its PME_En and its MSI-X state. -/
def execPerst (st : State) : Res := .next (pcieDown { st with host := { st.host with pmeEn := false, msixMask := BitVec.allOnes 64, msixPend := 0 } })
/-- PCIE_LINK_DOWN (R295). -/
def execPcieLinkDown (st : State) : Res := .next (pcieDown st)
/-- PCIE_LINK_UP (R304, R457): generation, lanes, and the function as the host has set it. -/
def execPcieLinkUp (gen : Fin 16) (width : Fin 32) (set : PcieSettings) (st : State) : Res :=
  .next (pcieUp st gen.val width.val set.pme set.mask)
/-- GLACIER_TRAINING_DONE (R186): the rate reached, 0 none; the step that failed last; the duration in 0.1 ms; the contents were kept. -/
def execGlacierTrainingDone (rate : Fin 7) (step : Fin 16) (time : BitVec 16) (retain : Bool) (st : State) : Res :=
  .next (glacierTrained st rate.val step.val time.toNat retain)

end Sys2Proof.Machine
end

