-- ==== Sys2Proof/Machine/Dispatch.lean ====
section
/-! DEFINITION. The dispatch: one arm per command, each one call of its meaning. -/

namespace Sys2Proof.Machine

def exec (i : Instr) (s : State) : Host.Outcome State Fault Refusal :=
  match i with
  | .tickBoundary q f => Sys2Proof.Machine.execTickBoundary q f s
  | .commitDeadline g => Sys2Proof.Machine.execCommitDeadline g s
  | .sampleProgramStart c sl stalls f => Sys2Proof.Machine.execSampleProgramStart c sl stalls f s
  | .crossfadeProgramStart c sl stalls f => Sys2Proof.Machine.execCrossfadeProgramStart c sl stalls f s
  | .wellheadClose c => Sys2Proof.Machine.execWellheadClose c s
  | .wellheadTap c e second tbl win => Sys2Proof.Machine.execWellheadTap c e second tbl win s
  | .wellheadWriteSlot c line ecc => Sys2Proof.Machine.execWellheadWriteSlot c line ecc s
  | .wellheadLaneDrive c lane bad => Sys2Proof.Machine.execWellheadLaneDrive c lane bad s
  | .yieldRedirection c sl withdrawn => Sys2Proof.Machine.execYieldRedirection c sl withdrawn s
  | .yieldOverrun c sl => Sys2Proof.Machine.execYieldOverrun c sl s
  | .blockResume c sl => Sys2Proof.Machine.execBlockResume c sl s
  | .chainAdd ch c badUp badDn bad => Sys2Proof.Machine.execChainAdd ch c badUp badDn bad s
  | .bridgeOutput c k bad => Sys2Proof.Machine.execBridgeOutput c k bad s
  | .mpy c sl g mode an xr ysrc yop ecc mism => Sys2Proof.Machine.execMpy c sl g mode an xr ysrc yop ecc mism s
  | .mac c sl g mode an xr ysrc yop ecc mism => Sys2Proof.Machine.execMac c sl g mode an xr ysrc yop ecc mism s
  | .msu c sl g mode an xr ysrc yop ecc mism => Sys2Proof.Machine.execMsu c sl g mode an xr ysrc yop ecc mism s
  | .cellNop c sl g ecc => Sys2Proof.Machine.execCellNop c sl g ecc s
  | .lds c sl g d p am ecc => Sys2Proof.Machine.execLds c sl g d p am ecc s
  | .ldsH c sl g d p am ecc => Sys2Proof.Machine.execLdsH c sl g d p am ecc s
  | .ldsL c sl g d p am ecc => Sys2Proof.Machine.execLdsL c sl g d p am ecc s
  | .ldk c sl g d p am ecc => Sys2Proof.Machine.execLdk c sl g d p am ecc s
  | .ldkH c sl g d p am ecc => Sys2Proof.Machine.execLdkH c sl g d p am ecc s
  | .ldkL c sl g d p am ecc => Sys2Proof.Machine.execLdkL c sl g d p am ecc s
  | .ldc c sl g d p am stalls ecc coll => Sys2Proof.Machine.execLdc c sl g d p am stalls ecc coll s
  | .ldcH c sl g d p am stalls ecc coll => Sys2Proof.Machine.execLdcH c sl g d p am stalls ecc coll s
  | .ldcL c sl g d p am stalls ecc coll => Sys2Proof.Machine.execLdcL c sl g d p am stalls ecc coll s
  | .mov c sl g d n => Sys2Proof.Machine.execMov c sl g d n s
  | .swaph c sl g d n => Sys2Proof.Machine.execSwaph c sl g d n s
  | .cmp c sl g n m rel k => Sys2Proof.Machine.execCmp c sl g n m rel k s
  | .cmovT c sl g d n k => Sys2Proof.Machine.execCmovT c sl g d n k s
  | .cmovF c sl g d n k => Sys2Proof.Machine.execCmovF c sl g d n k s
  | .shf c sl g d sh fn => Sys2Proof.Machine.execShf c sl g d sh fn s
  | .clra c sl g a => Sys2Proof.Machine.execClra c sl g a s
  | .mva c sl g a n => Sys2Proof.Machine.execMva c sl g a n s
  | .mvah c sl g a n => Sys2Proof.Machine.execMvah c sl g a n s
  | .mval c sl g a n => Sys2Proof.Machine.execMval c sl g a n s
  | .xrd c sl g d lane => Sys2Proof.Machine.execXrd c sl g d lane s
  | .xra c sl g a lane => Sys2Proof.Machine.execXra c sl g a lane s
  | .xred c sl g a lane badPoint => Sys2Proof.Machine.execXred c sl g a lane badPoint s
  | .movs c sl g wr cls idx n => Sys2Proof.Machine.execMovs c sl g wr cls idx n s
  | .setp c sl g cls n imm => Sys2Proof.Machine.execSetp c sl g cls n imm s
  | .padd c sl g p imm => Sys2Proof.Machine.execPadd c sl g p imm s
  | .pmod c sl g p am => Sys2Proof.Machine.execPmod c sl g p am s
  | .ldpt c sl g n ecc => Sys2Proof.Machine.execLdpt c sl g n ecc s
  | .stpt c sl g n => Sys2Proof.Machine.execStpt c sl g n s
  | .storePathMove c sl g dst fmt src dop ext stalls ecc badHere badThere badPoint => Sys2Proof.Machine.execStorePathMove c sl g dst fmt src dop ext stalls ecc badHere badThere badPoint s
  | .cellEnd c sl g => Sys2Proof.Machine.execCellEnd c sl g s
  | .rep c sl g lp len count => Sys2Proof.Machine.execRep c sl g lp len count s
  | .bxclr c sl g => Sys2Proof.Machine.execBxclr c sl g s
  | .stset c sl g mask => Sys2Proof.Machine.execStset c sl g mask s
  | .stclr c sl g mask => Sys2Proof.Machine.execStclr c sl g mask s
  | .bwait c sl g => Sys2Proof.Machine.execBwait c sl g s
  | .yend c sl g => Sys2Proof.Machine.execYend c sl g s
  | .br c sl g off => Sys2Proof.Machine.execBr c sl g off s
  | .brt c sl g k off => Sys2Proof.Machine.execBrt c sl g k off s
  | .brf c sl g k off => Sys2Proof.Machine.execBrf c sl g k off s
  | .jmp c sl g t => Sys2Proof.Machine.execJmp c sl g t s
  | .jmpp c sl g p => Sys2Proof.Machine.execJmpp c sl g p s
  | .nop a h => Sys2Proof.Machine.execNop a h s
  | .imageLoad a h => Sys2Proof.Machine.execImageLoad a h s
  | .imageHeaderCheck bytes => Sys2Proof.Machine.execImageHeaderCheck bytes s
  | .imageSectionCheck bytes => Sys2Proof.Machine.execImageSectionCheck bytes s
  | .imageTrailerCheck bytes => Sys2Proof.Machine.execImageTrailerCheck bytes s
  | .imageFeedStall => Sys2Proof.Machine.execImageFeedStall s
  | .clear a h => Sys2Proof.Machine.execClear a h s
  | .imageKey a h => Sys2Proof.Machine.execImageKey a h s
  | .sessionKey a h => Sys2Proof.Machine.execSessionKey a h s
  | .sessionCfg a h => Sys2Proof.Machine.execSessionCfg a h s
  | .commit a h => Sys2Proof.Machine.execCommit a h s
  | .commitCancel a h => Sys2Proof.Machine.execCommitCancel a h s
  | .commitMember a h => Sys2Proof.Machine.execCommitMember a h s
  | .glacierTrain a h => Sys2Proof.Machine.execGlacierTrain a h s
  | .capture a h => Sys2Proof.Machine.execCapture a h s
  | .selfTest a h => Sys2Proof.Machine.execSelfTest a h s
  | .time a h cyc sec ns => Sys2Proof.Machine.execTime a h cyc sec ns s
  | .regRd a h => Sys2Proof.Machine.execRegRd a h s
  | .regWr a h f => Sys2Proof.Machine.execRegWr a h f s
  | .clockRef a h => Sys2Proof.Machine.execClockRef a h s
  | .referenceMeasured fam mult p => Sys2Proof.Machine.execReferenceMeasured fam mult p s
  | .referenceLocked => Sys2Proof.Machine.execReferenceLocked s
  | .referenceLoss => Sys2Proof.Machine.execReferenceLoss s
  | .referenceReturn => Sys2Proof.Machine.execReferenceReturn s
  | .clockHop a h => Sys2Proof.Machine.execClockHop a h s
  | .hopCancelCheck => Sys2Proof.Machine.execHopCancelCheck s
  | .hop => Sys2Proof.Machine.execHop s
  | .netJoin a h => Sys2Proof.Machine.execNetJoin a h s
  | .fwUpdate a h pkg => Sys2Proof.Machine.execFwUpdate a h pkg s
  | .fwUpdateDone ok => Sys2Proof.Machine.execFwUpdateDone ok s
  | .fwTrial a h => Sys2Proof.Machine.execFwTrial a h s
  | .dbgChallenge a h => Sys2Proof.Machine.execDbgChallenge a h s
  | .dbgChallengeExpiry => Sys2Proof.Machine.execDbgChallengeExpiry s
  | .dbgUnlock a h => Sys2Proof.Machine.execDbgUnlock a h s
  | .devReset a h => Sys2Proof.Machine.execDevReset a h s
  | .commandDoorbell a tail => Sys2Proof.Machine.execCommandDoorbell a tail s
  | .commandEntryRead a e => Sys2Proof.Machine.execCommandEntryRead a e s
  | .commandFetchError a => Sys2Proof.Machine.execCommandFetchError a s
  | .completionWrite a => Sys2Proof.Machine.execCompletionWrite a s
  | .completionHeadAdvance a head => Sys2Proof.Machine.execCompletionHeadAdvance a head s
  | .moderationTimer a => Sys2Proof.Machine.execModerationTimer a s
  | .agentAwake a => Sys2Proof.Machine.execAgentAwake a s
  | .agentSleep a => Sys2Proof.Machine.execAgentSleep a s
  | .agentDown a => Sys2Proof.Machine.execAgentDown a s
  | .sleepWakeTimer a => Sys2Proof.Machine.execSleepWakeTimer a s
  | .bar2Read a off len acc => Sys2Proof.Machine.execBar2Read a off len acc s
  | .bar2ReadTimeout a len => Sys2Proof.Machine.execBar2ReadTimeout a len s
  | .bar2Write a off bytes acc => Sys2Proof.Machine.execBar2Write a off bytes acc s
  | .perst => Sys2Proof.Machine.execPerst s
  | .pcieLinkDown => Sys2Proof.Machine.execPcieLinkDown s
  | .pcieLinkUp gen width set => Sys2Proof.Machine.execPcieLinkUp gen width set s
  | .nsCommand n p bytes => Sys2Proof.Machine.execNsCommand n p bytes s
  | .credit n p bytes => Sys2Proof.Machine.execCredit n p bytes s
  | .state n p bytes => Sys2Proof.Machine.execState n p bytes s
  | .imageData n p bytes => Sys2Proof.Machine.execImageData n p bytes s
  | .completionResendTimer n => Sys2Proof.Machine.execCompletionResendTimer n s
  | .wakeRepeatTimer n => Sys2Proof.Machine.execWakeRepeatTimer n s
  | .eventRepeatTimer n => Sys2Proof.Machine.execEventRepeatTimer n s
  | .cmtGCtlArm => Sys2Proof.Machine.execCmtGCtlArm s
  | .cmtGCtlCancel => Sys2Proof.Machine.execCmtGCtlCancel s
  | .commitValidationDone g => Sys2Proof.Machine.execCommitValidationDone g s
  | .cmtMemCtlAdd kind g id => Sys2Proof.Machine.execCmtMemCtlAdd kind g id s
  | .cmtMemCtlRem kind g id => Sys2Proof.Machine.execCmtMemCtlRem kind g id s
  | .cmtGldIdxWr cell slot => Sys2Proof.Machine.execCmtGldIdxWr cell slot s
  | .cmtGldIdxRd cell slot live => Sys2Proof.Machine.execCmtGldIdxRd cell slot live s
  | .resyncDone cell => Sys2Proof.Machine.execResyncDone cell s
  | .cmtRecPop => Sys2Proof.Machine.execCmtRecPop s
  | .cmtBndPop => Sys2Proof.Machine.execCmtBndPop s
  | .cmtSnap cyc sec ns => Sys2Proof.Machine.execCmtSnap cyc sec ns s
  | .cmtClStallClr c => Sys2Proof.Machine.execCmtClStallClr c s
  | .cisOwnerWrite firmware k v late => Sys2Proof.Machine.execCisOwnerWrite firmware k v late s
  | .cisEaddrClr k => Sys2Proof.Machine.execCisEaddrClr k s
  | .clusterIsolationLift c => Sys2Proof.Machine.execClusterIsolationLift c s
  | .clusterClearingDone c => Sys2Proof.Machine.execClusterClearingDone c s
  | .pumpEnable firmware n => Sys2Proof.Machine.execPumpEnable firmware n s
  | .pumpDisable firmware n => Sys2Proof.Machine.execPumpDisable firmware n s
  | .pumpStop firmware n => Sys2Proof.Machine.execPumpStop firmware n s
  | .pumpDoorbell firmware n => Sys2Proof.Machine.execPumpDoorbell firmware n s
  | .pumpPoll n => Sys2Proof.Machine.execPumpPoll n s
  | .pumpDescriptorFetched n d => Sys2Proof.Machine.execPumpDescriptorFetched n d s
  | .pumpBurst n => Sys2Proof.Machine.execPumpBurst n s
  | .pumpReadCompletion n bytes acc lat => Sys2Proof.Machine.execPumpReadCompletion n bytes acc lat s
  | .pumpBusError r cause => Sys2Proof.Machine.execPumpBusError r cause s
  | .pumpCompletionTimeout r => Sys2Proof.Machine.execPumpCompletionTimeout r s
  | .pumpLanding n lat => Sys2Proof.Machine.execPumpLanding n lat s
  | .welEntWr c e => Sys2Proof.Machine.execWelEntWr c e s
  | .welEntRd c e => Sys2Proof.Machine.execWelEntRd c e s
  | .welLineWrite c k v => Sys2Proof.Machine.execWelLineWrite c k v s
  | .welLdGo c => Sys2Proof.Machine.execWelLdGo c s
  | .welLoadDone c bad => Sys2Proof.Machine.execWelLoadDone c bad s
  | .welRunCapture c e => Sys2Proof.Machine.execWelRunCapture c e s
  | .glacierGrainWrite w => Sys2Proof.Machine.execGlacierGrainWrite w s
  | .glacierWriteMiss g => Sys2Proof.Machine.execGlacierWriteMiss g s
  | .glacierGrainRead g f => Sys2Proof.Machine.execGlacierGrainRead g f s
  | .glacierHeadLate g => Sys2Proof.Machine.execGlacierHeadLate g s
  | .glacierLineCopy g f => Sys2Proof.Machine.execGlacierLineCopy g f s
  | .glacierTrainingDone rate step time retain => Sys2Proof.Machine.execGlacierTrainingDone rate step time retain s
  | .glacierTrackingFailure => Sys2Proof.Machine.execGlacierTrackingFailure s
  | .glacierRetrainDone r => Sys2Proof.Machine.execGlacierRetrainDone r s
  | .glacierRefreshReport => Sys2Proof.Machine.execGlacierRefreshReport s
  | .glcStrWr g => Sys2Proof.Machine.execGlcStrWr g s
  | .glcStrRd g => Sys2Proof.Machine.execGlcStrRd g s
  | .glcStrCap g => Sys2Proof.Machine.execGlcStrCap g s
  | .glcEaddrClr => Sys2Proof.Machine.execGlcEaddrClr s
  | .eventPinChange p level edges => Sys2Proof.Machine.execEventPinChange p level edges s
  | .evcClaimRead a => Sys2Proof.Machine.execEvcClaimRead a s
  | .evcEoi a src => Sys2Proof.Machine.execEvcEoi a src s
  | .evcRaise src => Sys2Proof.Machine.execEvcRaise src s
  | .evcSrcEnWrite n en => Sys2Proof.Machine.execEvcSrcEnWrite n en s
  | .evcSrcMaskWrite n mask => Sys2Proof.Machine.execEvcSrcMaskWrite n mask s
  | .evcSrcSenseWrite n sense => Sys2Proof.Machine.execEvcSrcSenseWrite n sense s
  | .evcStormClear n => Sys2Proof.Machine.execEvcStormClear n s
  | .evcCfgSplitWrite split => Sys2Proof.Machine.execEvcCfgSplitWrite split s
  | .stormWindow => Sys2Proof.Machine.execStormWindow s
  | .evcPinClr p => Sys2Proof.Machine.execEvcPinClr p s
  | .mediaPacketReceived p f cyc acc => Sys2Proof.Machine.execMediaPacketReceived p f cyc acc s
  | .controlFrameReceived p fcs excess head body => Sys2Proof.Machine.execControlFrameReceived p fcs excess head body s
  | .networkLinkDown p cyc => Sys2Proof.Machine.execNetworkLinkDown p cyc s
  | .networkLinkUp p speed => Sys2Proof.Machine.execNetworkLinkUp p speed s
  | .alignGroupTimeout g => Sys2Proof.Machine.execAlignGroupTimeout g s
  | .ptpSync p m rx bnd align => Sys2Proof.Machine.execPtpSync p m rx bnd align s
  | .ptpAnnounce p m => Sys2Proof.Machine.execPtpAnnounce p m s
  | .announceReceiptTimeout p => Sys2Proof.Machine.execAnnounceReceiptTimeout p s
  | .aes3FrameReceived rx a b frate next acc => Sys2Proof.Machine.execAes3FrameReceived rx a b frate next acc s
  | .aes3NoSignal rx => Sys2Proof.Machine.execAes3NoSignal rx s
  | .asrcRatioLock rx ratio gd => Sys2Proof.Machine.execAsrcRatioLock rx ratio gd s
  | .aes3FrameStart j acc => Sys2Proof.Machine.execAes3FrameStart j acc s
  | .zeroCrossingTimeout j ch => Sys2Proof.Machine.execZeroCrossingTimeout j ch s
  | .aesTxGainWrite j ch v => Sys2Proof.Machine.execAesTxGainWrite j ch v s
  | .aesTxMuteWrite j v => Sys2Proof.Machine.execAesTxMuteWrite j v s
  | .aesTxCsCommit j => Sys2Proof.Machine.execAesTxCsCommit j s
  | .aesRxCsLatch ctx => Sys2Proof.Machine.execAesRxCsLatch ctx s
  | .aesRxCtlClr rx => Sys2Proof.Machine.execAesRxCtlClr rx s
  | .tdmFrameStart q => Sys2Proof.Machine.execTdmFrameStart q s
  | .tdmFrameSync q acc => Sys2Proof.Machine.execTdmFrameSync q acc s
  | .tdmFrameReceived q words clocks next acc => Sys2Proof.Machine.execTdmFrameReceived q words clocks next acc s
  | .tdmSyncLoss q => Sys2Proof.Machine.execTdmSyncLoss q s
  | .tdmRxmaskWrite q v late => Sys2Proof.Machine.execTdmRxmaskWrite q v late s
  | .tdmTxmaskWrite q v late => Sys2Proof.Machine.execTdmTxmaskWrite q v late s
  | .tdmCtlClr q => Sys2Proof.Machine.execTdmCtlClr q s
  | .synthLock x err => Sys2Proof.Machine.execSynthLock x err s
  | .synthLockLoss x err cyc => Sys2Proof.Machine.execSynthLockLoss x err cyc s
  | .bandSearchDone x band => Sys2Proof.Machine.execBandSearchDone x band s
  | .synRampGo nseg => Sys2Proof.Machine.execSynRampGo nseg s
  | .synRampStop => Sys2Proof.Machine.execSynRampStop s
  | .synPhaseAdd n => Sys2Proof.Machine.execSynPhaseAdd n s
  | .alignerLock o => Sys2Proof.Machine.execAlignerLock o s
  | .alignerLoss o => Sys2Proof.Machine.execAlignerLoss o s
  | .mtrSnapGo late => Sys2Proof.Machine.execMtrSnapGo late s
  | .mtrIdxWrite ctx m => Sys2Proof.Machine.execMtrIdxWrite ctx m s
  | .hisClr => Sys2Proof.Machine.execHisClr s
  | .hisFrz => Sys2Proof.Machine.execHisFrz s
  | .hisRun => Sys2Proof.Machine.execHisRun s
  | .temperatureSample sens vdd vddm => Sys2Proof.Machine.execTemperatureSample sens vdd vddm s
  | .thermRelease => Sys2Proof.Machine.execThermRelease s
  | .thermalTrip => Sys2Proof.Machine.execThermalTrip s
  | .pwrTempClr => Sys2Proof.Machine.execPwrTempClr s
  | .crcStart u ate => Sys2Proof.Machine.execCrcStart u ate s
  | .crcFin u ate => Sys2Proof.Machine.execCrcFin u ate s
  | .crcDin8 u ate d => Sys2Proof.Machine.execCrcDin8 u ate d s
  | .crcDin16 u ate d => Sys2Proof.Machine.execCrcDin16 u ate d s
  | .crcDin32 u ate d => Sys2Proof.Machine.execCrcDin32 u ate d s
  | .crcFeedWrite u ate w => Sys2Proof.Machine.execCrcFeedWrite u ate w s
  | .crcDone u => Sys2Proof.Machine.execCrcDone u s
  | .powerGood => Sys2Proof.Machine.execPowerGood s
  | .powerOnReset => Sys2Proof.Machine.execPowerOnReset s
  | .brownOut aon => Sys2Proof.Machine.execBrownOut aon s
  | .warmReset => Sys2Proof.Machine.execWarmReset s
  | .verificationPass t => Sys2Proof.Machine.execVerificationPass t s
  | .verificationFail => Sys2Proof.Machine.execVerificationFail s
  | .bootReady t => Sys2Proof.Machine.execBootReady t s
  | .watchdogExpiry k now ran ptp => Sys2Proof.Machine.execWatchdogExpiry k now ran ptp s
  | .takeoverCopyDone l bad => Sys2Proof.Machine.execTakeoverCopyDone l bad s
  | .slotSelfTestDone c sl pass => Sys2Proof.Machine.execSlotSelfTestDone c sl pass s
  | .scrubRead mem unit word ecc abandoned last => Sys2Proof.Machine.execScrubRead mem unit word ecc abandoned last s
  | .fltLogPop => Sys2Proof.Machine.execFltLogPop s
  | .reg64LowerRead ctx a => Sys2Proof.Machine.execReg64LowerRead ctx a s
  | .reg64UpperRead ctx a => Sys2Proof.Machine.execReg64UpperRead ctx a s
  | .reg64LowerWrite ctx a v => Sys2Proof.Machine.execReg64LowerWrite ctx a v s
  | .reg64UpperWrite who a v => Sys2Proof.Machine.execReg64UpperWrite who a v s
  | .registerWrite ctx a width v f => Sys2Proof.Machine.execRegisterWrite ctx a width v f s
  | .rcRegisterRead ctx a width => Sys2Proof.Machine.execRcRegisterRead ctx a width s
  | .aes3TransitionsAppear rx => Sys2Proof.Machine.execAes3TransitionsAppear rx s
  | .ptpFollowUp p m bnd align => Sys2Proof.Machine.execPtpFollowUp p m bnd align s
  | .ptpDelayResp p m rx => Sys2Proof.Machine.execPtpDelayResp p m rx s
  | .ptpDelayReq p m rx tx => Sys2Proof.Machine.execPtpDelayReq p m rx tx s
  | .ptpDelayReqInterval p tx => Sys2Proof.Machine.execPtpDelayReqInterval p tx s
  | .ptpSyncInterval p tx => Sys2Proof.Machine.execPtpSyncInterval p tx s
  | .ptpAnnounceInterval p => Sys2Proof.Machine.execPtpAnnounceInterval p s
  | .referenceLockTimeout => Sys2Proof.Machine.execReferenceLockTimeout s
  | .crystalStable t0 t1 => Sys2Proof.Machine.execCrystalStable t0 t1 s
  | .coreRestartDone k => Sys2Proof.Machine.execCoreRestartDone k s
  | .slotClearingDone c sl => Sys2Proof.Machine.execSlotClearingDone c sl s
  | .thermalTripRelease => Sys2Proof.Machine.execThermalTripRelease s

end Sys2Proof.Machine
end

