-- ==== Sys2Proof/Safety.lean ====
section
/-! DEFINITION. What a well-kept device state is, and what a command leaves alone, in the terms the statements use. -/

namespace Sys2Proof.Machine

/-- The control registers and the memories of cells and cisterns are canonical: one entry an address, rising, none that equals what
an unlisted address reads as. -/
def State.memWf (s : State) : Prop :=
  mwfD regReset s.ctl = true ∧ mwf 0 s.mem.cist = true ∧ mwf 0 s.mem.cell = true ∧ mwf false s.mem.mark = true

/-- The boundary records (R53), the commit records (R242) and the fault log (R448) stay within their capacities. -/
def State.fifoOk (s : State) : Prop :=
  s.bnd.length ≤ 16 ∧ s.cmt.recs.length ≤ 32 ∧ s.flt.log.length ≤ 32

/-- The invariant of the device. -/
def State.Inv (s : State) : Prop := s.memWf ∧ s.fifoOk

/-- Key of a physical slot. -/
def slotKey (c : Fin 16) (s : Fin 68) : Nat := c.val * 68 + s.val

/-- The cell of slot `k` once `g` issue cycles have passed. -/
def cellNow (s : State) (k g : Nat) : Cell := tickCell g (cellAt s k)

/-- In slot `k` something can issue `g` issue cycles on: the slot runs code, and the cycle is one in which its code issues (R36, R42,
R98, R107, R430). -/
def State.open_ (s : State) (k g : Nat) : Prop :=
  cellOn s k = true ∧ canIssue (onCell s k (tickCell g)) k g = true

/-- An operation is legal with those its instruction has issued before it in that cycle, in the code that runs (R70, R94, R99, R106). -/
def opFits (c : Cell) (op : CellOp) : Bool := opLegal (!c.sample) c.pc op && wordFits (c.iss ++ [op])

/-- Slot `k` issues the operation `op` `g` issue cycles on. -/
def State.issues (s : State) (k g : Nat) (op : CellOp) : Prop := s.open_ k g ∧ opFits (cellNow s k g) op = true

/-- A result put in flight: latency, destination, value (R75, R100). -/
abbrev Flown := Nat × Dst × Acc
/-- The results in flight of a cell with more issued at its present issue count. -/
def flown (c : Cell) (rs : List Flown) : List Landing := c.flight ++ rs.map (fun r => ⟨c.clk, c.clk + r.1, r.2.1, r.2.2⟩)

/-- From `s` to `t`, slot `k` issues one operation after `g` issue cycles, which puts `rs` in flight and does nothing else: every
register, memory and output stands, so do the other cells, and of the slot's own cell all but the results in flight and the record
of what has issued (the operations of the cycle's instruction, CEL_BTASK.ISSUE, the cycle of the last write, the issue of the last BX
write). -/
structure Flies (s t : State) (k g : Nat) (rs : List Flown) : Prop where
  rest : { t with cells := s.cells } = s
  others : ∀ j, j ≠ k → cellAt t j = cellAt s j
  cell : { cellAt t k with retire := (cellNow s k g).retire, bissue := (cellNow s k g).bissue, bxw := (cellNow s k g).bxw,
                           flight := (cellNow s k g).flight, iss := (cellNow s k g).iss } = cellNow s k g
  flight : (cellAt t k).flight = flown (cellNow s k g) rs

/-- From `s` to `t` nothing but the cell of slot `k` changes. -/
def OnlyCell (s t : State) (k : Nat) : Prop := { t with cells := s.cells } = s ∧ ∀ j, j ≠ k → cellAt t j = cellAt s j

/-- The results a store-path move puts in flight besides its own destination: the pointer's update (state memory and cisterns), ST.SAT
where it clamped, BX where it is tracked (R83, R90, R93, R95). -/
def storeResults (blk sat trk : Bool) (count : Nat) (ptr : Option (Nat × BitVec 20)) : List Flown :=
  (if sat then [(4, .stOr blk, 1)] else []) ++ (if trk then [(4, .bxMin, BitVec.ofNat 144 count)] else [])
    ++ (match ptr with | some (p, v) => [(1, .p p, v.zeroExtend 144)] | none => [])

/-- The registers the event controller writes by itself: EVC_SRC and EVC_LIM of its sources, and WAKE_N (R294, R317, R318). -/
def evReg (x : Nat) : Prop := (0x321000 ≤ x ∧ x < 0x322000) ∨ x = 0x308008

/-- A state but for what the event controller changes of itself. -/
def offEv (s : State) : State := { s with ctl := [], ev := {}, out := [], host := { s.host with ns := [], msixPend := 0 } }

/-- From `s` to `t` nothing happens but what the event controller does of itself: it changes its sources' registers, WAKE_N, its own
tables, the sessions' message counters and the pending bits of masked MSI-X messages, and adds what it signals to what was put out. -/
structure Settles (s t : State) : Prop where
  rest : offEv t = offEv s
  out : s.out <+: t.out
  regs : ∀ x, ¬ evReg x → rget t x = rget s x
  wake : ∀ i, i < 31 → rbit t 0x308008 i = rbit s 0x308008 i

/-- From `s` to `t` the fault manager logs one entry (R428, R448): it stands behind the others while fewer than 32 do, a cycle the
detector does not give is a free value; an entry of a tracked class opens or closes its fault. Nothing else changes but what the event
controller does of itself, and the lost count where the log is full. -/
structure Logs (s t : State) (kind : Nat) (f : FltInfo) (openf : SMap Bool) : Prop where
  rest : { offEv t with flt := s.flt, freeCtr := s.freeCtr } = offEv s
  out : s.out <+: t.out
  free : t.freeCtr = s.freeCtr + 1
  log : t.flt = { s.flt with openf := openf, log := if s.flt.log.length < 32 then
    s.flt.log ++ [fltWords kind { f with cyc := some (f.cyc.getD (Config.freeNat s.freeCtr % 25600)) }] else s.flt.log }
  regs : ∀ x, ¬ evReg x → x ≠ 0x460004 → rget t x = rget s x
  lost : rget t 0x460004 = if s.flt.log.length < 32 then rget s 0x460004 else rget (rinc (rsetBit s 0x460004 8) 0x460004 16 16) 0x460004

/-- A detector reports a fault (R427, R428). -/
def Detects (s t : State) (f : FltInfo) : Prop :=
  Logs s t 1 f (if f.cls = 4 ∨ f.cls = 5 ∨ f.cls = 6 then s.flt.openf else mset false s.flt.openf (openKey f.cls f.unit) true)

/-- What ends for agent `a` shows in its completion alone: it is not asleep, so nothing wakes it (R294), and no histogram engine takes
the latency of its commands (R393). -/
def State.answers (s : State) (a : Nat) : Prop := agSt s a ≠ 2 ∧ histTakers s 3 a = []

/-- A command's operation has finished (R287, R290): it no longer runs, and its completion stands behind the other finished ones, unless
its agent has gone DOWN since (R285). -/
def finished (s : State) (o : CmdOp) (status detail : Nat) (result : List Byte) : State :=
  { s with host := { s.host with ops := s.host.ops.filter (fun x => !(x.agent == o.agent && x.handle == o.handle && x.lost == o.lost)),
                                 fin := s.host.fin ++ (if o.lost then [] else
                                   [⟨o.agent, o.handle, o.opc, o.tag, status, detail, slice result 0 20⟩]) } }

/-- Reads of `n` registers upward from an address: their bytes, and the state after them (R303). -/
def readsUp (ctx : Nat) : Nat → Nat → State → List Byte × State
  | 0, _, s => ([], s)
  | n + 1, a, s =>
    let x := readAny s ctx a 4
    let y := readsUp ctx n (a + 4) x.2
    (leBytes 4 x.1.toNat ++ y.1, y.2)
/-- Writes of values to the registers upward from an address (R303). -/
def writesUp (ctx : Nat) (f : WrFacts) : List W32 → Nat → State → State
  | [], _, s => s
  | v :: vs, a, s => writesUp ctx f vs (a + 4) (writeAny s ctx f a 4 v)

end Sys2Proof.Machine
end

