-- ==== Sys2Proof/Certificates/Slice0/Obligations.lean ====
section
/-! DEFINITION. The statements for the provers. -/

open Sys2Proof Sys2Proof.Machine

/-- Register moves put one result in flight, with the latency of R100. Each is legal with what its instruction has issued before it. -/
def Obligations.CellMovesFly : Prop :=
  ∀ (st : State) (c : Fin 16) (s : Fin 68) (g : Nat), st.open_ (slotKey c s) g →
    let k := slotKey c s
    let x := cellNow st k g
    let fits := fun (op : CellOp) => opFits x op = true
    let rd := fun (n : Fin 32) => mget 0 x.d n.val
    let acc := fun (a : Fin 4) (hi lo : Bool) (v : Acc) => ([(2, .acc a.val true hi lo, v), (2, .acc a.val false hi lo, v)] : List Flown)
    (∀ d n, fits (.mov d.val n.val) → ∃ t, exec (.mov c s g d n) st = .next t ∧ Flies st t k g [(1, .d d.val true true, z72 (rd n))]) ∧
    (∀ d n, fits (.swaph d.val n.val) → ∃ t, exec (.swaph c s g d n) st = .next t ∧
      Flies st t k g [(1, .d d.val true true, z72 (Word.pack (rd n).lo (rd n).hi))]) ∧
    (∀ a, fits (.clra a.val) → ∃ t, exec (.clra c s g a) st = .next t ∧ Flies st t k g (acc a true true 0)) ∧
    (∀ a n, fits (.mva a.val n.val) → ∃ t, exec (.mva c s g a n) st = .next t ∧ Flies st t k g (acc a true true (s72ToAcc (rd n)))) ∧
    (∀ a n, fits (.mvah a.val n.val) → ∃ t, exec (.mvah c s g a n) st = .next t ∧ Flies st t k g (acc a true false (Acc.pack (rd n) 0))) ∧
    (∀ a n, fits (.mval a.val n.val) → ∃ t, exec (.mval c s g a n) st = .next t ∧ Flies st t k g (acc a false true (Acc.pack 0 (rd n))))

/-- Compares write one condition flag, conditional moves write only where their flag agrees, SHF writes its field and ST.SAT where it
clamped (R86, R84, R87, R100). -/
def Obligations.CellConditionsFly : Prop :=
  ∀ (st : State) (c : Fin 16) (s : Fin 68) (g : Nat), st.open_ (slotKey c s) g →
    let k := slotKey c s
    let x := cellNow st k g
    let blk := !x.sample
    let fits := fun (op : CellOp) => opFits x op = true
    let rd := fun (n : Fin 32) => mget 0 x.d n.val
    (∀ n m rel j, fits (.cmp n.val m.val rel.val j.val) → ∃ t, exec (.cmp c s g n m rel j) st = .next t ∧
      let holds := match rel.val with
        | 0 => decide (rd n = rd m)
        | 1 => decide ((rd n).toInt < (rd m).toInt)
        | 2 => decide ((rd n).toInt ≤ (rd m).toInt)
        | _ => decide ((rd n).toInt.natAbs < (rd m).toInt.natAbs)
      Flies st t k g [(2, .st blk (BitVec.ofNat 8 (2 ^ (4 + j.val))), if holds then 0xF0 else 0)]) ∧
    (∀ d n j, fits (.cmov d.val n.val j.val true) → ∃ t, exec (.cmovT c s g d n j) st = .next t ∧
      Flies st t k g (if (stOf x blk).getLsbD (4 + j.val) then [(1, .d d.val true true, z72 (rd n))] else [])) ∧
    (∀ d n j, fits (.cmov d.val n.val j.val false) → ∃ t, exec (.cmovF c s g d n j) st = .next t ∧
      Flies st t k g (if (stOf x blk).getLsbD (4 + j.val) then [] else [(1, .d d.val true true, z72 (rd n))])) ∧
    (∀ d sh fn, fits (.shf d.val sh fn.val) → ∃ t w sat, exec (.shf c s g d sh fn) st = .next t ∧
      shfValue fn.val sh.toInt (rndOf x blk) (rd d) = some (w, sat) ∧
      Flies st t k g ((2, .d d.val true true, z72 w) :: (if sat then [(2, .stOr blk, 1)] else [])))

/-- The saturation forms of SHF: functions 2 and 3 clamp to a power of two and take the absolute value (R87); the shift and the
half-word shift leave the value alone at shift 0. -/
def Obligations.ShiftFunctionValues : Prop :=
  ∀ (trunc : Bool) (w : Word),
    (∀ sh : Int, -63 ≤ sh → sh ≤ 6 → ∃ r, shfValue 2 sh trunc w = some r ∧
      r.1.toInt = max (-(2 ^ (sh + 64).toNat)) (min (2 ^ (sh + 64).toNat - 1) w.toInt) ∧ (r.2 = true ↔ r.1.toInt ≠ w.toInt)) ∧
    (∃ r, shfValue 3 0 trunc w = some r ∧ r.1.toInt = min (2 ^ 71 - 1) (w.toInt.natAbs : Int) ∧ (r.2 = true ↔ w.toInt = -(2 ^ 71))) ∧
    shfValue 0 0 trunc w = some (w, false) ∧ shfValue 1 0 trunc w = some (w, false)

/-- MPY, MAC and MSU replace, add and subtract the exact product, clamped to the accumulator (R62, R81): the product of D or coefficient
operands in each mode, the pointer's update where the operand names it, ST.AOV where the accumulator clamped. With clean check bits and
residues. -/
def Obligations.CellMultipliesFly : Prop :=
  ∀ (st : State) (c : Fin 16) (s : Fin 68) (g : Nat) (mode : Fin 8) (an : Fin 4) (xr : Fin 32) (ysrc : Bool) (yop : Fin 32),
    st.open_ (slotKey c s) g →
    let k := slotKey c s
    let x := cellNow st k g
    let fits := fun (op : Nat) => opFits x (.mac op mode.val an.val xr.val ysrc yop.val) = true
    let pm := yop.val / 2
    let ptr := mget 0 x.p pm
    let y := if ysrc then cellWord st (x.lender.getD k) (0x1000 + 0x800 * kpage st k + ptr.toNat % 2048) else mget 0 x.d yop.val
    let xx := mget 0 x.d xr.val
    let a := mget 0 x.af an.val
    let upd : List Flown := if ysrc && decide (yop.val % 2 = 1) then
      [(1, .p pm, (ptrUpdate (mget 0 x.z pm) ptr (mget 0 x.i pm)).zeroExtend 144)] else []
    let res := fun (r : Acc × Bool) => upd ++ [(1, .acc an.val true true true, r.1), (4, .acc an.val false true true, r.1)]
      ++ (if r.2 then [(4, .stOr (!x.sample), 2)] else [])
    let comb := fun (op : Nat) (o v : Int) => if op = 1 then v else if op = 2 then o + v else o - v
    let out := fun (op : Nat) => match macProduct mode.val xx y with
      | none => []
      | some (.full v) => res (BitVec.ofInt 144 (sclamp 144 (comb op a.toInt v)), !sfits 144 (comb op a.toInt v))
      | some (.pair h l) => res (Acc.pack (BitVec.ofInt 72 (sclamp 72 (comb op a.hi.toInt h))) (BitVec.ofInt 72 (sclamp 72 (comb op a.lo.toInt l))),
          !sfits 72 (comb op a.hi.toInt h) || !sfits 72 (comb op a.lo.toInt l))
    (fits 1 → ∃ t, exec (.mpy c s g mode an xr ysrc yop .ok false) st = .next t ∧ Flies st t k g (out 1)) ∧
    (fits 2 → ∃ t, exec (.mac c s g mode an xr ysrc yop .ok false) st = .next t ∧ Flies st t k g (out 2)) ∧
    (fits 3 → ∃ t, exec (.msu c s g mode an xr ysrc yop .ok false) st = .next t ∧ Flies st t k g (out 3))

/-- Loads from state and coefficient memory deliver the addressed word, or one half of it as S72, three issue cycles on, and update the
pointer as the addressing mode says (R83–R85, R100). A single-bit error is corrected and counted in CEL_ERR.CORR (R73). -/
def Obligations.CellLoadsFly : Prop :=
  ∀ (st : State) (c : Fin 16) (s : Fin 68) (g : Nat) (d : Fin 32) (p : Fin 16) (am : Fin 8) (e : Ecc) (a : BitVec 20)
    (np : Option (BitVec 20)), st.open_ (slotKey c s) g → e ≠ .double →
    let k := slotKey c s
    let x := cellNow st k g
    let m := x.lender.getD k
    let fits := fun (mem part : Nat) => opFits x (.load mem part d.val p.val am.val) = true
    amAddr am.val (mget 0 x.z p.val) (mget 0 x.p p.val) (mget 0 x.i p.val) = some (a, np) →
    let seen := if e = .single then rinc st (celErrA k) 0 16 else st
    let res := fun (v : Word) => ((match np with | some v => [(1, Dst.p p.val, v.zeroExtend 144)] | none => []) ++
      [(3, .d d.val true true, z72 v)] : List Flown)
    let state := match x.stale.find? (fun y => y.addr == a.toNat % 4096 && decide (x.clk < y.until_)) with
      | some y => y.old
      | none => cellWord st (if x.ownState then k else m) (0x2000 + a.toNat % 4096)
    let coef := cellWord st m (0x1000 + 0x800 * kpage st k + a.toNat % 2048)
    (fits 0 0 → ∃ t, exec (.lds c s g d p am e) st = .next t ∧ Flies seen t k g (res state)) ∧
    (fits 0 1 → ∃ t, exec (.ldsH c s g d p am e) st = .next t ∧ Flies seen t k g (res (halfToS72 state.hi))) ∧
    (fits 0 2 → ∃ t, exec (.ldsL c s g d p am e) st = .next t ∧ Flies seen t k g (res (halfToS72 state.lo))) ∧
    (fits 1 0 → ∃ t, exec (.ldk c s g d p am e) st = .next t ∧ Flies seen t k g (res coef)) ∧
    (fits 1 1 → ∃ t, exec (.ldkH c s g d p am e) st = .next t ∧ Flies seen t k g (res (halfToS72 coef.hi))) ∧
    (fits 1 2 → ∃ t, exec (.ldkL c s g d p am e) st = .next t ∧ Flies seen t k g (res (halfToS72 coef.lo)))

/-- A cistern load by a cell the owner admits arbitrates from the cycle after its issue on, `n` cycles later where a conflict outside
the model holds it up, and takes the first cycle in which its bank is free (R71, R249); it delivers the word, or a half of it as S72, five
issue cycles on and one more for each cycle lost, which freezes the cell (R38, R84, R85, R244). A block instruction that has not won by
its last cycle is withdrawn: WDRAW counts and it issues again (R108). With clean check bits and no transfer-side write in its cycle. -/
def Obligations.CellCisternLoadsFly : Prop :=
  ∀ (st : State) (c : Fin 16) (s : Fin 68) (g : Nat) (d : Fin 32) (p : Fin 16) (am : Fin 8) (n : Nat) (a : BitVec 20)
    (np : Option (BitVec 20)), st.open_ (slotKey c s) g →
    let k := slotKey c s
    let x := cellNow st k g
    let j := 8 * c.val + nbits a.toNat 16 3
    let y := grantCycle st j false (x.cyc + 1 + n)
    let lost := y - (x.cyc + 1)
    let last := withdrawAfter (onCell st k (tickCell g)) k
    let upd : List Flown := match np with | some v => [(1, Dst.p p.val, v.zeroExtend 144)] | none => []
    amAddr am.val (mget 0 x.z p.val) (mget 0 x.p p.val) (mget 0 x.i p.val) = some (a, np) → cisOwner st j ≤ 4 →
    (x.cyc + 1 + n ≤ y ∧ bankFree st j y = true ∧ ∀ z, x.cyc + 1 + n ≤ z → z < y → bankFree st j z = false) ∧
    (x.sample = true ∨ x.half = 1 ∨ y ≤ last →
      let ok := fun (i : Instr) (part : Word → Word) => ∃ t, exec i st = .next t ∧
        { t with cells := st.cells, mem := { t.mem with busy := st.mem.busy, stale := st.mem.stale } } = st ∧
        (∀ i, i ≠ k → cellAt t i = cellAt st i) ∧ mget [] t.mem.busy j = mget [] st.mem.busy j ++ [y] ∧
        (cellAt t k).flight = flown x (upd ++ [(5 + lost, .d d.val true true,
          z72 (part (cisSeen t (j * 65536 + a.toNat % 65536) (baseCycle st (domOf st c.val) y))))]) ∧
        (cellAt t k).frz = x.frz + lost ∧ (cellAt t k).stalls = x.stalls + (if x.sample then lost else 0) ∧ (cellAt t k).d = x.d
      (opFits x (.load 2 0 d.val p.val am.val) = true → ok (.ldc c s g d p am n .ok false) id) ∧
      (opFits x (.load 2 1 d.val p.val am.val) = true → ok (.ldcH c s g d p am n .ok false) (fun w => halfToS72 w.hi)) ∧
      (opFits x (.load 2 2 d.val p.val am.val) = true → ok (.ldcL c s g d p am n .ok false) (fun w => halfToS72 w.lo))) ∧
    (x.sample = false → x.half ≠ 1 → last < y → opFits x (.load 2 0 d.val p.val am.val) = true → x.stale = [] → st.mem.stale = [] →
      ∃ t, exec (.ldc c s g d p am n .ok false) st = .next t ∧ OnlyCell (rinc st (celBtaskA k) 8 8) t k ∧
        (cellAt t k).npc = some x.pc ∧ (cellAt t k).d = x.d ∧ (cellAt t k).flight = x.flight.filter (fun l => l.issued != x.clk))

/-- Pointer and special-register operations (R58, R59, R84, R88, R89, R100): SETP, PADD, PMOD, MOVS both ways, LDPT from the pointer's
context word, STPT to it and to nothing else. -/
def Obligations.CellPointersFly : Prop :=
  ∀ (st : State) (c : Fin 16) (s : Fin 68) (g : Nat), st.open_ (slotKey c s) g →
    let k := slotKey c s
    let x := cellNow st k g
    let blk := !x.sample
    let fits := fun (op : CellOp) => opFits x op = true
    let z20 := fun (v : BitVec 20) => (v.zeroExtend 144 : Acc)
    let ptr := fun (p : Fin 16) (d : BitVec 20) => ptrUpdate (mget 0 x.z p.val) (mget 0 x.p p.val) d
    (∀ cls n imm, fits (.setp cls.val n.val imm) → ∃ t, exec (.setp c s g cls n imm) st = .next t ∧
      Flies st t k g [(2, if cls.val = 0 then .p n.val else if cls.val = 1 then .i n.val else .z n.val, z20 imm)]) ∧
    (∀ p imm, fits (.padd p.val imm) → ∃ t, exec (.padd c s g p imm) st = .next t ∧
      Flies st t k g [(1, .p p.val, z20 (ptr p (imm.signExtend 20)))]) ∧
    (∀ p am, fits (.pmod p.val am.val) → ∃ t, exec (.pmod c s g p am) st = .next t ∧
      Flies st t k g [(1, .p p.val, z20 (ptr p (if am.val = 1 then mget 0 x.i p.val else if am.val = 3 then 1 else -1)))]) ∧
    (∀ cls idx n, fits (.movs true cls.val idx.val n.val) → ∃ t, exec (.movs c s g true cls idx n) st = .next t ∧
      Flies st t k g [(2, match cls.val with
        | 0 => .p idx.val
        | 1 => .i idx.val
        | 2 => .z idx.val
        | 3 => .lp idx.val
        | 4 => .bx
        | _ => .st blk 0xF7, z72 (mget 0 x.d n.val))]) ∧
    (∀ cls idx n, fits (.movs false cls.val idx.val n.val) → ∃ t, exec (.movs c s g false cls idx n) st = .next t ∧
      Flies st t k g [(1, .d n.val true true, z72 (match cls.val with
        | 0 => (mget 0 x.p idx.val).zeroExtend 72
        | 1 => (mget 0 x.i idx.val).signExtend 72
        | 2 => (mget 0 x.z idx.val).zeroExtend 72
        | 3 => (mget 0 x.lp idx.val).zeroExtend 72
        | 4 => x.bx.zeroExtend 72
        | _ => (x.st.extractLsb' 8 8 ++ stOf x blk).zeroExtend 72))]) ∧
    (∀ n, fits (.ldpt n.val) → x.stale = [] → ∃ t, exec (.ldpt c s g n .ok) st = .next t ∧
      let w := cellWord st (if x.ownState then k else x.lender.getD k) (0x2FF0 + n.val)
      Flies st t k g [(3, .p n.val, z72 w), (3, .i n.val, z72 (w >>> 20)), (3, .z n.val, z72 (w >>> 40))]) ∧
    (∀ n, fits (.stpt n.val) → ∃ t, exec (.stpt c s g n) st = .next t ∧
      let m := if x.ownState then k else x.lender.getD k
      let w : Word := 0#26 ++ mget 0 x.z n.val ++ mget 0 x.i n.val ++ mget 0 x.p n.val
      { t with cells := st.cells, mem := { t.mem with cell := st.mem.cell } } = st ∧ (∀ j, j ≠ k → cellAt t j = cellAt st j) ∧
      (cellAt t k).flight = x.flight ∧ (cellAt t k).d = x.d ∧
      ∀ y, mget 0 t.mem.cell y = if y = m * 0x4000 + 0x2FF0 + n.val ∨ y = k * 0x4000 + 0x2FF0 + n.val then w else mget 0 st.mem.cell y)

/-- Status, block-exponent and loop operations (R95, R96, R100): STSET and STCLR write their mask one cycle on, BXCLR restores 127, REP
loads LPn and starts a loop over the words that follow. An empty field or word issues without effect (R79); single-bit errors of the
program word count in CEL_ERR.CORR (R73).
An operation that is not legal with those its instruction has issued before it leaves the whole instruction without effect: what that
instruction has put in flight is dropped and what it stored is undone, here without a store before it (R99, R104, R106). -/
def Obligations.CellStatusLoopsAndNop : Prop :=
  (∀ (st : State) (c : Fin 16) (s : Fin 68) (g : Nat), st.open_ (slotKey c s) g →
    let k := slotKey c s
    let x := cellNow st k g
    let blk := !x.sample
    let fits := fun (op : CellOp) => opFits x op = true
    (∀ m, fits (.stset m) → ∃ t, exec (.stset c s g m) st = .next t ∧ Flies st t k g [(1, .st blk m, 0xFF)]) ∧
    (∀ m, fits (.stclr m) → ∃ t, exec (.stclr c s g m) st = .next t ∧ Flies st t k g [(1, .st blk m, 0)]) ∧
    (fits .bxclr → ∃ t, exec (.bxclr c s g) st = .next t ∧ Flies st t k g [(1, .bx, 0x7F)]) ∧
    (∀ lp len count, fits (.rep lp.val len.val count) → ∃ t, exec (.rep c s g lp len count) st = .next t ∧
      OnlyCell st t k ∧ (cellAt t k).flight = flown x [(1, .lp lp.val, count.zeroExtend 144)] ∧ (cellAt t k).d = x.d ∧
        activeLoops (cellAt t k) = ⟨lp.val, x.pc + 1, x.pc + 1 + len.val⟩ :: activeLoops x) ∧
    (∃ t, exec (.cellNop c s g .ok) st = .next t ∧ Flies st t k g []) ∧
    (∃ t, exec (.cellNop c s g .single) st = .next t ∧ Flies (rinc st (celErrA k) 0 16) t k g [])) ∧
  (∀ (st : State) (c : Fin 16) (s : Fin 68) (g : Nat), st.open_ (slotKey c s) g →
    let k := slotKey c s
    let x := cellNow st k g
    let drops := fun (i : Instr) (op : CellOp) => opFits x op = false → x.stale = [] → st.mem.stale = [] → ∃ t, exec i st = .next t ∧
      OnlyCell st t k ∧ (cellAt t k).void = true ∧ (cellAt t k).d = x.d ∧ (cellAt t k).flight = x.flight.filter (fun l => l.issued != x.clk)
    (∀ d n, drops (.mov c s g d n) (.mov d.val n.val)) ∧
    (∀ mode an xr ysrc yop, drops (.mac c s g mode an xr ysrc yop .ok false) (.mac 2 mode.val an.val xr.val ysrc yop.val)) ∧
    (∀ d p am, drops (.lds c s g d p am .ok) (.load 0 0 d.val p.val am.val)) ∧
    (∀ d sh fn, drops (.shf c s g d sh fn) (.shf d.val sh fn.val)) ∧
    (∀ wr cls idx n, drops (.movs c s g wr cls idx n) (.movs wr cls.val idx.val n.val)) ∧
    (∀ cls n imm, drops (.setp c s g cls n imm) (.setp cls.val n.val imm)) ∧
    (∀ p am, drops (.pmod c s g p am) (.pmod p.val am.val)) ∧
    (∀ m, drops (.stset c s g m) (.stset m)) ∧ (∀ m, drops (.stclr c s g m) (.stclr m)) ∧
    (∀ lp len count, drops (.rep c s g lp len count) (.rep lp.val len.val count)) ∧
    (∀ d lane, drops (.xrd c s g d lane) (.xrd d.val lane.val)) ∧ (∀ a lane, drops (.xra c s g a lane) (.xra a.val lane.val)) ∧
    drops (.cellEnd c s g) .end_ ∧ drops (.bwait c s g) .bwait ∧ drops (.yend c s g) .yend ∧
    (∀ off, drops (.br c s g off) (.br off)) ∧ (∀ tgt, drops (.jmp c s g tgt) (.jmp tgt)) ∧ (∀ p, drops (.jmpp c s g p) (.jmpp p.val)))

/-- A result lands exactly its latency in issue cycles after its issue, and not before (R75, R77): for a cell with no other result in
flight, the register shows the value from then on and its old content until then.
Two results that reach the same register in the same cycle: the later-issued is kept (R76). -/
def Obligations.ResultsLand : Prop :=
  (∀ (x : Cell) (lat n : Nat) (v : Acc), x.flight = [] → 1 ≤ lat →
    (tickCell lat (fly x lat (.d n true true) v)).d = mset 0 x.d n (v.extractLsb' 0 72) ∧
    (∀ j, j < lat → (tickCell j (fly x lat (.d n true true) v)).d = x.d) ∧
    (tickCell lat (fly x lat (.p n) v)).p = mset 0 x.p n (v.extractLsb' 0 20) ∧
    (∀ j, j < lat → (tickCell j (fly x lat (.p n) v)).p = x.p)) ∧
  (∀ (x : Cell) (lat n : Nat) (u v : Acc), x.flight = [] → 1 ≤ lat →
    mget 0 (tickCell lat (fly (tickOne (fly x (lat + 1) (.d n true true) u)) lat (.d n true true) v)).d n = v.extractLsb' 0 72)

/-- XRD and XRA of sample code deliver the word a lane of the cell's read set shows, the other kind of lane and a lane outside the set
read 0 (R91, R100, R125). -/
def Obligations.CellLaneReadsFly : Prop :=
  ∀ (st : State) (c : Fin 16) (s : Fin 68) (g : Nat) (lane : Fin 256), st.open_ (slotKey c s) g →
    let k := slotKey c s
    let x := cellNow st k g
    let i := logicalOf st k % 64
    let kind := ldKind (laneDesc st c.val lane.val)
    let word := laneWord (laneAt st c.val lane.val) i x.cyc
    let inSet := (mget [] (liveTable st c.val).reads i).contains lane.val
    (∀ d : Fin 32, opFits x (.xrd d.val lane.val) = true → ∃ t, exec (.xrd c s g d lane) st = .next t ∧
      Flies st t k g [(1, .d d.val true true, if inSet ∧ kind ≠ 5 then word else 0)]) ∧
    (∀ a : Fin 4, opFits x (.xra a.val lane.val) = true → ∃ t, exec (.xra c s g a lane) st = .next t ∧
      let v := if inSet ∧ kind = 5 then word else 0
      Flies st t k g [(2, .acc a.val true true true, v), (2, .acc a.val false true true, v)])

/-- XRED by the driver of a reduction-launch lane that reaches its stop before the add cycle puts the accumulator into the stop's
contribution register for the lane's next chain; by any other cell it is dropped, sets XCH_ERR.UNSCH and counts (R126, R133). Outside a
crossfade, with good parity. -/
def Obligations.CellContributesToChain : Prop :=
  ∀ (st : State) (c : Fin 16) (s : Fin 68) (g : Nat) (a : Fin 4) (lane : Fin 256), st.issues (slotKey c s) g (.xred a.val lane.val) →
    let k := slotKey c s
    let x := cellNow st k g
    let i := logicalOf st k % 64
    let d := laneDesc st c.val lane.val
    let l := laneAt st c.val lane.val
    let ch := mget 0 (liveTable st c.val).chain (ldFirst d + l.sent) % 4096
    let cd := chainDesc st ch
    let key := ch * 16 + c.val
    xfRuns st k = false →
    (∀ arm h, ldKind d = 4 → ldDrv d = i → l.sent < ldCnt d → chainPlace cd c.val = some (arm, h) →
      domOf st (chHome cd) = domOf st c.val → x.cyc + 6 ≤ chHadd cd - 4 * h → mget false st.ex.added key = false →
      ∃ t, exec (.xred c s g a lane false) st = .next t ∧
        Flies { st with ex := { st.ex with lanes := mset {} st.ex.lanes (c.val * 256 + lane.val) { l with sent := l.sent + 1 },
                                           contrib := mset 0 st.ex.contrib key (mget 0 x.a a.val),
                                           arrived := mset false st.ex.arrived key true } } t k g []) ∧
    (¬ (ldKind d = 4 ∧ ldDrv d = i) → ∃ u t, exec (.xred c s g a lane false) st = .next t ∧ Flies u t k g [] ∧
      (∃ v, Settles (rset st (xchErrA c.val) (rget st (xchErrA c.val) ||| 4)) v ∧ u = rinc v (xchLateA c.val) 16 16))

/-- A store to a D register runs the store path and writes the register, or the half its format names, three issue cycles on, with
ST.SAT where it clamped and BX where it tracks (R63, R90–R93, R100). -/
def Obligations.CellStoresToRegister : Prop :=
  ∀ (st : State) (c : Fin 16) (s : Fin 68) (g : Nat) (fmt : Fin 4) (src : Fin 64) (dop : BitVec 9) (ext : BitVec 20),
    let k := slotKey c s
    let x := cellNow st k g
    let e := if nbit dop.toNat 0 then some ext else none
    st.issues k g (.store 3 fmt.val src.val dop e) →
    ∃ t vs f, exec (.storePathMove c s g 3 fmt src dop (some ext) 0 .ok [] [] false) st = .next t ∧
      storeSource x fmt.val src.val = some (vs, f) ∧
      let r := storePath vs f fmt.val (if dop.getLsbD 0 then sext 7 (nbits ext.toNat 13 7) else 0) (rndOf x (!x.sample)) none
      Flies st t k g (storeResults (!x.sample) r.sat (dop.getLsbD 3) r.count none
        ++ [(3, .d (nbits dop.toNat 4 5) (fmt.val ≠ 2) (fmt.val ≠ 1), z72 r.w)])

/-- A store of a whole word to state memory writes the addressed word; later loads of the cell see it from its completion on; nothing
else of any memory changes (R63, R83, R90, R100). -/
def Obligations.CellStoresToState : Prop :=
  ∀ (st : State) (c : Fin 16) (s : Fin 68) (g : Nat) (fmt : Fin 4) (src : Fin 64) (dop : BitVec 9) (vs : List Int) (f : Nat)
    (a : BitVec 20) (np : Option (BitVec 20)), st.issues (slotKey c s) g (.store 0 fmt.val src.val dop none) →
    let k := slotKey c s
    let x := cellNow st k g
    let p := nbits dop.toNat 5 4
    dop.getLsbD 0 = false → storeSource x fmt.val src.val = some (vs, f) →
    amAddr (nbits dop.toNat 2 3) (mget 0 x.z p) (mget 0 x.p p) (mget 0 x.i p) = some (a, np) →
    let r := storePath vs f fmt.val 0 (rndOf x (!x.sample)) none
    let m := if x.ownState then k else x.lender.getD k
    let old := cellWord st m (0x2000 + a.toNat % 4096)
    let w := if fmt = 1 then Word.pack r.w.hi old.lo else if fmt = 2 then Word.pack old.hi r.w.lo else r.w
    ∃ t, exec (.storePathMove c s g 0 fmt src dop none 0 .ok [] [] false) st = .next t ∧
      { t with cells := st.cells, mem := { t.mem with cell := st.mem.cell } } = st ∧
      (∀ j, j ≠ k → cellAt t j = cellAt st j) ∧
      (cellAt t k).flight = flown x (storeResults (!x.sample) r.sat (dop.getLsbD 1) r.count (np.map (fun v => (p, v)))) ∧
      (cellAt t k).d = x.d ∧
      (∀ n, mget 0 t.mem.cell n = if n = m * 0x4000 + 0x2000 + a.toNat % 4096 ∨ n = k * 0x4000 + 0x2000 + a.toNat % 4096
        then w else mget 0 st.mem.cell n)

/-- A store to a cistern whose owner admits cells writes the addressed word, or the half its format names, and no other; where the owner
does not admit cells, nothing is stored and CIS_ERR.FOWN is set (R71, R90, R244). It takes the first free cycle of its bank, a half-word
store two (R249); the cycles lost freeze the cell (R38). Of a sample program, outside a crossfade. -/
def Obligations.CellStoresToCistern : Prop :=
  ∀ (st : State) (c : Fin 16) (s : Fin 68) (g n : Nat) (fmt : Fin 4) (src : Fin 64) (dop : BitVec 9) (vs : List Int) (f : Nat)
    (a : BitVec 20) (np : Option (BitVec 20)), st.issues (slotKey c s) g (.store 1 fmt.val src.val dop none) →
    let k := slotKey c s
    let x := cellNow st k g
    let p := nbits dop.toNat 5 4
    let j := 8 * c.val + nbits a.toNat 16 3
    let addr := j * 65536 + a.toNat % 65536
    let two := fmt.val == 1 || fmt.val == 2
    let y := grantCycle st j two (x.cyc + 1 + n)
    dop.getLsbD 0 = false → storeSource x fmt.val src.val = some (vs, f) → x.sample = true → xfRuns st k = false →
    amAddr (nbits dop.toNat 2 3) (mget 0 x.z p) (mget 0 x.p p) (mget 0 x.i p) = some (a, np) →
    let r := storePath vs f fmt.val 0 (rndOf x false) none
    (x.cyc + 1 + n ≤ y ∧ bankFree st j y = true ∧ (two = true → bankFree st j (y + 1) = true)) ∧
    ∃ t, exec (.storePathMove c s g 1 fmt src dop none n .ok [] [] false) st = .next t ∧
      (∀ j, j ≠ k → cellAt t j = cellAt st j) ∧
      (cellAt t k).flight = flown x (storeResults false r.sat (dop.getLsbD 1) r.count (np.map (fun v => (p, v)))) ∧
      (cellAt t k).frz = x.frz + (y - (x.cyc + 1)) ∧ (cellAt t k).d = x.d ∧
      mget [] t.mem.busy j = mget [] st.mem.busy j ++ (if two then [y, y + 1] else [y]) ∧
      (cisOwner st j ≤ 4 →
        { t with cells := st.cells, mem := { t.mem with cist := st.mem.cist, stale := st.mem.stale, busy := st.mem.busy } } = st ∧
        ∃ old, (st.mem.stale = [] → old = cisWord st addr) ∧
          ∀ z, cisWord t z = if z = addr then (if fmt = 1 then Word.pack r.w.hi old.lo else if fmt = 2 then Word.pack old.hi r.w.lo else r.w)
            else cisWord st z) ∧
      (4 < cisOwner st j → t.mem.cist = st.mem.cist ∧
        Settles (rset st (cisErrA j) (rget st (cisErrA j) ||| 0x10)) { t with cells := st.cells, mem := st.mem })

/-- A store to an exchange lane the cell drives puts the word on its way to the lane's arrival registers, 12 cycles on (R122, R124); a
send by a non-driver is dropped, sets XCH_ERR.UNSCH and counts (R126). Local lanes, outside a crossfade, with good parity and no meter
on the lane. -/
def Obligations.CellSendsOnLane : Prop :=
  ∀ (st : State) (c : Fin 16) (s : Fin 68) (g : Nat) (fmt : Fin 4) (src : Fin 64) (dop : BitVec 9) (vs : List Int) (f : Nat),
    st.issues (slotKey c s) g (.store 2 fmt.val src.val dop none) →
    let k := slotKey c s
    let x := cellNow st k g
    let lane := nbits dop.toNat 1 8
    let d := laneDesc st c.val lane
    let l := laneAt st c.val lane
    dop.getLsbD 0 = false → storeSource x fmt.val src.val = some (vs, f) →
    xfRuns st k = false → st.mtr.mtr = [] →
    let r := storePath vs f fmt.val 0 (rndOf x false) none
    let rs := storeResults false r.sat false r.count none
    let sent : Lane := { l with flight := l.flight ++ [⟨x.cyc + 12, r.w.zeroExtend 144, []⟩] }
    ∃ t, exec (.storePathMove c s g 2 fmt src dop none 0 .ok [] [] false) st = .next t ∧
      (ldKind d = 1 → ldDrv d = logicalOf st k % 64 →
        Flies { st with ex := { st.ex with lanes := mset {} st.ex.lanes (c.val * 256 + lane) sent } } t k g rs) ∧
      (ldDrv d ≠ logicalOf st k % 64 → ∃ u v, Flies u t k g rs ∧
        Settles (rset st (xchErrA c.val) (rget st (xchErrA c.val) ||| 4)) v ∧ u = rinc v (xchLateA c.val) 16 16)

/-- Branches and jumps of block code: a taken one issues nothing for two cycles, then its target, and ends the loops whose body lacks the
target; one not taken does nothing (R98).
END of sample code ends the sample slot at φ + L + S (R105). Outside a crossfade. -/
def Obligations.CellControlFlow : Prop :=
  (∀ (st : State) (c : Fin 16) (s : Fin 68) (g : Nat) (j : Fin 4) (off : BitVec 9) (tgt : BitVec 11) (p : Fin 16),
    st.open_ (slotKey c s) g →
    let k := slotKey c s
    let x := cellNow st k g
    let cf := x.bst.getLsbD (4 + j.val)
    let goes := fun (i : Instr) (op : CellOp) (taken : Bool) (dst : Nat) => opFits x op = true → ∃ t, exec i st = .next t ∧
      if taken then OnlyCell st t k ∧ (cellAt t k).d = x.d ∧ (cellAt t k).flight = x.flight ∧
        (∀ n, n = 1 ∨ n = 2 → canIssue (onCell t k (tickCell n)) k n = false) ∧
        (tickCell 3 (cellAt t k)).pc = dst ∧ (tickCell 3 (cellAt t k)).dead = 0 ∧
        activeLoops (cellAt t k) = (activeLoops x).filter (fun l => decide (l.first ≤ dst) && decide (dst ≤ l.last))
      else Flies st t k g []
    let rel := ((x.pc : Int) + 2048 + off.toInt).toNat % 2048
    goes (.br c s g off) (.br off) true rel ∧ goes (.brt c s g j off) (.brt j.val off) cf rel ∧
      goes (.brf c s g j off) (.brf j.val off) (!cf) rel ∧ goes (.jmp c s g tgt) (.jmp tgt) true tgt.toNat ∧
      goes (.jmpp c s g p) (.jmpp p.val) true ((mget 0 x.p p.val).toNat % 2048)) ∧
  (∀ (st : State) (c : Fin 16) (s : Fin 68) (g : Nat), st.issues (slotKey c s) g .end_ →
    let k := slotKey c s
    let x := cellNow st k g
    let pg := mget {} st.mem.page (x.lender.getD k * 2 + ppage st k)
    xfRuns st k = false →
    ∃ t, exec (.cellEnd c s g) st = .next t ∧ OnlyCell st t k ∧ (cellAt t k).flight = x.flight ∧ (cellAt t k).d = x.d ∧
      (cellAt t k).sample = false ∧ (cellAt t k).done = true ∧ (cellAt t k).slotEnd = pg.phase + pg.len + x.stalls)

/-- BWAIT stops the task with its block PC at the next instruction and BSTATE waiting (R118); YEND of the save half makes the task
yielded (R112), YEND of the resume half makes it running and goes on at the block PC, with the block flags restored (R116). -/
def Obligations.CellTaskWaitsAndYields : Prop :=
  ∀ (st : State) (c : Fin 16) (s : Fin 68) (g : Nat), st.open_ (slotKey c s) g →
    let k := slotKey c s
    let x := cellNow st k g
    let task := fun (v : Nat) => { st with ctl := (rput st (celBtaskA k) 0 3 v).ctl }
    (opFits x .bwait = true → ∃ t, exec (.bwait c s g) st = .next t ∧
      if x.half = 1 then Flies st t k g [] else
        OnlyCell (task 2) t k ∧ (cellAt t k).bpc = (nextPc x).1 ∧ (cellAt t k).half = 0 ∧ (cellAt t k).flight = x.flight) ∧
    (opFits x .yend = true → ∃ t, exec (.yend c s g) st = .next t ∧
      match x.half with
      | 1 => OnlyCell (task 3) t k ∧ (cellAt t k).half = 0 ∧ (cellAt t k).flight = x.flight
      | 2 => OnlyCell (task 1) t k ∧ (cellAt t k).half = 0 ∧ (tickCell 3 (cellAt t k)).pc = x.bpc ∧
          (∀ n, n = 1 ∨ n = 2 → canIssue (onCell t k (tickCell n)) k n = false) ∧
          (cellAt t k).flight = flown x [(3, .st true 0xF7, x.savedSt.zeroExtend 144)]
      | _ => Flies st t k g [])

/-- At cycle φ a running slot's sample program begins: block results have landed, ST.BLK is 0, the slot is open at the page's entry and
its first word issues (R37, R105, R112).
In a crossfade tick the new program begins at φX, after the old one's slot, on the active page (R238). -/
def Obligations.SampleProgramsBegin : Prop :=
  (∀ (st : State) (c : Fin 16) (s : Fin 68) (n : Nat) (f : StartFacts),
    let k := slotKey c s
    let x := cellAt st k
    let pg := mget {} st.mem.page (x.lender.getD k * 2 + ppage st k)
    slotState st k = 1 → domOf st c.val ≠ 0 → pg.present = true → x.sample = false → x.done = false → x.quench = 0 →
    xfRuns st k = false →
    ∃ y, exec (.sampleProgramStart c s n f) st = .next (issueWord (setCell st k y) k n f.ecc f.ops) ∧
      y.sample = true ∧ y.pc = pg.entry ∧ y.npc = none ∧ y.dead = 0 ∧ y.cyc = pg.phase ∧ y.loops = [] ∧ y.stalls = 0 ∧
      y.flight = [] ∧ y.st.getLsbD 8 = false ∧ y.d = (landAll x).d) ∧
  (∀ (st : State) (c : Fin 16) (s : Fin 68) (n : Nat) (f : StartFacts),
    let k := slotKey c s
    let x := cellAt st k
    let m := x.lender.getD k
    let old := mget {} st.mem.page (m * 2 + (1 - ppage st k))
    let new := mget {} st.mem.page (m * 2 + ppage st k)
    slotState st k = 1 → domOf st c.val ≠ 0 → new.present = true → x.sample = false → x.done = true → x.quench = 0 →
    xfOld st k = true →
    ∃ y, exec (.crossfadeProgramStart c s n f) st =
        .next (issueWord (setCell (onCmt st k (fun z => { z with xnew := true })) k y) k n f.ecc f.ops) ∧
      y.sample = true ∧ y.done = false ∧ y.pc = new.entry ∧ y.cyc = old.phase + old.len + old.w + 4 ∧ y.loops = [] ∧ y.flight = [] ∧
      y.st.getLsbD 8 = false)

/-- At φ − 24 a running or waiting task goes to its save half: nothing issues till φ − 22, then YIELD, with the block flags of φ − 25
frozen, the block PC recorded and ST.BLK = 1, and every result lands by φ − 20 (R112, R113); a resuming task is yielded (R117); another
task is left alone.
A save half without its YEND at φ − 4 stops: the task is faulted, CEL_ERR.YLD is set and the fault is reported (R115). -/
def Obligations.YieldPoints : Prop :=
  (∀ (st : State) (c : Fin 16) (s : Fin 68),
    let k := slotKey c s
    let x := cellAt st k
    let pg := mget {} st.mem.page (x.lender.getD k * 2 + ppage st k)
    let y := passTo (pg.phase - 25) x
    xfRuns st k = false →
    ∃ t, exec (.yieldRedirection c s false) st = .next t ∧
      (bstate st k = 1 ∨ bstate st k = 2 → OnlyCell st t k ∧ (cellAt t k).half = 1 ∧ (cellAt t k).npc = some pg.vYield ∧
        (cellAt t k).dead = pg.phase + b2n y.atZero - 22 - y.cyc ∧ (cellAt t k).savedSt = y.bst ∧ (cellAt t k).st.getLsbD 8 = true ∧
        (cellAt t k).bpc = (if bstate st k = 1 then (nextPc y).1 else x.bpc) ∧
        ∀ l ∈ (cellAt t k).flight, l.due ≤ y.clk + (pg.phase - 20 - y.cyc)) ∧
      (bstate st k = 4 → OnlyCell (rput st (celBtaskA k) 0 3 3) t k ∧ (cellAt t k).half = 0 ∧ (cellAt t k).flight = []) ∧
      (bstate st k = 0 ∨ bstate st k = 3 ∨ bstate st k = 5 → t = st)) ∧
  (∀ (st : State) (c : Fin 16) (s : Fin 68), (cellAt st (slotKey c s)).half = 1 →
    let k := slotKey c s
    let info : FltInfo := { cls := 3, sev := 3, unit := 0x1000 + logicalOf st k, oslot := s.val, btc := tickEndBtc st (domOf st c.val),
                            cyc := some (baseCycle st (domOf st c.val) ((pageOf st k).phase - 3)) }
    ∃ t u, exec (.yieldOverrun c s) st = .next t ∧ Detects u t { info with detail := rfld u (celErrA k) 16 6 } ∧
      OnlyCell (rsetBit (rput st (celBtaskA k) 0 3 5) (celErrA k) 19) u k ∧ (cellAt u k).half = 0 ∧
      (cellAt u k).flight = (cellAt st k).flight)

/-- After its slot a yielded task begins its resume half: BSTATE resuming, issue at RESUME with ST.BLK = 1 (R116). -/
def Obligations.BlockTaskResumes : Prop :=
  ∀ (st : State) (c : Fin 16) (s : Fin 68),
    let k := slotKey c s
    let x := cellAt st k
    let pg := mget {} st.mem.page (x.lender.getD k * 2 + ppage st k)
    bstate st k = 3 → x.sample = false → xfRuns st k = false → slotState st k = 1 → x.quench = 0 →
    (x.done = true → x.slotEnd + 64 < cellC st k) → (x.done = false → x.cyc + 24 < pg.phase ∨ pg.present = false) →
    ∃ t, exec (.blockResume c s) st = .next t ∧ OnlyCell (rput st (celBtaskA k) 0 3 4) t k ∧ (cellAt t k).half = 2 ∧
      (cellAt t k).npc = some pg.vResume ∧ (cellAt t k).dead = 0 ∧ (cellAt t k).st.getLsbD 8 = true ∧ (cellAt t k).flight = [] ∧
      (cellAt t k).d = (landAll x).d

/-- An uncorrectable word of a cell's own memories sets CEL_ERR.DED, latches the memory of the first finding, quenches the cell from the
next cycle and is reported as a datapath fault; the load itself completes (R73, R427, R430). -/
def Obligations.CellUncorrectableQuenches : Prop :=
  ∀ (st : State) (c : Fin 16) (s : Fin 68) (g : Nat) (d : Fin 32) (p : Fin 16),
    st.issues (slotKey c s) g (.load 0 0 d.val p.val 0) →
    let k := slotKey c s
    let x := cellNow st k g
    x.lender = none → rbit st (celErrA k) 16 = false → x.quench = 0 → x.done = false → x.cyc + 64 < cellC st k →
    let info : FltInfo := { cls := 1, sev := 1, unit := 0x1000 + logicalOf st k, hold := true, zst := true, oslot := s.val,
                            btc := tickEndBtc st (domOf st c.val), cyc := some (baseCycle st (domOf st c.val) x.cyc) }
    ∃ t u, exec (.lds c s g d p 0 .double) st = .next t ∧
      OnlyCell (rsetBit (rput st (celErrA k) 20 2 2) (celErrA k) 16) u k ∧ (cellAt u k).quench = 1 ∧ (cellAt u k).qAt = x.cyc + 1 ∧
      (cellAt u k).held = true ∧ (cellAt u k).zst = true ∧
      (∃ v, (cellAt u k).flight = flown x [(3, .d d.val true true, v)]) ∧
      Detects u t { info with detail := rfld u (celErrA k) 16 6 }

/-- A minor boundary at which no cluster's tick ends only moves the position in the base tick (R30, R31, R34, R43); in power-on reset no
boundary does anything (R405).
A base boundary counts the BTC on and starts the tick at its position 0 (R33, R34), and a powered and cleared cluster whose domain is
planned starts to tick in it, with a boundary record of type 9 (R32, R53, R467). With no cluster ticking yet, no port bound, no group
latched and the clock at rest. -/
def Obligations.TickBoundaries : Prop :=
  (∀ (st : State) (q : Fin 4),
    (st.boot.held = false → q ≠ 0 → st.quarter + 1 = q.val → (∀ c, c < 16 → domOf st c < if q = 2 then 2 else 4) → st.port.chg = [] →
      fltOpen st 9 0x6000 = false → fltOpen st 9 0x6001 = false →
      exec (.tickBoundary q {}) st = .next { st with quarter := q.val }) ∧
    (st.boot.held = true → ∀ f, exec (.tickBoundary q f) st = .next st)) ∧
  (∀ (st : State), st.boot.held = false → st.quarter = 3 → (∀ c, c < 16 → domOf st c = 0) → latchedGroups st = [] →
    st.cmt.start = none → st.cmt.clearAt = none → st.ex.live = [] → st.port.live = [] → st.port.chg = [] → st.net.flow = [] → st.net.alg = [] →
    snapshotDue st (st.btc + 1) = false → st.clk.recs = [] → st.clk.hop = none → st.clk.gate = none → st.clk.trk = none →
    st.clk.moving = false → rbit st 0x3A0114 29 = false → st.pwr.down = [] →
    fltOpen st 9 0x6000 = false → fltOpen st 9 0x6001 = false →
    ∃ t, exec (.tickBoundary 0 {}) st = .next t ∧ t.btc = st.btc + 1 ∧ t.quarter = 0 ∧ t.cells = st.cells ∧ t.mem = st.mem ∧
      t.cmt = st.cmt ∧ t.port = st.port ∧
      (st.bnd = [] → t.bnd = (List.range 16).filterMap (fun c => let v := mget 0 st.pwr.dom c
        if mget 0 st.pwr.step c = 3 ∧ rfld st 0x20000C (2 * c) 2 ≠ v then some ⟨st.btc + 1, 9, c * 256 + v * 4096⟩ else none)) ∧
      ∀ c, c < 16 → rfld t 0x20000C (2 * c) 2 =
        if mget 0 st.pwr.step c = 3 then mget 0 st.pwr.dom c % 4 else rfld st 0x20000C (2 * c) 2)

/-- ARM of the selected group (R229, R231): accepted, it validates with its target resolved and ARMR 0; refused, only ARMR says why: 1 not
open or a CLEAR outstanding, 5 a reserved TRIG, 4 a member busy, 3 no PTP mapping, 2 too late. -/
def Obligations.GroupArmAnswers : Prop :=
  ∀ (st : State),
    let g := rfld st 0x200100 0 8
    let x := groupOf st g
    let free := x.state = 0 ∧ st.cmt.clearAt = none ∧ st.host.ops.all (fun o => o.opc != 0x11) = true
    let late := fun (b : Nat) => b ≤ st.btc.toNat + 2
    let at_ := x.ta.toNat + x.tb.toNat * 2 ^ 32
    let refused := fun (r : Nat) => exec .cmtGCtlArm st = .next (setGroup st g { x with armr := r })
    let armed := fun (b : Nat) => exec .cmtGCtlArm st = .next (setGroup { st with cmt := { st.cmt with seq := st.cmt.seq + 1 } } g
      { x with armr := 0, state := 1, rbtc := b, moved := false, refused := 0, assumed := [], seq := st.cmt.seq + 1 })
    (¬ free → refused 1) ∧
    (free → x.trig = 3 → refused 5) ∧
    (free → x.trig < 3 → groupBusy st g = true → refused 4) ∧
    (free → groupBusy st g = false →
      (x.trig = 0 → armed 0) ∧
      (x.trig = 1 → if late at_ then refused 2 else armed at_) ∧
      (x.trig = 2 → if mapValid st = false then refused 3
        else if late (ptpTarget st (groupNs x)) then refused 2 else armed (ptpTarget st (groupNs x))))

/-- What follows arming (R231–R234): validation arms a group whose structure has no finding and rejects another with the finding's code;
the deadline makes an armed group with every member ready due and misses one that still validates; CANCEL ends a group that is neither
open nor due. A group that ends is open again, with LAST and one commit record of its result (R242). No COMMIT command waits. -/
def Obligations.GroupValidatesAndEnds : Prop :=
  ∀ (st : State) (n : Fin 256), st.host.ops = [] →
    let g := n.val
    let x := groupOf st g
    let ends := fun (i : Instr) (result reason code : Nat) => ∃ t, exec i st = .next t ∧ (groupOf t g).state = 0 ∧
      (groupOf t g).last = result ∧ t.cells = st.cells ∧ t.mem = st.mem ∧ t.btc = st.btc ∧
      (st.cmt.recs.length < 32 → ∃ r, t.cmt.recs = st.cmt.recs ++ [r] ∧ r.w0.toNat / 2 ^ 28 = result ∧
        r.w0.toNat / 2 ^ 24 % 16 = reason ∧ r.w0.toNat % 256 = g ∧ r.w2.toNat / 65536 = code)
    let hs := groupsBefore st g
    let v := verdict (allFindings st (wouldBe st (hs ++ [g])) (crossArmed st (wouldBe st (hs ++ [g])))
      (idleMarked st (wouldBe st (hs ++ [g])) ((hs ++ [g]).flatMap (claims st))) [])
    (x.state ≠ 1 → exec (.commitValidationDone n) st = .next st) ∧
    (x.state = 1 → x.trig ≠ 0 → v = none → exec (.commitValidationDone n) st = .next (setGroup st g { x with state := 2, assumed := hs })) ∧
    (∀ f, x.state = 1 → v = some f → ends (.commitValidationDone n) 3 0 (f.code % 65536)) ∧
    (x.rbtc = 0 ∨ st.btc.toNat + 2 < x.rbtc → exec (.commitDeadline n) st = .next st) ∧
    (x.state = 2 → 0 < x.rbtc → x.rbtc ≤ st.btc.toNat + 2 → (claims st g).all (memberReady st) = true →
      exec (.commitDeadline n) st = .next (setGroup st g { x with state := 3 })) ∧
    (x.state = 1 → 0 < x.rbtc → x.rbtc ≤ st.btc.toNat + 2 → ends (.commitDeadline n) 2 1 0) ∧
    (rfld st 0x200100 0 8 = g → x.state = 0 ∨ x.state = 3 → exec .cmtGCtlCancel st = .next (setGroup st g { x with armr := 1 })) ∧
    (rfld st 0x200100 0 8 = g → x.state = 1 ∨ x.state = 2 → ends .cmtGCtlCancel 4 0 0)

/-- CMT_MEM_CTL.ADD and REM change the standing list of an open group, with DONE and ERR in the register (R227, R241): ADD takes a valid
member that no other list holds, REM one the list holds; otherwise ERR is set and no list changes. -/
def Obligations.MemberListsChange : Prop :=
  ∀ (st : State) (kind : Fin 16) (g : Fin 256) (id : BitVec 16),
    let m := kind.val * 65536 + id.toNat
    let x := groupOf st g.val
    let other := st.cmt.groups.any (fun e => e.1 != g.val && e.2.mem.contains m)
    let answers := fun (i : Instr) (err : Bool) (mem : List Nat) => ∃ t, exec i st = .next t ∧
      { t with ctl := st.ctl, cmt := st.cmt } = st ∧ t.cmt = { st.cmt with groups := t.cmt.groups } ∧
      (∀ a, a ≠ 0x200120 → rget t a = rget st a) ∧ rbit t 0x200120 28 = err ∧
      groupOf t g.val = { x with mem := mem } ∧ ∀ h, h ≠ g.val → groupOf t h = groupOf st h
    (if x.state = 0 ∧ memberValid st m = true ∧ other = false
      then answers (.cmtMemCtlAdd kind g id) false (if x.mem.contains m then x.mem else x.mem ++ [m])
      else answers (.cmtMemCtlAdd kind g id) true x.mem) ∧
    (if x.state = 0 ∧ x.mem.contains m = true then answers (.cmtMemCtlRem kind g id) false (x.mem.filter (· != m))
      else answers (.cmtMemCtlRem kind g id) true x.mem)

/-- CMT_GLD_IDX (R235, R241): WR writes the pending glide descriptor of a cell that is not sealed, from CMT_GLD, and marks
it; RD loads CMT_GLD with the pending or the active descriptor. The active table never changes.
When a resynchronisation ends, every word of the pending coefficient page that is not marked equals the active page's, and a marked
word stands (R225). For a cell on memories of its own, outside a program resynchronisation. -/
def Obligations.GlidesAndResync : Prop :=
  (∀ (st : State) (cell : Fin 1024) (slot : Fin 64),
    let c := cmtCell st cell.val
    (memberRefused st (memCell cell.val) (fun _ => false) = none → ∃ t, exec (.cmtGldIdxWr cell slot) st = .next t ∧
      cmtCell t cell.val = { c with gPend := mset 0 c.gPend slot.val (rget st 0x200144), gMark := mset false c.gMark slot.val true } ∧
      (∀ l, l ≠ cell.val → cmtCell t l = cmtCell st l) ∧ (∀ a, a ≠ 0x200140 → rget t a = rget st a) ∧
      { t with ctl := st.ctl, cmt := { t.cmt with cells := st.cmt.cells } } = st) ∧
    (∃ t, exec (.cmtGldIdxRd cell slot false) st = .next t ∧ rget t 0x200144 = mget 0 c.gPend slot.val ∧
      (∀ a, a ≠ 0x200140 → a ≠ 0x200144 → rget t a = rget st a) ∧ { t with ctl := st.ctl } = st) ∧
    (∃ t, exec (.cmtGldIdxRd cell slot true) st = .next t ∧ rget t 0x200144 = mget 0 c.gAct slot.val ∧
      (∀ a, a ≠ 0x200140 → a ≠ 0x200144 → a ≠ 0x200148 → rget t a = rget st a) ∧ { t with ctl := st.ctl } = st)) ∧
  (∀ (st : State) (cell : Fin 1024) (a : Nat), st.memWf →
    let l := cell.val
    let k := mapSlot st l
    let pen := 0x1000 + 0x800 * (1 - kpage st k)
    (cmtCell st l).rsK = true → (cmtCell st l).rsP = false → (cellAt st k).lender = none → kpage st k ≤ 1 → a < 0x800 →
    ∃ t, exec (.resyncDone cell) st = .next t ∧ (cmtCell t l).rsK = false ∧
      cellWord t k (pen + a) = (if mget false st.mem.mark (k * 0x4000 + pen + a) then cellWord st k (pen + a)
        else cellWord st k (0x1000 + 0x800 * kpage st k + a)) ∧
      (∀ off, off < pen ∨ pen + 0x800 ≤ off → ∀ j, off < 0x4000 → cellWord t j off = cellWord st j off))

/-- The record rings give up their oldest record (R53, R242); CMT_SNAP captures BTC, cycle and PTP time together, ns to 2 ns (R35); a
cluster's stall figure is cleared (R40). -/
def Obligations.RecordsPopAndSnapshot : Prop :=
  ∀ (st : State) (cyc : Fin 25600) (sec : BitVec 48) (ns : Fin 1000000000) (c : Fin 16),
    exec .cmtRecPop st = .next { st with cmt := { st.cmt with recs := st.cmt.recs.tail } } ∧
    exec .cmtBndPop st = .next { st with bnd := st.bnd.tail } ∧
    (∃ t, exec (.cmtSnap cyc sec ns) st = .next t ∧ rget64 t 0x200014 = st.btc ∧ (rget t 0x20001C).toNat = cyc.val ∧
      rfld t 0x200020 0 30 = ns.val / 2 * 2 ∧ (rget64 t 0x200024).toNat = sec.toNat ∧ rbit t 0x200010 1 = true ∧
      (∀ a, a < 0x200010 ∨ 0x20002C ≤ a → rget t a = rget st a) ∧ { t with ctl := st.ctl } = st) ∧
    exec (.cmtClStallClr c) st = .next (rset st (0x200080 + 4 * c.val) 0)

/-- A stop adds its contribution to a chain's partial, saturating, and clears its contribution register; the home adds both arms and its
own and delivers the sum 6 cycles after HADD (R132, R133). With good parity, nothing saturating, one delivery lane, no meter on it. -/
def Obligations.ChainStopsAdd : Prop :=
  ∀ (st : State) (ch : Fin 4096) (c : Fin 16) (arm h : Nat),
    let d := chainDesc st ch.val
    let key := ch.val * 16 + c.val
    let own := stopAdds st ch.val c.val
    let x := st.ex
    let up := mget 0 x.part (ch.val * 2)
    let dn := mget 0 x.part (ch.val * 2 + 1)
    let clear := fun (x : ExchSt) => { x with lastContrib := mset 0 x.lastContrib key own, contrib := mset 0 x.contrib key 0,
                                              arrived := mset false x.arrived key false, added := mset false x.added key true }
    chainPlace d c.val = some (arm, h) → domOf st (chHome d) = domOf st c.val →
    (0 < h →
      let inp : Acc := if h = (if arm = 0 then chUph d else chDnh d) then 0 else if arm = 0 then up else dn
      sfits 144 (inp.toInt + own.toInt) = true →
      exec (.chainAdd ch c false false []) st = .next { st with ex := clear { x with
        part := mset 0 x.part (ch.val * 2 + arm) (inp + own), rwords := mmod 0 x.rwords (c.val * 2 + arm) (· + 1) } }) ∧
    (∀ lane, h = 0 → sfits 144 (up.toInt + dn.toInt) = true → sfits 144 ((up + dn).toInt + own.toInt) = true →
      deliveryLanes st c.val ch.val = [lane] → st.mtr.mtr = [] →
      ∃ t, exec (.chainAdd ch c false false []) st = .next t ∧ { t with ex := x } = st ∧
        mget 0 t.ex.part (ch.val * 2) = 0 ∧ mget 0 t.ex.part (ch.val * 2 + 1) = 0 ∧ mget 0 t.ex.contrib key = 0 ∧
        mget 0 t.ex.lastContrib key = own ∧
        laneAt t c.val lane = { laneAt st c.val lane with
          flight := (laneAt st c.val lane).flight ++ [⟨chHadd d + 6, up + dn + own, []⟩] } ∧
        ∀ n, n ≠ c.val * 256 + lane → mget {} t.ex.lanes n = mget {} st.ex.lanes n)

/-- In cycle 32 of a destination tick a rate bridge puts its output word of this tick on its lane (R136); a disabled channel puts nothing
out. With good parity and no meter on the lane. -/
def Obligations.BridgeDrivesLane : Prop :=
  ∀ (st : State) (c : Fin 16) (k : Fin 32), st.mtr.mtr = [] →
    let e := bridgeEntry st c.val k.val
    let lane := fld e 16 8
    let l := laneAt st c.val lane
    let w := (bridgeAt st c.val k.val).out.getD (domPos st (domOf st c.val)) 0
    let sent : Lane := { l with flight := l.flight ++ [⟨32, w.zeroExtend 144, []⟩] }
    (bitOf e 31 = true → ldKind (laneDesc st c.val lane) = 6 →
      exec (.bridgeOutput c k []) st = .next { st with ex := { st.ex with lanes := mset {} st.ex.lanes (c.val * 256 + lane) sent } }) ∧
    (bitOf e 31 = false → exec (.bridgeOutput c k []) st = .next st)

/-- A walk slot of an enabled tap reads its line at the running delay and adds the sample times the running gain to the tap's sum lane,
saturating (R151, R155–R158): for a tap without interpolation whose delay lies in the line, outside a crossfade, no capture requested,
the Wellhead owning every word of the window, with clean check bits and no transfer-side write in its cycle. The slot holds the banks of
the window's words (R166, R249). -/
def Obligations.TapAddsToSumLane : Prop :=
  ∀ (st : State) (c : Fin 16) (e : Fin 32768),
    let tap := entOf st c.val e.val
    let r := tapAdvance (mget {} st.wel.run (c.val * 32768 + e.val)) tap
    let d := lineOf st c.val (teLine tap)
    let tick : Int := (domTick st (domOf st c.val) : Nat)
    let D : Nat := r.delay / 2 ^ 40
    let lane := c.val * 1024 + teLane tap
    let sum := (mget 0 st.wel.acc lane).toInt + (lineSample st c.val (teLine tap) d tick (tick - D)).toInt * dyToC36 r.gain
    let w := { st.wel with run := mset {} st.wel.run (c.val * 32768 + e.val) r, acc := mset 0 st.wel.acc lane (BitVec.ofInt 80 (sclamp 80 sum)) }
    welLive st c.val = true → domOf st c.val ≠ 0 → teEn tap = true → teInterp tap = 0 → r.xf = false →
    entSlot st.wel.ent c.val e.val ≤ wccOf st c.val → 1 ≤ D → D ≤ 2 ^ lnK d - 3 →
    let window := [tick - D + 1, tick - D, tick - D - 1, tick - D - 2].filter (fun i => decide (i < tick))
    let cis := fun (i : Int) => clusterCis c.val (lineWordA d i)
    (∀ i ∈ window, cisOwner st (cis i) = 1) → mget false st.wel.cap c.val = false →
    ∃ b, (∀ k, mget [] b k = mget [] st.mem.busy k ++ (if k ∈ window.map cis then [entSlot st.wel.ent c.val e.val] else [])) ∧
    let u := { st with mem := { st.mem with busy := b } }
    (sfits 80 sum = true → exec (.wellheadTap c e false .ok {}) st = .next { u with wel := w }) ∧
    (sfits 80 sum = false → ∃ v, Settles (rset u (welErrA c.val) (rget st (welErrA c.val) ||| 4)) v ∧
      exec (.wellheadTap c e false .ok {}) st = .next { v with wel := w })

/-- The Wellhead closes its sum lanes: each close register takes its lane's sum and the lane starts again from 0 (R155); a Wellhead lane
drives its next close register, clamped to S72 (R124, R155); a write slot writes the captured inlet sample into its half of the line's word
(R148, R153), and holds its bank for two cycles (R166, R249). No meters; nothing clamps; the line alone has its region. -/
def Obligations.WellheadClosesDrivesWrites : Prop :=
  ∀ (st : State) (c : Fin 16), welLive st c.val = true → domOf st c.val ≠ 0 → st.mtr.mtr = [] →
    (mwf 0 st.wel.acc = true → ∃ t, exec (.wellheadClose c) st = .next t ∧ { t with wel := st.wel } = st ∧ mget false t.wel.closed c.val = true ∧
      ∀ n, (n / 1024 = c.val → mget 0 t.wel.close n = mget 0 st.wel.acc n ∧ mget 0 t.wel.acc n = 0) ∧
        (n / 1024 ≠ c.val → mget 0 t.wel.acc n = mget 0 st.wel.acc n)) ∧
    (∀ lane : Fin 256,
      let d := laneDesc st c.val lane.val
      let n := mget 0 st.wel.drive (c.val * 256 + lane.val)
      let v := mget 0 st.wel.close (c.val * 1024 + (ldFirst d + n) % 1024)
      let l := laneAt st c.val lane.val
      let sent : Lane := { l with flight := l.flight ++ [⟨ldCyc d + n + 8, (BitVec.ofInt 72 v.toInt).zeroExtend 144, []⟩] }
      ldKind d = 7 → n < ldCnt d → sfits 72 v.toInt = true →
      exec (.wellheadLaneDrive c lane []) st = .next { st with
        wel := { st.wel with drive := mset 0 st.wel.drive (c.val * 256 + lane.val) (n + 1) },
        ex := { st.ex with lanes := mset {} st.ex.lanes (c.val * 256 + lane.val) sent } }) ∧
    (∀ line : Fin 1024,
      let d := lineOf st c.val line.val
      let a := lineWordA d ((domTick st (domOf st c.val) : Int) - 1)
      let key := c.val * 1024 + line.val
      let w := cisWord st (clusterAddr c.val a)
      let v := mget 0 st.wel.inlet key
      (st.wel.line.filterMap (fun x => if x.1 / 1024 = c.val ∧ lnEn x.2 ∧ lnWrt x.2 = false ∧ lnBase x.2 = lnBase d ∧ lnK x.2 = lnK d
        then some (x.1, x.2) else none)) = [(key, d)] →
      lnEn d = true → lnWrt d = false → cisOwner st (clusterCis c.val a) = 1 → mget false st.wel.inletWait key = true →
      let slot := writeSlot st c.val line.val
      let j := clusterCis c.val a
      ∃ t, exec (.wellheadWriteSlot c line .ok) st = .next t ∧ mget [] t.mem.busy j = mget [] st.mem.busy j ++ [slot, slot + 1] ∧
        { t with mem := { t.mem with cist := st.mem.cist, busy := st.mem.busy }, wel := { t.wel with inletWait := st.wel.inletWait } } = st ∧
        mget false t.wel.inletWait key = false ∧
        ∀ y, cisWord t y = if y = clusterAddr c.val a then (if lnHalf d then Word.pack w.hi v else Word.pack v w.lo) else cisWord st y)

/-- The Wellhead's tables are read and written through their shadows (R164, R170): WEL_ENT_WR writes D0–D4 into an entry's shadow of a
Wellhead that is not sealed, where the running load has not written it, WEL_ENT_RD loads them from it, WEL_LINE writes a line's; the live tables stand. WEL_LD_CTL.GO
starts the load engine, whose copy puts the source words GO named into the shadow, or ends it at once with STATUS 2 where the range passes the table;
WEL_RUN_IDX.CAP asks for a capture. -/
def Obligations.WellheadTablesAccessed : Prop :=
  ∀ (st : State) (c : Fin 16) (e : Fin 32768) (k : Fin 1024) (v : W32),
    let live := fun (t : State) => t.wel.ent = st.wel.ent ∧ t.wel.line = st.wel.line
    let ld := welLdA c.val
    (memberRefused st (memWel c.val) (lockEnt (c.val * 32768 + e.val)) = none →
      (∃ t, exec (.welEntWr c e) st = .next t ∧ entShadow t c.val e.val = entFromData st c.val ∧ live t ∧
        ∀ n, n ≠ e.val → n < 32768 → entShadow t c.val n = entShadow st c.val n)) ∧
    (memberRefused st (memWel c.val) (lockLine (c.val * 1024 + k.val)) = none →
      (∃ t, exec (.welLineWrite c k v) st = .next t ∧ lineShadow t c.val k.val = (v &&& 0xFFFF7FFF) ∧ live t ∧
        ∀ n, n ≠ k.val → n < 1024 → lineShadow t c.val n = lineShadow st c.val n)) ∧
    (∀ src first : Nat, memberRefused st (memWel c.val) (lockEnt (c.val * 32768 + first)) = none →
      rbit st (ld + 8) 30 = true → mget (0, 0, 0) st.wel.ld c.val = (src, first, 1) → src + 1 < 0x800000 →
        cisDown st (src / 65536) = false → cisDown st ((src + 1) / 65536) = false →
        4 ≤ cisOwner st (src / 65536) → cisOwner st (src / 65536) ≤ 6 → 4 ≤ cisOwner st ((src + 1) / 65536) →
        cisOwner st ((src + 1) / 65536) ≤ 6 →
        ∃ t, exec (.welLoadDone c none) st = .next t ∧ rbit t (ld + 8) 30 = false ∧ rfld t (ld + 8) 28 2 = 0 ∧ live t ∧
          entShadow t c.val first = ⟨cisWord st src, cisWord st (src + 1)⟩) ∧
    (∃ t, exec (.welEntRd c e) st = .next t ∧ entFromData t c.val = entShadow st c.val e.val ∧ live t) ∧
    (rbit st (ld + 8) 30 = false →
      let n := if rfld st (ld + 4) 16 16 = 0 then 32768 else rfld st (ld + 4) 16 16
      (rfld st (ld + 4) 0 15 + n ≤ 32768 → exec (.welLdGo c) st = .next (rput (rsetBit { st with wel := { st.wel with
        ld := mset (0, 0, 0) st.wel.ld c.val (rfld st ld 0 23, rfld st (ld + 4) 0 15, n) } } (ld + 8) 30) (ld + 8) 28 2 0)) ∧
      (32768 < rfld st (ld + 4) 0 15 + n → ∃ t, exec (.welLdGo c) st = .next t ∧ Settles (rput st (ld + 8) 28 2 2) t)) ∧
    (∃ t, exec (.welRunCapture c e) st = .next t ∧ mget false t.wel.cap c.val = true ∧ rfld t (welRunA c.val) 0 15 = e.val ∧
      rbit t (welRunA c.val + 16) 31 = false ∧ live t ∧ t.mem = st.mem)

/-- Commands of an agent that is not asleep and whose latencies no histogram takes, each of which ends with one completion (R287, R290,
R302): NOP and TIME answer the BTC; the keys and the session's settings are taken; a new session key puts the session's agent DOWN, with
its completions discarded (R301, R314); a key that does not unwrap ends with FAILED (R301); DBG_CHALLENGE answers 16 random bytes, which
stay for its answer (R423); FW_TRIAL and DEV_RESET make a warm reset due (R302, R419). Nothing else changes. -/
def Obligations.HostCommandsFinish : Prop :=
  ∀ (st : State) (a : Fin 8) (h : BitVec 16) (o : CmdOp), st.answers a.val →
    let is := fun (opc : Nat) => opOf st a.val h.toNat opc = some o
    let p := o.params
    let n := nsOf st o.arg
    let plain := nbit o.flags 1 = false
    let unwrapped := aesUnwrap (hkdf32 (nsOf st o.agent).key [] (asciiBytes "wrap")) (slice p 0 40)
    let imageKey := fun (k : List Byte) =>
      { st with load := { st.load with key := some k, require := st.load.require || nbit o.flags 0 } }
    let keyed := fun (k : List Byte) => ∃ t, exec (.sessionKey a h) st = .next t ∧ agSt t o.arg = 0 ∧ (nsOf t o.arg).key = k ∧
      (nsOf t o.arg).rxSeq = 0 ∧ (nsOf t o.arg).txSeq = 0 ∧ rfld t (nsA o.arg) 30 2 = 2 ∧ rfld t (nsA o.arg) 0 28 = rfld st (nsA o.arg) 0 28 ∧
      t.host.fin = (finished st o 0 0 []).host.fin.filter (fun c => c.agent != o.arg) ∧ o ∉ t.host.ops ∧
      (∀ x ∈ t.host.ops, x.agent = o.arg → x.lost = true) ∧ { offEv t with host := st.host } = { offEv st with host := st.host } ∧
      ∀ x, ¬ evReg x → x ≠ nsA o.arg → x ≠ evAgErrA o.arg → rget t x = rget st x
    let config := setNs st o.arg { n with prefixLen := leAt p 4 1, count := leAt p 5 1, timer := leAt p 6 2, peer := slice p 8 16,
                                          peerAddr := [] }
    (is 0x00 → exec (.nop a h) st = .next (finished st o 0 0 (leBytes 8 st.btc.toNat))) ∧
    (∀ (cyc : Fin 25600) (sec : BitVec 48) (ns : Fin 1000000000), is 0x40 → ∃ u, exec (.time a h cyc sec ns) st = .next
        (finished u o 0 0 (leBytes 8 st.btc.toNat ++ leBytes 2 cyc.val ++ leBytes 4 (ns.val / 2 * 2) ++ leBytes 6 sec.toNat)) ∧
      rget64 u 0x200014 = st.btc ∧ rget u 0x20001C = BitVec.ofNat 32 cyc.val ∧ rfld u 0x200020 0 30 = ns.val / 2 * 2 ∧
      rget64 u 0x200024 = sec.zeroExtend 64 ∧ rbit u 0x200010 1 = true ∧ { u with ctl := st.ctl } = st ∧
      ∀ x, x < 0x200010 ∨ 0x20002C ≤ x → rget u x = rget st x) ∧
    (is 0x12 → plain → exec (.imageKey a h) st = .next (finished (imageKey (slice p 0 32)) o 0 0 [])) ∧
    (∀ k, is 0x12 → ¬ plain → unwrapped = some k → exec (.imageKey a h) st = .next (finished (imageKey k) o 0 0 [])) ∧
    (is 0x12 → ¬ plain → unwrapped = none → exec (.imageKey a h) st = .next (finished st o 2 1 [])) ∧
    (is 0x13 → plain → 4 ≤ o.arg → o.arg ≤ 7 → keyed (slice p 0 32)) ∧
    (∀ k, is 0x13 → ¬ plain → 4 ≤ o.arg → o.arg ≤ 7 → unwrapped = some k → keyed k) ∧
    (is 0x13 → ¬ plain → unwrapped = none → exec (.sessionKey a h) st = .next (finished st o 2 1 [])) ∧
    (is 0x14 → exec (.sessionCfg a h) st = .next
      (finished (rput (rput config (nsA o.arg) 26 2 (leAt p 0 1)) (nsA o.arg) 0 16 (leAt p 2 2)) o 0 0 [])) ∧
    (is 0x72 → ∃ c, c.length = 16 ∧ exec (.dbgChallenge a h) st = .next
      (finished { st with boot := { st.boot with chal := some c }, freeCtr := st.freeCtr + 1 } o 0 0 c)) ∧
    (is 0x71 → exec (.fwTrial a h) st = .next (finished { rput (rsetBit (rput st 0x440004 30 1 (1 - rfld st 0x440000 24 1)) 0x440004 31)
      0x440010 30 2 1 with boot := { st.boot with due := some 2 } } o 0 0 [])) ∧
    (is 0x7F → exec (.devReset a h) st = .next (finished { st with boot := { st.boot with due := some 1 } } o 0 0 []))

/-- COMMIT, COMMIT_CANCEL and COMMIT_MEMBER do what the registers of the named group do, and answer it (R227, R231, R303); NET_JOIN keeps
a membership on each port named (R302, R323); REG_RD and REG_WR read and write registers in ascending address order, in the agent's
access context (R303). Their agent is not asleep and no histogram takes its latencies. -/
def Obligations.HostCommandsAct : Prop :=
  ∀ (st : State) (a : Fin 8) (h : BitVec 16) (o : CmdOp) (f : WrFacts), st.answers a.val →
    let is := fun (opc : Nat) => opOf st a.val h.toNat opc = some o
    let p := o.params
    let g := o.arg
    let x := groupOf st g
    let asked := if o.flags % 4 = 1 then { x with trig := 1, ta := BitVec.ofNat 32 (leAt p 0 4), tb := BitVec.ofNat 32 (leAt p 4 4), tc := 0 }
      else if o.flags % 4 = 2 then
        { x with trig := 2, ta := BitVec.ofNat 32 (leAt p 0 4), tb := BitVec.ofNat 32 (leAt p 4 2), tc := BitVec.ofNat 32 (leAt p 8 4) }
      else { x with trig := o.flags % 4 }
    let u := groupArm (if x.state = 0 then setGroup st g asked else st) g
    let r := (groupOf u g).armr
    let m := leAt p 0 1 * 65536 + leAt p 2 2
    let held := st.cmt.groups.any (fun e => e.1 != g && e.2.mem.contains m)
    let withMembers := fun (l : List Nat) => if l = x.mem then st else setGroup st g { x with mem := l }
    let port : Fin 2 → Member := fun k => { port := k.val, group := slice p 8 16, src := slice p 24 16, flow := g }
    let reg := leAt p 0 4
    let vals := (List.range g).map (fun i => BitVec.ofNat 32 (leAt p (4 + 4 * i) 4))
    (is 0x20 → o.started = false → r ≠ 0 → exec (.commit a h) st = .next (finished u o 2 r [])) ∧
    (is 0x20 → o.started = false → r = 0 → nbit o.flags 2 = false →
      exec (.commit a h) st = .next (finished u o 0 0 (leBytes 8 (groupOf u g).rbtc))) ∧
    (is 0x20 → o.started = false → r = 0 → nbit o.flags 2 = true → exec (.commit a h) st = .next (opStart u o)) ∧
    (is 0x20 → o.started = true → exec (.commit a h) st = .next st) ∧
    (is 0x21 → (x.state = 0 ∨ x.state = 3) → exec (.commitCancel a h) st = .next (finished (setGroup st g { x with armr := 1 }) o 2 1 [])) ∧
    (is 0x21 → (x.state = 1 ∨ x.state = 2) → st.host.ops = [o] → ∃ t, exec (.commitCancel a h) st = .next t ∧
      (groupOf t g).state = 0 ∧ (groupOf t g).last = 4 ∧ t.host.ops = [] ∧ t.host.fin = (finished st o 0 0 []).host.fin ∧ t.cells = st.cells ∧ t.mem = st.mem ∧
      t.btc = st.btc) ∧
    (is 0x22 → nbit o.flags 0 = false → exec (.commitMember a h) st = .next
      (if x.state = 0 ∧ memberValid st m = true ∧ held = false
        then finished (withMembers (if x.mem.contains m then x.mem else x.mem ++ [m])) o 0 0 [] else finished st o 1 0 [])) ∧
    (is 0x22 → nbit o.flags 0 = true → exec (.commitMember a h) st = .next
      (if x.state = 0 ∧ x.mem.contains m = true
        then finished (setGroup st g { x with mem := x.mem.filter (· != m) }) o 0 0 [] else finished st o 1 0 [])) ∧
    (is 0x60 → nbit o.flags 0 = true → ∃ u, exec (.netJoin a h) st = .next (finished u o 0 0 []) ∧
      { u with net := { u.net with joins := st.net.joins } } = st ∧
      ∀ y, y ∈ u.net.joins ↔ y ∈ st.net.joins ∧ ∀ k : Fin 2, nbit (leAt p 0 1) k.val = true → y ≠ port k) ∧
    (is 0x60 → nbit o.flags 0 = false → st.net.joins.length < 2048 → ∃ u, exec (.netJoin a h) st = .next (finished u o 0 0 []) ∧
      { u with net := { u.net with joins := st.net.joins } } = st ∧
      ∀ y, y ∈ u.net.joins ↔ y ∈ st.net.joins ∨ ∃ k : Fin 2, nbit (leAt p 0 1) k.val = true ∧ y = port k) ∧
    (is 0x41 → (readsUp a.val g reg st).2.answers a.val →
      exec (.regRd a h) st = .next (finished (readsUp a.val g reg st).2 o 0 0 (readsUp a.val g reg st).1)) ∧
    (is 0x42 →
      let w := writesUp a.val { f with fw := false } vals reg st
      w.host.ops.contains o = true → w.answers a.val → exec (.regWr a h f) st = .next (finished w o 0 0 []))

/-- Commands that begin and end later (R287, R302): CLEAR waits for the boundary its acceptance has set (R303), GLACIER_TRAIN takes CEIL
and trains, with the stored results unless FULL (R186, R302), SELF_TEST takes its slots out of the spare pool and clears them (R440), CAPTURE waits for its stream and
then answers its samples, IMAGE_LOAD asks for the image's header (R212), CLOCK_HOP tunes the standby (R376), CLOCK_REF selects a reference
(R374). None of them ends yet, but a CAPTURE whose stream is DONE or not enabled, and CLOCK_REF to free-run. -/
def Obligations.HostCommandsBegin : Prop :=
  ∀ (st : State) (a : Fin 8) (h : BitVec 16) (o : CmdOp), st.answers a.val → o.started = false →
    let is := fun (opc : Nat) => opOf st a.val h.toNat opc = some o
    let p := o.params
    let d := strOf st o.arg
    let b := opStart st o
    let y := if rfld st 0x200008 0 2 = 0 then 1 else 0
    let pull := sext 32 (leAt p 0 4)
    let run : LoadRun := { agent := a.val, handle := h.toNat, net := nbit o.flags 0, addr := leAt p 0 8, len := leAt p 8 4,
                           key := st.load.accKey, require := st.load.accRequire, stag := if o.arg = 0xFFFF then 127 else o.arg % 128 }
    (is 0x11 → exec (.clear a h) st = .next b) ∧
    (is 0x30 → exec (.glacierTrain a h) st = .next { rput (rput b 0x160004 0 3 (leAt p 0 1)) 0x160000 13 3 2 with
      glc := { st.glc with reuse := !nbit o.flags 0, warm := false } }) ∧
    (∀ k : Fin 1088, is 0x32 → o.arg = 2 ^ 14 + k.val → exec (.selfTest a h) st = .next
      (rputBit (rput (rputBit (opUpdate st { o with started := true, note := 2 ^ (k.val % 68) }) (celSpareA k.val) (k.val % 68 % 32) false)
        (celSlotA k.val) 0 3 4) (celSlotA k.val) 6 false)) ∧
    (∀ c : Fin 16, is 0x32 → o.arg = 2 ^ 15 + c.val → (∃ j, j < 68 ∧ slotGood st (c.val * 68 + j) = true) →
      ∃ t, exec (.selfTest a h) st = .next t ∧ { t with ctl := st.ctl, host := st.host } = st ∧
        ∀ k, k < 1088 → if k / 68 = c.val ∧ slotGood st k = true then slotState t k = 4 ∧ slotSpare t k = false
          else slotState t k = slotState st k ∧ slotSpare t k = slotSpare st k) ∧
    (is 0x31 → (runOf st o.arg).done = false → sdEn d = true → exec (.capture a h) st = .next b) ∧
    (is 0x31 → (runOf st o.arg).done = true → exec (.capture a h) st = .next (finished
      { st with out := st.out ++ [.hostWrite (leAt p 0 8) (captureBytes st d (leAt p 8 1))] } o 0 0
        (leBytes 4 (12 * sdNb d) ++ leBytes 4 (runOf st o.arg).conclN))) ∧
    (is 0x31 → (runOf st o.arg).done = false → sdEn d = false → exec (.capture a h) st = .next (finished st o 4 1 [])) ∧
    (is 0x10 → st.load.run = none → exec (.imageLoad a h) st = .next
      { b with out := if nbit o.flags 0 then st.out else st.out ++ [.hostRead (leAt p 0 8) 64], load := { st.load with run := some run } }) ∧
    (is 0x51 → st.clk.hop = none → ∃ t, exec (.clockHop a h) st = .next t ∧
      t.clk.hop = some ⟨o.note, nbit o.flags 0, pull, y, a.val, h.toNat, .hop⟩ ∧ rbit t 0x200008 5 = true ∧ rfld t (synA y) 27 2 = 3 ∧
      (rfld t (synA y) 29 3 = 1 ∨ rfld t (synA y) 29 3 = 2) ∧
      rget64 t (synA y + 4) = BitVec.ofNat 64 (synRatio (nbit o.flags 0) (pull * 256) (synXc st) % 2 ^ 40) ∧
      { t with clk := b.clk, ctl := b.ctl } = b ∧
      ∀ v, v ≠ 0x200008 → v ≠ synA y → v ≠ synA y + 4 → v ≠ synA y + 8 → rget t v = rget st v) ∧
    (is 0x50 → st.port.live = [] → o.arg ≤ 5 → ∃ t, exec (.clockRef a h) st = .next t ∧ rfld t 0x3A0100 29 3 = o.arg ∧
      rfld t 0x3A0100 26 3 = (if o.arg = 5 then 0 else 1) ∧ t.clk.trk = none ∧ t.clk.acq = (if o.arg = 5 then 0 else 2) ∧
      t.clk.hop = st.clk.hop ∧ t.clk.p = st.clk.p ∧
      t.host.fin = (if o.arg = 5 then (finished st o 0 0 (leBytes 1 (rfld st 0x200008 0 2))).host.fin else st.host.fin) ∧
      t.host.ops = (if o.arg = 5 then (finished b o 0 0 []).host.ops else b.host.ops) ∧
      { offEv t with clk := st.clk, net := st.net, host := st.host } = { offEv st with host := st.host } ∧
      ∀ v, ¬ evReg v → v ≠ 0x3A0100 → v ≠ 0x3A0114 → v ≠ 0x3A0020 → v ≠ 0x3A0060 → v ≠ 0x340504 → rget t v = rget st v)

/-- Every command of the catalogue that an agent has outstanding is carried out (R287, R302): NOP, TIME, a plain key, SESSION_CFG,
DBG_CHALLENGE, FW_TRIAL, DEV_RESET, a right DBG_UNLOCK and a CAPTURE whose stream is DONE end, and their completion of status 0 stands; CLEAR
waits for its boundary (R303), GLACIER_TRAIN trains (R186), SELF_TEST clears its slot (R440), a CAPTURE of an enabled stream waits,
IMAGE_LOAD runs (R212), CLOCK_HOP has its hop scheduled (R376), CLOCK_REF has selected (R374), FW_UPDATE has taken a good package (R418). -/
def Obligations.HostCommandsComplete : Prop :=
  ∀ (st : State) (a : Fin 8) (h : BitVec 16) (o : CmdOp), o.lost = false →
    let is := fun (opc : Nat) => opOf st a.val h.toNat opc = some o
    let plain := nbit o.flags 1 = false
    let ends := fun (i : Instr) (result : List Byte) => ∃ t, exec i st = .next t ∧ o ∉ t.host.ops ∧
      (⟨o.agent, o.handle, o.opc, o.tag, 0, 0, slice result 0 20⟩ : Compl) ∈ t.host.fin
    let begins := fun (i : Instr) (p : State → Prop) => ∃ t, exec i st = .next t ∧ t.host.fin = st.host.fin ∧ p t
    (is 0x00 → ends (.nop a h) (leBytes 8 st.btc.toNat)) ∧
    (∀ (cyc : Fin 25600) (sec : BitVec 48) (ns : Fin 1000000000), is 0x40 →
      ends (.time a h cyc sec ns) (leBytes 8 st.btc.toNat ++ leBytes 2 cyc.val ++ leBytes 4 (ns.val / 2 * 2) ++ leBytes 6 sec.toNat)) ∧
    (is 0x12 → plain → ends (.imageKey a h) []) ∧
    (is 0x13 → plain → 4 ≤ o.arg → o.arg ≤ 7 → o.arg ≠ a.val → ends (.sessionKey a h) []) ∧
    (is 0x14 → ends (.sessionCfg a h) []) ∧
    (is 0x72 → ends (.dbgChallenge a h) (slice (Config.freeBytes st.freeCtr) 0 16)) ∧
    (is 0x73 → slice o.params 0 32 = hmacSha256 kDbg (st.boot.chal.getD [] ++ leBytes 8 Config.fuseSerial.toNat) → ends (.dbgUnlock a h) []) ∧
    (is 0x71 → ends (.fwTrial a h) []) ∧
    (is 0x7F → ends (.devReset a h) []) ∧
    (is 0x31 → (runOf st o.arg).done = true →
      ends (.capture a h) (leBytes 4 (12 * sdNb (strOf st o.arg)) ++ leBytes 4 (runOf st o.arg).conclN)) ∧
    (is 0x31 → (runOf st o.arg).done = false → sdEn (strOf st o.arg) = true → begins (.capture a h) (fun t => { o with started := true } ∈ t.host.ops)) ∧
    (is 0x11 → o.started = false → begins (.clear a h) (fun t => { o with started := true } ∈ t.host.ops)) ∧
    (is 0x30 → o.started = false → begins (.glacierTrain a h) (fun t => glcState t = 2 ∧ rfld t 0x160004 0 3 = leAt o.params 0 1 % 8)) ∧
    (∀ k : Fin 1088, is 0x32 → o.started = false → o.arg = 2 ^ 14 + k.val →
      begins (.selfTest a h) (fun t => slotState t k.val = 4 ∧ slotSpare t k.val = false)) ∧
    (is 0x10 → o.started = false → st.load.run = none → begins (.imageLoad a h) (fun t => ∃ r, t.load.run = some r ∧ r.agent = a.val ∧
      r.handle = h.toNat ∧ r.addr = leAt o.params 0 8 ∧ r.len = leAt o.params 8 4)) ∧
    (is 0x51 → o.started = false → st.clk.hop = none → begins (.clockHop a h) (fun t => ∃ x, t.clk.hop = some x ∧ x.btc = o.note ∧
      x.fam = nbit o.flags 0 ∧ x.p = sext 32 (leAt o.params 0 4))) ∧
    (is 0x50 → o.started = false → o.arg < 5 → begins (.clockRef a h) (fun t => refSel t = o.arg ∧ refState t = 1)) ∧
    (is 0x50 → o.started = false → o.arg = 5 → ∃ t, exec (.clockRef a h) st = .next t ∧ refSel t = 5 ∧ refState t = 0 ∧
      (⟨o.agent, o.handle, o.opc, o.tag, 0, 0, slice (leBytes 1 (rootSrc st)) 0 20⟩ : Compl) ∈ t.host.fin) ∧
    (∀ p, is 0x70 → o.started = false → fwCheck st (leAt o.params 8 4) p = 0 →
      begins (.fwUpdate a h (some p)) (fun t => t.boot.upd = slice p 160 (leAt p 8 4) ∧ rfld t 0x440010 24 4 = 4))

/-- Accesses to control registers (R11, R13, R14). A read of the lower half of a 64-bit register puts its data out and latches the upper
half; a read of the upper half puts out what is latched for it, else the live half; a write of the lower half waits in the write
holder, and a write of the upper half empties the holder and sets both, with the held lower half or the present one, unless the
register's state forbids it. A read of another register puts out its
data and clears its RC bits; a write sets its RW bits and clears the W1C bits written 1. What is not served reads 0 and writes nothing. -/
def Obligations.RegistersAccessed : Prop :=
  ∀ (st : State) (ctx : Fin 9) (a : Nat) (v : W32) (f : WrFacts),
    let data := fun (t : State) (d : W32) => Host.Outcome.next { t with out := st.out ++ [.regData d] }
    let view := fun (x : Nat) => regView st ctx.val x
    let rd := regServed st ctx.val a 4 true = true
    let wr := regServed st ctx.val a 4 false = true
    let written := fun (r : RegRow) (x : Nat) (w : W32) => ((rget st x &&& ~~~(BitVec.ofNat 32 r.rw)) ||| (w &&& BitVec.ofNat 32 r.rw))
      &&& ~~~(w &&& BitVec.ofNat 32 r.w1c)
    (regHalf a = 1 → rd → exec (.reg64LowerRead ctx a) st =
      data { st with latch := mset none st.latch ctx.val (some (a, view (a + 4))) } (view a)) ∧
    (∀ w, regHalf (a + 4) = 2 → regServed st ctx.val (a + 4) 4 true = true → mget none st.latch ctx.val = some (a, w) →
      exec (.reg64UpperRead ctx (a + 4)) st = data { st with latch := mset none st.latch ctx.val none } w) ∧
    (regHalf a = 2 → rd → (∀ e, mget none st.latch ctx.val = some e → e.1 + 4 ≠ a) →
      exec (.reg64UpperRead ctx a) st = data st (view a)) ∧
    (∀ r, regRow? a = some r → r.half = 1 → wr → exec (.reg64LowerWrite ctx a v) st = .next
      (if r.rw = 0 then st else { st with holder := mset none st.holder ctx.val (some (a, v)) })) ∧
    (∀ r0 r1, regRow? a = some r0 → regRow? (a + 4) = some r1 → r1.half = 2 → r1.rw ≠ 0 → r0.w1c = 0 →
      regServed st ctx.val (a + 4) 4 false = true → ∀ fw,
      (pairOpen st fw (a + 4) = false → exec (.reg64UpperWrite ⟨fw, ctx⟩ (a + 4) v) st =
        .next { st with holder := mset none st.holder ctx.val none }) ∧
      (pairOpen st fw (a + 4) = true →
      let held := mget none st.holder ctx.val
      ∃ t, exec (.reg64UpperWrite ⟨fw, ctx⟩ (a + 4) v) st = .next t ∧ { t with ctl := st.ctl, holder := st.holder } = st ∧
        (∀ c, mget none t.holder c = if c = ctx.val then none else mget none st.holder c) ∧
        ∀ x, rget t x = if x = a + 4 then written r1 x v
          else if x = a then (match held with
            | some e => if e.1 = a then written r0 x e.2 else written r0 x (rget st a)
            | none => written r0 x (rget st a))
          else rget st x)) ∧
    (∀ r, regRow? a = some r → r.half = 0 → rd → pageOf? a = none → a ≠ 0x360C10 → a ≠ 0x340208 → a ≠ 0x34020C →
      ∃ t, exec (.rcRegisterRead ctx a 4) st = .next t ∧ { t with ctl := st.ctl } = { st with out := st.out ++ [.regData (view a)] } ∧
        ∀ x, rget t x = if x = a then rget st x &&& ~~~(BitVec.ofNat 32 r.rc) else rget st x) ∧
    (∀ r, regRow? a = some r → r.half = 0 → wr →
      ((∃ k, k < 5 ∧ a = 0x160024 + 4 * k) ∨ a = 0x160004 ∨ a = 0x160008 ∨ (∃ n, n < 512 ∧ a = 0x321800 + 4 * n) ∨ a = 0x1A1000 ∨
        (∃ c k, c < 16 ∧ k < 4 ∧ a = 0x140024 + 0x2000 * c + 4 * k)) →
      ∃ t, exec (.registerWrite ctx a 4 v f) st = .next t ∧ { t with ctl := st.ctl } = st ∧
        ∀ x, rget t x = if x = a then written r x v else rget st x) ∧
    (∀ w, w ≠ 4 ∨ a % 4 ≠ 0 ∨ 0x2000000 ≤ a → exec (.registerWrite ctx a w v f) st = .next st ∧
      exec (.rcRegisterRead ctx a w) st = data st 0) ∧
    (regRow? a = none → exec (.registerWrite ctx a 4 v f) st = .next st ∧ exec (.rcRegisterRead ctx a 4) st = data st 0)

/-- A stream's grains and heads (R173, R178, R179, R183): in its window a grain of a delay or capture stream takes 12 words of its write
buffer, which read zero then, rounds them to half words and writes them with tag and lap into its block; a window that ends unserved is
abandoned, with GLC_ERR.WMISS and WMISSC. A read of a block with the grain's tag and lap puts its 12 samples into the head buffer; a head
not complete in time sets GLC_ERR.HLATE and counts in HLATEC. Where the stream has no line each index is delivered in turn, at the head
deadline of its grain: a checked
sample stays in its head word, and is what a later missing one may repeat. Ready, with clean check bits, no access met at the F port, and
the cisterns of both buffers powered, cleared and owned so that the controller may write them (R150, R176, R244). -/
def Obligations.GlacierGrainsMove : Prop :=
  ∀ (st : State) (g : Fin 4096) (m : LineFacts),
    let d := strOf st g.val
    let r := runOf st g.val
    let tick := domTick st (domOf st (sdCl d))
    let wb := fun (i : Nat) => clusterAddr (sdCl d) (sdWbuf d + i % 64)
    let head := fun (i : Nat) => clusterAddr (sdCl d) (sdHbuf d + i % 64)
    let run := fun (t : State) (q : StrRun) => ∀ j, runOf t j = if j = g.val then q else runOf st j
    let w0 := r.t0 + 12 * r.gw
    let r0 := r.t0 + 12 * r.gr + sdB d
    let bw := sdRbase d + r.gw % sdNb d
    let br := sdRbase d + r.gr % sdNb d
    let smp := fun (i : Nat) => storeValue (cisWord st (wb i)).toInt 64 0 0 false 32 32 36
    let half := fun (i : Nat) => BitVec.ofInt 36 (smp i).1
    let admits := fun (a i : Nat) => let j := clusterCis (sdCl d) (a + i % 64)
      cisDown st j = false ∧ cisTMay st j 7 = true
    sdEn d = true →
    (sdKind d = 1 ∨ sdKind d = 2 → r.done = false →
      (w0 + 12 ≤ tick → tick ≤ w0 + 35 → glcState st = 3 → (∀ k, k < 12 → admits (sdWbuf d) (w0 + k)) →
        ∃ t, exec (.glacierGrainWrite ⟨g, []⟩) st = .next t ∧
        (∀ y, cisWord t y = if (List.range 12).any (fun k => y == wb (w0 + k)) then 0 else cisWord st y) ∧
        (∀ n, mget none t.glc.dram n = if n = bw then some
          { words := (List.range 6).map (fun k => Word.pack (half (w0 + 2 * k)) (half (w0 + 2 * k + 1))),
            lap := if sdKind d = 1 then r.gw / sdNb d % 16 else 0, blk := bw } else mget none st.glc.dram n) ∧
        run t { r with gw := r.gw + 1, wg := r.wg + 1, done := sdKind d == 2 && sdOne d && decide (sdNb d ≤ r.wg + 1) } ∧
        rbit t 0x160008 6 = (rbit st 0x160008 6 || (List.range 12).any (fun k => (smp (w0 + k)).2)) ∧
        (∀ x, x ≠ 0x160008 → rget t x = rget st x) ∧ t.cells = st.cells ∧ t.mem.cell = st.mem.cell ∧ t.wel = st.wel ∧ t.flt = st.flt) ∧
      (w0 + 35 ≤ tick → ∃ t, exec (.glacierWriteMiss g) st = .next t ∧ run t { r with gw := r.gw + 1 } ∧ rbit t 0x160008 5 = true ∧
        rfld t 0x160010 0 16 = min 65535 (rfld st 0x160010 0 16 + 1) ∧ (∀ x, x ≠ 0x160008 → x ≠ 0x160010 → rget t x = rget st x) ∧
        { t with ctl := st.ctl, glc := { t.glc with run := st.glc.run } } = st)) ∧
    (sdKind d = 1 ∨ sdKind d = 3 →
      (∀ e, (∀ q ∈ e, q = Ecc.ok) → r0 - 25 ≤ tick → glcState st = 3 → (blockOf st br).blk = br →
        (sdKind d = 1 → (blockOf st br).lap = r.gr / sdNb d % 16) → (∀ k, k < 12 → admits (sdHbuf d) (r0 + k)) →
        ∃ t, exec (.glacierGrainRead g ⟨e, []⟩) st = .next t ∧
        { t with mem := { t.mem with cist := st.mem.cist }, glc := { t.glc with run := st.glc.run } } = st ∧
        (∀ k, k < 12 → cisWord t (head (r0 + k)) =
          Word.pack (if k % 2 = 0 then ((blockOf st br).words.getD (k / 2) 0).hi else ((blockOf st br).words.getD (k / 2) 0).lo) 0 ∧
          (r.t0 + r.ix ≤ r0 + k → mget false (runOf t g.val).good ((r0 + k) % 64) = true)) ∧
        (∀ i, (∀ k, k < 12 → r.t0 + r.ix ≤ r0 + k → i ≠ (r0 + k) % 64) → mget false (runOf t g.val).good i = mget false r.good i) ∧
        (∀ y, (∀ k, k < 12 → y ≠ head (r0 + k)) → cisWord t y = cisWord st y) ∧
        run t { r with gr := r.gr + 1, good := (runOf t g.val).good }) ∧
      (r0 ≤ tick + 1 → r.hl ≤ r.gr → ∃ t, exec (.glacierHeadLate g) st = .next t ∧ run t { r with hl := r.gr + 1 } ∧
        rbit t 0x160008 3 = true ∧ rfld t 0x160010 16 16 = min 65535 (rfld st 0x160010 16 16 + 1) ∧
        (∀ x, x ≠ 0x160008 → x ≠ 0x160010 → rget t x = rget st x) ∧ { t with ctl := st.ctl, glc := { t.glc with run := st.glc.run } } = st) ∧
      (sdLinev d = false → r.t0 + 12 * ((r.ix - sdB d) / 12) + sdB d ≤ tick + 1 → sdB d ≤ r.ix →
        mget false r.good ((r.t0 + r.ix) % 64) = true →
        ∃ t, exec (.glacierLineCopy g m) st = .next t ∧ { t with glc := { t.glc with run := st.glc.run } } = st ∧
        run t { r with ix := r.ix + 1, good := (runOf t g.val).good, last := (cisWord st (head (r.t0 + r.ix))).hi, concl := false } ∧
        mget false (runOf t g.val).good ((r.t0 + r.ix) % 64) = false))

/-- The Glacier controller's states and registers (R182, R184, R186–R189): training that ends with a rate makes it ready at that rate, with
none failed; the rate is at most CEIL, and a reuse of the stored results keeps the memory's content; a tracking failure makes a ready one recovering, with GLC_ERR.TRK and a Glacier fault; a retrain makes a recovering one ready
again, or failed, and shows its last step and time; a refresh report sets GLC_ERR.TEMP. WR takes the data registers into a stream's shadow
unless a Wellhead it belongs to is sealed or the running load has written the stream, RD
loads them from it, CAP shows the stream's run state; CLR empties GLC_EADDR. With memory fitted. -/
def Obligations.GlacierControllerActs : Prop :=
  ∀ (st : State) (g : Fin 4096), glcChans ≠ 0 →
    let ready := fun (t : State) (v : Nat) => rfld t 0x160000 13 3 = v
    let data := (⟨rget st 0x160024, rget st 0x160028, rget st 0x16002C, rget st 0x160030, rget st 0x160034⟩ : StrDesc)
    let idx := rput st 0x160020 0 12 g.val
    let x := strShadow st g.val
    let d := strOf st g.val
    let r := runOf st g.val
    let shown := fun (rate : Nat) (step : Fin 16) (time : BitVec 16) =>
      rput (rput (rput st 0x160004 16 16 time.toNat) 0x160004 12 4 step.val) 0x160004 8 3 rate
    let refused := (strMembers idx g.val data).findSome? (fun c => memberRefused idx (memWel c) (lockStr g.val))
    (∀ rate step time verified, glcState st = 2 → (∀ o ∈ st.host.ops, o.opc ≠ 0x30) →
      let keep := verified && st.glc.reuse && decide (st.glc.stored ≠ 0)
        && (!st.pwr.seen || decide ((dieQuarter st - st.glc.storedT).natAbs < 80))
      let rate' := if keep then st.glc.stored else min rate.val (rfld st 0x160004 0 3)
      ∃ t, exec (.glacierTrainingDone rate step time verified) st = .next t ∧ { t with ctl := st.ctl, glc := st.glc } = st ∧
        ready t (if rate' = 0 then 5 else 3) ∧ rfld t 0x160000 20 3 = rate' % 8 ∧ rbit t 0x160000 23 = (keep && st.glc.warm) ∧
        rfld t 0x160004 16 16 = time.toNat ∧ rfld t 0x160004 12 4 = step.val ∧ rfld t 0x160004 8 3 = rate' % 8 ∧ rfld t 0x160004 0 3 = rfld st 0x160004 0 3 ∧
        t.glc.dram = (if keep then st.glc.dram else []) ∧ t.glc.stored = (if rate' = 0 then st.glc.stored else rate') ∧
        t.glc.reuse = false ∧ t.glc.warm = false ∧ t.glc.str = st.glc.str ∧ t.glc.run = st.glc.run ∧
        ∀ y, y ≠ 0x160000 → y ≠ 0x160004 → rget t y = rget st y) ∧
    (glcState st ≠ 2 → ∀ rate step time keep, exec (.glacierTrainingDone rate step time keep) st = .next st) ∧
    (glcState st = 3 → ∃ u t, exec .glacierTrackingFailure st = .next t ∧ { u with flt := t.flt } = t ∧
      Detects (rput (rsetBit st 0x160008 9) 0x160000 13 3 4) u
        { cls := 7, sev := 2, unit := 0xA000, btc := tickEndBtc st 1, detail := rfld (rsetBit st 0x160008 9) 0x160008 0 16 } ∧
      (st.flt.cur = none → st.flt.queue = [] → st.flt.susp = [] → t.flt = { u.flt with cur := some { cls := 7, sev := 2, unit := 0xA000 } })) ∧
    (glcState st ≠ 3 → exec .glacierTrackingFailure st = .next st) ∧
    (glcState st = 4 → (∀ e ∈ st.flt.openf, e.1 / 65536 = 7 → e.2 = false) → st.flt.cur = none →
      ∀ step time, exec (.glacierRetrainDone ⟨true, step, time⟩) st = .next (rput (shown st.glc.stored step time) 0x160000 13 3 3)) ∧
    (glcState st = 4 → st.flt.cur = none → ∀ step time,
      exec (.glacierRetrainDone ⟨false, step, time⟩) st = .next (rput (rput (shown 0 step time) 0x160000 20 3 0) 0x160000 13 3 5)) ∧
    exec .glacierRefreshReport st = .next (rsetBit st 0x160008 8) ∧
    (refused = none → exec (.glcStrWr g) st = .next
      { idx with glc := { st.glc with strPend := mset none st.glc.strPend g.val (some data) } }) ∧
    (∀ u, refused = some u → exec (.glcStrWr g) st = .next u) ∧
    (∃ t, exec (.glcStrRd g) st = .next t ∧ { t with ctl := st.ctl } = st ∧
      [rget t 0x160024, rget t 0x160028, rget t 0x16002C, rget t 0x160030, rget t 0x160034] = [x.w0, x.w1, x.w2, x.w3, x.w4] ∧
      rfld t 0x160020 0 12 = g.val ∧ ∀ y, y ≠ 0x160020 → y < 0x160024 ∨ 0x160037 < y → rget t y = rget st y) ∧
    (∃ t, exec (.glcStrCap g) st = .next t ∧ { t with ctl := st.ctl } = st ∧
      rget t 0x160044 = BitVec.ofNat 32 r.wg ∧ rget64 t 0x160048 = BitVec.ofNat 64 r.t0 ∧ rbit t 0x160040 31 = true ∧
      rbit t 0x160040 28 = sdEn d ∧ rbit t 0x160040 27 = r.done ∧ rbit t 0x160040 26 = r.concl ∧
      (sdNb d ≠ 0 → rfld t 0x160040 0 4 = r.gw / sdNb d % 16) ∧
      ∀ y, y ≠ 0x160020 → y < 0x160040 ∨ 0x16004F < y → rget t y = rget st y) ∧
    exec .glcEaddrClr st = .next (rset st 0x160014 0)

/-- The checks of an image load (R192–R194, R197, R198, R210–R212, R214, R216, R217, R303). The header: each finding, in the order of R212,
ends the load with its record; a partial image's header that passes puts the load to its sections and asks for the rest of the image. A
section whose SCRC is wrong ends the load; a cistern section that passes is staged and its owners wait for the start. The trailer: a wrong
ICRC and a wrong DIGEST end the load; a full image that passes global validation starts at the later of START and the first boundary at least 4 base
ticks on, and its command ends. A stalled network feed ends the load. -/
def Obligations.ImageChecksAnswer : Prop :=
  ∀ (st : State) (r : LoadRun) (o : CmdOp) (bs : List Byte), st.load.run = some r → opOf st r.agent r.handle 0x10 = some o →
    st.answers r.agent →
    let clean := r.undo = {} ∧ r.written = []
    let off := { st with load := { st.load with run := none } }
    let record := fun (code sect at_ item : Nat) => leBytes 2 code ++ leBytes 2 sect ++ leBytes 4 at_ ++ leBytes 4 item
    let b := slice bs 0 64
    let flags := leAt b 0x10 4
    let part := nbit flags 0
    let hm := nbit flags 1
    let tlen := leAt b 8 4
    let g := leAt b 0x28 2
    let finding : Option (Nat × Nat) :=
      if slice b 0 4 ≠ [0x46, 0x52, 0x4C, 0x54] then some (0x0101, 0) else if leAt b 4 2 ≠ 0x0100 then some (0x0102, 4)
      else if leAt b 6 2 ≠ 64 then some (0x0103, 6)
      else if tlen % 8 ≠ 0 ∨ tlen > 0x08000000 ∨ tlen ≠ r.len ∨ tlen < 64 + (if hm then 40 else 8) then some (0x0103, 8)
      else if leAt b 0xC 4 = 0 ∨ leAt b 0xC 4 > 65535 then some (0x010F, 0xC) else if flags ≥ 4 then some (0x0108, 0x10)
      else if leAt b 0x14 4 ≠ 0x9740 then some (0x0101, 0x14) else if part ∧ leAt b 0x20 8 ≠ 0 then some (0x0105, 0x20)
      else if part ∧ g > 255 then some (0x0107, 0x28) else if !part ∧ g ≠ 0 then some (0x0105, 0x28)
      else if slice b 0x2A 22 ≠ List.replicate 22 0 then some (0x0108, 0x2A) else if hm ∧ r.key = none then some (0x010C, 0x10)
      else if !hm ∧ r.require then some (0x010D, 0x10)
      else if (if part then !st.cmt.live else st.cmt.live) then some (0x0110, 0x10)
      else if part ∧ (groupOf st g).state ≠ 0 then some (0x0110, 0x28)
      else if cisDown st r.stag ∨ (part ∧ cisOwner st r.stag ≠ 5) then some (0x0111, 0xFFFFFFFF) else none
    let q := r.bytes.length
    let halfAt := r.stag * 65536 + r.secs % 2 * 32768
    let owner := fun (k : Nat) => leAt bs (16 + 4 * k) 1
    let trailer := slice bs 0 (if r.hmac then 40 else 8)
    let b0 := max r.start (st.btc.toNat + 5)
    (r.phase = 0 → r.net = false → r.full = false → clean →
      (∀ f, finding = some f → exec (.imageHeaderCheck (some bs)) st = .next (finished off o 1 0 (record f.1 0xFFFF f.2 0))) ∧
      exec (.imageHeaderCheck none) st = .next (finished off o 1 0 (record 0x010E 0xFFFF 0 0)) ∧
      (finding = none → part = true → exec (.imageHeaderCheck (some bs)) st = .next
        { st with out := st.out ++ [.hostRead (r.addr + 64) (r.len - 64)],
                  load := { st.load with run := some { r with
                    phase := if tlen - (if hm then 40 else 8) ≤ 64 then 2 else 1, bytes := b, feed := r.feed.drop 64, full := false,
                    hmac := hm, nsec := leAt b 0xC 4, sq := leAt b 0x18 8, start := leAt b 0x20 8, group := g,
                    undo := { pend := mget {} st.cmt.pend g } } } })) ∧
    (r.phase = 1 → r.net = false → powerWaits st r = false → stageRefused st r = false → r.full = true → r.secs < r.nsec → bs.length = 528 → leAt bs 4 4 = 512 → q + 528 ≤ trailerAt r →
      (clean → crc32c (bs.take 12 ++ bs.drop 16) ≠ leAt bs 12 4 → ∃ t, exec (.imageSectionCheck (some bs)) st = .next t ∧
        t.load.run = none ∧ t.host.fin = (finished off o 1 0 (record 0x0109 r.secs (q + 12) 0)).host.fin ∧ t.cells = st.cells ∧ t.ctl = st.ctl) ∧
      (crc32c (bs.take 12 ++ bs.drop 16) = leAt bs 12 4 → leAt bs 0 1 = 2 → leAt bs 1 1 = 0 → leAt bs 2 2 = 0 → leAt bs 8 4 = 0 →
        (0 < r.secs → r.lastT < 2) → (∀ k, k < 128 → leAt bs (17 + 4 * k) 3 = 0 ∧ owner k ≤ 6) →
        ∃ t, exec (.imageSectionCheck (some bs)) st = .next t ∧
          (∀ k, k < 128 → mget none (mget {} t.cmt.pend 256).own k = some (owner k)) ∧
          (∀ w, w < 58 → cisWord t (halfAt + w) = BitVec.ofNat 72 (leAt bs (9 * w) 9)) ∧ cisWord t (halfAt + 58) = BitVec.ofNat 72 (leAt bs 522 6) ∧
          (∀ y, y < halfAt ∨ halfAt + 59 ≤ y → cisWord t y = cisWord st y) ∧
          t.load.run = some { r with bytes := r.bytes ++ bs, secs := r.secs + 1, lastT := 2, lastG := 0, lastE := 0, hadOwn := true,
                                     phase := if trailerAt r ≤ q + 528 then 2 else 1 } ∧
          t.ctl = st.ctl ∧ t.cells = st.cells ∧ t.host = st.host ∧ t.out = st.out)) ∧
    (r.phase = 2 → r.net = false → powerWaits st r = false → stageRefused st r = false → r.secs = r.nsec → leAt trailer 4 4 = 0 → (r.full = true → r.hadDom = true ∧ r.hadOwn = true) →
      let staged := stage st r (r.secs % 2) trailer
      let mac := hmacSha256 (r.key.getD []) (r.bytes ++ trailer.take 8)
      (clean → crc32c r.bytes ≠ leAt trailer 0 4 → ∃ t, exec (.imageTrailerCheck (some bs)) st = .next t ∧
        t.load.run = none ∧ t.host.fin = (finished off o 1 0 (record 0x010A 0xFFFF q 0)).host.fin) ∧
      (clean → crc32c r.bytes = leAt trailer 0 4 → r.hmac = true → mac ≠ trailer.drop 8 → ∃ t, exec (.imageTrailerCheck (some bs)) st = .next t ∧
        t.load.run = none ∧ t.host.fin = (finished off o 1 0 (record 0x010B 0xFFFF (q + 8) 0)).host.fin) ∧
      (crc32c r.bytes = leAt trailer 0 4 → (r.hmac = true → mac = trailer.drop 8) → r.full = true → loadVerdict staged r = none →
        ∃ t, exec (.imageTrailerCheck (some bs)) st = .next t ∧ t.load.run = none ∧ t.load.arm = some r ∧ t.cmt.start = some b0 ∧
        t.host.fin = (finished off o 0 0 (leBytes 8 r.sq ++ leBytes 8 b0 ++ leBytes 4 r.refused)).host.fin ∧ t.mem = staged.mem ∧
        t.ctl = st.ctl ∧ t.cells = st.cells)) ∧
    (r.net = true → r.phase = 0 → r.full = false → clean → exec .imageFeedStall st = .next (finished off o 4 1 (record 0x010E 0xFFFF (q + r.feed.length) 0))) ∧
    (r.net = false → exec .imageFeedStall st = .next st)

/-- Cistern ownership, power and clearing (R245, R246, R248, R254, R256, R257, R440, R467). A write of CIS_OWNER by an agent has no effect
while the lock is closed. A request for a reserved code, or for the fabric or the Wellhead of a cistern without power, sets CIS_ERR.OWNV;
one between transfer-side owners takes effect; any other pends with its code, AT and CG. The isolation of the cluster first in the queue
lifts into clearing; cleared, a
cluster's cisterns and cell memories read zero and its CLON is set; a slot in clearing is cleared alone. CLR empties CIS_EADDR. -/
def Obligations.CisternsOwnedAndCleared : Prop :=
  ∀ (st : State) (k : Fin 128) (c : Fin 16) (s : Fin 68) (v : W32) (fw late : Bool),
    let a := cisOwnerA k.val
    let o := fld v 0 4
    let may := fw = true ∨ rbit st 0x180A00 0 = true
    let bad := o > 6 ∨ (o ≤ 1 ∧ rbit st (cisStatA k.val) 30 = false)
    let asked := rput (rputBit st a 23 (bitOf v 23)) a 24 8 (fld v 24 8)
    let transfer := bitOf v 23 = false ∧ 2 ≤ cisOwner st k.val ∧ 2 ≤ o
    let q := c.val * 68 + s.val
    (¬ may → exec (.cisOwnerWrite fw k v late) st = .next st) ∧
    (may → bad → ∃ t, exec (.cisOwnerWrite fw k v late) st = .next t ∧ Settles (rsetBit st (cisErrA k.val) 5) t) ∧
    (may → ¬ bad → transfer → exec (.cisOwnerWrite fw k v late) st = .next
      (rput (rput (rputBit asked a 22 false) a 16 4 0) a 0 4 o)) ∧
    (may → ¬ bad → ¬ transfer → exec (.cisOwnerWrite fw k v late) st = .next
      { rput (rsetBit asked a 22) a 16 4 o with cisLate := mset false st.cisLate k.val (late && !bitOf v 23) }) ∧
    exec (.cisEaddrClr k) st = .next (rset st (cisEaddrA k.val) 0) ∧
    (pwrStep st c.val = 1 → st.pwr.queue.head? = some c.val → ∃ t, exec (.clusterIsolationLift c) st = .next t ∧ pwrStep t c.val = 2 ∧ { t with ctl := st.ctl, pwr := st.pwr } = st ∧
      (∀ j, j < 8 → rbit t (cisStatA (8 * c.val + j)) 31 = true ∧ rbit t (cisStatA (8 * c.val + j)) 30 = true) ∧
      (∀ j, j ≠ c.val → pwrStep t j = pwrStep st j) ∧ t.pwr.queue = st.pwr.queue.tail ∧
      ∀ x, x < cisStatA (8 * c.val) ∨ cisStatA (8 * c.val + 8) ≤ x → rget t x = rget st x) ∧
    (pwrStep st c.val ≠ 1 ∨ st.pwr.queue.head? ≠ some c.val → exec (.clusterIsolationLift c) st = .next st) ∧
    (pwrStep st c.val = 2 → ∃ t, exec (.clusterClearingDone c) st = .next t ∧ pwrStep t c.val = 3 ∧ rbit t 0x480000 c.val = true ∧
      (∀ j, j < 8 → rbit t (cisStatA (8 * c.val + j)) 31 = false ∧ rbit t (cisStatA (8 * c.val + j)) 30 = true) ∧
      (∀ y, cisWord t y = if y / 0x80000 = c.val then 0 else cisWord st y) ∧
      (∀ y, mget 0 t.mem.cell y = if y / 0x4000 / 68 = c.val then 0 else mget 0 st.mem.cell y) ∧
      (∀ j, cellAt t j = if j / 68 = c.val then {} else cellAt st j) ∧ t.flt = st.flt ∧ t.btc = st.btc ∧
      (rbit st (xchErrA c.val) 3 = false → t.host = st.host ∧ t.out = st.out)) ∧
    (pwrStep st c.val ≠ 2 → exec (.clusterClearingDone c) st = .next st) ∧
    (slotState st q = 4 → ∃ t, exec (.slotClearingDone c s) st = .next t ∧ slotState t q = 4 ∧ cellAt t q = {} ∧
      (∀ j, j ≠ q → cellAt t j = cellAt st j) ∧
      (∀ y, mget 0 t.mem.cell y = if y / 0x4000 = q then 0 else mget 0 st.mem.cell y) ∧ t.mem.cist = st.mem.cist ∧
      rget t (celErrA q) = 0 ∧ rget t (celBtaskA q) = 0 ∧ { t with ctl := st.ctl, cells := st.cells, mem := st.mem } = st) ∧
    (slotState st q ≠ 4 → exec (.slotClearingDone c s) st = .next st)

/-- The pumps' channels (R258–R262, R266, R269–R280). An agent's writes to a firmware channel have no effect. EN makes a disabled channel
idle and fetches the descriptor at HEAD; EN cleared drops the work, with CNT undefined; STOP, the doorbell and the poll act by state. A
returned descriptor that is not owned leaves the channel idle, a data descriptor makes it active, a link is followed. The channel whose turn
it is in the round asks for a burst's host bytes, another moves nothing; the words that return are written, and the last one ends the descriptor: write-back, DONE, HEAD at the next one. With
LAND the end waits for the landing. A failed host read halts the channel with the address of the read. -/
def Obligations.PumpsWork : Prop :=
  ∀ (st : State) (n : Fin 64) (fw : Bool) (d : List Byte) (bytes : List Byte) (lat : Nat) (part : Fin 8),
    let a := pmpA n.val
    let p := pumpOf st n.val
    let state := pmpState st n.val
    let head := pmpHead st n.val
    let pump := fun (q : PumpCh) => { st with pump := mset {} st.pump n.val q }
    let fetches := { st with pump := mset {} st.pump n.val { p with fetch := true }, out := st.out ++ [.hostRead head 32] }
    let status := fun (t : State) (v : Nat) => rfld t (a + 4) 29 3 = v
    let regs := fun (t : State) (l : List Nat) => ∀ x, x ∉ l → rget t x = rget st x
    let codes := b2n p.coll * 2 ^ 23 + b2n p.sat * 2 ^ 22
    let halted := fun (cause addr : Nat) (dsc : Bool) (t : State) => ∃ v, Settles (rput (rput
        { rset64 (rset st (a + 0x1C) (BitVec.ofNat 32 (2 ^ 31 + b2n dsc * 2 ^ 27 + cause * 2 ^ 20))) (a + 0x20) (BitVec.ofNat 64 addr) with
          pump := mset {} st.pump n.val {},
          out := if dsc then st.out else st.out ++ [.hostWrite (head + 28) (leBytes 4 (2 ^ 28 + cause * 2 ^ 24 + codes))] }
        (a + 4) 29 3 5) (a + 4) 25 1 0) v ∧
      Detects v t { cls := 10, sev := 3, unit := 0x7000 + n.val, btc := tickEndBtc v 1, detail := nbits (rget v (a + 0x1C)).toNat 16 16 }
    let ends := fun (t : State) (cnt : W32) => status t 2 ∧ pumpOf t n.val = { fetch := true } ∧ pmpHead t n.val = (head + 32) % 2 ^ 64 ∧
      rget t (a + 0x18) = rget st (a + 0x18) + 1 ∧ rget t (a + 0x14) = cnt ∧ rbit t (a + 4) 25 = false ∧
      t.out = st.out ++ [.hostWrite (head + 28) (leBytes 4 (2 ^ 29 + codes)), .hostRead (pmpHead t n.val) 32] ∧
      regs t [a + 4, a + 8, a + 0xC, a + 0x14, a + 0x18]
    let dist := fun (m : Nat) => (m + 127 - st.pumpLast % 64) % 64
    let flushRead := rbit st (a + 4) 25 && dsSp p.desc 8 == 0
    let owned := nbit (leAt d 28 4) 31
    let link := nbit (leAt d 28 4) 30
    (fw = false → 60 ≤ n.val → exec (.pumpEnable fw n) st = .next st ∧ exec (.pumpDisable fw n) st = .next st ∧
      exec (.pumpStop fw n) st = .next st ∧ exec (.pumpDoorbell fw n) st = .next st) ∧
    (fw = true ∨ n.val < 60 →
      (state = 0 → rbit st (a + 4) 28 = false → fltOpen st 10 (0x7000 + n.val) = false → ∃ t, exec (.pumpEnable fw n) st = .next t ∧
        { t with ctl := st.ctl, pump := st.pump, out := st.out } = st ∧ rbit t a 31 = true ∧ status t 1 ∧ rfld t (a + 4) 20 7 = 0 ∧
        rbit t (a + 4) 27 = rbit st (a + 4) 27 ∧ rbit t (a + 0x1C) 31 = false ∧ pumpOf t n.val = { fetch := true } ∧
        t.out = st.out ++ [.hostRead head 32] ∧ regs t [a, a + 4, a + 0x1C]) ∧
      (state ≠ 0 → ∃ t, exec (.pumpDisable fw n) st = .next t ∧ { t with ctl := st.ctl, pump := st.pump, freeCtr := st.freeCtr } = st ∧
        rbit t a 31 = false ∧ status t 0 ∧ rbit t (a + 4) 28 = (p.fetch || decide (0 < p.want) || flushRead) ∧
        pumpOf t n.val = { fetch := p.fetch, want := p.want, fl := flushRead } ∧ regs t [a, a + 4, a + 0x14]) ∧
      (state = 0 → exec (.pumpDisable fw n) st = .next { rput st a 31 1 0 with pump := mset {} st.pump n.val { p with enWait := false } }) ∧
      (state = 1 → ∃ t, exec (.pumpStop fw n) st = .next t ∧ Settles (rput st (a + 4) 29 3 4) t) ∧
      (state = 2 → exec (.pumpStop fw n) st = .next (rput st (a + 4) 29 3 3)) ∧
      (state ≠ 1 → state ≠ 2 → exec (.pumpStop fw n) st = .next st) ∧
      (p.fetch = false → exec (.pumpDoorbell fw n) st = .next (if state = 1 then fetches else st)) ∧
      (p.fetch = true → exec (.pumpDoorbell fw n) st = .next (if state ≤ 3 then rsetBit st (a + 4) 26 else st))) ∧
    (state = 1 → p.fetch = false → rbit st a 29 = true → exec (.pumpPoll n) st = .next fetches) ∧
    (rbit st a 29 = false → exec (.pumpPoll n) st = .next st) ∧
    (p.fetch = true → rbit st (a + 4) 28 = false → (state = 1 ∨ state = 2) → d.length = 32 →
      (owned = false → rbit st (a + 4) 26 = false → exec (.pumpDescriptorFetched n d) st = .next
        (rput (pump { p with fetch := false, desc := [] }) (a + 4) 29 3 1)) ∧
      (owned = true → link = false → dsValid d = true → ∃ t, exec (.pumpDescriptorFetched n d) st = .next t ∧
        { t with ctl := st.ctl, pump := st.pump } = st ∧ status t 2 ∧ rbit t (a + 4) 26 = false ∧ rfld t (a + 4) 20 5 = 0 ∧
        pumpOf t n.val = { desc := d } ∧ rget t (a + 0x14) = BitVec.ofNat 32 (nbits (leAt d 16 4) 0 24) ∧ regs t [a + 4, a + 0x14]) ∧
      (owned = true → link = true → rfld st (a + 4) 20 5 < 16 → dsSp d 0 = 0 → dsAddr d 0 % 32 = 0 → leAt d 8 20 = 0 →
        ∃ t, exec (.pumpDescriptorFetched n d) st = .next t ∧ status t 2 ∧ rfld t (a + 4) 20 5 = rfld st (a + 4) 20 5 + 1 ∧
        pmpHead t n.val = dsAddr d 0 ∧ t.out = st.out ++ [.hostRead (dsAddr d 0) 32] ∧ (pumpOf t n.val).fetch = true ∧
        regs t [a + 4, a + 8, a + 0xC])) ∧
    (state = 2 → p.desc ≠ [] → p.fetch = false → p.want = 0 → rbit st (a + 4) 25 = false →
      (∀ m, m < 64 → pmpReady st m = true → dist n.val ≤ dist m) →
      let c := burstLen p.desc (dsCount p.desc - p.moved)
      exec (.pumpBurst n) st = .next { pump { p with want := c } with
        pumpLast := n.val,
        out := if dsSp p.desc 0 = 0 then st.out ++ (burstReads p.desc p.moved c).map (fun x => Out.hostRead x.1 x.2) else st.out }) ∧
    (pmpReady st n.val = false ∨ (∃ m, m < 64 ∧ pmpReady st m = true ∧ dist m < dist n.val) → exec (.pumpBurst n) st = .next st) ∧
    (∀ y, state = 2 → rbit st (a + 4) 28 = false → rbit st (a + 4) 25 = false → p.fetch = false → p.want = 1 → p.moved = 0 → dsSp p.desc 0 = 0 → dsSp p.desc 8 = 1 →
      dsSfmt p.desc = 9 → dsDfmt p.desc = 0 → dsCount p.desc = 1 → dsHcirc p.desc = 0 → dsSwp p.desc = 0 → dsAddr p.desc 0 % 8 = 0 →
      dsAddr p.desc 8 = y → y < 0x800000 → cisDown st (y / 65536) = false → cisOwner st (y / 65536) = (if 60 ≤ n.val then 5 else 4) →
      dsIrq p.desc = false → st.mtr.hist = [] →
      ∃ t, exec (.pumpReadCompletion n bytes [] lat) st = .next t ∧ t.cells = st.cells ∧ t.flt = st.flt ∧
        (∀ x, cisWord t x = if x = y then BitVec.ofNat 72 (leAt bytes 0 9) else cisWord st x) ∧
        (if dsLand p.desc then rbit t (a + 4) 25 = true ∧ status t 2 ∧ t.out = st.out ∧ pumpOf t n.val = { p with want := 0, moved := 1 } ∧
          rget t (a + 0x14) = 0 ∧ regs t [a + 4, a + 0x14] else ends t 0)) ∧
    (state = 2 → rbit st (a + 4) 25 = true → rbit st (a + 4) 28 = false → dsIrq p.desc = false → st.mtr.hist = [] →
      ∃ t, exec (.pumpLanding n lat) st = .next t ∧ ends t (rget st (a + 0x14)) ∧ t.mem = st.mem) ∧
    (rbit st (a + 4) 28 = false → rbit st (a + 4) 25 = false → exec (.pumpLanding n lat) st = .next st) ∧
    (rbit st (a + 4) 28 = true → p.fl = false → exec (.pumpLanding n lat) st = .next st) ∧
    (rbit st (a + 4) 28 = true → p.fl = true → p.enWait = false → exec (.pumpLanding n lat) st = .next (rput (pump {}) (a + 4) 28 1 0)) ∧
    (rbit st (a + 4) 28 = false → state ≠ 0 → state < 4 → p.fetch = true →
      (∃ t, exec (.pumpCompletionTimeout ⟨n, part⟩) st = .next t ∧ halted 1 head true t) ∧ exec (.pumpBusError ⟨n, part⟩ 2) st = .next st ∧
      ∀ cause, cause.val < 2 → ∃ t, exec (.pumpBusError ⟨n, part⟩ cause) st = .next t ∧ halted (cause.val + 2) head true t) ∧
    (rbit st (a + 4) 28 = false → state = 2 → p.fetch = false → 0 < p.want → dsSp p.desc 0 = 0 →
      let reads := burstReads p.desc p.moved p.want
      let addr := (reads.getD part.val (reads.headD (0, 0))).1
      (∃ t, exec (.pumpCompletionTimeout ⟨n, part⟩) st = .next t ∧ halted 1 addr false t) ∧ exec (.pumpBusError ⟨n, part⟩ 2) st = .next st ∧
      ∀ cause, cause.val < 2 → ∃ t, exec (.pumpBusError ⟨n, part⟩ cause) st = .next t ∧ halted (cause.val + 2) addr false t)

/-- Rings and states of the PCIe agents (R284–R294). A doorbell reads the new entries; one that is not reachable sets DBBAD. A returned entry
of an accepted command takes the lowest free handle slot and gets its acceptance record; a refused one gets its code; HEAD moves on. A
failed read puts the agent in ERROR. A finished completion is written, bytes 4–31 first, and the vector fires by COUNT; freed space lets the
next held one go; TIMER fires the vector; a masked vector becomes pending (R292). AWAKE empties the rings, SLEEP is acknowledged, DOWN discards. Once the agent's page is open. -/
def Obligations.AgentRingsWork : Prop :=
  ∀ (st : State) (n : Fin 4) (e : List Byte) (tail head : BitVec 12),
    let a := n.val
    let pg := pageA a
    let s := agSt st a
    let size := 2 ^ rfld st (pg + 0x18) 0 4
    let h := rfld st (pg + 0x20) 0 12
    let old := rfld st (pg + 0x1C) 0 12
    let regs := fun (t : State) (l : List Nat) => ∀ x, x ∉ l → rget t x = rget st x
    let entryAt := (rget64 st (pg + 0x10)).toNat + 64 * h
    let record := fun (b : List Byte) => [Out.hostWrite (entryAt + 56) (b.take 4), .hostWrite (entryAt + 60) (b.drop 4)]
    let moved := rput st (pg + 0x20) 0 12 ((h + 1) % size)
    let slot := freeSlot st a
    let gen := nextGen (mget 0 st.host.gens (a * 256 + slot))
    let op : CmdOp := { agent := a, handle := gen * 256 + slot, opc := leAt e 0 1, flags := leAt e 1 1, arg := leAt e 2 2, tag := leAt e 4 4,
                        params := slice e 8 40, at_ := st.btc.toNat }
    let masked := fun (v : Nat) => st.host.msixMask.getLsbD v
    let signal := fun (u : State) (v : Nat) => if masked v then
        { u with host := { u.host with msixPend := u.host.msixPend ||| BitVec.ofNat 64 (2 ^ v) } } else { u with out := u.out ++ [.msix v] }
    let qt := rfld st (pg + 0x38) 0 12
    let qsz := 2 ^ rfld st (pg + 0x30) 0 4
    let ph := rbit st (pg + 0x38) 31
    let qAt := (rget64 st (pg + 0x28)).toNat + 32 * qt
    let since := mget 0 st.host.unsig a + 1
    let fires := s = 1 ∧ (modCount st a ≤ since ∨ modTimer st a = 0)
    let wrote := fun (t : State) (c : Compl) => { t with ctl := st.ctl, out := st.out, host := st.host } = st ∧
      t.host.fin = finDrop a st.host.fin ∧ rfld t (pg + 0x38) 0 12 = (qt + 1) % qsz ∧
      rbit t (pg + 0x38) 31 = (if (qt + 1) % qsz = 0 then !ph else ph) ∧
      t.out = st.out ++ [.hostWrite (qAt + 4) ((complBytes c ph).drop 4), .hostWrite qAt ((complBytes c ph).take 4)]
        ++ (if fires ∧ masked (16 * a) = false then [.msix (16 * a)] else []) ∧
      t.host.msixPend = (if fires ∧ masked (16 * a) = true then st.host.msixPend ||| BitVec.ofNat 64 (2 ^ (16 * a)) else st.host.msixPend) ∧
      mget 0 t.host.unsig a = (if fires then 0 else since)
    pageOpen st a = true →
    ((s = 1 ∨ s = 2) → 
      (tail.toNat = h → exec (.commandDoorbell n tail) st = .next st) ∧
      (tail.toNat ≠ h → (size ≤ tail.toNat ∨ (tail.toNat + size - h) % size < (old + size - h) % size) →
        exec (.commandDoorbell n tail) st = .next (rsetBit st (pg + 8) 1)) ∧
      (tail.toNat ≠ h → tail.toNat < size → (old + size - h) % size ≤ (tail.toNat + size - h) % size →
        exec (.commandDoorbell n tail) st = .next { rput st (pg + 0x1C) 0 12 tail.toNat with
          out := st.out ++ (List.range ((tail.toNat + size - old) % size)).map (fun i =>
            .hostRead ((rget64 st (pg + 0x10)).toNat + 64 * ((old + i) % size)) 64) }) ∧
      (old ≠ h → e.length = 64 →
        (accCode st a e ≠ 0 → exec (.commandEntryRead n e) st = .next { moved with out := st.out ++ record (accRecord 0 (accCode st a e)) }) ∧
        (accCode st a e = 0 → leAt e 0 1 ≠ 0x10 → leAt e 0 1 ≠ 0x11 → leAt e 0 1 ≠ 0x51 → (∀ o ∈ st.host.ops, o.agent = a → o.handle ≠ op.handle) →
          exec (.commandEntryRead n e) st = .next { moved with
            out := st.out ++ record (accRecord op.handle 0),
            host := { st.host with ops := st.host.ops ++ [op], gens := mset 0 st.host.gens (a * 256 + slot) gen } })) ∧
      (old ≠ h → ∃ t, exec (.commandFetchError n) st = .next t ∧ Settles (signal (rput (rsetBit (rput st pg 0 2 3) (pg + 8) 0) pg 2 1 0)
        (16 * a + 2)) t)) ∧
    (∀ c, (s = 1 ∨ s = 3) → st.host.fin.find? (fun c => c.agent == a) = some c → ringHeld st a < qsz - 1 →
      ∃ t, exec (.completionWrite ⟨a, by omega⟩) st = .next t ∧ wrote t c ∧ regs t [pg + 0x38]) ∧
    (∀ c, (s = 1 ∨ s = 3) → st.host.fin = [c] → c.agent = a → ringHeld (rput st (pg + 0x34) 0 12 head.toNat) a < qsz - 1 →
      ∃ t, exec (.completionHeadAdvance n head) st = .next t ∧ wrote t c ∧ rfld t (pg + 0x34) 0 12 = head.toNat ∧ regs t [pg + 0x34, pg + 0x38]) ∧
    (s = 1 → 0 < mget 0 st.host.unsig a → exec (.moderationTimer ⟨a, by omega⟩) st = .next
      (signal { st with host := { st.host with unsig := mset 0 st.host.unsig a 0 } } (16 * a))) ∧
    (s = 0 → st.host.fin.find? (fun c => c.agent == a) = none →
      let ok := 4 ≤ rfld st (pg + 0x18) 0 4 ∧ rfld st (pg + 0x18) 0 4 ≤ 12 ∧ rfld st (pg + 0x10) 0 6 = 0 ∧ 4 ≤ rfld st (pg + 0x30) 0 4 ∧
        rfld st (pg + 0x30) 0 4 ≤ 12 ∧ rfld st (pg + 0x28) 0 5 = 0
      (ok → ∃ u t, exec (.agentAwake n) st = .next t ∧ Settles u t ∧ { u with ctl := st.ctl } = st ∧ rfld u pg 0 2 = 1 ∧
        rfld u (pg + 0x1C) 0 12 = 0 ∧ rfld u (pg + 0x20) 0 12 = 0 ∧ rfld u (pg + 0x34) 0 12 = 0 ∧ rfld u (pg + 0x38) 0 12 = 0 ∧
        rbit u (pg + 0x38) 31 = true ∧ regs u [pg, pg + 0x1C, pg + 0x20, pg + 0x34, pg + 0x38]) ∧
      (¬ ok → exec (.agentAwake n) st = .next (rsetBit st (pg + 8) 4))) ∧
    (s = 1 → mget 0 st.host.unsig a = 0 → st.host.fin.find? (fun c => c.agent == a) = none →
      ∃ t, exec (.agentSleep n) st = .next t ∧ Settles (rput (rput st pg 0 2 2) pg 2 1 1) t) ∧
    (evStack st a = [] → ∃ u t, exec (.agentDown n) st = .next t ∧ Settles u t ∧ { u with ctl := st.ctl, host := st.host } = st ∧ rfld u pg 0 2 = 0 ∧
      rbit u pg 2 = false ∧ rbit u 0x308008 a = false ∧ regs u [pg, 0x308008] ∧ u.host.fin = st.host.fin.filter (fun c => c.agent != a) ∧
      u.host.ops = st.host.ops.map (fun o => if o.agent = a then { o with lost := true } else o) ∧ mget 0 u.host.unsig a = 0) ∧
    (s = 2 → mget false st.host.wakeDue a = true → ∃ t, exec (.sleepWakeTimer ⟨a, by omega⟩) st = .next t ∧ rbit t 0x308008 a = true ∧
      (st.host.pmeEn = true → Out.pme a ∈ t.out) ∧ t.cells = st.cells ∧ t.mem = st.mem ∧ t.host.fin = st.host.fin) ∧
    ((s ≠ 2 ∨ mget false st.host.wakeDue a = false) → exec (.sleepWakeTimer ⟨a, by omega⟩) st = .next st)

/-- BAR2 windows and the PCIe link (R283, R295, R304, R409). Window byte 16w of agent a is byte 0 of fabric word WIN × 0x4_0000 + w. Of a
cistern word that stands, a 16-byte read gives bytes 0–8 and zeros; a refused access gives zeros, or is dropped, and sets B2ERR; a whole-word
write by the owner's leave stores it. A read not served in 20 µs gives zeros. Before READY and in recovery nothing is served. PERST_N and link
down take AG0–AG3 down and leave AG4–AG7; link up reports generation and width, and sends the pending messages of the vectors that the host
does not mask (R292). That PERST_N masks every vector is the model's reading (log entry 60). -/
def Obligations.WindowsAndLink : Prop :=
  ∀ (st : State) (a : Fin 4) (w : Fin 0x40000) (off : BitVec 22) (d : List Byte) (gen : Fin 16) (width : Fin 32) (pme : Bool) (mask : BitVec 64) (len : Fin 4097),
    let pg := pageA a.val
    let y := rfld st (pg + 0x40) 18 14 * 0x40000 + w.val
    let off16 := BitVec.ofNat 22 (16 * w.val)
    let opened := rbit st 0x440000 26 = true ∧ rfld st 0x440000 30 2 ≠ 3
    let refused := rset st (pg + 8) (rget st (pg + 8) ||| 4)
    let zeros := fun (k : Nat) => List.replicate k (0 : Byte)
    let puts := fun (t : State) (b : List Byte) => { t with out := t.out ++ [.bar2Data b] }
    let downed := fun (t : State) => (∀ k, k < 4 → agSt t k = 0 ∧ rbit t (pageA k) 2 = false ∧ mget 0 t.host.unsig k = 0) ∧
      rbit t 0x308004 31 = false ∧ (∀ k, 4 ≤ k → k < 8 → agSt t k = agSt st k) ∧
      t.host.fin = st.host.fin.filter (fun c => decide (4 ≤ c.agent)) ∧ t.host.ops.length = st.host.ops.length ∧
      (∀ o ∈ t.host.ops, o.agent < 4 → o.lost = true) ∧
      (∀ x, ¬ evReg x → x ≠ 0x308004 → (∀ k, k < 4 → x ≠ pageA k ∧ x ≠ evAgErrA k) → rget t x = rget st x) ∧
      t.cells = st.cells ∧ t.mem = st.mem ∧ t.cmt = st.cmt ∧ t.load = st.load
    (opened →
      (y < 0x800000 →
        (cisDown st (y / 65536) = false →
          exec (.bar2Read a off16 16 []) st = .next (puts st (leBytes 9 (cisWord st y).toNat ++ zeros 7)) ∧
          (d.length = 16 → cisOwner st (y / 65536) = 6 → ∃ t, exec (.bar2Write a off16 d []) st = .next t ∧
            { t with mem := { t.mem with cist := st.mem.cist } } = st ∧
            ∀ x, cisWord t x = if x = y then BitVec.ofNat 72 (leAt d 0 9) else cisWord st x) ∧
          (d.length = 16 → cisOwner st (y / 65536) ≠ 6 → ∃ v, exec (.bar2Write a off16 d []) st = .next (rset v (pg + 8) (rget v (pg + 8) ||| 4)) ∧
            Settles (rset st (cisErrA (y / 65536)) (rget st (cisErrA (y / 65536)) ||| 8)) v)) ∧
        (cisDown st (y / 65536) = true →
          exec (.bar2Read a off16 16 []) st = .next (puts refused (zeros 16)) ∧
          (d.length = 16 → exec (.bar2Write a off16 d []) st = .next refused))) ∧
      exec (.bar2ReadTimeout a len) st = .next (puts refused (zeros len.val))) ∧
    (¬ opened → exec (.bar2Read a off16 16 []) st = .next (puts st (zeros 16)) ∧ exec (.bar2Write a off d []) st = .next st ∧
      exec (.bar2ReadTimeout a len) st = .next (puts st (zeros len.val))) ∧
    (∃ t, exec .perst st = .next t ∧ downed t ∧ t.host.pmeEn = false ∧ t.host.msixMask = BitVec.allOnes 64) ∧
    (∃ t, exec .pcieLinkDown st = .next t ∧ downed t ∧ t.host.pmeEn = st.host.pmeEn ∧ t.host.msixMask = st.host.msixMask) ∧
    exec (.pcieLinkUp gen width ⟨pme, mask⟩) st = .next { rset st 0x308004 (BitVec.ofNat 32 (2 ^ 31 + width.val * 16 + gen.val)) with
      host := { st.host with pmeEn := pme, msixMask := mask, msixPend := st.host.msixPend &&& mask },
      out := st.out ++ ((List.range 64).filter (st.host.msixPend &&& ~~~mask).getLsbD).map Out.msix }

/-- Control sessions (R296–R300, R303, R310). A datagram of a closed session, from a port, address or UDP port the session does not name, with
a wrong MAC or a counter not above the last, is dropped and counted, one on a port whose link is down ignored. A COMMAND entry with a new CID is taken once and its record sent in ACCEPT;
with a CID of the last 256 it gets its old record, with another old CID nothing. CREDIT moves the window. STATE is answered with the state in
force. IMAGE_DATA at the next offset is kept, and every one is answered. Uncredited completions, WAKE and EVENT are sent again, EVENT at most
once a millisecond. What is sent goes to the peer and is numbered while its port can send; the count of base ticks in a millisecond and
the numbering are the model's (log entries 77, 78). -/
def Obligations.SessionsWork : Prop :=
  ∀ (st : State) (n : Fin 4) (p : Peer) (b : List Byte),
    let a := 4 + n.val
    let reg := nsA a
    let s := nsOf st a
    let len := leAt b 6 2
    let body := (b.drop 16).take len
    let closed := rfld st reg 30 2 = 0
    let bad := closed ∨ nbit (rfld st reg 26 2) p.port = false ∨ prefixEq s.prefixLen s.peer p.addr = false ∨ p.dst ≠ rfld st reg 0 16 ∨
      (rfld st reg 30 2 ≠ 1 ∧ p.udp ≠ rfld st reg 0 16) ∨
      hmacSha256 s.key (b.take (16 + len)) ≠ b.drop (16 + len) ∨ leAt b 8 8 ≤ s.rxSeq
    let dropped := rput st reg 16 8 (min 255 (rfld st reg 16 8 + 1))
    let up := netUp st p.port = true
    let good := fun (typ : Nat) => up ∧ nsAdmit st a p b = true ∧ leAt b 3 1 = typ
    let got : NsSession := { s with rxSeq := leAt b 8 8, peerAddr := p.addr, peerIf := p.port, peerUdp := p.udp }
    let ns := fun (t : State) (q : NsSession) => { t with host := { t.host with ns := mset {} t.host.ns a q } }
    let sends := fun (u : State) (typ : Nat) (x : List Byte) =>
      let q := nsOf u a
      let m := nsPayload a typ (q.txSeq + 1) q.key x
      let port := nsPort u a
      let hdr := udpHdr u port none (nsDst u a) (rfld u (netA port) 13 6) (rfld u reg 0 16) (nsUdp u a) m
      if nsOpen u a then { ns u { q with txSeq := q.txSeq + 1 } with out := u.out ++ [.datagram a typ (q.txSeq + 1) port hdr m] } else u
    let heard := ns st got
    let calls := agSt st a = 2 ∧ (rbit st 0x308008 a = true ∨ ∃ k ∈ evPending st, evHeld st k = true ∧ nbit (evMask st k) a = true)
    let recent := match s.evtAt with
      | some t => decide (st.btc.toNat < t + evtGap)
      | none => false
    let awake := agSt st a = 1 ∨ agSt st a = 2
    let cid := leAt body 48 4
    let slot := freeSlot st a
    let gen := nextGen (mget 0 st.host.gens (a * 256 + slot))
    let op : CmdOp := { agent := a, handle := gen * 256 + slot, opc := leAt body 0 1, flags := leAt body 1 1, arg := leAt body 2 2,
                        tag := leAt body 4 4, params := slice body 8 40, at_ := st.btc.toNat }
    (¬ up → exec (.nsCommand n p b) st = .next st ∧ exec (.credit n p b) st = .next st ∧ exec (.state n p b) st = .next st ∧
      exec (.imageData n p b) st = .next st) ∧
    (up → bad → exec (.nsCommand n p b) st = .next dropped ∧ exec (.credit n p b) st = .next dropped ∧ exec (.state n p b) st = .next dropped ∧
      exec (.imageData n p b) st = .next dropped) ∧
    (good 1 → body.length = 64 → awake →
      (∀ old, s.cids.find? (fun x => x.1 == cid) = some (cid, old) → cid ≤ s.cidHigh →
        exec (.nsCommand n p b) st = .next (sends heard 2 (leBytes 4 cid ++ old))) ∧
      (s.cids.find? (fun x => x.1 == cid) = none → cid ≤ s.cidHigh → exec (.nsCommand n p b) st = .next heard) ∧
      (s.cidHigh < cid → accCode heard a body ≠ 0 →
        exec (.nsCommand n p b) st = .next (sends heard 2 (leBytes 4 cid ++ accRecord 0 (accCode heard a body)))) ∧
      (s.cidHigh < cid → accCode heard a body = 0 → leAt body 0 1 ≠ 0x10 → leAt body 0 1 ≠ 0x11 → leAt body 0 1 ≠ 0x51 →
        (∀ o ∈ st.host.ops, o.agent = a → o.handle ≠ op.handle) → exec (.nsCommand n p b) st = .next (sends
          (ns { st with host := { st.host with ops := st.host.ops ++ [op], gens := mset 0 st.host.gens (a * 256 + slot) gen } }
            { got with cidHigh := cid, cids := (s.cids ++ [(cid, accRecord op.handle 0)]).drop (s.cids.length + 1 - 256) })
          2 (leBytes 4 cid ++ accRecord op.handle 0)))) ∧
    (good 4 → body.length = 8 → s.credited ≤ leAt body 0 4 → leAt body 0 4 ≤ s.cseq → 1 ≤ leAt body 4 4 → leAt body 4 4 ≤ 256 →
      (∀ c ∈ st.host.fin, c.agent ≠ a) →
      let left := s.sent.filter (fun x => decide (leAt body 0 4 < x.1))
      exec (.credit n p b) st = .next (ns st { got with credited := leAt body 0 4, window := leAt body 4 4, sent := left })) ∧
    (∀ v, good 5 → body = [v] → (v = 1 ∨ v = 2 ∧ agSt st a = 1) → nsOpen heard a = true → (∀ c ∈ st.host.fin, c.agent ≠ a) →
      ∃ t q hdr, exec (.state n p b) st = .next t ∧ agSt t a = v.toNat ∧
      t.out.getLast? = some (.datagram a 6 q p.port hdr (nsPayload a 6 q s.key [v])) ∧ (∀ x, x ≠ reg → ¬ evReg x → rget t x = rget st x) ∧
      (v = 1 → agSt st a ≠ 1 → rbit t 0x308008 a = false) ∧ t.cells = st.cells ∧ t.mem = st.mem ∧ t.host.ops = st.host.ops ∧ t.host.fin = st.host.fin) ∧
    (∀ r, good 9 → st.load.run = some r → r.net = true → r.agent = a → r.handle = leAt body 0 2 → 8 < body.length → body.length ≤ 1032 →
      let now := r.bytes.length + r.feed.length
      let data := (body.drop 8).take (r.len - now)
      let next := if leAt body 4 4 = now then now + data.length else now
      exec (.imageData n p b) st = .next (sends (if leAt body 4 4 = now then { heard with load := { st.load with run := some { r with feed := r.feed ++ data } } } else heard)
        10 (leBytes 2 r.handle ++ leBytes 2 0 ++ leBytes 4 next))) ∧
    (s.sent ≠ [] → s.sent.length ≤ 35 → exec (.completionResendTimer n) st = .next
      (sends st 3 (s.sent.flatMap (fun c => leBytes 4 c.1 ++ complBytes c.2 false)))) ∧
    (calls → exec (.wakeRepeatTimer n) st = .next (sends st 7 [])) ∧
    ((evPending st).any (evClaimable st a) = true → exec (.eventRepeatTimer n) st = .next
      (if recent = true then ns st { s with evtDue := true } else sends (ns st { s with evtAt := some st.btc.toNat, evtDue := false }) 8 [])) ∧
    (s.sent = [] → exec (.completionResendTimer n) st = .next st) ∧
    (¬ calls → exec (.wakeRepeatTimer n) st = .next st) ∧
    ((evPending st).any (evClaimable st a) = false → exec (.eventRepeatTimer n) st = .next st)

/-- The event controller (R305–R321). A pin's transitions are counted modulo 256 and its level drives source 64 + p under SENSE. A claim gives
the most urgent claimable source, which is then in service for the agent, or 0x3FF, with FULL at depth 8. EOI ends the service of a source the
agent holds, else sets BADEOI. A raised software source that is enabled is pending, and an awake agent of its mask whose vector is not masked
is signalled. EN = 0
withdraws, EN = 1 latches a level that holds; MASK and SENSE take the value, a reserved SENSE changes nothing; STORM clears; the
window ends every delivery count. No more changes than the controller's own. -/
def Obligations.EventControllerWorks : Prop :=
  ∀ (st : State) (p : Fin 16) (level : Bool) (edges : Nat) (a : Fin 8) (src : BitVec 10) (n : Fin 512) (en : Bool) (mask : BitVec 8)
    (sense split : Fin 8),
    let pin := 0x320100 + 4 * p.val
    let ps := evSrcA (64 + p.val)
    let err := evAgErrA a.val
    let free := fun (t : State) (k : Nat) => rbit t (evSrcA k) 31 = true ∧ rbit t (evSrcA k) 30 = false ∧ rfld t (evLimA k) 0 16 = 0
    let real := n.val ≤ 174 ∨ 448 ≤ n.val
    let reg := evSrcA n.val
    let keeps := fun (t : State) (l : List (Nat × Nat)) => ∀ f ∈ l, rfld t reg f.1 f.2 = rfld st reg f.1 f.2
    let moved := rput (rput st pin 16 1 (b2n level)) pin 0 8 (rfld st pin 0 8 + edges)
    let was := rbit st pin 16
    let occurs := match rfld st ps 0 3 with
      | 0 => level
      | 1 => !level
      | 2 => !mget false st.ev.sig (64 + p.val) && level
      | 3 => mget false st.ev.sig (64 + p.val) && !level
      | _ => mget false st.ev.sig (64 + p.val) != level
    let signal : State := { moved with ev := { st.ev with sig := mset false st.ev.sig (64 + p.val) level } }
    (was = level → exec (.eventPinChange p level edges) st = .next moved) ∧
    (was ≠ level → occurs = false → exec (.eventPinChange p level edges) st = .next signal) ∧
    (was ≠ level → occurs = true → ∃ t, exec (.eventPinChange p level edges) st = .next t ∧ Settles signal t ∧
      (free st (64 + p.val) → evPend t (64 + p.val) = true)) ∧
    (∀ k : Fin 512, evClaimable st a.val k.val = true →
      (∀ j, j ≠ k.val → evClaimable st a.val j = true → evPri st k.val < evPri st j ∨ (evPri st k.val = evPri st j ∧ k.val < j)) →
      ∃ t, exec (.evcClaimRead a) st = .next t ∧ Settles st t ∧ t.out.getLast? = some (.regData (BitVec.ofNat 32 k.val)) ∧
        evInsvc t k.val = true ∧ rfld t (evSrcA k.val) 25 3 = a.val ∧ (k.val ≠ 99 → evPend t k.val = false) ∧
        evStack t a.val = k.val :: evStack st a.val ∧ ∀ b, b ≠ a.val → evStack t b = evStack st b) ∧
    ((∀ k, evClaimable st a.val k = false) → 
      exec (.evcClaimRead a) st = .next { (if 8 ≤ (evStack st a.val).length ∧ (evPending st).any (evOffered st a.val) = true then
        rset st err (rget st err ||| 2) else st) with out := st.out ++ [.regData 0x3FF] }) ∧
    (src.toNat ∈ evStack st a.val → src.toNat < 512 → ∃ t, exec (.evcEoi a src) st = .next t ∧ Settles st t ∧ evInsvc t src.toNat = false ∧
      evStack t a.val = (evStack st a.val).filter (fun k => k != src.toNat) ∧ ∀ b, b ≠ a.val → evStack t b = evStack st b) ∧
    (src.toNat ∉ evStack st a.val → exec (.evcEoi a src) st = .next (rset st err (rget st err ||| 1))) ∧
    (448 ≤ src.toNat → src.toNat ≤ 511 → ∃ t, exec (.evcRaise src) st = .next t ∧ Settles st t ∧
      (free st src.toNat → evPend t src.toNat = true ∧ (∀ b, b < 4 → agSt st b = 1 → nbit (evMask st src.toNat) b = true → evStack st b = [] →
        evInsvc st src.toNat = false → src.toNat ∉ mget [] st.ev.claimable b → st.host.msixMask.getLsbD (16 * b + 1) = false → Out.msix (16 * b + 1) ∈ t.out)) ∧
      (rbit st (evSrcA src.toNat) 31 = false → evPend st src.toNat = false → evPend t src.toNat = false)) ∧
    ((src.toNat < 448 ∨ 511 < src.toNat) → exec (.evcRaise src) st = .next st) ∧
    (¬ real → exec (.evcSrcEnWrite n en) st = .next st ∧ exec (.evcSrcMaskWrite n mask) st = .next st ∧
      exec (.evcSrcSenseWrite n sense) st = .next st ∧ exec (.evcStormClear n) st = .next st) ∧
    (real →
      (∃ t, exec (.evcSrcEnWrite n en) st = .next t ∧ Settles st t ∧ rbit t reg 31 = en ∧ keeps t [(0, 3), (8, 8), (16, 8), (25, 4)] ∧
        (en = false → evPend t n.val = false) ∧
        (en = true → evLevel n.val = true → evLevelCond st n.val = true → evInsvc st n.val = false → rbit st reg 30 = false →
          rfld st (evLimA n.val) 0 16 = 0 → evPend t n.val = true)) ∧
      (∃ t, exec (.evcSrcMaskWrite n mask) st = .next t ∧ Settles st t ∧ rfld t reg 16 8 = mask.toNat ∧ keeps t [(0, 3), (8, 8), (25, 4), (31, 1)]) ∧
      (∃ t, exec (.evcSrcSenseWrite n sense) st = .next t ∧ Settles st t ∧ keeps t [(8, 8), (16, 8), (25, 4), (31, 1)] ∧
        rfld t reg 0 3 = if 4 < sense.val then rfld st reg 0 3 else sense.val) ∧
      (∃ t, exec (.evcStormClear n) st = .next t ∧ Settles st t ∧ keeps t [(0, 3), (8, 8), (16, 8), (25, 4), (31, 1)] ∧
        (rfld st (evLimA n.val) 0 16 = 0 → rbit t reg 30 = false))) ∧
    (∃ t, exec (.evcCfgSplitWrite split) st = .next t ∧ Settles (rput st 0x320000 0 3 split.val) t) ∧
    (∃ t, exec .stormWindow st = .next t ∧ { t with ctl := st.ctl } = st ∧
      (∀ k : Fin 512, rget t (evLimA k.val) = rget st (evLimA k.val) &&& 0xFFFF) ∧
      ∀ x, (x < 0x321800 ∨ 0x322000 ≤ x) → rget t x = rget st x) ∧
    exec (.evcPinClr p) st = .next (rset st pin (rget st pin &&& 0xFFFFFF00))

/-- Frames and links (R322, R323, R331, R332, R338, R342, R426). A frame with a wrong check sequence counts in FCSE, one that is too long, for no
flow, for nobody or over the rate in DROP, one of the wrong length in FMT, an early one in EARLY. Of a packet for a live flow, late indices are counted and not written, marked
ones stay, the others are written into the flow buffer and marked. A control frame that asks is answered from the port's
addresses and groups. Link up and down show in NET_PORT_STAT and on
source 156 + p, down is logged and counted. A group's timeout counts once a member has left wait. No network fault is open. -/
def Obligations.NetworkFramesAndLinks : Prop :=
  ∀ (st : State) (p : Fin 2) (fr : MediaFrame) (cyc : Fin 25600) (r : Rtp) (n : Nat) (fcs excess : Bool) (head body : List Byte)
    (speed : Fin 3) (g : Fin 64),
    let na := netA p.val
    let up := rbit st na 31 = true ∧ rbit st (na + 4) 31 = true
    let takers := fun (x : Rtp) => st.port.live.filterMap (fun e => if e.1 / 4096 = 1 ∧ flowTakes e.2 p.val fr x then some (e.1 % 4096) else none)
    let b := portOf st (0x1000 + n)
    let f := flowOf st n
    let d := flowD st n
    let i0 := rtpIndex b r.ts d
    let ps := fcPs b
    let z := encBytes (fcEnc b)
    let size := 2 ^ fcJbk b
    let half := fun (t : State) (i : Int) (c : Nat) =>
      let h := jHalf b i c
      if h % 2 = 0 then (cisWord t (fcJbuf b + h / 2)).hi else (cisWord t (fcJbuf b + h / 2)).lo
    let media := exec (.mediaPacketReceived p fr cyc []) st
    let fits := frameFits st p.val (udpFrameLen fr.dst fr.payload)
    let bytes := head ++ body
    let asks := frameFits st p.val (bytes.length + 4) = true ∧ ctlAsks st p.val bytes = true ∧ excess = false
    let control := exec (.controlFrameReceived p fcs excess head body) st
    let counts := fun (lo : Nat) => rput st (na + 0x28) lo 16 (min 65535 (rfld st (na + 0x28) lo 16 + 1))
    let flow := fun (q : FlowRun) => { st with net := { st.net with flow := mset {} st.net.flow n q } }
    let sig := fun (t : State) (v : Bool) => { t with ev := { t.ev with sig := mset false t.ev.sig (156 + p.val) v } }
    fltOpen st 9 0x6000 = false → fltOpen st 9 0x6001 = false →
    (¬ up → media = .next st ∧ control = .next st) ∧
    (up → fr.fcs = false → media = .next (counts 0)) ∧
    (up → fr.fcs = true → fits = false → media = .next (counts 16)) ∧
    (up → fr.fcs = true → fits = true → (fr.udp = false ∨ fr.whole = false ∨ rtpOf fr.payload = none ∨ ∀ x, rtpOf fr.payload = some x → takers x = []) →
      media = .next (counts 16)) ∧
    (up → fr.fcs = true → fits = true → fr.udp = true → fr.whole = true → rtpOf fr.payload = some r → takers r = [n] →
      (r.body.length ≠ b.nch * ps * z → f.fmt < 255 → media = .next (flow { f with fmt := f.fmt + 1 })) ∧
      (r.body.length = b.nch * ps * z → d + size ≤ i0 + ps - 1 → f.state ≠ 4 → f.early < 65535 → media = .next (flow { f with early := f.early + 1 })) ∧
      (r.body.length = b.nch * ps * z → i0 + ps - 1 < d + size → f.state = 2 → st.mtr.hist = [] → f.late + ps ≤ 65535 →
        fcJbuf b + b.nch * size ≤ 0x800000 → (∀ k, k < 128 → cisDown st k = false ∧ cisOwner st k = 2) →
        ∃ t, media = .next t ∧ t.ctl = st.ctl ∧ t.cells = st.cells ∧ t.out = st.out ∧ t.flt = st.flt ∧ (∀ q, q ≠ n → flowOf t q = flowOf st q) ∧
        (∀ j k, j < ps → k < b.nch → d < i0 + j → half t (i0 + j) k = if mget false f.mark (jSlot b (i0 + j)) = true then half st (i0 + j) k
          else wireHalf (fcEnc b) (slice r.body ((j * b.nch + k) * z) z)) ∧
        (∀ j, j < ps → d < i0 + j → mget false (flowOf t n).mark (jSlot b (i0 + j)) = true) ∧
        (flowOf t n).late = f.late + min ps (d - i0 + 1).toNat ∧ (flowOf t n).state = 2 ∧
        (d < i0 → (flowOf t n).minm = min f.minm (min 0xFFFFF (cyclesNs st ((i0 - d) * (domC (domOf st b.cl) : Int) - cyc.val) / 1000).toNat)) ∧
        ∀ y, (y < fcJbuf b ∨ fcJbuf b + (b.nch * size + 1) / 2 ≤ y) → cisWord t y = cisWord st y)) ∧
    (up → fcs = false → control = .next (counts 0)) ∧
    (up → fcs = true → ¬ asks → control = .next (counts 16)) ∧
    (up → fcs = true → asks → control = .next (if rbit st 0x440000 29 = true then
      { st with out := st.out ++ [.frame p.val (Config.controlReply (ownMac st p.val) (ownIp4 st p.val) (ownIp6 st p.val)
        (netGroups st p.val true ++ netGroups st p.val false) bytes)] } else st)) ∧
    (rbit st na 31 = false → exec (.networkLinkUp p speed) st = .next st) ∧
    (rbit st na 31 = true → ∃ t, exec (.networkLinkUp p speed) st = .next t ∧ Settles (sig (rput (rput st (na + 4) 31 1 1) (na + 4) 29 2 speed.val) false) t) ∧
    (rbit st 0x340500 31 = false → rbit st (na + 4) 31 = false → exec (.networkLinkDown p cyc) st = .next st) ∧
    (rbit st 0x340500 31 = false → rbit st (na + 4) 31 = true → ∃ v t, exec (.networkLinkDown p cyc) st = .next t ∧
      Detects (rput (rput st (na + 4) 31 1 0) (na + 4) 0 16 (min 65535 (rfld st (na + 4) 0 16 + 1))) v
        { cls := 9, sev := 2, unit := 0x6000 + p.val, btc := tickEndBtc st 1, detail := 0, cyc := some cyc.val } ∧ Settles (sig v true) t) ∧
    (let a := mget {} st.net.alg g.val
     let due := { st with net := { st.net with alg := mset {} st.net.alg g.val { a with due := true } } }
     exec (.alignGroupTimeout g) st = .next (if rfld st (0x340300 + 4 * g.val) 0 16 ≠ 0 ∧ a.started = false ∧ (algMembers st g.val).any (memberLeft st) = true
       then due else st))

/-- Precision time (R339–R341). Messages of another domain or transport, of no selected master, or at a rate that is not accepted change
nothing. A Sync, or a two-step one with its Follow_Up, gives the offset from master: it steps the clock by one over 1 ms while acquiring, keeps a locked servo or, at the fourth bad one,
restarts acquisition, ends a holdover it agrees with, and at the 16th good one sets MOFF and, with the boundary within 1 µs, locks with MAPV.
Responses give the path delay. Announces feed the choice of master; their absence puts a locked servo into holdover. The intervals send. -/
def Obligations.PrecisionTimeServo : Prop :=
  ∀ (st : State) (p : Fin 2) (m : PtpMsg) (rx tx bnd : Nat) (align : Int),
    let k := p.val
    let na := netA k
    let x := mget {} st.net.ptp k
    let heard := rbit st 0x340500 31 = true ∧ rbit st na 31 = true ∧ rbit st (na + 4) 31 = true ∧ m.domain = rfld st 0x340500 16 8 ∧
      isMapped m.addr = !rbit st 0x340500 27
    let mine := heard ∧ st.net.master = some (k, m.src)
    let ns := fun (v : Nat) => (v : Int) * 65536
    let rxT := ns (rx + rfld st (na + 0x24) 0 16)
    let txT := ns (tx + rfld st (na + 0x24) 16 16)
    let port := fun (t : State) (y : PtpPort) => { t with net := { t.net with ptp := mset {} t.net.ptp k y } }
    let th := 4 * ns (rfld st 0x340500 8 8 * 100)
    let p2p := rbit st 0x340500 28 = true
    let pst := rfld st 0x340504 (if k = 0 then 20 else 17) 3
    let en := rbit st 0x340500 31 = true
    let back := if m.uni = true then some m.addr else none
    let frames := fun (t : State) (peer : Option (List Byte)) (l : List (Nat × List Byte)) => { t with out := t.out ++ l.filterMap (fun y =>
      let dst := peer.getD (ptpGroup st y.1)
      let udp := if y.1 < 8 then 319 else 320
      if netSends st k dst = true then some (.ptp k (udpHdr st k none dst (rfld st na 19 6) udp udp y.2) y.2) else none) }
    let sees := fun (t1 t2 : Int) (o : Res) =>
      let delay := x.delay.getD 0
      let off := t2 - t1 - delay
      ∃ t, o = .next t ∧ rget t 0x340508 = BitVec.ofInt 32 (off / 65536) ∧ rget t 0x34050C = BitVec.ofInt 32 align ∧
        (mget {} t.net.ptp k).t1 = t1 ∧ (mget {} t.net.ptp k).t2 = t2 ∧ t.cells = st.cells ∧ t.mem = st.mem ∧ t.clk.p = st.clk.p ∧
        (servo st = 3 → (off.natAbs : Int) ≤ th → servo t = 3 ∧ mapValid t = mapValid st ∧ t.net.bad = 0 ∧ t.net.steps = st.net.steps) ∧
        (servo st = 3 → th < (off.natAbs : Int) → (if st.net.bad < 3 then servo t = 3 ∧ t.net.bad = st.net.bad + 1 else servo t = 2)) ∧
        (servo st = 4 → x.delay ≠ none → (off.natAbs : Int) ≤ th → servo t = 3) ∧
        (servo st = 2 → st.net.stepped = false → t.net.stepped = true ∧
          t.net.steps = if 1000000 * 65536 < off.natAbs then st.net.steps - off / 65536 else st.net.steps) ∧
        (servo st = 2 → x.delay ≠ none → st.net.good = 15 → 4 * (off.natAbs : Int) < th → refSel st = 0 → st.net.moffSet = false →
          moffOf t = ((2 * bnd * fbOf st + 10 ^ 9) / (2 * 10 ^ 9) + 2 ^ 64 - (st.btc.toNat + 1) % 2 ^ 64) % 2 ^ 64 ∧
          rfld t 0x340504 0 16 = (if moffOf t = moffOf st then rfld st 0x340504 0 16 else (rfld st 0x340504 0 16 + 1) % 65536) ∧
          (align.natAbs < 1000000 → servo t = 3 ∧ mapValid t = true) ∧ (1000000 ≤ align.natAbs → servo t = 2))
    (¬ mine → exec (.ptpSync p m rx bnd align) st = .next st ∧ exec (.ptpFollowUp p m bnd align) st = .next st) ∧
    ((m.logInt < -7 ∨ 1 < m.logInt) → exec (.ptpSync p m rx bnd align) st = .next st) ∧
    (mine → -7 ≤ m.logInt → m.logInt ≤ 1 → m.twoStep = true → exec (.ptpSync p m rx bnd align) st = .next
      (port (rput st 0x340520 24 8 (m.logInt % 256).toNat) { x with sync := some (m.seq, m.src, rxT, m.corr) })) ∧
    (mine → -7 ≤ m.logInt → m.logInt ≤ 1 → m.twoStep = false → sees (ns m.time + m.corr) rxT (exec (.ptpSync p m rx bnd align) st)) ∧
    (∀ c r, mine → x.sync = some (m.seq, m.src, r, c) → sees (ns m.time + m.corr + c) r (exec (.ptpFollowUp p m bnd align) st)) ∧
    ((¬ heard ∨ m.logInt < -3 ∨ 3 < m.logInt) → exec (.ptpAnnounce p m) st = .next st) ∧
    (heard → -3 ≤ m.logInt → m.logInt ≤ 3 → ∃ t, exec (.ptpAnnounce p m) st = .next t ∧ rfld t 0x340520 16 8 = (m.logInt % 256).toNat ∧
      (∀ f ∈ x.foreign, f.src ≠ m.src → f ∈ (mget {} t.net.ptp k).foreign) ∧
      (∃ f ∈ (mget {} t.net.ptp k).foreign, f.src = m.src ∧ f.gm = m.gm ∧ f.p1 = m.p1 ∧ f.steps = m.steps ∧ f.addr = m.addr) ∧
      (∀ f, x.foreign = [f] → f.src = m.src → 1 ≤ f.count → m.steps < 255 → rbit st 0x340500 30 = false → st.net.cur = k → st.net.master = none →
        servo st = 1 → t.net.master = some (k, m.src) ∧ servo t = 2 ∧ rget64 t 0x340518 = BitVec.ofNat 64 m.gm)) ∧
    (rbit st 0x340500 31 = false → exec (.announceReceiptTimeout p) st = .next st) ∧
    (rbit st 0x340500 31 = true → rbit st 0x340500 30 = false → st.net.cur = k → (mget {} st.net.ptp (1 - k)).foreign = [] →
      ∃ t, exec (.announceReceiptTimeout p) st = .next t ∧ mget {} t.net.ptp k = {} ∧ t.net.master = none ∧ mapValid t = mapValid st ∧ t.net.cur = k ∧
      (servo st = 3 → st.net.master ≠ none → servo t = 4)) ∧
    ((¬ heard ∨ m.req ≠ ownId st k ∨ x.req = none) → exec (.ptpDelayResp p m rx) st = .next st) ∧
    (∀ left, heard → m.req = ownId st k → x.req = some (m.seq, left) →
      (p2p → exec (.ptpDelayResp p m rx) st = .next
        (port st { x with req := none, delay := some ((rxT - left - (ns m.time2 - ns m.time) - m.corr) / 2) })) ∧
      (¬ p2p → st.net.master = some (k, m.src) → exec (.ptpDelayResp p m rx) st = .next (port (rput st 0x340520 8 8 (m.logInt % 256).toNat)
        { x with req := none, delay := some ((x.t2 - x.t1 + (ns m.time - left) - m.corr) / 2) }))) ∧
    (¬ heard → exec (.ptpDelayReq p m rx tx) st = .next st) ∧
    (heard → p2p → exec (.ptpDelayReq p m rx tx) st = .next (frames st back
      [(3, ptpHeader st k 3 54 0x0200 m.seq 0 127 ++ ptpStamp rxT ++ beBytes 10 m.src),
       (10, ptpHeader st k 10 54 0 m.seq m.corr 127 ++ ptpStamp txT ++ beBytes 10 m.src)])) ∧
    (heard → ¬ p2p → exec (.ptpDelayReq p m rx tx) st = .next (if pst = 4 then
      frames st back [(9, ptpHeader st k 9 54 0 m.seq m.corr (ptpIntv st 8) ++ ptpStamp rxT ++ beBytes 10 m.src)] else st)) ∧
    (let live := en ∧ rbit st na 31 = true ∧ rbit st (na + 4) 31 = true ∧ rbit st 0x440000 29 = true
     let asks := if p2p then pst ≠ 0 else pst = 2 ∨ pst = 3
     let asked := port st { x with req := some (x.reqSeq, txT), reqSeq := (x.reqSeq + 1) % 65536 }
     let hybrid := rbit st 0x340500 26 = true
     let master := st.net.master.bind (fun y => (x.foreign.find? (fun f => f.src == y.2)).map (fun f => f.addr))
     (live → asks → p2p → exec (.ptpDelayReqInterval p tx) st = .next
       (frames asked none [(2, ptpHeader st k 2 54 0 x.reqSeq 0 127 ++ List.replicate 20 0)])) ∧
     (live → asks → ¬ p2p → hybrid → exec (.ptpDelayReqInterval p tx) st = .next
       (frames asked master [(1, ptpHeader st k 1 44 0x0400 x.reqSeq 0 127 ++ List.replicate 10 0)])) ∧
     (live → asks → ¬ p2p → ¬ hybrid → exec (.ptpDelayReqInterval p tx) st = .next
       (frames asked none [(1, ptpHeader st k 1 44 0 x.reqSeq 0 127 ++ List.replicate 10 0)])) ∧
     ((¬ live ∨ ¬ asks) → exec (.ptpDelayReqInterval p tx) st = .next st) ∧
     (en → pst = 4 → exec (.ptpSyncInterval p tx) st = .next (frames (port st { x with syncSeq := (x.syncSeq + 1) % 65536 }) none
       [(0, ptpHeader st k 0 44 0x0200 x.syncSeq 0 (ptpIntv st 24) ++ List.replicate 10 0),
        (8, ptpHeader st k 8 44 0 x.syncSeq 0 (ptpIntv st 24) ++ ptpStamp txT)])) ∧
     (∀ y f, en → pst = 4 → st.net.learned = some (y, f) → exec (.ptpAnnounceInterval p) st = .next
       (frames (port st { x with annSeq := (x.annSeq + 1) % 65536 }) none
        [(11, ptpHeader st k 11 64 0 x.annSeq 0 (ptpIntv st 16) ++ List.replicate 12 0 ++ [0] ++ beBytes 1 f.p1 ++ beBytes 1 f.cls ++ beBytes 1 f.acc
          ++ beBytes 2 f.var ++ beBytes 1 f.p2 ++ beBytes 8 f.gm ++ beBytes 2 (f.steps + 1) ++ [0xA0])])) ∧
     ((¬ en ∨ pst ≠ 4) → exec (.ptpSyncInterval p tx) st = .next st ∧ exec (.ptpAnnounceInterval p) st = .next st) ∧
     (st.net.learned = none → exec (.ptpAnnounceInterval p) st = .next st))

/-- AES3 receivers (R345, R347, R348, R350–R352, R364, R474). Transitions bring an input from nosig to locking, 8 good frames to locked, a second
bad frame or silence back, with LOSS and, from live, conceal. In SYNC mode a good frame of a live receiver at the domain's rate puts its two
audio fields, as exact Q1.23 samples, into the input half. In ASRC mode a good frame enters the converter's window with its tick; the
converter's lock sets ALOCK, RATIO and the group delay, which is 32/Fin + 24/Fout within one output sample. A latch shows the selected capture;
CLR clears both counters. -/
def Obligations.AesReceiversWork : Prop :=
  ∀ (st : State) (i : Fin 16) (a b : Subframe) (frate : Fin 32768) (ratio : W32) (gd : BitVec 24) (ctx : Fin 9),
    let A := arA i.val
    let bind := portOf st (arP i.val)
    let r := aesRxOf st i.val
    let lst := rfld st (A + 4) 27 2
    let valid := a.cells = true ∧ b.cells = true ∧ (a.pre = 0 ∨ a.pre = 2) ∧ b.pre = 1
    let rx := fun (t : State) (q : AesRx) => { t with ser := { t.ser with rx := mset {} t.ser.rx i.val q } }
    let rated := rput st (A + 4) 0 15 frate.val
    let wa := BitVec.ofInt 72 (sext 24 a.audio.toNat * 2 ^ 41)
    let wb := BitVec.ofInt 72 (sext 24 b.audio.toNat * 2 ^ 41)
    let delay := 24 * 256 + 32 * 256 * ratio.toNat / 2 ^ 28
    let frame := exec (.aes3FrameReceived i a b frate false []) st
    let same := fun (t : State) => t.cells = st.cells ∧ t.mem = st.mem ∧ t.flt = st.flt ∧ t.clk = st.clk ∧ ∀ j, j ≠ i.val → aesRxOf t j = aesRxOf st j
    let left := fun (o : Res) => ∃ t, o = .next t ∧ same t ∧ rfld t (A + 4) 27 2 = 0 ∧ rfld t (A + 0xC) 0 8 = min 255 (rfld st (A + 0xC) 0 8 + 1) ∧
      rbit t (A + 0x18) 0 = true ∧ (aesRxOf t i.val).settle = 0 ∧ (aesRxOf t i.val).blk = none ∧
      (arState st i.val = 2 → arState t i.val = 3 ∧ (aesRxOf t i.val).concK = 0 ∧ rbit t (A + 0x18) 1 = true) ∧
      (arState st i.val ≠ 2 → arState t i.val = arState st i.val)
    let at_ := fun (ch : Nat) => bufAddr bind bind.bufin (bind.nch + ch)
    let want : Int := domOf st bind.cl * fbOf st * (256000000000 + st.clk.p)
    let view := if rbit st 0x360C00 4 = true then (aesRxOf st (rfld st 0x360C00 0 4)).capB else (aesRxOf st (rfld st 0x360C00 0 4)).capA
    (bind.en = false → frame = .next st ∧ exec (.aes3NoSignal i) st = .next st ∧ exec (.aes3TransitionsAppear i) st = .next st) ∧
    (bind.en = true →
      exec (.aes3TransitionsAppear i) st = .next (if lst = 0 then rput st (A + 4) 27 2 1 else st) ∧
      (lst = 0 → frame = .next st) ∧
      (lst = 1 → rbit st (A + 4) 26 = false →
        (valid → r.good < 7 → frame = .next (rx rated { r with good := r.good + 1 })) ∧
        (valid → 7 ≤ r.good → frame = .next (rx (rput rated (A + 4) 27 2 2) { r with good := 0, bad := 0, settle := 0, err := true, blk := none })) ∧
        (¬ valid → frame = .next (rx rated { r with good := 0 }))) ∧
      (lst = 2 → refSel st ≠ 4 → left (exec (.aes3NoSignal i) st) ∧
        (¬ valid → 1 ≤ r.bad → rbit st (A + 4) 26 = false → left frame)) ∧
      (lst = 2 → valid → a.pre = 0 → a.parity = true → b.parity = true → a.v = false → b.v = false → rbit st (A + 4) 26 = false →
        arState st i.val = 2 → arAsrc st i.val = false → arRaw st i.val = false → arConc st i.val ≠ 2 → r.frames = 0 → r.blk = none → st.mtr.mtr = [] →
        ((frate.val * 10 * 256000000000 : Int) - want).natAbs * 1000 ≤ want.natAbs → bufHas bind.bufin = true →
        (∀ ch, ch < 2 → cisDown st (at_ ch / 65536) = false ∧ cisOwner st (at_ ch / 65536) = 3) →
        ∃ t, frame = .next t ∧ t.cells = st.cells ∧ t.out = st.out ∧ t.flt = st.flt ∧ (aesRxOf t i.val).last = [wa, wb] ∧ (aesRxOf t i.val).frames = 1 ∧
        (∀ j, j ≠ i.val → aesRxOf t j = aesRxOf st j) ∧ arState t i.val = 2 ∧ rfld t (A + 4) 0 15 = frate.val ∧
        (∀ x, x ≠ A + 4 → rget t x = rget st x) ∧
        ∀ y, cisWord t y = if y = at_ 0 then wa else if y = at_ 1 then wb else cisWord st y) ∧
      (arAsrc st i.val = true → lst = 2 → exec (.asrcRatioLock i ratio gd) st = .next (rset (rset (rput st (A + 4) 26 1 1) (A + 0x14) ratio)
        (A + 0x10) (BitVec.ofNat 32 (max (delay - 256) (min (delay + 256) gd.toNat))))) ∧
      (arAsrc st i.val = true → lst = 2 → valid → rbit st (A + 4) 26 = true → (frate.val : Int) = rfld st (A + 4) 0 15 → a.pre = 0 → a.parity = true →
        b.parity = true → a.v = false → b.v = false → arRaw st i.val = false → r.blk = none →
        let t := domTick st (domOf st bind.cl)
        frame = .next (rx rated { r with bad := 0, hist := r.hist.filter (fun x => decide (t < x.1 + 512)) ++ [(t, [wa, wb])] }))) ∧
    ((bind.en = false ∨ arAsrc st i.val = false ∨ lst ≠ 2) → exec (.asrcRatioLock i ratio gd) st = .next st) ∧
    exec (.aesRxCsLatch ctx) st = .next { st with ser := { st.ser with view := mset {} st.ser.view ctx.val view },
                                                  out := st.out ++ [.regData (BitVec.ofNat 32 (leAt view.cs 0 4))] } ∧
    exec (.aesRxCtlClr i) st = .next (rset (rset st (A + 8) 0) (A + 0xC) 0)

/-- AES3 transmitters (R345, R354–R357, R364). A frame of a running transmitter carries the released words with the channels' gains, rounded
half-even to WLEN and saturated, Z at a media index that is a multiple of 192, and one channel-status bit. A write of a gain, or of a changed
mute bit, makes the channel wait for a zero crossing; ZTO samples without one start the ramp and count in TMO. COMMIT holds both shadows for a
coming Z. An unbound transmitter that was not muted sends zero audio, another sends nothing. -/
def Obligations.AesTransmittersWork : Prop :=
  ∀ (st : State) (j : Fin 16) (ch : Fin 2) (v : W32) (mute : BitVec 2),
    let B := atA j.val
    let port := atP j.val
    let bind := portOf st port
    let t0 := aesTxOf st j.val
    let wl := rb bind 1
    let chan := fun (t : State) (k : Nat) => if k = 0 then (aesTxOf t j.val).a else (aesTxOf t j.val).b
    let audio := fun (k : Nat) => rneShift ((portRel st port k).toInt * (chan st k).gain.n) (65 - wl + (chan st k).gain.e)
    let sent := fun (k : Nat) => ((sclamp wl (audio k) * 2 ^ (24 - wl)) % 2 ^ 24).toNat
    let z : Bool := decide (mediaIndex st (domOf st bind.cl) % 192 = 0)
    let pos := if z = true then 0 else (t0.pos + 1) % 192
    let next := (t0.pos + 1) % 192
    let keeps := fun (t : State) => t.cells = st.cells ∧ t.mem = st.mem ∧ t.flt = st.flt ∧ ∀ k, k ≠ j.val → aesTxOf t k = aesTxOf st k
    let waits := fun (t : State) (k : Nat) => chan t k = { chan st k with mode := 1, n := 0 } ∧ rbit t (B + 0xC) (2 + k) = true ∧ rbit t (B + 0xC) k = false
    (bind.en = false → exec (.aes3FrameStart j []) st = .next (if t0.zero = true then { st with
      ser := { st.ser with tx := mset {} st.ser.tx j.val { t0 with pos := next } },
      out := if rbit st 0x440000 29 = true then st.out ++ [.aesFrame j.val (if next = 0 then 2 else 0) 0 0
        (4 * b2n (csBit t0.csA next) + 32 * b2n (csBit t0.csB next))] else st.out } else st)) ∧
    (bind.en = true → atRaw bind = false → safeGated st = false → algOpen st port = true → rfld st (B + 0xC) 29 3 = 2 → rbit st (B + 0x14) 30 = false →
      rbit st 0x440000 29 = true → bufHas bind.bufout = true → t0.a.mode = 0 → t0.b.mode = 0 →
      (∀ k, k < 2 → cisDown st (bufAddr bind bind.bufout (bind.nch + k) / 65536) = false) →
      ∃ t, exec (.aes3FrameStart j []) st = .next t ∧ keeps t ∧ (aesTxOf t j.val).pos = pos ∧
      t.out = st.out ++ [.aesFrame j.val (if z = true then 2 else 0) (sent 0) (sent 1)
        (4 * b2n (csBit (txCs bind t0.csA) pos) + 8 * (4 * b2n (csBit (txCs bind t0.csB) pos)))] ∧
      rfld t (B + 0x10) 16 16 = min 65535 (rfld st (B + 0x10) 16 16 + b2n (!sfits wl (audio 0)) + b2n (!sfits wl (audio 1))) ∧
      (∀ x, x ≠ B + 0xC → x ≠ B + 0x10 → rget t x = rget st x)) ∧
    (∃ t, exec (.aesTxGainWrite j ch v) st = .next t ∧ keeps t ∧ t.out = st.out ∧ rget t (B + 4 * ch.val) = v ∧
      (∀ x, x ≠ B + 4 * ch.val → x ≠ B + 0xC → rget t x = rget st x) ∧
      (∀ k, k < 2 → k ≠ ch.val → chan t k = chan st k) ∧
      (bind.en = true → (chan st ch.val).mode ≠ 1 → waits t ch.val) ∧ ((bind.en = false ∨ (chan st ch.val).mode = 1) → chan t ch.val = chan st ch.val)) ∧
    (∃ t, exec (.aesTxMuteWrite j mute) st = .next t ∧ keeps t ∧ t.out = st.out ∧ rfld t (B + 8) 0 2 = mute.toNat ∧
      (∀ x, x ≠ B + 8 → x ≠ B + 0xC → rget t x = rget st x) ∧ ∀ k, k < 2 →
      (bind.en = true → nbit mute.toNat k ≠ rbit st (B + 8) k → (chan st k).mode ≠ 1 → waits t k) ∧
      ((nbit mute.toNat k = rbit st (B + 8) k ∨ bind.en = false ∨ (chan st k).mode = 1) → chan t k = chan st k)) ∧
    ((chan st ch.val).mode = 1 → leAt bind.raw 2 2 ≤ (chan st ch.val).n + 1 → ∃ t, exec (.zeroCrossingTimeout j ch) st = .next t ∧ keeps t ∧
      t.out = st.out ∧ chan t ch.val = { chan st ch.val with mode := 2, n := 0, from_ := (chan st ch.val).gain } ∧
      rfld t (B + 0x10) 0 16 = min 65535 (rfld st (B + 0x10) 0 16 + 1) ∧ rbit t (B + 0xC) (2 + ch.val) = false ∧
      (∀ x, x ≠ B + 0x10 → x ≠ B + 0xC → rget t x = rget st x)) ∧
    (((chan st ch.val).mode ≠ 1 ∨ (chan st ch.val).n + 1 < leAt bind.raw 2 2) → exec (.zeroCrossingTimeout j ch) st = .next st) ∧
    ∃ t, exec (.aesTxCsCommit j) st = .next t ∧ keeps t ∧ t.out = st.out ∧ rbit t (B + 0x14) 30 = true ∧ (∀ x, x ≠ B + 0x14 → rget t x = rget st x) ∧
      aesTxOf t j.val = { t0 with age := 0,
                                  pendA := (List.range 6).flatMap (fun k => leBytes 4 (rget st (B + 0x20 + 4 * k)).toNat),
                                  pendB := (List.range 6).flatMap (fun k => leBytes 4 (rget st (B + 0x40 + 4 * k)).toNat) }

/-- TDM ports (R345, R358–R362, R365). A master starts its sync once the boot gate is open. At a sync FCNT counts, a pending mask written in time
becomes live with AFRM, a late one waits one sync more, a new binding loads the record's masks; the frame carries the released words of the
enabled slots, left-justified, and 0 or high impedance in the others. A master's frame goes to the input half, masked slots as 0. A slave's
frame of a wrong length counts in FRERR; with it, or without syncs, a live slave conceals. A mask write goes to the shadow. CLR clears. -/
def Obligations.TdmPortsWork : Prop :=
  ∀ (st : State) (q : Fin 8) (words : List W32) (clocks : Nat) (v : W32) (late tx : Bool),
    let A := tdA q.val
    let port := tdP q.val
    let bind := portOf st port
    let t0 := tdmOf st q.val
    let master := rb bind 0 = 1
    let n := rb bind 1
    let wl := rb bind 2
    let run := fun (t : State) (x : TdmRun) => { t with ser := { t.ser with tdm := mset {} t.ser.tdm q.val x } }
    let keeps := fun (t : State) => t.cells = st.cells ∧ t.flt = st.flt ∧ t.clk = st.clk ∧ ∀ k, k ≠ q.val → tdmOf t k = tdmOf st k
    let live := fun (t : State) (b : Bool) => if b = true then (tdmOf t q.val).tx else (tdmOf t q.val).rx
    let shadow := if tx = true then t0.txSh else t0.rxSh
    let isLate := if tx = true then t0.txLate else t0.rxLate
    let skipped := if tx = true then t0.txSkip else t0.rxSkip
    let m := A + (if tx = true then 0xC else 8)
    let fcnt := (rfld st (A + 0x10) 0 16 + 1) % 65536
    let at_ := fun (k : Nat) => bufAddr bind bind.bufin (bind.nch + k)
    let lost := fun (t : State) => (tdmOf t q.val).good = 0 ∧ (tdState st q.val = 2 → tdState t q.val = 3 ∧ (tdmOf t q.val).concK = 0 ∧ rbit t (A + 0x18) 2 = true) ∧
      (tdState st q.val ≠ 2 → tdState t q.val = tdState st q.val)
    exec (.tdmFrameStart q) st = .next (if bind.en = true ∧ master ∧ rbit st 0x440000 29 = true then { st with out := st.out ++ [.tdmSync q.val] } else st) ∧
    (bind.en = false → exec (.tdmFrameSync q []) st = .next st ∧ exec (.tdmFrameReceived q words clocks false []) st = .next st ∧
      exec (.tdmSyncLoss q) st = .next st) ∧
    (bind.en = true →
      (∃ t, exec (.tdmFrameSync q []) st = .next t ∧ keeps t ∧ t.mem = st.mem ∧ (tdmOf t q.val).lost = false ∧ (tdmOf t q.val).load = false ∧
        rfld t (A + 0x10) 0 16 = (if t0.load = true then 0 else fcnt) ∧
        (t0.load = true → rbit st m 31 = false → live t tx = leAt bind.raw (if tx = true then 0xC else 8) 4) ∧
        (t0.load = false → rbit st m 31 = false → live t tx = live st tx) ∧
        (rbit st m 31 = true → isLate = true → rbit t m 31 = true ∧ (t0.load = false → live t tx = live st tx) ∧
          (if tx = true then (tdmOf t q.val).txLate = false ∧ (tdmOf t q.val).txSkip = true
           else (tdmOf t q.val).rxLate = false ∧ (tdmOf t q.val).rxSkip = true)) ∧
        (rbit st m 31 = true → isLate = false → rbit t m 31 = false ∧ live t tx = shadow ∧ rfld t m 0 16 = rfld t (A + 0x10) 0 16 ∧
          rbit t m 30 = skipped ∧ rbit t (A + 0x18) 3 = true) ∧
        (rbit st 0x440000 29 = true → algOpen st port = true → safeGated st = false → bufHas bind.bufout = true →
          (∀ k, k < n → cisDown st (bufAddr bind bind.bufout (bind.nch + k) / 65536) = false) →
          t.out.getLast? = some (.tdmFrame q.val ((List.range n).map (fun k =>
            if nbit (live t true) k = true then some (((sclamp wl (rneShift (portRel st port k).toInt (65 - wl))) % 2 ^ 32 * 2 ^ (32 - wl) % 2 ^ 32).toNat)
            else if nbit (rb bind 3) 4 = true then none else some 0))))) ∧
      (master → tdState st q.val = 2 → st.mtr.mtr = [] → bufHas bind.bufin = true → n ≤ 32 → tdConc bind ≠ 2 →
        (∀ k, k < n → cisDown st (at_ k / 65536) = false ∧ cisOwner st (at_ k / 65536) = 3) →
        ∃ t, exec (.tdmFrameReceived q words clocks false []) st = .next t ∧ keeps t ∧ t.ctl = st.ctl ∧ t.out = st.out ∧
        (tdmOf t q.val).frames = t0.frames + 1 ∧
        (∀ k, k < n → cisWord t (at_ k) = if nbit t0.rx k = true then
          BitVec.ofInt 72 (sext wl ((words.getD k 0).toNat / 2 ^ (32 - wl)) * 2 ^ (65 - wl)) else 0) ∧
        ∀ y, (∀ k, k < n → y ≠ at_ k) → cisWord t y = cisWord st y) ∧
      (¬ master → t0.lost = true → exec (.tdmFrameReceived q words clocks false []) st = .next st) ∧
      (¬ master → t0.lost = false → clocks ≠ n * 32 → ∃ t, exec (.tdmFrameReceived q words clocks false []) st = .next t ∧ keeps t ∧ t.mem = st.mem ∧ lost t ∧
        rfld t (A + 0x14) 0 8 = min 255 (rfld st (A + 0x14) 0 8 + 1) ∧ rbit t (A + 0x18) 1 = true ∧ (tdmOf t q.val).bad = true) ∧
      (master → exec (.tdmSyncLoss q) st = .next st) ∧
      (¬ master → ∃ t, exec (.tdmSyncLoss q) st = .next t ∧ keeps t ∧ t.mem = st.mem ∧ lost t ∧ (tdmOf t q.val).lost = true)) ∧
    exec (.tdmRxmaskWrite q v late) st = .next (rput (run st { t0 with rxSh := v.toNat, rxLate := late, rxSkip := false }) (A + 8) 31 1 1) ∧
    exec (.tdmTxmaskWrite q v late) st = .next (rput (run st { t0 with txSh := v.toNat, txLate := late, txSkip := false }) (A + 0xC) 31 1 1) ∧
    exec (.tdmCtlClr q) st = .next (rset st (A + 0x14) 0)

/-- Clock synthesis (R366–R381). A synthesizer locks, and beside a root then tracks; one that loses lock counts it, is logged and retunes, from a
matching slot or by a search that writes one: the root's loss gives ROOT to a locked tracking standby, with the outputs gated, else to the safe
clock. A hop gives ROOT to the standby at its boundary; a standby that is not locked before, or loses lock, cancels it. A measured reference sets the target, or
the correction, or schedules a hop; lock, loss, return and timeout move RSTATE. The host's ramps and phase counts act unless the tracker owns
them. Aligner lock and loss show in CKO_STAT. -/
def Obligations.ClocksAreSynthesized : Prop :=
  ∀ (st : State) (x : Fin 2) (err : BitVec 16) (cyc : Fin 25600) (band : BitVec 6) (fam : Bool) (mult : Fin 3) (p : Int) (nseg : BitVec 5)
    (add : BitVec 16) (o : Fin 4),
    let X := synA x.val
    let other := 1 - x.val
    let s0 := rfld st X 29 3
    let role := synRole st x.val
    let clk := fun (t : State) (c : ClkSt) => { t with clk := c }
    let ref := refSel st
    let rst := refState st
    let owns := ref = 0 ∨ ref = 1 ∨ ref = 4
    let keeps := fun (t : State) => t.cells = st.cells ∧ t.mem = st.mem ∧ t.btc = st.btc ∧ t.wel = st.wel
    let tuned := fun (t : State) (k n : Nat) => rget64 t (synA k + 4) = BitVec.ofNat 64 (n % 2 ^ 40) ∧
      synState t k = if (List.range 4).any (fun c => calMatch (rget st (synA k + 0x10 + 4 * c)) n) then 2 else 1
    let events := fun (u t : State) (k bit : Nat) => Settles (rput u (synA k + 0x20) bit 1 1) t
    let logged := fun (t : State) => st.flt.log.length < 32 → t.flt.log.length = st.flt.log.length + 1 ∧ fltOpen t 8 (0x8000 + x.val) = true
    let named := st.bnd.length < 16
    let good := err.toInt.natAbs ≤ max 1 (rfld st 0x3A0108 0 8)
    let cancels := fun (o : Res) (h : Hop) => ∃ t, o = .next t ∧ keeps t ∧ t.clk.hop = none ∧ rbit t 0x200008 5 = false ∧
      (named → t.bnd = st.bnd ++ [⟨st.btc, 7, 256⟩]) ∧ synRole t h.syn = 0 ∧ tuned t h.syn (ratioNow st)
    -- lock and its loss
    (((s0 ≠ 2 ∧ s0 ≠ 4) ∨ ¬ good) → exec (.synthLock x err) st = .next st) ∧
    ((s0 = 2 ∨ s0 = 4) → good → fltOpen st 8 0x8000 = false → fltOpen st 8 0x8001 = false → ∃ t, exec (.synthLock x err) st = .next t ∧ keeps t ∧
      synState t x.val = 3 ∧ rfld t X 0 16 = err.toNat ∧ rbit t (X + 0x20) 1 = true ∧
      synRole t x.val = (if role = 0 ∧ rootSrc st ≤ 1 ∧ rootSrc st ≠ x.val then 2 else role) ∧ t.clk = st.clk) ∧
    ((s0 ≠ 3 ∨ good) → exec (.synthLockLoss x err cyc) st = .next st) ∧
    (s0 = 3 → ¬ good → ∃ t, exec (.synthLockLoss x err cyc) st = .next t ∧ logged t ∧ rfld t X 0 16 = err.toNat ∧ rbit t (X + 0x20) 0 = true ∧
      rfld t X 16 8 = min 255 (rfld st X 16 8 + 1) ∧ t.cells = st.cells ∧ t.mem.cist = st.mem.cist ∧ t.btc = st.btc ∧
      (role = 3 → st.clk.hop = none → synState t x.val = 4 ∧ synRole t x.val = 3) ∧
      (∀ h, role = 3 → st.clk.hop = some h → h.syn = x.val → t.clk.hop = none ∧ rbit t 0x200008 5 = false ∧ synRole t x.val = 0 ∧
        tuned t x.val (ratioNow st) ∧ t.clk.recs = st.clk.recs ++ [(7, 256)]) ∧ (role ≠ 3 → synRole t x.val = 0 ∧ tuned t x.val (ratioNow st)) ∧
      ((role = 0 ∨ role = 2) → rootSrc t = rootSrc st) ∧
      (role = 1 → synRole st other = 2 → synState st other = 3 → st.clk.hop = none → rootSrc t = other ∧ synRole t other = 1 ∧
        t.clk.recs = st.clk.recs ++ [(4, other * 512 + x.val * 2048)] ∧ ∀ k : Fin 4, rbit t (ckoA k.val + 8) 2 = true) ∧
      (role = 1 → (synRole st other ≠ 2 ∨ synState st other ≠ 3) → st.clk.hop = none → rootSrc t = 2 ∧ rbit t 0x200008 3 = true ∧ t.clk.gate = none ∧
        t.clk.recs = st.clk.recs ++ [(5, x.val * 2048)] ∧ ∀ k : Fin 4, rbit t (ckoA k.val + 8) 1 = true)) ∧
    -- a search ends
    (s0 ≠ 1 → exec (.bandSearchDone x (some band)) st = .next st ∧ exec (.bandSearchDone x none) st = .next st) ∧
    (s0 = 1 → (∃ t, exec (.bandSearchDone x (some band)) st = .next t ∧ keeps t ∧ synState t x.val = 2 ∧ rbit t (X + 0x20) 2 = true ∧
        rfld t X 24 2 = calVictim st x.val ∧ rget t (X + 0x10 + 4 * calVictim st x.val) = BitVec.ofNat 32 (2 ^ 31 + band.toNat * 2 ^ 24 +
          (dieC st % 256).toNat * 2 ^ 16 + (rget64 st (X + 4)).toNat / 2 ^ 24 % 2 ^ 16)) ∧
      (st.clk.hop = none → ∃ t, exec (.bandSearchDone x none) st = .next t ∧ events (rput st X 29 3 4) t x.val 2) ∧
      (∀ h, st.clk.hop = some h → h.syn = x.val → ∃ t, exec (.bandSearchDone x none) st = .next t ∧ t.clk.hop = none ∧
        synRole t x.val = 0 ∧ tuned t x.val (ratioNow st) ∧ t.clk.recs = st.clk.recs ++ [(7, 0)])) ∧
    -- hops
    (st.clk.hop = none → exec .hop st = .next st ∧ exec .hopCancelCheck st = .next st) ∧
    (∀ h, st.clk.hop = some h → h.syn < 2 → st.host.ops = [] →
      ((st.btc.toNat + 1 < h.btc ∨ synState st h.syn = 3) → exec .hopCancelCheck st = .next st) ∧
      (h.btc ≤ st.btc.toNat + 1 → synState st h.syn ≠ 3 → cancels (exec .hopCancelCheck st) h) ∧
      (h.btc ≤ st.btc.toNat → synState st h.syn ≠ 3 → cancels (exec .hop st) h) ∧
      (h.btc ≤ st.btc.toNat → synState st h.syn = 3 → (∀ i, (portOf st (arP i)).en = false) → ∃ t, exec .hop st = .next t ∧ t.cells = st.cells ∧ t.mem = st.mem ∧
        t.clk.hop = none ∧ rbit t 0x200008 5 = false ∧ rootSrc t = h.syn ∧ rbit t 0x200008 2 = h.fam ∧ t.clk.p = h.p * 256 ∧
        synRole t h.syn = 1 ∧ (rootSrc st ≠ 2 → synRole t (1 - h.syn) = 0) ∧ rfld t 0x3A0118 16 16 = 0 ∧ rbit t 0x3A0114 29 = false ∧
        (named → t.bnd = st.bnd ++ [⟨BitVec.ofNat 64 h.btc, 1, b2n h.fam * 256 + h.syn * 512⟩])) ∧
      (st.btc.toNat < h.btc → exec .hop st = .next st)) ∧
    -- references
    ((ref = 5 ∨ (rst ≠ 1 ∧ rst ≠ 2 ∧ rst ≠ 4) ∨ 45000000 < p.natAbs) → exec (.referenceMeasured fam mult p) st = .next st) ∧
    (ref ≠ 5 → (rst = 1 ∨ rst = 2 ∨ rst = 4) → p.natAbs ≤ 45000000 → rootSrc st ≤ 1 →
      (owns → fam = rbit st 0x200008 2 → (p * 256 - st.clk.p).natAbs ≤ 5000000 * 256 → exec (.referenceMeasured fam mult p) st = .next
        (clk (rput st 0x3A0100 19 2 mult.val) { st.clk with trk := some (p * 256), pull := decide (rst ≠ 2), acq := if rst = 2 then 0 else 4 })) ∧
      (owns → (fam ≠ rbit st 0x200008 2 ∨ 5000000 * 256 < (p * 256 - st.clk.p).natAbs) → st.clk.hop = none →
        ∃ t, exec (.referenceMeasured fam mult p) st = .next t ∧ keeps t ∧ t.clk.hop = some ⟨st.btc.toNat + 64, fam, p, if rootSrc st = 0 then 1 else 0, 0, 0, .ref⟩ ∧
        rbit t 0x200008 5 = true ∧ synRole t (if rootSrc st = 0 then 1 else 0) = 3 ∧
        tuned t (if rootSrc st = 0 then 1 else 0) (synRatio fam (p * 256) (synXc st))) ∧
      (¬ owns → ∃ t, exec (.referenceMeasured fam mult p) st = .next t ∧ keeps t ∧ t.clk = st.clk ∧ rget t 0x3A011C = BitVec.ofInt 32 p ∧
        ∀ k : Fin 2, (synRole st k.val = 1 ∨ synRole st k.val = 2) → rget64 t (synA k.val + 4) = BitVec.ofNat 64 (ratioNow t % 2 ^ 40))) ∧
    (ref ≠ 5 → (rst = 1 ∨ rst = 2 ∨ rst = 4) → p.natAbs ≤ 45000000 → rootSrc st = 2 → st.clk.hop = none →
      ∃ t, exec (.referenceMeasured fam mult p) st = .next t ∧ keeps t ∧ rbit t 0x200008 5 = true ∧ synRole t 0 = 3 ∧
      t.clk.hop = some ⟨st.btc.toNat + 64, if owns then fam else rbit st 0x200008 2, if owns then p else st.clk.p / 256, 0, 0, 0, .ref⟩) ∧
    (ref ≠ 5 → (rst = 1 ∨ rst = 4) → rootSrc st ≤ 1 → (∀ c ∈ st.host.ops, c.opc ≠ 0x50) → ∃ t, exec .referenceLocked st = .next t ∧
      events (clk (rput st 0x3A0100 26 3 2) { st.clk with pull := false, acq := 0 }) t (rootSrc st) 3) ∧
    ((ref = 5 ∨ (rst ≠ 1 ∧ rst ≠ 4) ∨ rootSrc st = 2) → exec .referenceLocked st = .next st) ∧
    ((ref = 5 ∨ (rst ≠ 1 ∧ rst ≠ 2)) → exec .referenceLoss st = .next st) ∧
    (ref ≠ 5 → rst = 1 → exec .referenceLoss st = .next (clk st { st.clk with acq := 2, pull := false, trk := none })) ∧
    (owns → rst = 2 → rootSrc st ≤ 1 → ∃ t, exec .referenceLoss st = .next t ∧
      events (clk (rput (rset st 0x3A0110 (BitVec.ofInt 32 (histMean st.clk.hist st.clk.p / 256))) 0x3A0100 26 3 3)
        { st.clk with trk := some (histMean st.clk.hist st.clk.p), pull := false, acq := 0 }) t (rootSrc st) 3) ∧
    (rst ≠ 3 → exec .referenceReturn st = .next st) ∧
    (rst = 3 → rootSrc st ≤ 1 → ∃ t, exec .referenceReturn st = .next t ∧
      events (clk (rput st 0x3A0100 26 3 1) { st.clk with acq := 2, trk := none }) t (rootSrc st) 3) ∧
    ((∀ c ∈ st.host.ops, c.opc ≠ 0x50 ∨ c.started = false) → exec .referenceLockTimeout st = .next st) ∧
    (∀ c, st.host.ops = [c] → c.opc = 0x50 → c.started = true → c.lost = false → st.answers c.agent → rst = 1 → rootSrc st ≤ 1 →
      ∃ t, exec .referenceLockTimeout st = .next t ∧
      events (clk (rput (finished st c 2 1 []) 0x3A0100 26 3 4) { st.clk with trk := none, pull := false, acq := 2 }) t (rootSrc st) 3) ∧
    -- the host's ramps and phase counts, the outputs' aligners
    (let segs := rput st 0x3A0114 0 5 nseg.toNat
     let fast := (List.range (min 16 (max 1 nseg.toNat))).any (fun k => decide (50944 < (sext 24 (rfld st (0x3A0140 + 8 * k) 0 24)).natAbs))
     (owns → exec (.synRampGo nseg) st = .next (rput segs 0x3A0100 21 1 1) ∧ exec (.synPhaseAdd add) st = .next (rput st 0x3A0100 21 1 1)) ∧
     (¬ owns → fast = true → exec (.synRampGo nseg) st = .next (rput segs 0x3A0114 27 1 1)) ∧
     (¬ owns → fast = false → exec (.synRampGo nseg) st = .next (rput (rput (clk segs { st.clk with segDone := 0 }) 0x3A0114 29 1 1) 0x3A0114 8 4 0)) ∧
     (¬ owns → exec (.synPhaseAdd add) st = .next (rput st 0x3A0118 16 16
       ((max (-32767) (min 32767 (sext 16 (rfld st 0x3A0118 16 16) + add.toInt))) % 65536).toNat))) ∧
    exec .synRampStop st = .next (rput st 0x3A0114 29 1 0) ∧
    exec (.alignerLock o) st = .next (if rbit st (ckoA o.val) 31 = true then rput st (ckoA o.val + 8) 31 1 1 else st) ∧
    (rbit st (ckoA o.val + 8) 31 = false → exec (.alignerLoss o) st = .next st) ∧
    (rbit st (ckoA o.val + 8) 31 = true → ∃ t, exec (.alignerLoss o) st = .next t ∧ keeps t ∧ rbit t (ckoA o.val + 8) 31 = false ∧
      rbit t (ckoA o.val + 8) 28 = true ∧ (rbit st (ckoA o.val) 22 = true → rbit t (ckoA o.val + 8) 4 = true ∧ rbit t (ckoA o.val + 8) 30 = true) ∧
      ∀ y, y ≠ ckoA o.val + 8 → ¬ evReg y → rget t y = rget st y)

/-- Meters, histograms and CRC units (R388, R389, R395, R398–R403). GO asks for a snapshot, once; a write of the index latches that meter's
figures in the context's view. CLR empties the selected engine and runs it, FRZ freezes it with the BTC, RUN resumes it. START opens a
computation of the selected code. An entry joins the queue of an open computation that is not full; what is dropped sets SRCE, DERR or OVF.
FIN ends the computation once the entries before it are consumed; DONE gives their CRC, and their bytes in CNT. -/
def Obligations.MeasuresAndCrcs : Prop :=
  ∀ (st : State) (late : Bool) (ctx : Fin 9) (m : Fin 4096) (u : Fin 8) (ate : Nat) (d8 : BitVec 8) (d16 : BitVec 16) (d32 : W32) (w : Word),
    let k := rfld st 0x400000 0 8
    let h := mget {} st.mtr.hist k
    let engine := fun (t : State) (x : Hist) => { t with mtr := { t.mtr with hist := mset {} t.mtr.hist k x } }
    let C := crcA u.val
    let e := crcEat ate st u.val
    let c := crcOf e u.val
    let takes := c.open_ = true ∧ c.ended = false
    let feed := rbit e C 29
    let unit := fun (t : State) (x : CrcUnit) => { t with crc := mset {} t.crc u.val x }
    let queued := fun (b : List Byte) => rput (unit e { c with queue := c.queue ++ [b] }) (C + 4) 22 4 (c.queue.length + 1)
    let din := fun (o : Res) (b : List Byte) => (feed = true → o = .next (rput e (C + 4) 2 1 1)) ∧
      (feed = false → ¬ takes → o = .next (rput e (C + 4) 1 1 1)) ∧ (feed = false → takes → 8 ≤ c.queue.length → o = .next (rput e (C + 4) 0 1 1)) ∧
      (feed = false → takes → c.queue.length < 8 → o = .next (queued b))
    let opens : CrcUnit → Prop := fun x => ∃ t, exec (.crcStart u ate) st = .next t ∧ { t with ctl := e.ctl, crc := e.crc } = e ∧ crcOf t u.val = x ∧
      (∀ j, j ≠ u.val → crcOf t j = crcOf e j) ∧ rfld t (C + 4) 30 2 = 2 ∧ rfld t (C + 4) 22 4 = 0 ∧ rget t (C + 0xC) = 0 ∧
      ∀ x, x ≠ C + 4 → x ≠ C + 0xC → rget t x = rget e x
    let width := rfld e (C + 0x24) 0 6 + 1
    (rbit st 0x3E0000 30 = true → exec (.mtrSnapGo late) st = .next st) ∧
    (rbit st 0x3E0000 30 = false → exec (.mtrSnapGo late) st = .next (rput { st with mtr := { st.mtr with late := late } } 0x3E0000 30 1 1)) ∧
    (let view : MtrView := { meter := m.val, fig := (mget {} st.mtr.mtr m.val).snap, sbtc := st.mtr.sbtc }
     exec (.mtrIdxWrite ctx m) st = .next { st with mtr := { st.mtr with view := mset {} st.mtr.view ctx.val view } }) ∧
    exec .hisClr st = .next (engine st { att := h.att, fbtc := h.fbtc }) ∧
    exec .hisRun st = .next (engine st { h with frozen := false }) ∧
    (h.frozen = true → exec .hisFrz st = .next st) ∧
    (h.frozen = false → ∃ t, exec .hisFrz st = .next t ∧
      Settles (rput (engine st { h with frozen := true, fbtc := st.btc }) (0x400040 + 4 * (k / 32)) (k % 32) 1 1) t) ∧
    (rfld e C 26 3 = 0 → opens { open_ := true, width := 8, poly := 0x1D, acc := 0xFF, refin := true, refout := true }) ∧
    (rfld e C 26 3 = 1 → opens { open_ := true, width := 16, poly := 0x1021, acc := 0xFFFF }) ∧
    (rfld e C 26 3 = 2 → opens { open_ := true, width := 32, poly := 0x04C11DB7, acc := 0xFFFFFFFF, refin := true, refout := true, xorout := 0xFFFFFFFF }) ∧
    (rfld e C 26 3 = 3 → opens { open_ := true, width := 32, poly := 0x1EDC6F41, acc := 0xFFFFFFFF, refin := true, refout := true, xorout := 0xFFFFFFFF }) ∧
    (rfld e C 26 3 = 4 → opens { open_ := true, width := 64, poly := 0x42F0E1EBA9EA3693 }) ∧
    (rfld e C 26 3 = 7 → opens { open_ := true, width := width, poly := (rget64 e (C + 0x28)).toNat % 2 ^ width, acc := (rget64 e (C + 0x30)).toNat % 2 ^ width,
                                 refin := rbit e (C + 0x24) 8, refout := rbit e (C + 0x24) 9, xorout := (rget64 e (C + 0x38)).toNat % 2 ^ width }) ∧
    din (exec (.crcDin8 u ate d8) st) [d8] ∧
    din (exec (.crcDin16 u ate d16) st) [d16.extractLsb' 0 8, d16.extractLsb' 8 8] ∧
    din (exec (.crcDin32 u ate d32) st) [d32.extractLsb' 0 8, d32.extractLsb' 8 8, d32.extractLsb' 16 8, d32.extractLsb' 24 8] ∧
    (feed = false → exec (.crcFeedWrite u ate w) st = .next e) ∧
    (feed = true → ¬ takes → c.queue.length < 8 → exec (.crcFeedWrite u ate w) st = .next (rput e (C + 4) 1 1 1)) ∧
    (feed = true → takes → c.queue.length < 8 → exec (.crcFeedWrite u ate w) st = .next (queued (leBytes 9 w.toNat))) ∧
    (¬ takes → exec (.crcFin u ate) st = .next e) ∧
    (takes → rget e (C + 8) = 0 → c.fin = none → exec (.crcFin u ate) st = .next
      (unit e (if c.queue = [] then { c with fin := some 0, ended := true } else { c with fin := some c.queue.length }))) ∧
    (let x := crcOf st u.val
     (x.open_ = false → x.queue = [] → exec (.crcDone u) st = .next st) ∧
     (x.open_ = true → x.ended = false → rget st (C + 8) = 0 → x.fin = some x.queue.length → rbit st C 25 = false → ∃ t, exec (.crcDone u) st = .next t ∧
       { t with ctl := st.ctl, crc := st.crc } = st ∧ rget64 t (C + 0x1C) = BitVec.ofNat 64 (crcResult (x.queue.flatten.foldl crcByte x)) ∧
       rfld t (C + 4) 30 2 = 1 ∧ rfld t (C + 4) 22 4 = 0 ∧ (crcOf t u.val).open_ = false ∧ (crcOf t u.val).queue = [] ∧
       rget t (C + 0xC) = rget st (C + 0xC) + BitVec.ofNat 32 x.queue.flatten.length ∧
       ∀ y, y ≠ C + 4 → y ≠ C + 0xC → y ≠ C + 0x1C → y ≠ C + 0x20 → rget t y = rget st y))

/-- Resets, boot and firmware (R407–R412, R416, R418–R423, R425, R455, R456). A power-on reset leaves the reset state with the flash and the
fuses, a warm reset also the always-on content. Boot goes on from power-good: the chosen slot is hashed, or recovery begins; a pass opens the
gate and releases the keys, a failure marks the slot and resets, READY passes a trial; its network constants are the configuration's (R15). A package that is good is programmed and gets its MAC;
one that is not, or whose flash work fails, ends with its DETAIL. A right response opens debug and withdraws the keys, a wrong one counts. -/
def Obligations.BootAndFirmware : Prop :=
  ∀ (st : State) (a : Fin 8) (hnd : BitVec 16) (p : List Byte) (v w : BitVec 16) (o : CmdOp),
    let h := hnd.toNat
    let boot := fun (t : State) (b : BootSt) => { t with boot := b }
    let off : State := { State.reset with
      pending := st.pending
      freeCtr := st.freeCtr
      out := st.out
      boot := { slots := st.boot.slots, flags := st.boot.flags, floor := st.boot.floor } }
    let keeps := fun (t : State) => t.cells = st.cells ∧ t.mem = st.mem ∧ t.cmt = st.cmt ∧ t.flt = st.flt ∧ t.btc = st.btc
    let restarted := fun (t : State) (cause : Nat) => t.cells = State.reset.cells ∧ t.mem = State.reset.mem ∧ t.btc = State.reset.btc ∧
      t.host = State.reset.host ∧ t.pending = st.pending ∧ t.out = st.out ∧ t.boot.held = false ∧ t.boot.hash = false ∧ t.boot.slots = st.boot.slots ∧
      t.boot.flags = st.boot.flags ∧ t.glc.dram = st.glc.dram ∧ rfld t 0x440000 20 3 = cause % 8 ∧ rbit t 0x440000 29 = false ∧
      rfld t 0x440004 16 8 = min 255 (rfld st 0x440004 16 8 + 1) ∧ rfld t 0x440004 30 2 = rfld st 0x440004 30 2 ∧
      rfld t 0x440010 30 2 = (if st.boot.trial = true then 3 else if rbit st 0x440004 31 = true then 1 else 0) ∧
      ∀ x k, x < 2 → k < 4 → rget t (synA x + 0x10 + 4 * k) = rget st (synA x + 0x10 + 4 * k)
    let runs := rfld st 0x440000 24 1
    let mode := rfld st 0x440000 30 2
    let ends := fun (t : State) (status detail : Nat) (result : List Byte) => keeps t ∧
      t.host.ops = (finished st o status detail result).host.ops ∧ t.host.fin = (finished st o status detail result).host.fin
    let failsAt := fun (res : Res) (step detail : Nat) => ∃ t, res = .next t ∧ ends t 2 detail [] ∧ rfld t 0x440010 24 4 = step ∧ rbit t 0x440010 28 = false ∧
      rbit t 0x44000C 1 = true ∧ t.boot.upd = []
    let epoch := shEpoch (slotRaw st runs)
    -- resets
    exec .powerOnReset st = .next off ∧ exec (.brownOut true) st = .next off ∧ exec (.brownOut false) st = .next (rput off 0x480000 31 1 1) ∧
    (st.boot.due = none → exec .warmReset st = .next st) ∧
    (∀ c, st.boot.due = some c → ∃ t, exec .warmReset st = .next t ∧ restarted t c) ∧
    -- boot
    ((st.boot.held = false ∨ st.boot.trip = true) → exec .powerGood st = .next st) ∧
    (st.boot.held = true → st.boot.trip = false → exec .powerGood st = .next
      (rset (boot st { st.boot with held := false }) 0x480010 (Config.bankSense.zeroExtend 32))) ∧
    ((st.boot.held = true ∨ mode ≠ 0 ∨ rbit st 0x440000 27 = true) → exec (.crystalStable v w) st = .next st) ∧
    (st.boot.held = false → mode = 0 → rbit st 0x440000 27 = false → ∃ t, exec (.crystalStable v w) st = .next t ∧
      rbit t 0x440004 31 = false ∧ rfld t 0x440070 0 16 = v.toNat ∧ rfld t 0x440074 0 16 = w.toNat ∧
      rget64 t 0x440060 = Config.fuseSerial ∧ rbit t 0x44000C 4 = (rbit st 0x44000C 4 || (slotActive st 0 && slotActive st 1)) ∧
      (∀ n trial, chooseSlot st = some (n, trial) → n < 2 → rget64 t 0x340510 = Config.bootMoff ∧
        (∀ p, p < 2 → rget t (netA p + 0x24) = Config.bootEgr p ++ Config.bootIng p) ∧ rfld t 0x440000 30 2 = 1 ∧ rfld t 0x440000 24 1 = n ∧
        rbit t 0x440000 23 = trial ∧ rbit t 0x440000 27 = true ∧ rbit t 0x440000 28 = true ∧ t.boot.hash = true ∧ t.boot.trial = trial) ∧
      (rbit st 0x440004 31 = true → (∀ n, chooseSlot st ≠ some (n, true)) → rfld t 0x440010 30 2 = 3) ∧
      (chooseSlot st = none → rbit t 0x440000 27 = false ∧ rbit t 0x440000 28 = rbit st 0x440000 28 ∧ rfld t 0x440000 30 2 = 3 ∧ rbit t 0x308000 0 = true ∧ rget t 0x420400 = 7 ∧ t.boot.hash = st.boot.hash)) ∧
    (st.boot.hash = false → exec (.verificationPass v) st = .next st ∧ exec .verificationFail st = .next st) ∧
    (st.boot.hash = true → (∃ t, exec (.verificationPass v) st = .next t ∧ keeps t ∧ rbit t 0x440000 29 = true ∧ rfld t 0x440000 30 2 = 2 ∧
        rbit t 0x440000 28 = false ∧ rfld t 0x440078 0 16 = v.toNat ∧ rbit t 0x44000C 0 = true ∧ t.boot.hash = false ∧
        (∀ k : Fin 4, rbit t (ckoA k.val + 8) 0 = false) ∧
        (∀ e, e ∈ t.boot.seals ↔ st.boot.sealOff = false ∧ (e = epoch ∨ (max (epochFloor st) (epoch - 16) ≤ e ∧ e < epoch)))) ∧
      ∃ t, exec .verificationFail st = .next t ∧ restarted t 3 ∧ slotFailed t runs = true ∧ slotFailed t (1 - runs) = slotFailed st (1 - runs)) ∧
    ((mode < 2 ∨ rbit st 0x440000 26 = true) → exec (.bootReady v) st = .next st) ∧
    (2 ≤ mode → rbit st 0x440000 26 = false →
      let ready := rput (rput st 0x440000 26 1 1) 0x44007C 0 16 v.toNat
      let opens := mode = 2 ∧ Config.fuseNetboot = true ∧ Config.fuseCfkv = true
      (st.boot.trial = false → exec (.bootReady v) st = .next (if opens then
        rset { ready with host := { st.host with ns := mset {} st.host.ns 4 { key := kBoot, prefixLen := 0 } } } (nsA 4) (BitVec.ofNat 32 (2 ^ 30 + 3 * 2 ^ 26 + 49740))
        else ready)) ∧
      (st.boot.trial = true → ∃ t, exec (.bootReady v) st = .next t ∧ keeps t ∧ rbit t 0x440000 26 = true ∧ t.boot.trial = false ∧
        rfld t 0x440010 30 2 = 2 ∧ rbit t 0x44000C 2 = true ∧ t.boot.flags = (flagAppend (flagAppend st runs 1) (1 - runs) 2).boot.flags ∧
        t.boot.floor = (if shRaise (slotRaw st runs) = true ∧ epochFloor st < min 64 epoch then min 64 epoch else st.boot.floor))) ∧
    -- updates, of an agent that is not asleep
    (opOf st a.val h 0x70 = none → exec (.fwUpdate a hnd (some p)) st = .next st ∧ exec (.fwUpdate a hnd none) st = .next st) ∧
    (opOf st a.val h 0x70 = some o → st.answers o.agent → o.started = false → failsAt (exec (.fwUpdate a hnd none) st) 1 7 ∧
      (let d := fwCheck st (leAt o.params 8 4) p
       (d ≠ 0 → failsAt (exec (.fwUpdate a hnd (some p)) st) 2 d) ∧
       (d = 0 → ∃ t, exec (.fwUpdate a hnd (some p)) st = .next t ∧ keeps t ∧ rfld t 0x440010 24 4 = 4 ∧ rbit t 0x440010 28 = true ∧ rbit t 0x440010 29 = false ∧
         t.boot = { (flagAppend st (fwTarget st) 2).boot with upd := slice p 160 (leAt p 8 4) } ∧ t.host.fin = st.host.fin))) ∧
    (opFind st (fun x => x.opc == 0x70 && x.started) = none → exec (.fwUpdateDone true) st = .next st ∧ exec (.fwUpdateDone false) st = .next st) ∧
    (opFind st (fun x => x.opc == 0x70 && x.started) = some o → st.answers o.agent → st.boot.upd ≠ [] →
      let n := fwTarget st
      let pay := st.boot.upd
      (failsAt (exec (.fwUpdateDone false) st) 4 6) ∧
      (mode ≠ 3 → ∃ t, exec (.fwUpdateDone true) st = .next t ∧ ends t 0 0 (leBytes 1 n ++ [0, 0, 0] ++ leBytes 8 (shSeq pay)) ∧
        t.boot = { st.boot with slots := mset none st.boot.slots n (some (pay ++ hmacSha256 (kSlot (shEpoch pay)) pay)), upd := [] } ∧
        rbit t 0x440010 29 = true ∧ rbit t 0x440010 28 = false ∧ rfld t 0x440010 24 4 = 6 ∧ rbit t 0x44000C 1 = true ∧ slotFailed t n = false)) ∧
    -- debug access
    exec .dbgChallengeExpiry st = .next (boot st { st.boot with chal := none }) ∧
    (opOf st a.val h 0x73 = none → exec (.dbgUnlock a hnd) st = .next st) ∧
    (opOf st a.val h 0x73 = some o → st.answers o.agent →
      let want := hmacSha256 kDbg (st.boot.chal.getD [] ++ leBytes 8 Config.fuseSerial.toNat)
      (slice o.params 0 32 = want → ∃ t, exec (.dbgUnlock a hnd) st = .next t ∧ ends t 0 0 [] ∧ rbit t 0x440000 25 = true ∧ rget t 0x420400 = 6 ∧
        rbit t 0x44000C 5 = true ∧ t.boot = { st.boot with chal := none, seals := [], sealOff := true }) ∧
      (slice o.params 0 32 ≠ want → ∃ t, exec (.dbgUnlock a hnd) st = .next t ∧ ends t 2 1 [] ∧
        t.boot = { st.boot with chal := none, wrong := st.boot.wrong + 1 }))

/-- Takeover, self-test, scrubbing, the fault log (R426, R428, R434, R435, R440, R441, R448). The copy of a takeover takes both pages, their marks
and, unless the new slot uses its own, the state memory; an uncorrectable word of an active page is replaced by the other page's, or by zero
with a fence to follow where that one is marked; a cluster's copies end in the handler's order. A tested slot enters the spare pool or is retired, and is logged; the handler's work on it ends. A scrub read counts what it
corrects, flags and logs what it cannot. A pop takes the oldest entry of the log. -/
def Obligations.TakeoverTestAndScrub : Prop :=
  ∀ (st : State) (l : Fin 1024) (bad : List (Fin 0x3000)) (c : Fin 16) (s : Fin 68) (pass aband last : Bool) (mem : Fin 3) (unit word : Nat) (e : Ecc),
    let q := c.val * 68 + s.val
    -- the copy
    (slotOf st l.val = none → exec (.takeoverCopyDone l bad) st = .next st) ∧
    (∀ j, slotOf st l.val = some j → ((cellAt st j).lender = none ∨ (cellAt st j).copied = true) → exec (.takeoverCopyDone l bad) st = .next st) ∧
    (∀ j, slotOf st l.val = some j → copySlot st (l.val / 64) ≠ some j → exec (.takeoverCopyDone l bad) st = .next st) ∧
    (∀ j m, st.Inv → slotOf st l.val = some j → copySlot st (l.val / 64) = some j → (cellAt st j).lender = some m → m ≠ j →
      let n := if (cellAt st j).ownState = true then 0x2000 else 0x3000
      let active := fun (o : Nat) => o < 0x1000 ∧ o / 0x800 = ppage st j ∨ 0x1000 ≤ o ∧ o < 0x2000 ∧ (o - 0x1000) / 0x800 = kpage st j
      let hit := fun (o : Nat) => active o ∧ ∃ b ∈ bad, b.val = o
      let peer := fun (o : Nat) => if o / 0x800 % 2 = 0 then o + 0x800 else o - 0x800
      let unfit := fun (o : Nat) => mget false st.mem.mark (m * 0x4000 + peer o)
      ∃ t, exec (.takeoverCopyDone l bad) st = .next t ∧
        (∀ o, o < 0x4000 → hit o → cellWord t j o = if unfit o = true then 0 else cellWord st m (peer o)) ∧
        (∀ o, o < 0x4000 → ¬ hit o → cellWord t j o = if o < n then cellWord st m o else cellWord st j o) ∧
        (∀ o, o < 0x4000 → mget false t.mem.mark (j * 0x4000 + o) = mget false st.mem.mark ((if o < 0x2000 then m else j) * 0x4000 + o)) ∧
        (∀ y, y / 0x4000 ≠ j → mget 0 t.mem.cell y = mget 0 st.mem.cell y ∧ mget false t.mem.mark y = mget false st.mem.mark y) ∧
        (cellAt t j).copied = true ∧
        ((cellAt t j).fenceNext = true ↔ (cellAt st j).fenceNext = true ∨ ∃ o, hit o ∧ unfit o = true) ∧
        { cellAt t j with copied := false, fenceNext := (cellAt st j).fenceNext } = cellAt st j ∧ (∀ i, i ≠ j → cellAt t i = cellAt st i) ∧
        t.mem.page = mcopyRange {} st.mem.page st.mem.page (m * 2) (j * 2) 2 ∧
        { t with cells := st.cells, mem := { t.mem with cell := st.mem.cell, mark := st.mem.mark, page := st.mem.page } } = st) ∧
    -- the self-test
    (slotState st q ≠ 4 → exec (.slotSelfTestDone c s pass) st = .next st) ∧
    (slotState st q = 4 → st.host.ops = [] →
      let info : FltInfo := { cls := 1, sev := 1, unit := 0x2000 + q, btc := tickEndBtc st (domOf st c.val), oslot := s.val }
      let spare := rput (rput (rput (wipeSlot st q) (celSlotA q) 0 3 2) (celSpareA q) (s.val % 32) 1 1) (fltRetA q) (s.val % 32) 1 0
      let retired := rput (rput (rput st (celSlotA q) 0 3 0) (celSpareA q) (s.val % 32) 1 0) (fltRetA q) (s.val % 32) 1 1
      let ended := fun (t : State) => { t with flt := workDrop t.flt (fun w => w.unit == 0x2000 + q && w.cls == 1) }
      (slotGood st q = false → exec (.slotSelfTestDone c s pass) st = .next (ended (rput st (celSlotA q) 0 3 5))) ∧
      (slotGood st q = true → (∃ t, exec (.slotSelfTestDone c s true) st = .next (ended t) ∧ Logs spare t 4 info spare.flt.openf) ∧
        ∃ t, exec (.slotSelfTestDone c s false) st = .next (ended t) ∧ Logs retired t 5 info retired.flt.openf)) ∧
    -- scrubbing
    (rbit st 0x460020 31 = false → exec (.scrubRead mem unit word e aband last) st = .next st) ∧
    (rbit st 0x460020 31 = true →
      exec (.scrubRead mem unit word .ok aband false) st = .next st ∧ exec (.scrubRead mem unit word .single true false) st = .next st ∧
      (∃ t, exec (.scrubRead mem unit word e aband false) st = .next t ∧
        exec (.scrubRead mem unit word e aband true) st = .next (rput t 0x460020 0 16 (rfld t 0x460020 0 16 + 1))) ∧
      (unit < 1088 → clusterDown st (unit / 68) = false → word < 0x3000 →
        let a := celErrA unit
        let first := if rbit st a 16 = true then st else rput st a 20 2 (word / 0x1000)
        let flagged := rput first a 16 1 1
        exec (.scrubRead 0 unit word .single false false) st = .next (rput st a 0 16 (min 65535 (rfld st a 0 16 + 1))) ∧
        ∃ t, exec (.scrubRead 0 unit word .double aband false) st = .next t ∧ Logs flagged t 1
          { cls := 1, sev := 1, unit := if slotState st unit = 1 then 0x1000 + logicalOf st unit else 0x2000 + unit,
            btc := tickEndBtc st (domOf st (unit / 68)), detail := rfld flagged a 16 6, oslot := unit % 68 } flagged.flt.openf) ∧
      (unit < 128 → cisDown st unit = false → word < 65536 →
        let a := cisEaddrA unit
        exec (.scrubRead 1 unit word .single false false) st = .next (rput st (cisStatA unit) 0 16 (min 65535 (rfld st (cisStatA unit) 0 16 + 1))) ∧
        ∃ u t, exec (.scrubRead 1 unit word .double aband false) st = .next t ∧ Settles (rput st (cisErrA unit) 0 1 1) u ∧
          Logs (if rbit st a 31 = true then u else rset u a (BitVec.ofNat 32 (2 ^ 31 + word))) t 1
            { cls := 6, sev := 2, unit := 0x4000 + unit, btc := tickEndBtc st (domOf st (unit / 8)), detail := rfld u (cisErrA unit) 0 16 } st.flt.openf) ∧
      (unit < 16 → clusterDown st unit = false →
        exec (.scrubRead 2 unit word .single false false) st = .next (rput st (welCntA unit) 16 16 (min 65535 (rfld st (welCntA unit) 16 16 + 1))) ∧
        ∃ t, exec (.scrubRead 2 unit word .double aband false) st = .next t ∧ Logs st t 1
          { cls := 5, sev := 2, unit := 0x3000 + unit, btc := tickEndBtc st (domOf st unit), detail := rfld st (welErrA unit) 0 16 } st.flt.openf)) ∧
    exec .fltLogPop st = .next { st with flt := { st.flt with log := st.flt.log.tail } }

/-- Heat and the control cores (R442, R443, R469, R470, R473). A sample updates the sensors that have power, the greatest as the die
temperature, the peak and the supplies; at TWARN the warning is asserted and a fault opens, 3 °C below it ends; at TCRIT the structure stops,
every cluster goes down, every output is gated, no load runs and THERM_N is asserted, until the die has stayed below TWARN. A thermal trip is
a power-on reset that holds until its release. A watchdog restarts its core and fails what it ran; a second within 10 s is a warm reset. -/
def Obligations.HeatAndControlCores : Prop :=
  ∀ (st : State) (sens : List (BitVec 16)) (vdd vddm : BitVec 16) (k : Fin 4) (now : Nat) (ran : List (Nat × Nat)) (ptp : Bool),
    let off : State := { State.reset with
      pending := st.pending
      freeCtr := st.freeCtr
      out := st.out
      boot := { slots := st.boot.slots, flags := st.boot.flags, floor := st.boot.floor } }
    let boot := fun (t : State) (b : BootSt) => { t with boot := b }
    let sensor := fun (t : State) (i : Nat) => rfld t (0x480040 + 4 * i) 0 16
    -- the temperature
    (∃ t, exec (.temperatureSample sens vdd vddm) st = .next t ∧
      (∀ i, i < 17 → sensor t i = if i < 16 ∧ pwrStep st i < 2 then sensor st i else (sens.getD i 0).toNat) ∧
      (∀ i, i < 17 → sext 16 (sensor t i) ≤ dieQuarter t) ∧ (∃ i, i < 17 ∧ sext 16 (sensor t i) = dieQuarter t) ∧
      rfld t 0x480004 16 15 = ((if st.pwr.seen = true then max (sext 15 (rfld st 0x480004 16 15)) (dieQuarter t) else dieQuarter t) % 32768).toNat ∧
      rget t 0x48000C = vddm ++ vdd ∧ t.pwr.seen = true ∧ t.btc = st.btc ∧
      (t.pwr.warn = true ↔ (if st.pwr.warn = true then 4 * (tWarn st - 3) ≤ dieQuarter t else 4 * tWarn st ≤ dieQuarter t)) ∧
      (st.pwr.warn = false → 4 * tWarn st ≤ dieQuarter t → fltOpen t 0xB 0xA000 = true) ∧
      (st.pwr.warn = true → dieQuarter t < 4 * (tWarn st - 3) → fltOpen t 0xB 0xA000 = false) ∧
      (dieQuarter t < 4 * tCrit st → t.cells = st.cells ∧ t.mem = st.mem ∧ t.host.ops = st.host.ops ∧ rget t 0x480000 = rget st 0x480000) ∧
      (4 * tCrit st ≤ dieQuarter t → rbit st 0x480000 27 = false → rbit t 0x480000 27 = true ∧ t.flt.critical = true ∧ t.load.run = none ∧
        fltOpen t 0xC 0xA000 = true ∧ t.port.live = [] ∧
        (∀ i, i < 16 → rbit t 0x480000 i = false ∧ domOf t i = 0 ∧ pwrStep t i = 0) ∧ (∀ i, i < 4 → rbit t (ckoA i + 8) 30 = true))) ∧
    exec .thermRelease st = .next (if dieQuarter st < 4 * tWarn st then rput st 0x480000 27 1 0 else st) ∧
    exec .pwrTempClr st = .next (rput st 0x480004 16 15 (rfld st 0x480004 0 16)) ∧
    exec .thermalTrip st = .next (rput (boot off { off.boot with trip := true }) 0x480000 27 1 1) ∧
    (st.boot.trip = false → exec .thermalTripRelease st = .next st) ∧
    (st.boot.trip = true → exec .thermalTripRelease st = .next (rset (rput (rput (boot st { st.boot with trip := false, held := false })
      0x480000 27 1 0) 0x480000 30 1 1) 0x480010 (Config.bankSense.zeroExtend 32))) ∧
    -- the control cores
    (let a := 0x460030 + 4 * k.val
     let count := min 65535 (rfld st a 16 16 + 1)
     let unit := 0x9000 + k.val
     let logged := fun (t : State) (kind : Nat) => t.flt.log = if st.flt.log.length < 32 then st.flt.log ++ [fltWords kind
       { cls := 0xD, sev := 0, unit := unit, btc := tickEndBtc st 1, cyc := some (Config.freeNat st.freeCtr % 25600) }] else st.flt.log
     (∀ t0, st.flt.lastExp = some t0 → now ≤ t0 + 10000 → ∃ t, exec (.watchdogExpiry k now ran ptp) st = .next t ∧ rfld t 0x440000 20 3 = 4 ∧
       rfld t a 16 16 = count ∧ t.cells = State.reset.cells ∧ t.mem = State.reset.mem ∧ t.host = State.reset.host ∧ t.btc = State.reset.btc) ∧
     ((∀ t0, st.flt.lastExp = some t0 → t0 + 10000 < now) →
       (∃ t, exec (.watchdogExpiry k now ran false) st = .next t ∧ rfld t a 16 16 = count ∧ t.flt.lastExp = some now ∧
         mget false t.flt.restarting k.val = true ∧ fltOpen t 0xD unit = true ∧ logged t 1 ∧ t.cells = st.cells ∧ t.mem = st.mem ∧ t.btc = st.btc ∧
         (st.flt.cur = none → st.flt.susp = [] → st.flt.queue = [] → t.flt.cur = some { cls := 0xD, sev := 0, unit := unit }) ∧
         (servo st = 3 → ∃ u, exec (.watchdogExpiry k now ran true) st = .next u ∧ servo u = 4)) ∧
       ∀ o, opFind st (fun x => x.agent == o.agent && x.handle == o.handle && x.started) = some o → o.lost = false → st.answers o.agent →
         ∃ t, exec (.watchdogExpiry k now [(o.agent, o.handle)] false) st = .next t ∧
           t.host.ops = st.host.ops.filter (fun x => !(x.agent == o.agent && x.handle == o.handle && x.lost == o.lost)) ∧
           t.host.fin = st.host.fin ++ [⟨o.agent, o.handle, o.opc, o.tag, 2, 0xFF, slice [] 0 20⟩]) ∧
     (mget false st.flt.restarting k.val = false → exec (.coreRestartDone k) st = .next st) ∧
     (mget false st.flt.restarting k.val = true → ∃ t, exec (.coreRestartDone k) st = .next t ∧ mget false t.flt.restarting k.val = false ∧
       fltOpen t 0xD unit = false ∧ (fltOpen st 0xD unit = true → logged t 2) ∧ (fltOpen st 0xD unit = false → t.flt.log = st.flt.log) ∧
       t.cells = st.cells ∧ t.mem = st.mem ∧ t.host.ops = st.host.ops ∧ t.btc = st.btc))

/-- A step is the command at the front of the queue, with its effect on the state that the queue's rest is left in; on an empty queue the
device idles (the model's choice, log entry 1). -/
def Obligations.StepRunsFrontCommand : Prop :=
  (∀ (s : State) (c : Instr), step { s with pending := c :: s.pending } = exec c s) ∧
  (∀ (s : State) (c : Instr) (r : List Instr), s.pending = c :: r → step s = exec c { s with pending := r }) ∧
  (∀ s : State, s.pending = [] → step s = .next s)

/-- From every state that meets the invariant, a step answers a next state that meets it: registers and memories stay canonical, the boundary
records, the commit records and the fault log stay within their capacities (R53, R242, R428). The commands behind the one that ran still wait,
in their order, and nothing that was put out is taken back. No command faults or is refused. -/
def Obligations.EveryStepKeepsInvariant : Prop :=  ∀ s : State, s.Inv → ∃ t, step s = .next t ∧ t.Inv ∧ t.pending = s.pending.tail ∧ s.out <+: t.out

/-- The reset state meets the invariant. -/
def Obligations.ResetMeetsInvariant : Prop := State.reset.Inv

/-- The epoch floor never falls, whatever the command: boot, updates, resets and power included; so a slot whose epoch a step leaves below the
floor never comes back above it (R406, R413, R419). -/
def Obligations.EpochFloorNeverFalls : Prop :=
  ∀ (s t : State) (n : Nat), step s = .next t → epochFloor s ≤ epochFloor t ∧
    (shEpoch (slotRaw t n) < epochFloor s → slotValid t n = false)
end

