-- ==== Sys2Proof/Laws/Map.lean ====
section
/-! SUPPORT. What the sparse tables do: a read after a write, and the canonical form that every operation keeps. -/

namespace Sys2Proof.Machine

variable {α : Type}

theorem mgetD_mdrop (d : Nat → α) (m : SMap α) (k j : Nat) :
    mgetD d (mdrop m k) j = if j = k then d j else mgetD d m j := by
  induction m with
  | nil => simp [mdrop, mgetD]
  | cons e r ih =>
    obtain ⟨i, w⟩ := e
    have ih' : mgetD d (List.filter (fun e : Nat × α => decide (e.1 ≠ k)) r) j = if j = k then d j else mgetD d r j := ih
    by_cases h : i = k
    · simp only [mdrop, List.filter_cons, h, ne_eq, not_true, decide_false, mgetD]
      simp only [Bool.false_eq_true, if_false, ih']
      by_cases hj : j = k
      · simp [hj]
      · simp [hj, Ne.symm hj]
    · simp only [mdrop, List.filter_cons, ne_eq, h, not_false_eq_true, decide_true, if_true, mgetD, ih']
      by_cases hj : j = k
      · simp [hj, h]
      · by_cases hi : i = j <;> simp [hj, hi]

theorem mgetD_minsert (d : Nat → α) (m : SMap α) (k j : Nat) (v : α) :
    mgetD d (minsert m k v) j = if j = k then v else mgetD d m j := by
  induction m with
  | nil =>
    by_cases h : j = k
    · simp [minsert, mgetD, h]
    · simp [minsert, mgetD, h, Ne.symm h]
  | cons e r ih =>
    obtain ⟨i, w⟩ := e
    by_cases h : i < k
    · by_cases hi : i = j
      · have hjk : j ≠ k := by omega
        rw [minsert, if_pos h, if_neg hjk]
        simp [mgetD, hi]
      · simp [minsert, mgetD, h, hi, ih]
    · by_cases hj : j = k
      · simp [minsert, mgetD, h, hj]
      · have : k ≠ j := fun e => hj e.symm
        simp [minsert, mgetD, h, hj, this]

/-- A read after a write: the written index gives the value written, every other what it gave. -/
theorem mgetD_msetD [DecidableEq α] (d : Nat → α) (m : SMap α) (k j : Nat) (v : α) :
    mgetD d (msetD d m k v) j = if j = k then v else mgetD d m j := by
  unfold msetD
  split
  · rename_i h
    rw [mgetD_mdrop]; by_cases hj : j = k <;> simp [hj, h]
  · rw [mgetD_minsert, mgetD_mdrop]; by_cases hj : j = k <;> simp [hj]

@[simp] theorem mgetD_msetD_same [DecidableEq α] (d : Nat → α) (m : SMap α) (k : Nat) (v : α) :
    mgetD d (msetD d m k v) k = v := by simp [mgetD_msetD]

theorem mgetD_msetD_other [DecidableEq α] (d : Nat → α) (m : SMap α) (k j : Nat) (v : α) (h : j ≠ k) :
    mgetD d (msetD d m k v) j = mgetD d m j := by simp [mgetD_msetD, h]

theorem mget_mset [DecidableEq α] (z : α) (m : SMap α) (k j : Nat) (v : α) :
    mget z (mset z m k v) j = if j = k then v else mget z m j := mgetD_msetD _ m k j v

@[simp] theorem mget_mset_same [DecidableEq α] (z : α) (m : SMap α) (k : Nat) (v : α) : mget z (mset z m k v) k = v := by
  simp [mget_mset]

theorem mget_mset_other [DecidableEq α] (z : α) (m : SMap α) (k j : Nat) (v : α) (h : j ≠ k) :
    mget z (mset z m k v) j = mget z m j := by simp [mget_mset, h]

/-! ### The canonical form -/

theorem mwfFrom_mono [DecidableEq α] (d : Nat → α) (m : SMap α) (lo hi : Nat) (h : lo ≤ hi) (w : mwfFrom d hi m = true) :
    mwfFrom d lo m = true := by
  cases m with
  | nil => rfl
  | cons e r =>
    obtain ⟨j, v⟩ := e
    simp only [mwfFrom, Bool.and_eq_true, decide_eq_true_eq] at w ⊢
    exact ⟨⟨by omega, w.1.2⟩, w.2⟩

theorem mwfFrom_filter [DecidableEq α] (d : Nat → α) (p : Nat × α → Bool) (m : SMap α) (lo : Nat) (w : mwfFrom d lo m = true) :
    mwfFrom d lo (m.filter p) = true := by
  induction m generalizing lo with
  | nil => rfl
  | cons e r ih =>
    obtain ⟨j, v⟩ := e
    simp only [mwfFrom, Bool.and_eq_true, decide_eq_true_eq] at w
    rw [List.filter_cons]
    split
    · simp only [mwfFrom, Bool.and_eq_true, decide_eq_true_eq]
      exact ⟨w.1, ih _ w.2⟩
    · exact mwfFrom_mono d _ lo (j + 1) (by omega) (ih _ w.2)

theorem mwfFrom_minsert [DecidableEq α] (d : Nat → α) (m : SMap α) (k lo : Nat) (v : α) (hk : lo ≤ k) (hv : v ≠ d k)
    (hn : ∀ e ∈ m, e.1 ≠ k) (w : mwfFrom d lo m = true) : mwfFrom d lo (minsert m k v) = true := by
  induction m generalizing lo with
  | nil => simp [minsert, mwfFrom, hk, hv]
  | cons e r ih =>
    obtain ⟨j, u⟩ := e
    simp only [mwfFrom, Bool.and_eq_true, decide_eq_true_eq] at w
    have hj : j ≠ k := hn (j, u) (by simp)
    by_cases h : j < k
    · simp only [minsert, h, if_true, mwfFrom, Bool.and_eq_true, decide_eq_true_eq]
      exact ⟨w.1, ih (j + 1) h (fun e he => hn e (by simp [he])) w.2⟩
    · simp only [minsert, h, if_false, mwfFrom, Bool.and_eq_true, decide_eq_true_eq]
      exact ⟨⟨hk, hv⟩, ⟨by omega, w.1.2⟩, w.2⟩

/-- A write keeps the canonical form. -/
theorem mwfD_msetD [DecidableEq α] (d : Nat → α) (m : SMap α) (k : Nat) (v : α) (w : mwfD d m = true) :
    mwfD d (msetD d m k v) = true := by
  unfold msetD mwfD mdrop
  split
  · exact mwfFrom_filter d _ m 0 w
  · rename_i h
    refine mwfFrom_minsert d _ k 0 v (Nat.zero_le _) h ?_ (mwfFrom_filter d _ m 0 w)
    intro e he
    simpa using (List.mem_filter.mp he).2

theorem mwf_mset [DecidableEq α] (z : α) (m : SMap α) (k : Nat) (v : α) (w : mwf z m = true) : mwf z (mset z m k v) = true :=
  mwfD_msetD _ m k v w

theorem mwf_mmod [DecidableEq α] (z : α) (m : SMap α) (k : Nat) (f : α → α) (w : mwf z m = true) : mwf z (mmod z m k f) = true :=
  mwf_mset z m k _ w

theorem mwf_msetMany [DecidableEq α] (z : α) (vs : List α) (m : SMap α) (k : Nat) (w : mwf z m = true) :
    mwf z (msetMany z m k vs) = true := by
  induction vs generalizing m k with
  | nil => exact w
  | cons v r ih => exact ih _ _ (mwf_mset z m k v w)

theorem mwf_mclearRange [DecidableEq α] (z : α) (m : SMap α) (k n : Nat) (w : mwf z m = true) :
    mwf z (mclearRange m k n) = true := mwfFrom_filter _ _ m 0 w

theorem mwf_foldl_mset [DecidableEq α] {β : Type} (z : α) (f : β → Nat) (g : β → α) (es : List β) (m : SMap α) (w : mwf z m = true) :
    mwf z (es.foldl (fun a e => mset z a (f e) (g e)) m) = true := by
  induction es generalizing m with
  | nil => exact w
  | cons e r ih => exact ih _ (mwf_mset z m _ _ w)

theorem mwf_mputRange [DecidableEq α] (z : α) (m : SMap α) (lo n : Nat) (es : SMap α) (w : mwf z m = true) :
    mwf z (mputRange z m lo n es) = true :=
  mwf_foldl_mset z (fun e : Nat × α => lo + e.1) (fun e => e.2) _ _ (mwf_mclearRange z m lo n w)

theorem mwf_mcopyRange [DecidableEq α] (z : α) (src m : SMap α) (k j n : Nat) (w : mwf z m = true) :
    mwf z (mcopyRange z src m k j n) = true :=
  mwf_foldl_mset z (fun e : Nat × α => e.1 - k + j) (fun e => e.2) _ _ (mwf_mclearRange z m j n w)

end Sys2Proof.Machine
end

