-- ==== Sys2Proof/Laws/State.lean ====
section
/-! SUPPORT. What each updater of the state leaves alone and what it writes: one lemma a field, true by unfolding the update. -/

namespace Sys2Proof.Machine

variable (s : State)

/-! ### `rset` -/

@[simp] theorem pending_rset (a : Nat) (v : W32) : (rset s a v).pending = s.pending := rfl
@[simp] theorem freeCtr_rset (a : Nat) (v : W32) : (rset s a v).freeCtr = s.freeCtr := rfl
@[simp] theorem out_rset (a : Nat) (v : W32) : (rset s a v).out = s.out := rfl
@[simp] theorem ctl_rset (a : Nat) (v : W32) : (rset s a v).ctl = msetD regReset s.ctl a v := rfl
@[simp] theorem latch_rset (a : Nat) (v : W32) : (rset s a v).latch = s.latch := rfl
@[simp] theorem holder_rset (a : Nat) (v : W32) : (rset s a v).holder = s.holder := rfl
@[simp] theorem btc_rset (a : Nat) (v : W32) : (rset s a v).btc = s.btc := rfl
@[simp] theorem quarter_rset (a : Nat) (v : W32) : (rset s a v).quarter = s.quarter := rfl
@[simp] theorem bnd_rset (a : Nat) (v : W32) : (rset s a v).bnd = s.bnd := rfl
@[simp] theorem cells_rset (a : Nat) (v : W32) : (rset s a v).cells = s.cells := rfl
@[simp] theorem mem_rset (a : Nat) (v : W32) : (rset s a v).mem = s.mem := rfl
@[simp] theorem cisLate_rset (a : Nat) (v : W32) : (rset s a v).cisLate = s.cisLate := rfl
@[simp] theorem ex_rset (a : Nat) (v : W32) : (rset s a v).ex = s.ex := rfl
@[simp] theorem wel_rset (a : Nat) (v : W32) : (rset s a v).wel = s.wel := rfl
@[simp] theorem glc_rset (a : Nat) (v : W32) : (rset s a v).glc = s.glc := rfl
@[simp] theorem host_rset (a : Nat) (v : W32) : (rset s a v).host = s.host := rfl
@[simp] theorem ev_rset (a : Nat) (v : W32) : (rset s a v).ev = s.ev := rfl
@[simp] theorem mtr_rset (a : Nat) (v : W32) : (rset s a v).mtr = s.mtr := rfl
@[simp] theorem flt_rset (a : Nat) (v : W32) : (rset s a v).flt = s.flt := rfl
@[simp] theorem crc_rset (a : Nat) (v : W32) : (rset s a v).crc = s.crc := rfl
@[simp] theorem cmt_rset (a : Nat) (v : W32) : (rset s a v).cmt = s.cmt := rfl
@[simp] theorem load_rset (a : Nat) (v : W32) : (rset s a v).load = s.load := rfl
@[simp] theorem port_rset (a : Nat) (v : W32) : (rset s a v).port = s.port := rfl
@[simp] theorem pump_rset (a : Nat) (v : W32) : (rset s a v).pump = s.pump := rfl
@[simp] theorem pumpLast_rset (a : Nat) (v : W32) : (rset s a v).pumpLast = s.pumpLast := rfl
@[simp] theorem clk_rset (a : Nat) (v : W32) : (rset s a v).clk = s.clk := rfl
@[simp] theorem net_rset (a : Nat) (v : W32) : (rset s a v).net = s.net := rfl
@[simp] theorem ser_rset (a : Nat) (v : W32) : (rset s a v).ser = s.ser := rfl
@[simp] theorem boot_rset (a : Nat) (v : W32) : (rset s a v).boot = s.boot := rfl
@[simp] theorem pwr_rset (a : Nat) (v : W32) : (rset s a v).pwr = s.pwr := rfl

/-! ### `rput` -/

@[simp] theorem pending_rput (a lo w v : Nat) : (rput s a lo w v).pending = s.pending := rfl
@[simp] theorem freeCtr_rput (a lo w v : Nat) : (rput s a lo w v).freeCtr = s.freeCtr := rfl
@[simp] theorem out_rput (a lo w v : Nat) : (rput s a lo w v).out = s.out := rfl
@[simp] theorem latch_rput (a lo w v : Nat) : (rput s a lo w v).latch = s.latch := rfl
@[simp] theorem holder_rput (a lo w v : Nat) : (rput s a lo w v).holder = s.holder := rfl
@[simp] theorem btc_rput (a lo w v : Nat) : (rput s a lo w v).btc = s.btc := rfl
@[simp] theorem quarter_rput (a lo w v : Nat) : (rput s a lo w v).quarter = s.quarter := rfl
@[simp] theorem bnd_rput (a lo w v : Nat) : (rput s a lo w v).bnd = s.bnd := rfl
@[simp] theorem cells_rput (a lo w v : Nat) : (rput s a lo w v).cells = s.cells := rfl
@[simp] theorem mem_rput (a lo w v : Nat) : (rput s a lo w v).mem = s.mem := rfl
@[simp] theorem cisLate_rput (a lo w v : Nat) : (rput s a lo w v).cisLate = s.cisLate := rfl
@[simp] theorem ex_rput (a lo w v : Nat) : (rput s a lo w v).ex = s.ex := rfl
@[simp] theorem wel_rput (a lo w v : Nat) : (rput s a lo w v).wel = s.wel := rfl
@[simp] theorem glc_rput (a lo w v : Nat) : (rput s a lo w v).glc = s.glc := rfl
@[simp] theorem host_rput (a lo w v : Nat) : (rput s a lo w v).host = s.host := rfl
@[simp] theorem ev_rput (a lo w v : Nat) : (rput s a lo w v).ev = s.ev := rfl
@[simp] theorem mtr_rput (a lo w v : Nat) : (rput s a lo w v).mtr = s.mtr := rfl
@[simp] theorem flt_rput (a lo w v : Nat) : (rput s a lo w v).flt = s.flt := rfl
@[simp] theorem crc_rput (a lo w v : Nat) : (rput s a lo w v).crc = s.crc := rfl
@[simp] theorem cmt_rput (a lo w v : Nat) : (rput s a lo w v).cmt = s.cmt := rfl
@[simp] theorem load_rput (a lo w v : Nat) : (rput s a lo w v).load = s.load := rfl
@[simp] theorem port_rput (a lo w v : Nat) : (rput s a lo w v).port = s.port := rfl
@[simp] theorem pump_rput (a lo w v : Nat) : (rput s a lo w v).pump = s.pump := rfl
@[simp] theorem pumpLast_rput (a lo w v : Nat) : (rput s a lo w v).pumpLast = s.pumpLast := rfl
@[simp] theorem clk_rput (a lo w v : Nat) : (rput s a lo w v).clk = s.clk := rfl
@[simp] theorem net_rput (a lo w v : Nat) : (rput s a lo w v).net = s.net := rfl
@[simp] theorem ser_rput (a lo w v : Nat) : (rput s a lo w v).ser = s.ser := rfl
@[simp] theorem boot_rput (a lo w v : Nat) : (rput s a lo w v).boot = s.boot := rfl
@[simp] theorem pwr_rput (a lo w v : Nat) : (rput s a lo w v).pwr = s.pwr := rfl

/-! ### `rsetBit` -/

@[simp] theorem pending_rsetBit (a i : Nat) : (rsetBit s a i).pending = s.pending := rfl
@[simp] theorem freeCtr_rsetBit (a i : Nat) : (rsetBit s a i).freeCtr = s.freeCtr := rfl
@[simp] theorem out_rsetBit (a i : Nat) : (rsetBit s a i).out = s.out := rfl
@[simp] theorem latch_rsetBit (a i : Nat) : (rsetBit s a i).latch = s.latch := rfl
@[simp] theorem holder_rsetBit (a i : Nat) : (rsetBit s a i).holder = s.holder := rfl
@[simp] theorem btc_rsetBit (a i : Nat) : (rsetBit s a i).btc = s.btc := rfl
@[simp] theorem quarter_rsetBit (a i : Nat) : (rsetBit s a i).quarter = s.quarter := rfl
@[simp] theorem bnd_rsetBit (a i : Nat) : (rsetBit s a i).bnd = s.bnd := rfl
@[simp] theorem cells_rsetBit (a i : Nat) : (rsetBit s a i).cells = s.cells := rfl
@[simp] theorem mem_rsetBit (a i : Nat) : (rsetBit s a i).mem = s.mem := rfl
@[simp] theorem cisLate_rsetBit (a i : Nat) : (rsetBit s a i).cisLate = s.cisLate := rfl
@[simp] theorem ex_rsetBit (a i : Nat) : (rsetBit s a i).ex = s.ex := rfl
@[simp] theorem wel_rsetBit (a i : Nat) : (rsetBit s a i).wel = s.wel := rfl
@[simp] theorem glc_rsetBit (a i : Nat) : (rsetBit s a i).glc = s.glc := rfl
@[simp] theorem host_rsetBit (a i : Nat) : (rsetBit s a i).host = s.host := rfl
@[simp] theorem ev_rsetBit (a i : Nat) : (rsetBit s a i).ev = s.ev := rfl
@[simp] theorem mtr_rsetBit (a i : Nat) : (rsetBit s a i).mtr = s.mtr := rfl
@[simp] theorem flt_rsetBit (a i : Nat) : (rsetBit s a i).flt = s.flt := rfl
@[simp] theorem crc_rsetBit (a i : Nat) : (rsetBit s a i).crc = s.crc := rfl
@[simp] theorem cmt_rsetBit (a i : Nat) : (rsetBit s a i).cmt = s.cmt := rfl
@[simp] theorem load_rsetBit (a i : Nat) : (rsetBit s a i).load = s.load := rfl
@[simp] theorem port_rsetBit (a i : Nat) : (rsetBit s a i).port = s.port := rfl
@[simp] theorem pump_rsetBit (a i : Nat) : (rsetBit s a i).pump = s.pump := rfl
@[simp] theorem pumpLast_rsetBit (a i : Nat) : (rsetBit s a i).pumpLast = s.pumpLast := rfl
@[simp] theorem clk_rsetBit (a i : Nat) : (rsetBit s a i).clk = s.clk := rfl
@[simp] theorem net_rsetBit (a i : Nat) : (rsetBit s a i).net = s.net := rfl
@[simp] theorem ser_rsetBit (a i : Nat) : (rsetBit s a i).ser = s.ser := rfl
@[simp] theorem boot_rsetBit (a i : Nat) : (rsetBit s a i).boot = s.boot := rfl
@[simp] theorem pwr_rsetBit (a i : Nat) : (rsetBit s a i).pwr = s.pwr := rfl

/-! ### `rputBit` -/

@[simp] theorem pending_rputBit (a i : Nat) (b : Bool) : (rputBit s a i b).pending = s.pending := rfl
@[simp] theorem freeCtr_rputBit (a i : Nat) (b : Bool) : (rputBit s a i b).freeCtr = s.freeCtr := rfl
@[simp] theorem out_rputBit (a i : Nat) (b : Bool) : (rputBit s a i b).out = s.out := rfl
@[simp] theorem latch_rputBit (a i : Nat) (b : Bool) : (rputBit s a i b).latch = s.latch := rfl
@[simp] theorem holder_rputBit (a i : Nat) (b : Bool) : (rputBit s a i b).holder = s.holder := rfl
@[simp] theorem btc_rputBit (a i : Nat) (b : Bool) : (rputBit s a i b).btc = s.btc := rfl
@[simp] theorem quarter_rputBit (a i : Nat) (b : Bool) : (rputBit s a i b).quarter = s.quarter := rfl
@[simp] theorem bnd_rputBit (a i : Nat) (b : Bool) : (rputBit s a i b).bnd = s.bnd := rfl
@[simp] theorem cells_rputBit (a i : Nat) (b : Bool) : (rputBit s a i b).cells = s.cells := rfl
@[simp] theorem mem_rputBit (a i : Nat) (b : Bool) : (rputBit s a i b).mem = s.mem := rfl
@[simp] theorem cisLate_rputBit (a i : Nat) (b : Bool) : (rputBit s a i b).cisLate = s.cisLate := rfl
@[simp] theorem ex_rputBit (a i : Nat) (b : Bool) : (rputBit s a i b).ex = s.ex := rfl
@[simp] theorem wel_rputBit (a i : Nat) (b : Bool) : (rputBit s a i b).wel = s.wel := rfl
@[simp] theorem glc_rputBit (a i : Nat) (b : Bool) : (rputBit s a i b).glc = s.glc := rfl
@[simp] theorem host_rputBit (a i : Nat) (b : Bool) : (rputBit s a i b).host = s.host := rfl
@[simp] theorem ev_rputBit (a i : Nat) (b : Bool) : (rputBit s a i b).ev = s.ev := rfl
@[simp] theorem mtr_rputBit (a i : Nat) (b : Bool) : (rputBit s a i b).mtr = s.mtr := rfl
@[simp] theorem flt_rputBit (a i : Nat) (b : Bool) : (rputBit s a i b).flt = s.flt := rfl
@[simp] theorem crc_rputBit (a i : Nat) (b : Bool) : (rputBit s a i b).crc = s.crc := rfl
@[simp] theorem cmt_rputBit (a i : Nat) (b : Bool) : (rputBit s a i b).cmt = s.cmt := rfl
@[simp] theorem load_rputBit (a i : Nat) (b : Bool) : (rputBit s a i b).load = s.load := rfl
@[simp] theorem port_rputBit (a i : Nat) (b : Bool) : (rputBit s a i b).port = s.port := rfl
@[simp] theorem pump_rputBit (a i : Nat) (b : Bool) : (rputBit s a i b).pump = s.pump := rfl
@[simp] theorem pumpLast_rputBit (a i : Nat) (b : Bool) : (rputBit s a i b).pumpLast = s.pumpLast := rfl
@[simp] theorem clk_rputBit (a i : Nat) (b : Bool) : (rputBit s a i b).clk = s.clk := rfl
@[simp] theorem net_rputBit (a i : Nat) (b : Bool) : (rputBit s a i b).net = s.net := rfl
@[simp] theorem ser_rputBit (a i : Nat) (b : Bool) : (rputBit s a i b).ser = s.ser := rfl
@[simp] theorem boot_rputBit (a i : Nat) (b : Bool) : (rputBit s a i b).boot = s.boot := rfl
@[simp] theorem pwr_rputBit (a i : Nat) (b : Bool) : (rputBit s a i b).pwr = s.pwr := rfl

/-! ### `rinc` -/

@[simp] theorem pending_rinc (a lo w : Nat) : (rinc s a lo w).pending = s.pending := rfl
@[simp] theorem freeCtr_rinc (a lo w : Nat) : (rinc s a lo w).freeCtr = s.freeCtr := rfl
@[simp] theorem out_rinc (a lo w : Nat) : (rinc s a lo w).out = s.out := rfl
@[simp] theorem latch_rinc (a lo w : Nat) : (rinc s a lo w).latch = s.latch := rfl
@[simp] theorem holder_rinc (a lo w : Nat) : (rinc s a lo w).holder = s.holder := rfl
@[simp] theorem btc_rinc (a lo w : Nat) : (rinc s a lo w).btc = s.btc := rfl
@[simp] theorem quarter_rinc (a lo w : Nat) : (rinc s a lo w).quarter = s.quarter := rfl
@[simp] theorem bnd_rinc (a lo w : Nat) : (rinc s a lo w).bnd = s.bnd := rfl
@[simp] theorem cells_rinc (a lo w : Nat) : (rinc s a lo w).cells = s.cells := rfl
@[simp] theorem mem_rinc (a lo w : Nat) : (rinc s a lo w).mem = s.mem := rfl
@[simp] theorem cisLate_rinc (a lo w : Nat) : (rinc s a lo w).cisLate = s.cisLate := rfl
@[simp] theorem ex_rinc (a lo w : Nat) : (rinc s a lo w).ex = s.ex := rfl
@[simp] theorem wel_rinc (a lo w : Nat) : (rinc s a lo w).wel = s.wel := rfl
@[simp] theorem glc_rinc (a lo w : Nat) : (rinc s a lo w).glc = s.glc := rfl
@[simp] theorem host_rinc (a lo w : Nat) : (rinc s a lo w).host = s.host := rfl
@[simp] theorem ev_rinc (a lo w : Nat) : (rinc s a lo w).ev = s.ev := rfl
@[simp] theorem mtr_rinc (a lo w : Nat) : (rinc s a lo w).mtr = s.mtr := rfl
@[simp] theorem flt_rinc (a lo w : Nat) : (rinc s a lo w).flt = s.flt := rfl
@[simp] theorem crc_rinc (a lo w : Nat) : (rinc s a lo w).crc = s.crc := rfl
@[simp] theorem cmt_rinc (a lo w : Nat) : (rinc s a lo w).cmt = s.cmt := rfl
@[simp] theorem load_rinc (a lo w : Nat) : (rinc s a lo w).load = s.load := rfl
@[simp] theorem port_rinc (a lo w : Nat) : (rinc s a lo w).port = s.port := rfl
@[simp] theorem pump_rinc (a lo w : Nat) : (rinc s a lo w).pump = s.pump := rfl
@[simp] theorem pumpLast_rinc (a lo w : Nat) : (rinc s a lo w).pumpLast = s.pumpLast := rfl
@[simp] theorem clk_rinc (a lo w : Nat) : (rinc s a lo w).clk = s.clk := rfl
@[simp] theorem net_rinc (a lo w : Nat) : (rinc s a lo w).net = s.net := rfl
@[simp] theorem ser_rinc (a lo w : Nat) : (rinc s a lo w).ser = s.ser := rfl
@[simp] theorem boot_rinc (a lo w : Nat) : (rinc s a lo w).boot = s.boot := rfl
@[simp] theorem pwr_rinc (a lo w : Nat) : (rinc s a lo w).pwr = s.pwr := rfl

/-! ### `rincBy` -/

@[simp] theorem pending_rincBy (a lo w k : Nat) : (rincBy s a lo w k).pending = s.pending := rfl
@[simp] theorem freeCtr_rincBy (a lo w k : Nat) : (rincBy s a lo w k).freeCtr = s.freeCtr := rfl
@[simp] theorem out_rincBy (a lo w k : Nat) : (rincBy s a lo w k).out = s.out := rfl
@[simp] theorem latch_rincBy (a lo w k : Nat) : (rincBy s a lo w k).latch = s.latch := rfl
@[simp] theorem holder_rincBy (a lo w k : Nat) : (rincBy s a lo w k).holder = s.holder := rfl
@[simp] theorem btc_rincBy (a lo w k : Nat) : (rincBy s a lo w k).btc = s.btc := rfl
@[simp] theorem quarter_rincBy (a lo w k : Nat) : (rincBy s a lo w k).quarter = s.quarter := rfl
@[simp] theorem bnd_rincBy (a lo w k : Nat) : (rincBy s a lo w k).bnd = s.bnd := rfl
@[simp] theorem cells_rincBy (a lo w k : Nat) : (rincBy s a lo w k).cells = s.cells := rfl
@[simp] theorem mem_rincBy (a lo w k : Nat) : (rincBy s a lo w k).mem = s.mem := rfl
@[simp] theorem cisLate_rincBy (a lo w k : Nat) : (rincBy s a lo w k).cisLate = s.cisLate := rfl
@[simp] theorem ex_rincBy (a lo w k : Nat) : (rincBy s a lo w k).ex = s.ex := rfl
@[simp] theorem wel_rincBy (a lo w k : Nat) : (rincBy s a lo w k).wel = s.wel := rfl
@[simp] theorem glc_rincBy (a lo w k : Nat) : (rincBy s a lo w k).glc = s.glc := rfl
@[simp] theorem host_rincBy (a lo w k : Nat) : (rincBy s a lo w k).host = s.host := rfl
@[simp] theorem ev_rincBy (a lo w k : Nat) : (rincBy s a lo w k).ev = s.ev := rfl
@[simp] theorem mtr_rincBy (a lo w k : Nat) : (rincBy s a lo w k).mtr = s.mtr := rfl
@[simp] theorem flt_rincBy (a lo w k : Nat) : (rincBy s a lo w k).flt = s.flt := rfl
@[simp] theorem crc_rincBy (a lo w k : Nat) : (rincBy s a lo w k).crc = s.crc := rfl
@[simp] theorem cmt_rincBy (a lo w k : Nat) : (rincBy s a lo w k).cmt = s.cmt := rfl
@[simp] theorem load_rincBy (a lo w k : Nat) : (rincBy s a lo w k).load = s.load := rfl
@[simp] theorem port_rincBy (a lo w k : Nat) : (rincBy s a lo w k).port = s.port := rfl
@[simp] theorem pump_rincBy (a lo w k : Nat) : (rincBy s a lo w k).pump = s.pump := rfl
@[simp] theorem pumpLast_rincBy (a lo w k : Nat) : (rincBy s a lo w k).pumpLast = s.pumpLast := rfl
@[simp] theorem clk_rincBy (a lo w k : Nat) : (rincBy s a lo w k).clk = s.clk := rfl
@[simp] theorem net_rincBy (a lo w k : Nat) : (rincBy s a lo w k).net = s.net := rfl
@[simp] theorem ser_rincBy (a lo w k : Nat) : (rincBy s a lo w k).ser = s.ser := rfl
@[simp] theorem boot_rincBy (a lo w k : Nat) : (rincBy s a lo w k).boot = s.boot := rfl
@[simp] theorem pwr_rincBy (a lo w k : Nat) : (rincBy s a lo w k).pwr = s.pwr := rfl

/-! ### `rincMod` -/

@[simp] theorem pending_rincMod (a lo w : Nat) : (rincMod s a lo w).pending = s.pending := rfl
@[simp] theorem freeCtr_rincMod (a lo w : Nat) : (rincMod s a lo w).freeCtr = s.freeCtr := rfl
@[simp] theorem out_rincMod (a lo w : Nat) : (rincMod s a lo w).out = s.out := rfl
@[simp] theorem latch_rincMod (a lo w : Nat) : (rincMod s a lo w).latch = s.latch := rfl
@[simp] theorem holder_rincMod (a lo w : Nat) : (rincMod s a lo w).holder = s.holder := rfl
@[simp] theorem btc_rincMod (a lo w : Nat) : (rincMod s a lo w).btc = s.btc := rfl
@[simp] theorem quarter_rincMod (a lo w : Nat) : (rincMod s a lo w).quarter = s.quarter := rfl
@[simp] theorem bnd_rincMod (a lo w : Nat) : (rincMod s a lo w).bnd = s.bnd := rfl
@[simp] theorem cells_rincMod (a lo w : Nat) : (rincMod s a lo w).cells = s.cells := rfl
@[simp] theorem mem_rincMod (a lo w : Nat) : (rincMod s a lo w).mem = s.mem := rfl
@[simp] theorem cisLate_rincMod (a lo w : Nat) : (rincMod s a lo w).cisLate = s.cisLate := rfl
@[simp] theorem ex_rincMod (a lo w : Nat) : (rincMod s a lo w).ex = s.ex := rfl
@[simp] theorem wel_rincMod (a lo w : Nat) : (rincMod s a lo w).wel = s.wel := rfl
@[simp] theorem glc_rincMod (a lo w : Nat) : (rincMod s a lo w).glc = s.glc := rfl
@[simp] theorem host_rincMod (a lo w : Nat) : (rincMod s a lo w).host = s.host := rfl
@[simp] theorem ev_rincMod (a lo w : Nat) : (rincMod s a lo w).ev = s.ev := rfl
@[simp] theorem mtr_rincMod (a lo w : Nat) : (rincMod s a lo w).mtr = s.mtr := rfl
@[simp] theorem flt_rincMod (a lo w : Nat) : (rincMod s a lo w).flt = s.flt := rfl
@[simp] theorem crc_rincMod (a lo w : Nat) : (rincMod s a lo w).crc = s.crc := rfl
@[simp] theorem cmt_rincMod (a lo w : Nat) : (rincMod s a lo w).cmt = s.cmt := rfl
@[simp] theorem load_rincMod (a lo w : Nat) : (rincMod s a lo w).load = s.load := rfl
@[simp] theorem port_rincMod (a lo w : Nat) : (rincMod s a lo w).port = s.port := rfl
@[simp] theorem pump_rincMod (a lo w : Nat) : (rincMod s a lo w).pump = s.pump := rfl
@[simp] theorem pumpLast_rincMod (a lo w : Nat) : (rincMod s a lo w).pumpLast = s.pumpLast := rfl
@[simp] theorem clk_rincMod (a lo w : Nat) : (rincMod s a lo w).clk = s.clk := rfl
@[simp] theorem net_rincMod (a lo w : Nat) : (rincMod s a lo w).net = s.net := rfl
@[simp] theorem ser_rincMod (a lo w : Nat) : (rincMod s a lo w).ser = s.ser := rfl
@[simp] theorem boot_rincMod (a lo w : Nat) : (rincMod s a lo w).boot = s.boot := rfl
@[simp] theorem pwr_rincMod (a lo w : Nat) : (rincMod s a lo w).pwr = s.pwr := rfl

/-! ### `rset64` -/

@[simp] theorem pending_rset64 (a : Nat) (v : W64) : (rset64 s a v).pending = s.pending := rfl
@[simp] theorem freeCtr_rset64 (a : Nat) (v : W64) : (rset64 s a v).freeCtr = s.freeCtr := rfl
@[simp] theorem out_rset64 (a : Nat) (v : W64) : (rset64 s a v).out = s.out := rfl
@[simp] theorem latch_rset64 (a : Nat) (v : W64) : (rset64 s a v).latch = s.latch := rfl
@[simp] theorem holder_rset64 (a : Nat) (v : W64) : (rset64 s a v).holder = s.holder := rfl
@[simp] theorem btc_rset64 (a : Nat) (v : W64) : (rset64 s a v).btc = s.btc := rfl
@[simp] theorem quarter_rset64 (a : Nat) (v : W64) : (rset64 s a v).quarter = s.quarter := rfl
@[simp] theorem bnd_rset64 (a : Nat) (v : W64) : (rset64 s a v).bnd = s.bnd := rfl
@[simp] theorem cells_rset64 (a : Nat) (v : W64) : (rset64 s a v).cells = s.cells := rfl
@[simp] theorem mem_rset64 (a : Nat) (v : W64) : (rset64 s a v).mem = s.mem := rfl
@[simp] theorem cisLate_rset64 (a : Nat) (v : W64) : (rset64 s a v).cisLate = s.cisLate := rfl
@[simp] theorem ex_rset64 (a : Nat) (v : W64) : (rset64 s a v).ex = s.ex := rfl
@[simp] theorem wel_rset64 (a : Nat) (v : W64) : (rset64 s a v).wel = s.wel := rfl
@[simp] theorem glc_rset64 (a : Nat) (v : W64) : (rset64 s a v).glc = s.glc := rfl
@[simp] theorem host_rset64 (a : Nat) (v : W64) : (rset64 s a v).host = s.host := rfl
@[simp] theorem ev_rset64 (a : Nat) (v : W64) : (rset64 s a v).ev = s.ev := rfl
@[simp] theorem mtr_rset64 (a : Nat) (v : W64) : (rset64 s a v).mtr = s.mtr := rfl
@[simp] theorem flt_rset64 (a : Nat) (v : W64) : (rset64 s a v).flt = s.flt := rfl
@[simp] theorem crc_rset64 (a : Nat) (v : W64) : (rset64 s a v).crc = s.crc := rfl
@[simp] theorem cmt_rset64 (a : Nat) (v : W64) : (rset64 s a v).cmt = s.cmt := rfl
@[simp] theorem load_rset64 (a : Nat) (v : W64) : (rset64 s a v).load = s.load := rfl
@[simp] theorem port_rset64 (a : Nat) (v : W64) : (rset64 s a v).port = s.port := rfl
@[simp] theorem pump_rset64 (a : Nat) (v : W64) : (rset64 s a v).pump = s.pump := rfl
@[simp] theorem pumpLast_rset64 (a : Nat) (v : W64) : (rset64 s a v).pumpLast = s.pumpLast := rfl
@[simp] theorem clk_rset64 (a : Nat) (v : W64) : (rset64 s a v).clk = s.clk := rfl
@[simp] theorem net_rset64 (a : Nat) (v : W64) : (rset64 s a v).net = s.net := rfl
@[simp] theorem ser_rset64 (a : Nat) (v : W64) : (rset64 s a v).ser = s.ser := rfl
@[simp] theorem boot_rset64 (a : Nat) (v : W64) : (rset64 s a v).boot = s.boot := rfl
@[simp] theorem pwr_rset64 (a : Nat) (v : W64) : (rset64 s a v).pwr = s.pwr := rfl

/-! ### `emit` -/

@[simp] theorem pending_emit (o : Out) : (emit s o).pending = s.pending := rfl
@[simp] theorem freeCtr_emit (o : Out) : (emit s o).freeCtr = s.freeCtr := rfl
@[simp] theorem out_emit (o : Out) : (emit s o).out = s.out ++ [o] := rfl
@[simp] theorem ctl_emit (o : Out) : (emit s o).ctl = s.ctl := rfl
@[simp] theorem latch_emit (o : Out) : (emit s o).latch = s.latch := rfl
@[simp] theorem holder_emit (o : Out) : (emit s o).holder = s.holder := rfl
@[simp] theorem btc_emit (o : Out) : (emit s o).btc = s.btc := rfl
@[simp] theorem quarter_emit (o : Out) : (emit s o).quarter = s.quarter := rfl
@[simp] theorem bnd_emit (o : Out) : (emit s o).bnd = s.bnd := rfl
@[simp] theorem cells_emit (o : Out) : (emit s o).cells = s.cells := rfl
@[simp] theorem mem_emit (o : Out) : (emit s o).mem = s.mem := rfl
@[simp] theorem cisLate_emit (o : Out) : (emit s o).cisLate = s.cisLate := rfl
@[simp] theorem ex_emit (o : Out) : (emit s o).ex = s.ex := rfl
@[simp] theorem wel_emit (o : Out) : (emit s o).wel = s.wel := rfl
@[simp] theorem glc_emit (o : Out) : (emit s o).glc = s.glc := rfl
@[simp] theorem host_emit (o : Out) : (emit s o).host = s.host := rfl
@[simp] theorem ev_emit (o : Out) : (emit s o).ev = s.ev := rfl
@[simp] theorem mtr_emit (o : Out) : (emit s o).mtr = s.mtr := rfl
@[simp] theorem flt_emit (o : Out) : (emit s o).flt = s.flt := rfl
@[simp] theorem crc_emit (o : Out) : (emit s o).crc = s.crc := rfl
@[simp] theorem cmt_emit (o : Out) : (emit s o).cmt = s.cmt := rfl
@[simp] theorem load_emit (o : Out) : (emit s o).load = s.load := rfl
@[simp] theorem port_emit (o : Out) : (emit s o).port = s.port := rfl
@[simp] theorem pump_emit (o : Out) : (emit s o).pump = s.pump := rfl
@[simp] theorem pumpLast_emit (o : Out) : (emit s o).pumpLast = s.pumpLast := rfl
@[simp] theorem clk_emit (o : Out) : (emit s o).clk = s.clk := rfl
@[simp] theorem net_emit (o : Out) : (emit s o).net = s.net := rfl
@[simp] theorem ser_emit (o : Out) : (emit s o).ser = s.ser := rfl
@[simp] theorem boot_emit (o : Out) : (emit s o).boot = s.boot := rfl
@[simp] theorem pwr_emit (o : Out) : (emit s o).pwr = s.pwr := rfl

/-! ### `emitAll` -/

@[simp] theorem pending_emitAll (os : List Out) : (emitAll s os).pending = s.pending := rfl
@[simp] theorem freeCtr_emitAll (os : List Out) : (emitAll s os).freeCtr = s.freeCtr := rfl
@[simp] theorem out_emitAll (os : List Out) : (emitAll s os).out = s.out ++ os := rfl
@[simp] theorem ctl_emitAll (os : List Out) : (emitAll s os).ctl = s.ctl := rfl
@[simp] theorem latch_emitAll (os : List Out) : (emitAll s os).latch = s.latch := rfl
@[simp] theorem holder_emitAll (os : List Out) : (emitAll s os).holder = s.holder := rfl
@[simp] theorem btc_emitAll (os : List Out) : (emitAll s os).btc = s.btc := rfl
@[simp] theorem quarter_emitAll (os : List Out) : (emitAll s os).quarter = s.quarter := rfl
@[simp] theorem bnd_emitAll (os : List Out) : (emitAll s os).bnd = s.bnd := rfl
@[simp] theorem cells_emitAll (os : List Out) : (emitAll s os).cells = s.cells := rfl
@[simp] theorem mem_emitAll (os : List Out) : (emitAll s os).mem = s.mem := rfl
@[simp] theorem cisLate_emitAll (os : List Out) : (emitAll s os).cisLate = s.cisLate := rfl
@[simp] theorem ex_emitAll (os : List Out) : (emitAll s os).ex = s.ex := rfl
@[simp] theorem wel_emitAll (os : List Out) : (emitAll s os).wel = s.wel := rfl
@[simp] theorem glc_emitAll (os : List Out) : (emitAll s os).glc = s.glc := rfl
@[simp] theorem host_emitAll (os : List Out) : (emitAll s os).host = s.host := rfl
@[simp] theorem ev_emitAll (os : List Out) : (emitAll s os).ev = s.ev := rfl
@[simp] theorem mtr_emitAll (os : List Out) : (emitAll s os).mtr = s.mtr := rfl
@[simp] theorem flt_emitAll (os : List Out) : (emitAll s os).flt = s.flt := rfl
@[simp] theorem crc_emitAll (os : List Out) : (emitAll s os).crc = s.crc := rfl
@[simp] theorem cmt_emitAll (os : List Out) : (emitAll s os).cmt = s.cmt := rfl
@[simp] theorem load_emitAll (os : List Out) : (emitAll s os).load = s.load := rfl
@[simp] theorem port_emitAll (os : List Out) : (emitAll s os).port = s.port := rfl
@[simp] theorem pump_emitAll (os : List Out) : (emitAll s os).pump = s.pump := rfl
@[simp] theorem pumpLast_emitAll (os : List Out) : (emitAll s os).pumpLast = s.pumpLast := rfl
@[simp] theorem clk_emitAll (os : List Out) : (emitAll s os).clk = s.clk := rfl
@[simp] theorem net_emitAll (os : List Out) : (emitAll s os).net = s.net := rfl
@[simp] theorem ser_emitAll (os : List Out) : (emitAll s os).ser = s.ser := rfl
@[simp] theorem boot_emitAll (os : List Out) : (emitAll s os).boot = s.boot := rfl
@[simp] theorem pwr_emitAll (os : List Out) : (emitAll s os).pwr = s.pwr := rfl

/-! ### `drawn` -/

@[simp] theorem pending_drawn : (drawn s).pending = s.pending := rfl
@[simp] theorem freeCtr_drawn : (drawn s).freeCtr = s.freeCtr + 1 := rfl
@[simp] theorem out_drawn : (drawn s).out = s.out := rfl
@[simp] theorem ctl_drawn : (drawn s).ctl = s.ctl := rfl
@[simp] theorem latch_drawn : (drawn s).latch = s.latch := rfl
@[simp] theorem holder_drawn : (drawn s).holder = s.holder := rfl
@[simp] theorem btc_drawn : (drawn s).btc = s.btc := rfl
@[simp] theorem quarter_drawn : (drawn s).quarter = s.quarter := rfl
@[simp] theorem bnd_drawn : (drawn s).bnd = s.bnd := rfl
@[simp] theorem cells_drawn : (drawn s).cells = s.cells := rfl
@[simp] theorem mem_drawn : (drawn s).mem = s.mem := rfl
@[simp] theorem cisLate_drawn : (drawn s).cisLate = s.cisLate := rfl
@[simp] theorem ex_drawn : (drawn s).ex = s.ex := rfl
@[simp] theorem wel_drawn : (drawn s).wel = s.wel := rfl
@[simp] theorem glc_drawn : (drawn s).glc = s.glc := rfl
@[simp] theorem host_drawn : (drawn s).host = s.host := rfl
@[simp] theorem ev_drawn : (drawn s).ev = s.ev := rfl
@[simp] theorem mtr_drawn : (drawn s).mtr = s.mtr := rfl
@[simp] theorem flt_drawn : (drawn s).flt = s.flt := rfl
@[simp] theorem crc_drawn : (drawn s).crc = s.crc := rfl
@[simp] theorem cmt_drawn : (drawn s).cmt = s.cmt := rfl
@[simp] theorem load_drawn : (drawn s).load = s.load := rfl
@[simp] theorem port_drawn : (drawn s).port = s.port := rfl
@[simp] theorem pump_drawn : (drawn s).pump = s.pump := rfl
@[simp] theorem pumpLast_drawn : (drawn s).pumpLast = s.pumpLast := rfl
@[simp] theorem clk_drawn : (drawn s).clk = s.clk := rfl
@[simp] theorem net_drawn : (drawn s).net = s.net := rfl
@[simp] theorem ser_drawn : (drawn s).ser = s.ser := rfl
@[simp] theorem boot_drawn : (drawn s).boot = s.boot := rfl
@[simp] theorem pwr_drawn : (drawn s).pwr = s.pwr := rfl

/-! ### `setCell` -/

@[simp] theorem pending_setCell (k : Nat) (c : Cell) : (setCell s k c).pending = s.pending := rfl
@[simp] theorem freeCtr_setCell (k : Nat) (c : Cell) : (setCell s k c).freeCtr = s.freeCtr := rfl
@[simp] theorem out_setCell (k : Nat) (c : Cell) : (setCell s k c).out = s.out := rfl
@[simp] theorem ctl_setCell (k : Nat) (c : Cell) : (setCell s k c).ctl = s.ctl := rfl
@[simp] theorem latch_setCell (k : Nat) (c : Cell) : (setCell s k c).latch = s.latch := rfl
@[simp] theorem holder_setCell (k : Nat) (c : Cell) : (setCell s k c).holder = s.holder := rfl
@[simp] theorem btc_setCell (k : Nat) (c : Cell) : (setCell s k c).btc = s.btc := rfl
@[simp] theorem quarter_setCell (k : Nat) (c : Cell) : (setCell s k c).quarter = s.quarter := rfl
@[simp] theorem bnd_setCell (k : Nat) (c : Cell) : (setCell s k c).bnd = s.bnd := rfl
@[simp] theorem cells_setCell (k : Nat) (c : Cell) : (setCell s k c).cells = mset {} s.cells k c := rfl
@[simp] theorem mem_setCell (k : Nat) (c : Cell) : (setCell s k c).mem = s.mem := rfl
@[simp] theorem cisLate_setCell (k : Nat) (c : Cell) : (setCell s k c).cisLate = s.cisLate := rfl
@[simp] theorem ex_setCell (k : Nat) (c : Cell) : (setCell s k c).ex = s.ex := rfl
@[simp] theorem wel_setCell (k : Nat) (c : Cell) : (setCell s k c).wel = s.wel := rfl
@[simp] theorem glc_setCell (k : Nat) (c : Cell) : (setCell s k c).glc = s.glc := rfl
@[simp] theorem host_setCell (k : Nat) (c : Cell) : (setCell s k c).host = s.host := rfl
@[simp] theorem ev_setCell (k : Nat) (c : Cell) : (setCell s k c).ev = s.ev := rfl
@[simp] theorem mtr_setCell (k : Nat) (c : Cell) : (setCell s k c).mtr = s.mtr := rfl
@[simp] theorem flt_setCell (k : Nat) (c : Cell) : (setCell s k c).flt = s.flt := rfl
@[simp] theorem crc_setCell (k : Nat) (c : Cell) : (setCell s k c).crc = s.crc := rfl
@[simp] theorem cmt_setCell (k : Nat) (c : Cell) : (setCell s k c).cmt = s.cmt := rfl
@[simp] theorem load_setCell (k : Nat) (c : Cell) : (setCell s k c).load = s.load := rfl
@[simp] theorem port_setCell (k : Nat) (c : Cell) : (setCell s k c).port = s.port := rfl
@[simp] theorem pump_setCell (k : Nat) (c : Cell) : (setCell s k c).pump = s.pump := rfl
@[simp] theorem pumpLast_setCell (k : Nat) (c : Cell) : (setCell s k c).pumpLast = s.pumpLast := rfl
@[simp] theorem clk_setCell (k : Nat) (c : Cell) : (setCell s k c).clk = s.clk := rfl
@[simp] theorem net_setCell (k : Nat) (c : Cell) : (setCell s k c).net = s.net := rfl
@[simp] theorem ser_setCell (k : Nat) (c : Cell) : (setCell s k c).ser = s.ser := rfl
@[simp] theorem boot_setCell (k : Nat) (c : Cell) : (setCell s k c).boot = s.boot := rfl
@[simp] theorem pwr_setCell (k : Nat) (c : Cell) : (setCell s k c).pwr = s.pwr := rfl

/-! ### `onCell` -/

@[simp] theorem pending_onCell (k : Nat) (f : Cell → Cell) : (onCell s k f).pending = s.pending := rfl
@[simp] theorem freeCtr_onCell (k : Nat) (f : Cell → Cell) : (onCell s k f).freeCtr = s.freeCtr := rfl
@[simp] theorem out_onCell (k : Nat) (f : Cell → Cell) : (onCell s k f).out = s.out := rfl
@[simp] theorem ctl_onCell (k : Nat) (f : Cell → Cell) : (onCell s k f).ctl = s.ctl := rfl
@[simp] theorem latch_onCell (k : Nat) (f : Cell → Cell) : (onCell s k f).latch = s.latch := rfl
@[simp] theorem holder_onCell (k : Nat) (f : Cell → Cell) : (onCell s k f).holder = s.holder := rfl
@[simp] theorem btc_onCell (k : Nat) (f : Cell → Cell) : (onCell s k f).btc = s.btc := rfl
@[simp] theorem quarter_onCell (k : Nat) (f : Cell → Cell) : (onCell s k f).quarter = s.quarter := rfl
@[simp] theorem bnd_onCell (k : Nat) (f : Cell → Cell) : (onCell s k f).bnd = s.bnd := rfl
@[simp] theorem cells_onCell (k : Nat) (f : Cell → Cell) : (onCell s k f).cells = mset {} s.cells k (f (cellAt s k)) := rfl
@[simp] theorem mem_onCell (k : Nat) (f : Cell → Cell) : (onCell s k f).mem = s.mem := rfl
@[simp] theorem cisLate_onCell (k : Nat) (f : Cell → Cell) : (onCell s k f).cisLate = s.cisLate := rfl
@[simp] theorem ex_onCell (k : Nat) (f : Cell → Cell) : (onCell s k f).ex = s.ex := rfl
@[simp] theorem wel_onCell (k : Nat) (f : Cell → Cell) : (onCell s k f).wel = s.wel := rfl
@[simp] theorem glc_onCell (k : Nat) (f : Cell → Cell) : (onCell s k f).glc = s.glc := rfl
@[simp] theorem host_onCell (k : Nat) (f : Cell → Cell) : (onCell s k f).host = s.host := rfl
@[simp] theorem ev_onCell (k : Nat) (f : Cell → Cell) : (onCell s k f).ev = s.ev := rfl
@[simp] theorem mtr_onCell (k : Nat) (f : Cell → Cell) : (onCell s k f).mtr = s.mtr := rfl
@[simp] theorem flt_onCell (k : Nat) (f : Cell → Cell) : (onCell s k f).flt = s.flt := rfl
@[simp] theorem crc_onCell (k : Nat) (f : Cell → Cell) : (onCell s k f).crc = s.crc := rfl
@[simp] theorem cmt_onCell (k : Nat) (f : Cell → Cell) : (onCell s k f).cmt = s.cmt := rfl
@[simp] theorem load_onCell (k : Nat) (f : Cell → Cell) : (onCell s k f).load = s.load := rfl
@[simp] theorem port_onCell (k : Nat) (f : Cell → Cell) : (onCell s k f).port = s.port := rfl
@[simp] theorem pump_onCell (k : Nat) (f : Cell → Cell) : (onCell s k f).pump = s.pump := rfl
@[simp] theorem pumpLast_onCell (k : Nat) (f : Cell → Cell) : (onCell s k f).pumpLast = s.pumpLast := rfl
@[simp] theorem clk_onCell (k : Nat) (f : Cell → Cell) : (onCell s k f).clk = s.clk := rfl
@[simp] theorem net_onCell (k : Nat) (f : Cell → Cell) : (onCell s k f).net = s.net := rfl
@[simp] theorem ser_onCell (k : Nat) (f : Cell → Cell) : (onCell s k f).ser = s.ser := rfl
@[simp] theorem boot_onCell (k : Nat) (f : Cell → Cell) : (onCell s k f).boot = s.boot := rfl
@[simp] theorem pwr_onCell (k : Nat) (f : Cell → Cell) : (onCell s k f).pwr = s.pwr := rfl

/-! ### `flyTo` -/

@[simp] theorem pending_flyTo (k lat : Nat) (d : Dst) (v : Acc) : (flyTo s k lat d v).pending = s.pending := rfl
@[simp] theorem freeCtr_flyTo (k lat : Nat) (d : Dst) (v : Acc) : (flyTo s k lat d v).freeCtr = s.freeCtr := rfl
@[simp] theorem out_flyTo (k lat : Nat) (d : Dst) (v : Acc) : (flyTo s k lat d v).out = s.out := rfl
@[simp] theorem ctl_flyTo (k lat : Nat) (d : Dst) (v : Acc) : (flyTo s k lat d v).ctl = s.ctl := rfl
@[simp] theorem latch_flyTo (k lat : Nat) (d : Dst) (v : Acc) : (flyTo s k lat d v).latch = s.latch := rfl
@[simp] theorem holder_flyTo (k lat : Nat) (d : Dst) (v : Acc) : (flyTo s k lat d v).holder = s.holder := rfl
@[simp] theorem btc_flyTo (k lat : Nat) (d : Dst) (v : Acc) : (flyTo s k lat d v).btc = s.btc := rfl
@[simp] theorem quarter_flyTo (k lat : Nat) (d : Dst) (v : Acc) : (flyTo s k lat d v).quarter = s.quarter := rfl
@[simp] theorem bnd_flyTo (k lat : Nat) (d : Dst) (v : Acc) : (flyTo s k lat d v).bnd = s.bnd := rfl
@[simp] theorem cells_flyTo (k lat : Nat) (d : Dst) (v : Acc) : (flyTo s k lat d v).cells = mset {} s.cells k (fly (cellAt s k) lat d v) := rfl
@[simp] theorem mem_flyTo (k lat : Nat) (d : Dst) (v : Acc) : (flyTo s k lat d v).mem = s.mem := rfl
@[simp] theorem cisLate_flyTo (k lat : Nat) (d : Dst) (v : Acc) : (flyTo s k lat d v).cisLate = s.cisLate := rfl
@[simp] theorem ex_flyTo (k lat : Nat) (d : Dst) (v : Acc) : (flyTo s k lat d v).ex = s.ex := rfl
@[simp] theorem wel_flyTo (k lat : Nat) (d : Dst) (v : Acc) : (flyTo s k lat d v).wel = s.wel := rfl
@[simp] theorem glc_flyTo (k lat : Nat) (d : Dst) (v : Acc) : (flyTo s k lat d v).glc = s.glc := rfl
@[simp] theorem host_flyTo (k lat : Nat) (d : Dst) (v : Acc) : (flyTo s k lat d v).host = s.host := rfl
@[simp] theorem ev_flyTo (k lat : Nat) (d : Dst) (v : Acc) : (flyTo s k lat d v).ev = s.ev := rfl
@[simp] theorem mtr_flyTo (k lat : Nat) (d : Dst) (v : Acc) : (flyTo s k lat d v).mtr = s.mtr := rfl
@[simp] theorem flt_flyTo (k lat : Nat) (d : Dst) (v : Acc) : (flyTo s k lat d v).flt = s.flt := rfl
@[simp] theorem crc_flyTo (k lat : Nat) (d : Dst) (v : Acc) : (flyTo s k lat d v).crc = s.crc := rfl
@[simp] theorem cmt_flyTo (k lat : Nat) (d : Dst) (v : Acc) : (flyTo s k lat d v).cmt = s.cmt := rfl
@[simp] theorem load_flyTo (k lat : Nat) (d : Dst) (v : Acc) : (flyTo s k lat d v).load = s.load := rfl
@[simp] theorem port_flyTo (k lat : Nat) (d : Dst) (v : Acc) : (flyTo s k lat d v).port = s.port := rfl
@[simp] theorem pump_flyTo (k lat : Nat) (d : Dst) (v : Acc) : (flyTo s k lat d v).pump = s.pump := rfl
@[simp] theorem pumpLast_flyTo (k lat : Nat) (d : Dst) (v : Acc) : (flyTo s k lat d v).pumpLast = s.pumpLast := rfl
@[simp] theorem clk_flyTo (k lat : Nat) (d : Dst) (v : Acc) : (flyTo s k lat d v).clk = s.clk := rfl
@[simp] theorem net_flyTo (k lat : Nat) (d : Dst) (v : Acc) : (flyTo s k lat d v).net = s.net := rfl
@[simp] theorem ser_flyTo (k lat : Nat) (d : Dst) (v : Acc) : (flyTo s k lat d v).ser = s.ser := rfl
@[simp] theorem boot_flyTo (k lat : Nat) (d : Dst) (v : Acc) : (flyTo s k lat d v).boot = s.boot := rfl
@[simp] theorem pwr_flyTo (k lat : Nat) (d : Dst) (v : Acc) : (flyTo s k lat d v).pwr = s.pwr := rfl

/-! ### `cellPut` -/

@[simp] theorem pending_cellPut (k off : Nat) (w : Word) : (cellPut s k off w).pending = s.pending := rfl
@[simp] theorem freeCtr_cellPut (k off : Nat) (w : Word) : (cellPut s k off w).freeCtr = s.freeCtr := rfl
@[simp] theorem out_cellPut (k off : Nat) (w : Word) : (cellPut s k off w).out = s.out := rfl
@[simp] theorem ctl_cellPut (k off : Nat) (w : Word) : (cellPut s k off w).ctl = s.ctl := rfl
@[simp] theorem latch_cellPut (k off : Nat) (w : Word) : (cellPut s k off w).latch = s.latch := rfl
@[simp] theorem holder_cellPut (k off : Nat) (w : Word) : (cellPut s k off w).holder = s.holder := rfl
@[simp] theorem btc_cellPut (k off : Nat) (w : Word) : (cellPut s k off w).btc = s.btc := rfl
@[simp] theorem quarter_cellPut (k off : Nat) (w : Word) : (cellPut s k off w).quarter = s.quarter := rfl
@[simp] theorem bnd_cellPut (k off : Nat) (w : Word) : (cellPut s k off w).bnd = s.bnd := rfl
@[simp] theorem cells_cellPut (k off : Nat) (w : Word) : (cellPut s k off w).cells = s.cells := rfl
@[simp] theorem cisLate_cellPut (k off : Nat) (w : Word) : (cellPut s k off w).cisLate = s.cisLate := rfl
@[simp] theorem ex_cellPut (k off : Nat) (w : Word) : (cellPut s k off w).ex = s.ex := rfl
@[simp] theorem wel_cellPut (k off : Nat) (w : Word) : (cellPut s k off w).wel = s.wel := rfl
@[simp] theorem glc_cellPut (k off : Nat) (w : Word) : (cellPut s k off w).glc = s.glc := rfl
@[simp] theorem host_cellPut (k off : Nat) (w : Word) : (cellPut s k off w).host = s.host := rfl
@[simp] theorem ev_cellPut (k off : Nat) (w : Word) : (cellPut s k off w).ev = s.ev := rfl
@[simp] theorem mtr_cellPut (k off : Nat) (w : Word) : (cellPut s k off w).mtr = s.mtr := rfl
@[simp] theorem flt_cellPut (k off : Nat) (w : Word) : (cellPut s k off w).flt = s.flt := rfl
@[simp] theorem crc_cellPut (k off : Nat) (w : Word) : (cellPut s k off w).crc = s.crc := rfl
@[simp] theorem cmt_cellPut (k off : Nat) (w : Word) : (cellPut s k off w).cmt = s.cmt := rfl
@[simp] theorem load_cellPut (k off : Nat) (w : Word) : (cellPut s k off w).load = s.load := rfl
@[simp] theorem port_cellPut (k off : Nat) (w : Word) : (cellPut s k off w).port = s.port := rfl
@[simp] theorem pump_cellPut (k off : Nat) (w : Word) : (cellPut s k off w).pump = s.pump := rfl
@[simp] theorem pumpLast_cellPut (k off : Nat) (w : Word) : (cellPut s k off w).pumpLast = s.pumpLast := rfl
@[simp] theorem clk_cellPut (k off : Nat) (w : Word) : (cellPut s k off w).clk = s.clk := rfl
@[simp] theorem net_cellPut (k off : Nat) (w : Word) : (cellPut s k off w).net = s.net := rfl
@[simp] theorem ser_cellPut (k off : Nat) (w : Word) : (cellPut s k off w).ser = s.ser := rfl
@[simp] theorem boot_cellPut (k off : Nat) (w : Word) : (cellPut s k off w).boot = s.boot := rfl
@[simp] theorem pwr_cellPut (k off : Nat) (w : Word) : (cellPut s k off w).pwr = s.pwr := rfl

/-! ### `setNs` -/

@[simp] theorem pending_setNs (a : Nat) (n : NsSession) : (setNs s a n).pending = s.pending := rfl
@[simp] theorem freeCtr_setNs (a : Nat) (n : NsSession) : (setNs s a n).freeCtr = s.freeCtr := rfl
@[simp] theorem out_setNs (a : Nat) (n : NsSession) : (setNs s a n).out = s.out := rfl
@[simp] theorem ctl_setNs (a : Nat) (n : NsSession) : (setNs s a n).ctl = s.ctl := rfl
@[simp] theorem latch_setNs (a : Nat) (n : NsSession) : (setNs s a n).latch = s.latch := rfl
@[simp] theorem holder_setNs (a : Nat) (n : NsSession) : (setNs s a n).holder = s.holder := rfl
@[simp] theorem btc_setNs (a : Nat) (n : NsSession) : (setNs s a n).btc = s.btc := rfl
@[simp] theorem quarter_setNs (a : Nat) (n : NsSession) : (setNs s a n).quarter = s.quarter := rfl
@[simp] theorem bnd_setNs (a : Nat) (n : NsSession) : (setNs s a n).bnd = s.bnd := rfl
@[simp] theorem cells_setNs (a : Nat) (n : NsSession) : (setNs s a n).cells = s.cells := rfl
@[simp] theorem mem_setNs (a : Nat) (n : NsSession) : (setNs s a n).mem = s.mem := rfl
@[simp] theorem cisLate_setNs (a : Nat) (n : NsSession) : (setNs s a n).cisLate = s.cisLate := rfl
@[simp] theorem ex_setNs (a : Nat) (n : NsSession) : (setNs s a n).ex = s.ex := rfl
@[simp] theorem wel_setNs (a : Nat) (n : NsSession) : (setNs s a n).wel = s.wel := rfl
@[simp] theorem glc_setNs (a : Nat) (n : NsSession) : (setNs s a n).glc = s.glc := rfl
@[simp] theorem ev_setNs (a : Nat) (n : NsSession) : (setNs s a n).ev = s.ev := rfl
@[simp] theorem mtr_setNs (a : Nat) (n : NsSession) : (setNs s a n).mtr = s.mtr := rfl
@[simp] theorem flt_setNs (a : Nat) (n : NsSession) : (setNs s a n).flt = s.flt := rfl
@[simp] theorem crc_setNs (a : Nat) (n : NsSession) : (setNs s a n).crc = s.crc := rfl
@[simp] theorem cmt_setNs (a : Nat) (n : NsSession) : (setNs s a n).cmt = s.cmt := rfl
@[simp] theorem load_setNs (a : Nat) (n : NsSession) : (setNs s a n).load = s.load := rfl
@[simp] theorem port_setNs (a : Nat) (n : NsSession) : (setNs s a n).port = s.port := rfl
@[simp] theorem pump_setNs (a : Nat) (n : NsSession) : (setNs s a n).pump = s.pump := rfl
@[simp] theorem pumpLast_setNs (a : Nat) (n : NsSession) : (setNs s a n).pumpLast = s.pumpLast := rfl
@[simp] theorem clk_setNs (a : Nat) (n : NsSession) : (setNs s a n).clk = s.clk := rfl
@[simp] theorem net_setNs (a : Nat) (n : NsSession) : (setNs s a n).net = s.net := rfl
@[simp] theorem ser_setNs (a : Nat) (n : NsSession) : (setNs s a n).ser = s.ser := rfl
@[simp] theorem boot_setNs (a : Nat) (n : NsSession) : (setNs s a n).boot = s.boot := rfl
@[simp] theorem pwr_setNs (a : Nat) (n : NsSession) : (setNs s a n).pwr = s.pwr := rfl

/-! ### `setEvStack` -/

@[simp] theorem pending_setEvStack (a : Nat) (l : List Nat) : (setEvStack s a l).pending = s.pending := rfl
@[simp] theorem freeCtr_setEvStack (a : Nat) (l : List Nat) : (setEvStack s a l).freeCtr = s.freeCtr := rfl
@[simp] theorem out_setEvStack (a : Nat) (l : List Nat) : (setEvStack s a l).out = s.out := rfl
@[simp] theorem ctl_setEvStack (a : Nat) (l : List Nat) : (setEvStack s a l).ctl = s.ctl := rfl
@[simp] theorem latch_setEvStack (a : Nat) (l : List Nat) : (setEvStack s a l).latch = s.latch := rfl
@[simp] theorem holder_setEvStack (a : Nat) (l : List Nat) : (setEvStack s a l).holder = s.holder := rfl
@[simp] theorem btc_setEvStack (a : Nat) (l : List Nat) : (setEvStack s a l).btc = s.btc := rfl
@[simp] theorem quarter_setEvStack (a : Nat) (l : List Nat) : (setEvStack s a l).quarter = s.quarter := rfl
@[simp] theorem bnd_setEvStack (a : Nat) (l : List Nat) : (setEvStack s a l).bnd = s.bnd := rfl
@[simp] theorem cells_setEvStack (a : Nat) (l : List Nat) : (setEvStack s a l).cells = s.cells := rfl
@[simp] theorem mem_setEvStack (a : Nat) (l : List Nat) : (setEvStack s a l).mem = s.mem := rfl
@[simp] theorem cisLate_setEvStack (a : Nat) (l : List Nat) : (setEvStack s a l).cisLate = s.cisLate := rfl
@[simp] theorem ex_setEvStack (a : Nat) (l : List Nat) : (setEvStack s a l).ex = s.ex := rfl
@[simp] theorem wel_setEvStack (a : Nat) (l : List Nat) : (setEvStack s a l).wel = s.wel := rfl
@[simp] theorem glc_setEvStack (a : Nat) (l : List Nat) : (setEvStack s a l).glc = s.glc := rfl
@[simp] theorem host_setEvStack (a : Nat) (l : List Nat) : (setEvStack s a l).host = s.host := rfl
@[simp] theorem mtr_setEvStack (a : Nat) (l : List Nat) : (setEvStack s a l).mtr = s.mtr := rfl
@[simp] theorem flt_setEvStack (a : Nat) (l : List Nat) : (setEvStack s a l).flt = s.flt := rfl
@[simp] theorem crc_setEvStack (a : Nat) (l : List Nat) : (setEvStack s a l).crc = s.crc := rfl
@[simp] theorem cmt_setEvStack (a : Nat) (l : List Nat) : (setEvStack s a l).cmt = s.cmt := rfl
@[simp] theorem load_setEvStack (a : Nat) (l : List Nat) : (setEvStack s a l).load = s.load := rfl
@[simp] theorem port_setEvStack (a : Nat) (l : List Nat) : (setEvStack s a l).port = s.port := rfl
@[simp] theorem pump_setEvStack (a : Nat) (l : List Nat) : (setEvStack s a l).pump = s.pump := rfl
@[simp] theorem pumpLast_setEvStack (a : Nat) (l : List Nat) : (setEvStack s a l).pumpLast = s.pumpLast := rfl
@[simp] theorem clk_setEvStack (a : Nat) (l : List Nat) : (setEvStack s a l).clk = s.clk := rfl
@[simp] theorem net_setEvStack (a : Nat) (l : List Nat) : (setEvStack s a l).net = s.net := rfl
@[simp] theorem ser_setEvStack (a : Nat) (l : List Nat) : (setEvStack s a l).ser = s.ser := rfl
@[simp] theorem boot_setEvStack (a : Nat) (l : List Nat) : (setEvStack s a l).boot = s.boot := rfl
@[simp] theorem pwr_setEvStack (a : Nat) (l : List Nat) : (setEvStack s a l).pwr = s.pwr := rfl

/-! ### `setDelivered` -/

@[simp] theorem pending_setDelivered (n : Nat) (b : Bool) : (setDelivered s n b).pending = s.pending := rfl
@[simp] theorem freeCtr_setDelivered (n : Nat) (b : Bool) : (setDelivered s n b).freeCtr = s.freeCtr := rfl
@[simp] theorem out_setDelivered (n : Nat) (b : Bool) : (setDelivered s n b).out = s.out := rfl
@[simp] theorem ctl_setDelivered (n : Nat) (b : Bool) : (setDelivered s n b).ctl = s.ctl := rfl
@[simp] theorem latch_setDelivered (n : Nat) (b : Bool) : (setDelivered s n b).latch = s.latch := rfl
@[simp] theorem holder_setDelivered (n : Nat) (b : Bool) : (setDelivered s n b).holder = s.holder := rfl
@[simp] theorem btc_setDelivered (n : Nat) (b : Bool) : (setDelivered s n b).btc = s.btc := rfl
@[simp] theorem quarter_setDelivered (n : Nat) (b : Bool) : (setDelivered s n b).quarter = s.quarter := rfl
@[simp] theorem bnd_setDelivered (n : Nat) (b : Bool) : (setDelivered s n b).bnd = s.bnd := rfl
@[simp] theorem cells_setDelivered (n : Nat) (b : Bool) : (setDelivered s n b).cells = s.cells := rfl
@[simp] theorem mem_setDelivered (n : Nat) (b : Bool) : (setDelivered s n b).mem = s.mem := rfl
@[simp] theorem cisLate_setDelivered (n : Nat) (b : Bool) : (setDelivered s n b).cisLate = s.cisLate := rfl
@[simp] theorem ex_setDelivered (n : Nat) (b : Bool) : (setDelivered s n b).ex = s.ex := rfl
@[simp] theorem wel_setDelivered (n : Nat) (b : Bool) : (setDelivered s n b).wel = s.wel := rfl
@[simp] theorem glc_setDelivered (n : Nat) (b : Bool) : (setDelivered s n b).glc = s.glc := rfl
@[simp] theorem host_setDelivered (n : Nat) (b : Bool) : (setDelivered s n b).host = s.host := rfl
@[simp] theorem mtr_setDelivered (n : Nat) (b : Bool) : (setDelivered s n b).mtr = s.mtr := rfl
@[simp] theorem flt_setDelivered (n : Nat) (b : Bool) : (setDelivered s n b).flt = s.flt := rfl
@[simp] theorem crc_setDelivered (n : Nat) (b : Bool) : (setDelivered s n b).crc = s.crc := rfl
@[simp] theorem cmt_setDelivered (n : Nat) (b : Bool) : (setDelivered s n b).cmt = s.cmt := rfl
@[simp] theorem load_setDelivered (n : Nat) (b : Bool) : (setDelivered s n b).load = s.load := rfl
@[simp] theorem port_setDelivered (n : Nat) (b : Bool) : (setDelivered s n b).port = s.port := rfl
@[simp] theorem pump_setDelivered (n : Nat) (b : Bool) : (setDelivered s n b).pump = s.pump := rfl
@[simp] theorem pumpLast_setDelivered (n : Nat) (b : Bool) : (setDelivered s n b).pumpLast = s.pumpLast := rfl
@[simp] theorem clk_setDelivered (n : Nat) (b : Bool) : (setDelivered s n b).clk = s.clk := rfl
@[simp] theorem net_setDelivered (n : Nat) (b : Bool) : (setDelivered s n b).net = s.net := rfl
@[simp] theorem ser_setDelivered (n : Nat) (b : Bool) : (setDelivered s n b).ser = s.ser := rfl
@[simp] theorem boot_setDelivered (n : Nat) (b : Bool) : (setDelivered s n b).boot = s.boot := rfl
@[simp] theorem pwr_setDelivered (n : Nat) (b : Bool) : (setDelivered s n b).pwr = s.pwr := rfl

/-! ### `setOpen` -/

@[simp] theorem pending_setOpen (cls unit : Nat) (b : Bool) : (setOpen s cls unit b).pending = s.pending := rfl
@[simp] theorem freeCtr_setOpen (cls unit : Nat) (b : Bool) : (setOpen s cls unit b).freeCtr = s.freeCtr := rfl
@[simp] theorem out_setOpen (cls unit : Nat) (b : Bool) : (setOpen s cls unit b).out = s.out := rfl
@[simp] theorem ctl_setOpen (cls unit : Nat) (b : Bool) : (setOpen s cls unit b).ctl = s.ctl := rfl
@[simp] theorem latch_setOpen (cls unit : Nat) (b : Bool) : (setOpen s cls unit b).latch = s.latch := rfl
@[simp] theorem holder_setOpen (cls unit : Nat) (b : Bool) : (setOpen s cls unit b).holder = s.holder := rfl
@[simp] theorem btc_setOpen (cls unit : Nat) (b : Bool) : (setOpen s cls unit b).btc = s.btc := rfl
@[simp] theorem quarter_setOpen (cls unit : Nat) (b : Bool) : (setOpen s cls unit b).quarter = s.quarter := rfl
@[simp] theorem bnd_setOpen (cls unit : Nat) (b : Bool) : (setOpen s cls unit b).bnd = s.bnd := rfl
@[simp] theorem cells_setOpen (cls unit : Nat) (b : Bool) : (setOpen s cls unit b).cells = s.cells := rfl
@[simp] theorem mem_setOpen (cls unit : Nat) (b : Bool) : (setOpen s cls unit b).mem = s.mem := rfl
@[simp] theorem cisLate_setOpen (cls unit : Nat) (b : Bool) : (setOpen s cls unit b).cisLate = s.cisLate := rfl
@[simp] theorem ex_setOpen (cls unit : Nat) (b : Bool) : (setOpen s cls unit b).ex = s.ex := rfl
@[simp] theorem wel_setOpen (cls unit : Nat) (b : Bool) : (setOpen s cls unit b).wel = s.wel := rfl
@[simp] theorem glc_setOpen (cls unit : Nat) (b : Bool) : (setOpen s cls unit b).glc = s.glc := rfl
@[simp] theorem host_setOpen (cls unit : Nat) (b : Bool) : (setOpen s cls unit b).host = s.host := rfl
@[simp] theorem ev_setOpen (cls unit : Nat) (b : Bool) : (setOpen s cls unit b).ev = s.ev := rfl
@[simp] theorem mtr_setOpen (cls unit : Nat) (b : Bool) : (setOpen s cls unit b).mtr = s.mtr := rfl
@[simp] theorem crc_setOpen (cls unit : Nat) (b : Bool) : (setOpen s cls unit b).crc = s.crc := rfl
@[simp] theorem cmt_setOpen (cls unit : Nat) (b : Bool) : (setOpen s cls unit b).cmt = s.cmt := rfl
@[simp] theorem load_setOpen (cls unit : Nat) (b : Bool) : (setOpen s cls unit b).load = s.load := rfl
@[simp] theorem port_setOpen (cls unit : Nat) (b : Bool) : (setOpen s cls unit b).port = s.port := rfl
@[simp] theorem pump_setOpen (cls unit : Nat) (b : Bool) : (setOpen s cls unit b).pump = s.pump := rfl
@[simp] theorem pumpLast_setOpen (cls unit : Nat) (b : Bool) : (setOpen s cls unit b).pumpLast = s.pumpLast := rfl
@[simp] theorem clk_setOpen (cls unit : Nat) (b : Bool) : (setOpen s cls unit b).clk = s.clk := rfl
@[simp] theorem net_setOpen (cls unit : Nat) (b : Bool) : (setOpen s cls unit b).net = s.net := rfl
@[simp] theorem ser_setOpen (cls unit : Nat) (b : Bool) : (setOpen s cls unit b).ser = s.ser := rfl
@[simp] theorem boot_setOpen (cls unit : Nat) (b : Bool) : (setOpen s cls unit b).boot = s.boot := rfl
@[simp] theorem pwr_setOpen (cls unit : Nat) (b : Bool) : (setOpen s cls unit b).pwr = s.pwr := rfl

/-! ### `setGroup` -/

@[simp] theorem pending_setGroup (g : Nat) (x : Group) : (setGroup s g x).pending = s.pending := rfl
@[simp] theorem freeCtr_setGroup (g : Nat) (x : Group) : (setGroup s g x).freeCtr = s.freeCtr := rfl
@[simp] theorem out_setGroup (g : Nat) (x : Group) : (setGroup s g x).out = s.out := rfl
@[simp] theorem ctl_setGroup (g : Nat) (x : Group) : (setGroup s g x).ctl = s.ctl := rfl
@[simp] theorem latch_setGroup (g : Nat) (x : Group) : (setGroup s g x).latch = s.latch := rfl
@[simp] theorem holder_setGroup (g : Nat) (x : Group) : (setGroup s g x).holder = s.holder := rfl
@[simp] theorem btc_setGroup (g : Nat) (x : Group) : (setGroup s g x).btc = s.btc := rfl
@[simp] theorem quarter_setGroup (g : Nat) (x : Group) : (setGroup s g x).quarter = s.quarter := rfl
@[simp] theorem bnd_setGroup (g : Nat) (x : Group) : (setGroup s g x).bnd = s.bnd := rfl
@[simp] theorem cells_setGroup (g : Nat) (x : Group) : (setGroup s g x).cells = s.cells := rfl
@[simp] theorem mem_setGroup (g : Nat) (x : Group) : (setGroup s g x).mem = s.mem := rfl
@[simp] theorem cisLate_setGroup (g : Nat) (x : Group) : (setGroup s g x).cisLate = s.cisLate := rfl
@[simp] theorem ex_setGroup (g : Nat) (x : Group) : (setGroup s g x).ex = s.ex := rfl
@[simp] theorem wel_setGroup (g : Nat) (x : Group) : (setGroup s g x).wel = s.wel := rfl
@[simp] theorem glc_setGroup (g : Nat) (x : Group) : (setGroup s g x).glc = s.glc := rfl
@[simp] theorem host_setGroup (g : Nat) (x : Group) : (setGroup s g x).host = s.host := rfl
@[simp] theorem ev_setGroup (g : Nat) (x : Group) : (setGroup s g x).ev = s.ev := rfl
@[simp] theorem mtr_setGroup (g : Nat) (x : Group) : (setGroup s g x).mtr = s.mtr := rfl
@[simp] theorem flt_setGroup (g : Nat) (x : Group) : (setGroup s g x).flt = s.flt := rfl
@[simp] theorem crc_setGroup (g : Nat) (x : Group) : (setGroup s g x).crc = s.crc := rfl
@[simp] theorem load_setGroup (g : Nat) (x : Group) : (setGroup s g x).load = s.load := rfl
@[simp] theorem port_setGroup (g : Nat) (x : Group) : (setGroup s g x).port = s.port := rfl
@[simp] theorem pump_setGroup (g : Nat) (x : Group) : (setGroup s g x).pump = s.pump := rfl
@[simp] theorem pumpLast_setGroup (g : Nat) (x : Group) : (setGroup s g x).pumpLast = s.pumpLast := rfl
@[simp] theorem clk_setGroup (g : Nat) (x : Group) : (setGroup s g x).clk = s.clk := rfl
@[simp] theorem net_setGroup (g : Nat) (x : Group) : (setGroup s g x).net = s.net := rfl
@[simp] theorem ser_setGroup (g : Nat) (x : Group) : (setGroup s g x).ser = s.ser := rfl
@[simp] theorem boot_setGroup (g : Nat) (x : Group) : (setGroup s g x).boot = s.boot := rfl
@[simp] theorem pwr_setGroup (g : Nat) (x : Group) : (setGroup s g x).pwr = s.pwr := rfl

/-! ### `setCmtCell` -/

@[simp] theorem pending_setCmtCell (l : Nat) (c : CellCmt) : (setCmtCell s l c).pending = s.pending := rfl
@[simp] theorem freeCtr_setCmtCell (l : Nat) (c : CellCmt) : (setCmtCell s l c).freeCtr = s.freeCtr := rfl
@[simp] theorem out_setCmtCell (l : Nat) (c : CellCmt) : (setCmtCell s l c).out = s.out := rfl
@[simp] theorem ctl_setCmtCell (l : Nat) (c : CellCmt) : (setCmtCell s l c).ctl = s.ctl := rfl
@[simp] theorem latch_setCmtCell (l : Nat) (c : CellCmt) : (setCmtCell s l c).latch = s.latch := rfl
@[simp] theorem holder_setCmtCell (l : Nat) (c : CellCmt) : (setCmtCell s l c).holder = s.holder := rfl
@[simp] theorem btc_setCmtCell (l : Nat) (c : CellCmt) : (setCmtCell s l c).btc = s.btc := rfl
@[simp] theorem quarter_setCmtCell (l : Nat) (c : CellCmt) : (setCmtCell s l c).quarter = s.quarter := rfl
@[simp] theorem bnd_setCmtCell (l : Nat) (c : CellCmt) : (setCmtCell s l c).bnd = s.bnd := rfl
@[simp] theorem cells_setCmtCell (l : Nat) (c : CellCmt) : (setCmtCell s l c).cells = s.cells := rfl
@[simp] theorem mem_setCmtCell (l : Nat) (c : CellCmt) : (setCmtCell s l c).mem = s.mem := rfl
@[simp] theorem cisLate_setCmtCell (l : Nat) (c : CellCmt) : (setCmtCell s l c).cisLate = s.cisLate := rfl
@[simp] theorem ex_setCmtCell (l : Nat) (c : CellCmt) : (setCmtCell s l c).ex = s.ex := rfl
@[simp] theorem wel_setCmtCell (l : Nat) (c : CellCmt) : (setCmtCell s l c).wel = s.wel := rfl
@[simp] theorem glc_setCmtCell (l : Nat) (c : CellCmt) : (setCmtCell s l c).glc = s.glc := rfl
@[simp] theorem host_setCmtCell (l : Nat) (c : CellCmt) : (setCmtCell s l c).host = s.host := rfl
@[simp] theorem ev_setCmtCell (l : Nat) (c : CellCmt) : (setCmtCell s l c).ev = s.ev := rfl
@[simp] theorem mtr_setCmtCell (l : Nat) (c : CellCmt) : (setCmtCell s l c).mtr = s.mtr := rfl
@[simp] theorem flt_setCmtCell (l : Nat) (c : CellCmt) : (setCmtCell s l c).flt = s.flt := rfl
@[simp] theorem crc_setCmtCell (l : Nat) (c : CellCmt) : (setCmtCell s l c).crc = s.crc := rfl
@[simp] theorem load_setCmtCell (l : Nat) (c : CellCmt) : (setCmtCell s l c).load = s.load := rfl
@[simp] theorem port_setCmtCell (l : Nat) (c : CellCmt) : (setCmtCell s l c).port = s.port := rfl
@[simp] theorem pump_setCmtCell (l : Nat) (c : CellCmt) : (setCmtCell s l c).pump = s.pump := rfl
@[simp] theorem pumpLast_setCmtCell (l : Nat) (c : CellCmt) : (setCmtCell s l c).pumpLast = s.pumpLast := rfl
@[simp] theorem clk_setCmtCell (l : Nat) (c : CellCmt) : (setCmtCell s l c).clk = s.clk := rfl
@[simp] theorem net_setCmtCell (l : Nat) (c : CellCmt) : (setCmtCell s l c).net = s.net := rfl
@[simp] theorem ser_setCmtCell (l : Nat) (c : CellCmt) : (setCmtCell s l c).ser = s.ser := rfl
@[simp] theorem boot_setCmtCell (l : Nat) (c : CellCmt) : (setCmtCell s l c).boot = s.boot := rfl
@[simp] theorem pwr_setCmtCell (l : Nat) (c : CellCmt) : (setCmtCell s l c).pwr = s.pwr := rfl

/-! ### `onCmtCell` -/

@[simp] theorem pending_onCmtCell (l : Nat) (f : CellCmt → CellCmt) : (onCmtCell s l f).pending = s.pending := rfl
@[simp] theorem freeCtr_onCmtCell (l : Nat) (f : CellCmt → CellCmt) : (onCmtCell s l f).freeCtr = s.freeCtr := rfl
@[simp] theorem out_onCmtCell (l : Nat) (f : CellCmt → CellCmt) : (onCmtCell s l f).out = s.out := rfl
@[simp] theorem ctl_onCmtCell (l : Nat) (f : CellCmt → CellCmt) : (onCmtCell s l f).ctl = s.ctl := rfl
@[simp] theorem latch_onCmtCell (l : Nat) (f : CellCmt → CellCmt) : (onCmtCell s l f).latch = s.latch := rfl
@[simp] theorem holder_onCmtCell (l : Nat) (f : CellCmt → CellCmt) : (onCmtCell s l f).holder = s.holder := rfl
@[simp] theorem btc_onCmtCell (l : Nat) (f : CellCmt → CellCmt) : (onCmtCell s l f).btc = s.btc := rfl
@[simp] theorem quarter_onCmtCell (l : Nat) (f : CellCmt → CellCmt) : (onCmtCell s l f).quarter = s.quarter := rfl
@[simp] theorem bnd_onCmtCell (l : Nat) (f : CellCmt → CellCmt) : (onCmtCell s l f).bnd = s.bnd := rfl
@[simp] theorem cells_onCmtCell (l : Nat) (f : CellCmt → CellCmt) : (onCmtCell s l f).cells = s.cells := rfl
@[simp] theorem mem_onCmtCell (l : Nat) (f : CellCmt → CellCmt) : (onCmtCell s l f).mem = s.mem := rfl
@[simp] theorem cisLate_onCmtCell (l : Nat) (f : CellCmt → CellCmt) : (onCmtCell s l f).cisLate = s.cisLate := rfl
@[simp] theorem ex_onCmtCell (l : Nat) (f : CellCmt → CellCmt) : (onCmtCell s l f).ex = s.ex := rfl
@[simp] theorem wel_onCmtCell (l : Nat) (f : CellCmt → CellCmt) : (onCmtCell s l f).wel = s.wel := rfl
@[simp] theorem glc_onCmtCell (l : Nat) (f : CellCmt → CellCmt) : (onCmtCell s l f).glc = s.glc := rfl
@[simp] theorem host_onCmtCell (l : Nat) (f : CellCmt → CellCmt) : (onCmtCell s l f).host = s.host := rfl
@[simp] theorem ev_onCmtCell (l : Nat) (f : CellCmt → CellCmt) : (onCmtCell s l f).ev = s.ev := rfl
@[simp] theorem mtr_onCmtCell (l : Nat) (f : CellCmt → CellCmt) : (onCmtCell s l f).mtr = s.mtr := rfl
@[simp] theorem flt_onCmtCell (l : Nat) (f : CellCmt → CellCmt) : (onCmtCell s l f).flt = s.flt := rfl
@[simp] theorem crc_onCmtCell (l : Nat) (f : CellCmt → CellCmt) : (onCmtCell s l f).crc = s.crc := rfl
@[simp] theorem load_onCmtCell (l : Nat) (f : CellCmt → CellCmt) : (onCmtCell s l f).load = s.load := rfl
@[simp] theorem port_onCmtCell (l : Nat) (f : CellCmt → CellCmt) : (onCmtCell s l f).port = s.port := rfl
@[simp] theorem pump_onCmtCell (l : Nat) (f : CellCmt → CellCmt) : (onCmtCell s l f).pump = s.pump := rfl
@[simp] theorem pumpLast_onCmtCell (l : Nat) (f : CellCmt → CellCmt) : (onCmtCell s l f).pumpLast = s.pumpLast := rfl
@[simp] theorem clk_onCmtCell (l : Nat) (f : CellCmt → CellCmt) : (onCmtCell s l f).clk = s.clk := rfl
@[simp] theorem net_onCmtCell (l : Nat) (f : CellCmt → CellCmt) : (onCmtCell s l f).net = s.net := rfl
@[simp] theorem ser_onCmtCell (l : Nat) (f : CellCmt → CellCmt) : (onCmtCell s l f).ser = s.ser := rfl
@[simp] theorem boot_onCmtCell (l : Nat) (f : CellCmt → CellCmt) : (onCmtCell s l f).boot = s.boot := rfl
@[simp] theorem pwr_onCmtCell (l : Nat) (f : CellCmt → CellCmt) : (onCmtCell s l f).pwr = s.pwr := rfl

/-! ### `onCmt` -/

@[simp] theorem pending_onCmt (k : Nat) (f : CellCmt → CellCmt) : (onCmt s k f).pending = s.pending := rfl
@[simp] theorem freeCtr_onCmt (k : Nat) (f : CellCmt → CellCmt) : (onCmt s k f).freeCtr = s.freeCtr := rfl
@[simp] theorem out_onCmt (k : Nat) (f : CellCmt → CellCmt) : (onCmt s k f).out = s.out := rfl
@[simp] theorem ctl_onCmt (k : Nat) (f : CellCmt → CellCmt) : (onCmt s k f).ctl = s.ctl := rfl
@[simp] theorem latch_onCmt (k : Nat) (f : CellCmt → CellCmt) : (onCmt s k f).latch = s.latch := rfl
@[simp] theorem holder_onCmt (k : Nat) (f : CellCmt → CellCmt) : (onCmt s k f).holder = s.holder := rfl
@[simp] theorem btc_onCmt (k : Nat) (f : CellCmt → CellCmt) : (onCmt s k f).btc = s.btc := rfl
@[simp] theorem quarter_onCmt (k : Nat) (f : CellCmt → CellCmt) : (onCmt s k f).quarter = s.quarter := rfl
@[simp] theorem bnd_onCmt (k : Nat) (f : CellCmt → CellCmt) : (onCmt s k f).bnd = s.bnd := rfl
@[simp] theorem cells_onCmt (k : Nat) (f : CellCmt → CellCmt) : (onCmt s k f).cells = s.cells := rfl
@[simp] theorem mem_onCmt (k : Nat) (f : CellCmt → CellCmt) : (onCmt s k f).mem = s.mem := rfl
@[simp] theorem cisLate_onCmt (k : Nat) (f : CellCmt → CellCmt) : (onCmt s k f).cisLate = s.cisLate := rfl
@[simp] theorem ex_onCmt (k : Nat) (f : CellCmt → CellCmt) : (onCmt s k f).ex = s.ex := rfl
@[simp] theorem wel_onCmt (k : Nat) (f : CellCmt → CellCmt) : (onCmt s k f).wel = s.wel := rfl
@[simp] theorem glc_onCmt (k : Nat) (f : CellCmt → CellCmt) : (onCmt s k f).glc = s.glc := rfl
@[simp] theorem host_onCmt (k : Nat) (f : CellCmt → CellCmt) : (onCmt s k f).host = s.host := rfl
@[simp] theorem ev_onCmt (k : Nat) (f : CellCmt → CellCmt) : (onCmt s k f).ev = s.ev := rfl
@[simp] theorem mtr_onCmt (k : Nat) (f : CellCmt → CellCmt) : (onCmt s k f).mtr = s.mtr := rfl
@[simp] theorem flt_onCmt (k : Nat) (f : CellCmt → CellCmt) : (onCmt s k f).flt = s.flt := rfl
@[simp] theorem crc_onCmt (k : Nat) (f : CellCmt → CellCmt) : (onCmt s k f).crc = s.crc := rfl
@[simp] theorem load_onCmt (k : Nat) (f : CellCmt → CellCmt) : (onCmt s k f).load = s.load := rfl
@[simp] theorem port_onCmt (k : Nat) (f : CellCmt → CellCmt) : (onCmt s k f).port = s.port := rfl
@[simp] theorem pump_onCmt (k : Nat) (f : CellCmt → CellCmt) : (onCmt s k f).pump = s.pump := rfl
@[simp] theorem pumpLast_onCmt (k : Nat) (f : CellCmt → CellCmt) : (onCmt s k f).pumpLast = s.pumpLast := rfl
@[simp] theorem clk_onCmt (k : Nat) (f : CellCmt → CellCmt) : (onCmt s k f).clk = s.clk := rfl
@[simp] theorem net_onCmt (k : Nat) (f : CellCmt → CellCmt) : (onCmt s k f).net = s.net := rfl
@[simp] theorem ser_onCmt (k : Nat) (f : CellCmt → CellCmt) : (onCmt s k f).ser = s.ser := rfl
@[simp] theorem boot_onCmt (k : Nat) (f : CellCmt → CellCmt) : (onCmt s k f).boot = s.boot := rfl
@[simp] theorem pwr_onCmt (k : Nat) (f : CellCmt → CellCmt) : (onCmt s k f).pwr = s.pwr := rfl

/-! ### `setLane` -/

@[simp] theorem pending_setLane (c lane : Nat) (l : Lane) : (setLane s c lane l).pending = s.pending := rfl
@[simp] theorem freeCtr_setLane (c lane : Nat) (l : Lane) : (setLane s c lane l).freeCtr = s.freeCtr := rfl
@[simp] theorem out_setLane (c lane : Nat) (l : Lane) : (setLane s c lane l).out = s.out := rfl
@[simp] theorem ctl_setLane (c lane : Nat) (l : Lane) : (setLane s c lane l).ctl = s.ctl := rfl
@[simp] theorem latch_setLane (c lane : Nat) (l : Lane) : (setLane s c lane l).latch = s.latch := rfl
@[simp] theorem holder_setLane (c lane : Nat) (l : Lane) : (setLane s c lane l).holder = s.holder := rfl
@[simp] theorem btc_setLane (c lane : Nat) (l : Lane) : (setLane s c lane l).btc = s.btc := rfl
@[simp] theorem quarter_setLane (c lane : Nat) (l : Lane) : (setLane s c lane l).quarter = s.quarter := rfl
@[simp] theorem bnd_setLane (c lane : Nat) (l : Lane) : (setLane s c lane l).bnd = s.bnd := rfl
@[simp] theorem cells_setLane (c lane : Nat) (l : Lane) : (setLane s c lane l).cells = s.cells := rfl
@[simp] theorem mem_setLane (c lane : Nat) (l : Lane) : (setLane s c lane l).mem = s.mem := rfl
@[simp] theorem cisLate_setLane (c lane : Nat) (l : Lane) : (setLane s c lane l).cisLate = s.cisLate := rfl
@[simp] theorem wel_setLane (c lane : Nat) (l : Lane) : (setLane s c lane l).wel = s.wel := rfl
@[simp] theorem glc_setLane (c lane : Nat) (l : Lane) : (setLane s c lane l).glc = s.glc := rfl
@[simp] theorem host_setLane (c lane : Nat) (l : Lane) : (setLane s c lane l).host = s.host := rfl
@[simp] theorem ev_setLane (c lane : Nat) (l : Lane) : (setLane s c lane l).ev = s.ev := rfl
@[simp] theorem mtr_setLane (c lane : Nat) (l : Lane) : (setLane s c lane l).mtr = s.mtr := rfl
@[simp] theorem flt_setLane (c lane : Nat) (l : Lane) : (setLane s c lane l).flt = s.flt := rfl
@[simp] theorem crc_setLane (c lane : Nat) (l : Lane) : (setLane s c lane l).crc = s.crc := rfl
@[simp] theorem cmt_setLane (c lane : Nat) (l : Lane) : (setLane s c lane l).cmt = s.cmt := rfl
@[simp] theorem load_setLane (c lane : Nat) (l : Lane) : (setLane s c lane l).load = s.load := rfl
@[simp] theorem port_setLane (c lane : Nat) (l : Lane) : (setLane s c lane l).port = s.port := rfl
@[simp] theorem pump_setLane (c lane : Nat) (l : Lane) : (setLane s c lane l).pump = s.pump := rfl
@[simp] theorem pumpLast_setLane (c lane : Nat) (l : Lane) : (setLane s c lane l).pumpLast = s.pumpLast := rfl
@[simp] theorem clk_setLane (c lane : Nat) (l : Lane) : (setLane s c lane l).clk = s.clk := rfl
@[simp] theorem net_setLane (c lane : Nat) (l : Lane) : (setLane s c lane l).net = s.net := rfl
@[simp] theorem ser_setLane (c lane : Nat) (l : Lane) : (setLane s c lane l).ser = s.ser := rfl
@[simp] theorem boot_setLane (c lane : Nat) (l : Lane) : (setLane s c lane l).boot = s.boot := rfl
@[simp] theorem pwr_setLane (c lane : Nat) (l : Lane) : (setLane s c lane l).pwr = s.pwr := rfl

/-! ### `setBridge` -/

@[simp] theorem pending_setBridge (c k : Nat) (b : Bridge) : (setBridge s c k b).pending = s.pending := rfl
@[simp] theorem freeCtr_setBridge (c k : Nat) (b : Bridge) : (setBridge s c k b).freeCtr = s.freeCtr := rfl
@[simp] theorem out_setBridge (c k : Nat) (b : Bridge) : (setBridge s c k b).out = s.out := rfl
@[simp] theorem ctl_setBridge (c k : Nat) (b : Bridge) : (setBridge s c k b).ctl = s.ctl := rfl
@[simp] theorem latch_setBridge (c k : Nat) (b : Bridge) : (setBridge s c k b).latch = s.latch := rfl
@[simp] theorem holder_setBridge (c k : Nat) (b : Bridge) : (setBridge s c k b).holder = s.holder := rfl
@[simp] theorem btc_setBridge (c k : Nat) (b : Bridge) : (setBridge s c k b).btc = s.btc := rfl
@[simp] theorem quarter_setBridge (c k : Nat) (b : Bridge) : (setBridge s c k b).quarter = s.quarter := rfl
@[simp] theorem bnd_setBridge (c k : Nat) (b : Bridge) : (setBridge s c k b).bnd = s.bnd := rfl
@[simp] theorem cells_setBridge (c k : Nat) (b : Bridge) : (setBridge s c k b).cells = s.cells := rfl
@[simp] theorem mem_setBridge (c k : Nat) (b : Bridge) : (setBridge s c k b).mem = s.mem := rfl
@[simp] theorem cisLate_setBridge (c k : Nat) (b : Bridge) : (setBridge s c k b).cisLate = s.cisLate := rfl
@[simp] theorem wel_setBridge (c k : Nat) (b : Bridge) : (setBridge s c k b).wel = s.wel := rfl
@[simp] theorem glc_setBridge (c k : Nat) (b : Bridge) : (setBridge s c k b).glc = s.glc := rfl
@[simp] theorem host_setBridge (c k : Nat) (b : Bridge) : (setBridge s c k b).host = s.host := rfl
@[simp] theorem ev_setBridge (c k : Nat) (b : Bridge) : (setBridge s c k b).ev = s.ev := rfl
@[simp] theorem mtr_setBridge (c k : Nat) (b : Bridge) : (setBridge s c k b).mtr = s.mtr := rfl
@[simp] theorem flt_setBridge (c k : Nat) (b : Bridge) : (setBridge s c k b).flt = s.flt := rfl
@[simp] theorem crc_setBridge (c k : Nat) (b : Bridge) : (setBridge s c k b).crc = s.crc := rfl
@[simp] theorem cmt_setBridge (c k : Nat) (b : Bridge) : (setBridge s c k b).cmt = s.cmt := rfl
@[simp] theorem load_setBridge (c k : Nat) (b : Bridge) : (setBridge s c k b).load = s.load := rfl
@[simp] theorem port_setBridge (c k : Nat) (b : Bridge) : (setBridge s c k b).port = s.port := rfl
@[simp] theorem pump_setBridge (c k : Nat) (b : Bridge) : (setBridge s c k b).pump = s.pump := rfl
@[simp] theorem pumpLast_setBridge (c k : Nat) (b : Bridge) : (setBridge s c k b).pumpLast = s.pumpLast := rfl
@[simp] theorem clk_setBridge (c k : Nat) (b : Bridge) : (setBridge s c k b).clk = s.clk := rfl
@[simp] theorem net_setBridge (c k : Nat) (b : Bridge) : (setBridge s c k b).net = s.net := rfl
@[simp] theorem ser_setBridge (c k : Nat) (b : Bridge) : (setBridge s c k b).ser = s.ser := rfl
@[simp] theorem boot_setBridge (c k : Nat) (b : Bridge) : (setBridge s c k b).boot = s.boot := rfl
@[simp] theorem pwr_setBridge (c k : Nat) (b : Bridge) : (setBridge s c k b).pwr = s.pwr := rfl

/-! ### `setCrc` -/

@[simp] theorem pending_setCrc (u : Nat) (c : CrcUnit) : (setCrc s u c).pending = s.pending := rfl
@[simp] theorem freeCtr_setCrc (u : Nat) (c : CrcUnit) : (setCrc s u c).freeCtr = s.freeCtr := rfl
@[simp] theorem out_setCrc (u : Nat) (c : CrcUnit) : (setCrc s u c).out = s.out := rfl
@[simp] theorem ctl_setCrc (u : Nat) (c : CrcUnit) : (setCrc s u c).ctl = s.ctl := rfl
@[simp] theorem latch_setCrc (u : Nat) (c : CrcUnit) : (setCrc s u c).latch = s.latch := rfl
@[simp] theorem holder_setCrc (u : Nat) (c : CrcUnit) : (setCrc s u c).holder = s.holder := rfl
@[simp] theorem btc_setCrc (u : Nat) (c : CrcUnit) : (setCrc s u c).btc = s.btc := rfl
@[simp] theorem quarter_setCrc (u : Nat) (c : CrcUnit) : (setCrc s u c).quarter = s.quarter := rfl
@[simp] theorem bnd_setCrc (u : Nat) (c : CrcUnit) : (setCrc s u c).bnd = s.bnd := rfl
@[simp] theorem cells_setCrc (u : Nat) (c : CrcUnit) : (setCrc s u c).cells = s.cells := rfl
@[simp] theorem mem_setCrc (u : Nat) (c : CrcUnit) : (setCrc s u c).mem = s.mem := rfl
@[simp] theorem cisLate_setCrc (u : Nat) (c : CrcUnit) : (setCrc s u c).cisLate = s.cisLate := rfl
@[simp] theorem ex_setCrc (u : Nat) (c : CrcUnit) : (setCrc s u c).ex = s.ex := rfl
@[simp] theorem wel_setCrc (u : Nat) (c : CrcUnit) : (setCrc s u c).wel = s.wel := rfl
@[simp] theorem glc_setCrc (u : Nat) (c : CrcUnit) : (setCrc s u c).glc = s.glc := rfl
@[simp] theorem host_setCrc (u : Nat) (c : CrcUnit) : (setCrc s u c).host = s.host := rfl
@[simp] theorem ev_setCrc (u : Nat) (c : CrcUnit) : (setCrc s u c).ev = s.ev := rfl
@[simp] theorem mtr_setCrc (u : Nat) (c : CrcUnit) : (setCrc s u c).mtr = s.mtr := rfl
@[simp] theorem flt_setCrc (u : Nat) (c : CrcUnit) : (setCrc s u c).flt = s.flt := rfl
@[simp] theorem crc_setCrc (u : Nat) (c : CrcUnit) : (setCrc s u c).crc = mset {} s.crc u c := rfl
@[simp] theorem cmt_setCrc (u : Nat) (c : CrcUnit) : (setCrc s u c).cmt = s.cmt := rfl
@[simp] theorem load_setCrc (u : Nat) (c : CrcUnit) : (setCrc s u c).load = s.load := rfl
@[simp] theorem port_setCrc (u : Nat) (c : CrcUnit) : (setCrc s u c).port = s.port := rfl
@[simp] theorem pump_setCrc (u : Nat) (c : CrcUnit) : (setCrc s u c).pump = s.pump := rfl
@[simp] theorem pumpLast_setCrc (u : Nat) (c : CrcUnit) : (setCrc s u c).pumpLast = s.pumpLast := rfl
@[simp] theorem clk_setCrc (u : Nat) (c : CrcUnit) : (setCrc s u c).clk = s.clk := rfl
@[simp] theorem net_setCrc (u : Nat) (c : CrcUnit) : (setCrc s u c).net = s.net := rfl
@[simp] theorem ser_setCrc (u : Nat) (c : CrcUnit) : (setCrc s u c).ser = s.ser := rfl
@[simp] theorem boot_setCrc (u : Nat) (c : CrcUnit) : (setCrc s u c).boot = s.boot := rfl
@[simp] theorem pwr_setCrc (u : Nat) (c : CrcUnit) : (setCrc s u c).pwr = s.pwr := rfl

/-! ### `onBoot` -/

@[simp] theorem pending_onBoot (f : BootSt → BootSt) : (onBoot s f).pending = s.pending := rfl
@[simp] theorem freeCtr_onBoot (f : BootSt → BootSt) : (onBoot s f).freeCtr = s.freeCtr := rfl
@[simp] theorem out_onBoot (f : BootSt → BootSt) : (onBoot s f).out = s.out := rfl
@[simp] theorem ctl_onBoot (f : BootSt → BootSt) : (onBoot s f).ctl = s.ctl := rfl
@[simp] theorem latch_onBoot (f : BootSt → BootSt) : (onBoot s f).latch = s.latch := rfl
@[simp] theorem holder_onBoot (f : BootSt → BootSt) : (onBoot s f).holder = s.holder := rfl
@[simp] theorem btc_onBoot (f : BootSt → BootSt) : (onBoot s f).btc = s.btc := rfl
@[simp] theorem quarter_onBoot (f : BootSt → BootSt) : (onBoot s f).quarter = s.quarter := rfl
@[simp] theorem bnd_onBoot (f : BootSt → BootSt) : (onBoot s f).bnd = s.bnd := rfl
@[simp] theorem cells_onBoot (f : BootSt → BootSt) : (onBoot s f).cells = s.cells := rfl
@[simp] theorem mem_onBoot (f : BootSt → BootSt) : (onBoot s f).mem = s.mem := rfl
@[simp] theorem cisLate_onBoot (f : BootSt → BootSt) : (onBoot s f).cisLate = s.cisLate := rfl
@[simp] theorem ex_onBoot (f : BootSt → BootSt) : (onBoot s f).ex = s.ex := rfl
@[simp] theorem wel_onBoot (f : BootSt → BootSt) : (onBoot s f).wel = s.wel := rfl
@[simp] theorem glc_onBoot (f : BootSt → BootSt) : (onBoot s f).glc = s.glc := rfl
@[simp] theorem host_onBoot (f : BootSt → BootSt) : (onBoot s f).host = s.host := rfl
@[simp] theorem ev_onBoot (f : BootSt → BootSt) : (onBoot s f).ev = s.ev := rfl
@[simp] theorem mtr_onBoot (f : BootSt → BootSt) : (onBoot s f).mtr = s.mtr := rfl
@[simp] theorem flt_onBoot (f : BootSt → BootSt) : (onBoot s f).flt = s.flt := rfl
@[simp] theorem crc_onBoot (f : BootSt → BootSt) : (onBoot s f).crc = s.crc := rfl
@[simp] theorem cmt_onBoot (f : BootSt → BootSt) : (onBoot s f).cmt = s.cmt := rfl
@[simp] theorem load_onBoot (f : BootSt → BootSt) : (onBoot s f).load = s.load := rfl
@[simp] theorem port_onBoot (f : BootSt → BootSt) : (onBoot s f).port = s.port := rfl
@[simp] theorem pump_onBoot (f : BootSt → BootSt) : (onBoot s f).pump = s.pump := rfl
@[simp] theorem pumpLast_onBoot (f : BootSt → BootSt) : (onBoot s f).pumpLast = s.pumpLast := rfl
@[simp] theorem clk_onBoot (f : BootSt → BootSt) : (onBoot s f).clk = s.clk := rfl
@[simp] theorem net_onBoot (f : BootSt → BootSt) : (onBoot s f).net = s.net := rfl
@[simp] theorem ser_onBoot (f : BootSt → BootSt) : (onBoot s f).ser = s.ser := rfl
@[simp] theorem boot_onBoot (f : BootSt → BootSt) : (onBoot s f).boot = f s.boot := rfl
@[simp] theorem pwr_onBoot (f : BootSt → BootSt) : (onBoot s f).pwr = s.pwr := rfl

/-! ### `onPwr` -/

@[simp] theorem pending_onPwr (f : PwrSt → PwrSt) : (onPwr s f).pending = s.pending := rfl
@[simp] theorem freeCtr_onPwr (f : PwrSt → PwrSt) : (onPwr s f).freeCtr = s.freeCtr := rfl
@[simp] theorem out_onPwr (f : PwrSt → PwrSt) : (onPwr s f).out = s.out := rfl
@[simp] theorem ctl_onPwr (f : PwrSt → PwrSt) : (onPwr s f).ctl = s.ctl := rfl
@[simp] theorem latch_onPwr (f : PwrSt → PwrSt) : (onPwr s f).latch = s.latch := rfl
@[simp] theorem holder_onPwr (f : PwrSt → PwrSt) : (onPwr s f).holder = s.holder := rfl
@[simp] theorem btc_onPwr (f : PwrSt → PwrSt) : (onPwr s f).btc = s.btc := rfl
@[simp] theorem quarter_onPwr (f : PwrSt → PwrSt) : (onPwr s f).quarter = s.quarter := rfl
@[simp] theorem bnd_onPwr (f : PwrSt → PwrSt) : (onPwr s f).bnd = s.bnd := rfl
@[simp] theorem cells_onPwr (f : PwrSt → PwrSt) : (onPwr s f).cells = s.cells := rfl
@[simp] theorem mem_onPwr (f : PwrSt → PwrSt) : (onPwr s f).mem = s.mem := rfl
@[simp] theorem cisLate_onPwr (f : PwrSt → PwrSt) : (onPwr s f).cisLate = s.cisLate := rfl
@[simp] theorem ex_onPwr (f : PwrSt → PwrSt) : (onPwr s f).ex = s.ex := rfl
@[simp] theorem wel_onPwr (f : PwrSt → PwrSt) : (onPwr s f).wel = s.wel := rfl
@[simp] theorem glc_onPwr (f : PwrSt → PwrSt) : (onPwr s f).glc = s.glc := rfl
@[simp] theorem host_onPwr (f : PwrSt → PwrSt) : (onPwr s f).host = s.host := rfl
@[simp] theorem ev_onPwr (f : PwrSt → PwrSt) : (onPwr s f).ev = s.ev := rfl
@[simp] theorem mtr_onPwr (f : PwrSt → PwrSt) : (onPwr s f).mtr = s.mtr := rfl
@[simp] theorem flt_onPwr (f : PwrSt → PwrSt) : (onPwr s f).flt = s.flt := rfl
@[simp] theorem crc_onPwr (f : PwrSt → PwrSt) : (onPwr s f).crc = s.crc := rfl
@[simp] theorem cmt_onPwr (f : PwrSt → PwrSt) : (onPwr s f).cmt = s.cmt := rfl
@[simp] theorem load_onPwr (f : PwrSt → PwrSt) : (onPwr s f).load = s.load := rfl
@[simp] theorem port_onPwr (f : PwrSt → PwrSt) : (onPwr s f).port = s.port := rfl
@[simp] theorem pump_onPwr (f : PwrSt → PwrSt) : (onPwr s f).pump = s.pump := rfl
@[simp] theorem pumpLast_onPwr (f : PwrSt → PwrSt) : (onPwr s f).pumpLast = s.pumpLast := rfl
@[simp] theorem clk_onPwr (f : PwrSt → PwrSt) : (onPwr s f).clk = s.clk := rfl
@[simp] theorem net_onPwr (f : PwrSt → PwrSt) : (onPwr s f).net = s.net := rfl
@[simp] theorem ser_onPwr (f : PwrSt → PwrSt) : (onPwr s f).ser = s.ser := rfl
@[simp] theorem boot_onPwr (f : PwrSt → PwrSt) : (onPwr s f).boot = s.boot := rfl
@[simp] theorem pwr_onPwr (f : PwrSt → PwrSt) : (onPwr s f).pwr = f s.pwr := rfl

/-! ### `onClk` -/

@[simp] theorem pending_onClk (f : ClkSt → ClkSt) : (onClk s f).pending = s.pending := rfl
@[simp] theorem freeCtr_onClk (f : ClkSt → ClkSt) : (onClk s f).freeCtr = s.freeCtr := rfl
@[simp] theorem out_onClk (f : ClkSt → ClkSt) : (onClk s f).out = s.out := rfl
@[simp] theorem ctl_onClk (f : ClkSt → ClkSt) : (onClk s f).ctl = s.ctl := rfl
@[simp] theorem latch_onClk (f : ClkSt → ClkSt) : (onClk s f).latch = s.latch := rfl
@[simp] theorem holder_onClk (f : ClkSt → ClkSt) : (onClk s f).holder = s.holder := rfl
@[simp] theorem btc_onClk (f : ClkSt → ClkSt) : (onClk s f).btc = s.btc := rfl
@[simp] theorem quarter_onClk (f : ClkSt → ClkSt) : (onClk s f).quarter = s.quarter := rfl
@[simp] theorem bnd_onClk (f : ClkSt → ClkSt) : (onClk s f).bnd = s.bnd := rfl
@[simp] theorem cells_onClk (f : ClkSt → ClkSt) : (onClk s f).cells = s.cells := rfl
@[simp] theorem mem_onClk (f : ClkSt → ClkSt) : (onClk s f).mem = s.mem := rfl
@[simp] theorem cisLate_onClk (f : ClkSt → ClkSt) : (onClk s f).cisLate = s.cisLate := rfl
@[simp] theorem ex_onClk (f : ClkSt → ClkSt) : (onClk s f).ex = s.ex := rfl
@[simp] theorem wel_onClk (f : ClkSt → ClkSt) : (onClk s f).wel = s.wel := rfl
@[simp] theorem glc_onClk (f : ClkSt → ClkSt) : (onClk s f).glc = s.glc := rfl
@[simp] theorem host_onClk (f : ClkSt → ClkSt) : (onClk s f).host = s.host := rfl
@[simp] theorem ev_onClk (f : ClkSt → ClkSt) : (onClk s f).ev = s.ev := rfl
@[simp] theorem mtr_onClk (f : ClkSt → ClkSt) : (onClk s f).mtr = s.mtr := rfl
@[simp] theorem flt_onClk (f : ClkSt → ClkSt) : (onClk s f).flt = s.flt := rfl
@[simp] theorem crc_onClk (f : ClkSt → ClkSt) : (onClk s f).crc = s.crc := rfl
@[simp] theorem cmt_onClk (f : ClkSt → ClkSt) : (onClk s f).cmt = s.cmt := rfl
@[simp] theorem load_onClk (f : ClkSt → ClkSt) : (onClk s f).load = s.load := rfl
@[simp] theorem port_onClk (f : ClkSt → ClkSt) : (onClk s f).port = s.port := rfl
@[simp] theorem pump_onClk (f : ClkSt → ClkSt) : (onClk s f).pump = s.pump := rfl
@[simp] theorem pumpLast_onClk (f : ClkSt → ClkSt) : (onClk s f).pumpLast = s.pumpLast := rfl
@[simp] theorem clk_onClk (f : ClkSt → ClkSt) : (onClk s f).clk = f s.clk := rfl
@[simp] theorem net_onClk (f : ClkSt → ClkSt) : (onClk s f).net = s.net := rfl
@[simp] theorem ser_onClk (f : ClkSt → ClkSt) : (onClk s f).ser = s.ser := rfl
@[simp] theorem boot_onClk (f : ClkSt → ClkSt) : (onClk s f).boot = s.boot := rfl
@[simp] theorem pwr_onClk (f : ClkSt → ClkSt) : (onClk s f).pwr = s.pwr := rfl

/-! ### `setRun` -/

@[simp] theorem pending_setRun (g : Nat) (r : StrRun) : (setRun s g r).pending = s.pending := rfl
@[simp] theorem freeCtr_setRun (g : Nat) (r : StrRun) : (setRun s g r).freeCtr = s.freeCtr := rfl
@[simp] theorem out_setRun (g : Nat) (r : StrRun) : (setRun s g r).out = s.out := rfl
@[simp] theorem ctl_setRun (g : Nat) (r : StrRun) : (setRun s g r).ctl = s.ctl := rfl
@[simp] theorem latch_setRun (g : Nat) (r : StrRun) : (setRun s g r).latch = s.latch := rfl
@[simp] theorem holder_setRun (g : Nat) (r : StrRun) : (setRun s g r).holder = s.holder := rfl
@[simp] theorem btc_setRun (g : Nat) (r : StrRun) : (setRun s g r).btc = s.btc := rfl
@[simp] theorem quarter_setRun (g : Nat) (r : StrRun) : (setRun s g r).quarter = s.quarter := rfl
@[simp] theorem bnd_setRun (g : Nat) (r : StrRun) : (setRun s g r).bnd = s.bnd := rfl
@[simp] theorem cells_setRun (g : Nat) (r : StrRun) : (setRun s g r).cells = s.cells := rfl
@[simp] theorem mem_setRun (g : Nat) (r : StrRun) : (setRun s g r).mem = s.mem := rfl
@[simp] theorem cisLate_setRun (g : Nat) (r : StrRun) : (setRun s g r).cisLate = s.cisLate := rfl
@[simp] theorem ex_setRun (g : Nat) (r : StrRun) : (setRun s g r).ex = s.ex := rfl
@[simp] theorem wel_setRun (g : Nat) (r : StrRun) : (setRun s g r).wel = s.wel := rfl
@[simp] theorem host_setRun (g : Nat) (r : StrRun) : (setRun s g r).host = s.host := rfl
@[simp] theorem ev_setRun (g : Nat) (r : StrRun) : (setRun s g r).ev = s.ev := rfl
@[simp] theorem mtr_setRun (g : Nat) (r : StrRun) : (setRun s g r).mtr = s.mtr := rfl
@[simp] theorem flt_setRun (g : Nat) (r : StrRun) : (setRun s g r).flt = s.flt := rfl
@[simp] theorem crc_setRun (g : Nat) (r : StrRun) : (setRun s g r).crc = s.crc := rfl
@[simp] theorem cmt_setRun (g : Nat) (r : StrRun) : (setRun s g r).cmt = s.cmt := rfl
@[simp] theorem load_setRun (g : Nat) (r : StrRun) : (setRun s g r).load = s.load := rfl
@[simp] theorem port_setRun (g : Nat) (r : StrRun) : (setRun s g r).port = s.port := rfl
@[simp] theorem pump_setRun (g : Nat) (r : StrRun) : (setRun s g r).pump = s.pump := rfl
@[simp] theorem pumpLast_setRun (g : Nat) (r : StrRun) : (setRun s g r).pumpLast = s.pumpLast := rfl
@[simp] theorem clk_setRun (g : Nat) (r : StrRun) : (setRun s g r).clk = s.clk := rfl
@[simp] theorem net_setRun (g : Nat) (r : StrRun) : (setRun s g r).net = s.net := rfl
@[simp] theorem ser_setRun (g : Nat) (r : StrRun) : (setRun s g r).ser = s.ser := rfl
@[simp] theorem boot_setRun (g : Nat) (r : StrRun) : (setRun s g r).boot = s.boot := rfl
@[simp] theorem pwr_setRun (g : Nat) (r : StrRun) : (setRun s g r).pwr = s.pwr := rfl

/-! ### `setPump` -/

@[simp] theorem pending_setPump (n : Nat) (c : PumpCh) : (setPump s n c).pending = s.pending := rfl
@[simp] theorem freeCtr_setPump (n : Nat) (c : PumpCh) : (setPump s n c).freeCtr = s.freeCtr := rfl
@[simp] theorem out_setPump (n : Nat) (c : PumpCh) : (setPump s n c).out = s.out := rfl
@[simp] theorem ctl_setPump (n : Nat) (c : PumpCh) : (setPump s n c).ctl = s.ctl := rfl
@[simp] theorem latch_setPump (n : Nat) (c : PumpCh) : (setPump s n c).latch = s.latch := rfl
@[simp] theorem holder_setPump (n : Nat) (c : PumpCh) : (setPump s n c).holder = s.holder := rfl
@[simp] theorem btc_setPump (n : Nat) (c : PumpCh) : (setPump s n c).btc = s.btc := rfl
@[simp] theorem quarter_setPump (n : Nat) (c : PumpCh) : (setPump s n c).quarter = s.quarter := rfl
@[simp] theorem bnd_setPump (n : Nat) (c : PumpCh) : (setPump s n c).bnd = s.bnd := rfl
@[simp] theorem cells_setPump (n : Nat) (c : PumpCh) : (setPump s n c).cells = s.cells := rfl
@[simp] theorem mem_setPump (n : Nat) (c : PumpCh) : (setPump s n c).mem = s.mem := rfl
@[simp] theorem cisLate_setPump (n : Nat) (c : PumpCh) : (setPump s n c).cisLate = s.cisLate := rfl
@[simp] theorem ex_setPump (n : Nat) (c : PumpCh) : (setPump s n c).ex = s.ex := rfl
@[simp] theorem wel_setPump (n : Nat) (c : PumpCh) : (setPump s n c).wel = s.wel := rfl
@[simp] theorem glc_setPump (n : Nat) (c : PumpCh) : (setPump s n c).glc = s.glc := rfl
@[simp] theorem host_setPump (n : Nat) (c : PumpCh) : (setPump s n c).host = s.host := rfl
@[simp] theorem ev_setPump (n : Nat) (c : PumpCh) : (setPump s n c).ev = s.ev := rfl
@[simp] theorem mtr_setPump (n : Nat) (c : PumpCh) : (setPump s n c).mtr = s.mtr := rfl
@[simp] theorem flt_setPump (n : Nat) (c : PumpCh) : (setPump s n c).flt = s.flt := rfl
@[simp] theorem crc_setPump (n : Nat) (c : PumpCh) : (setPump s n c).crc = s.crc := rfl
@[simp] theorem cmt_setPump (n : Nat) (c : PumpCh) : (setPump s n c).cmt = s.cmt := rfl
@[simp] theorem load_setPump (n : Nat) (c : PumpCh) : (setPump s n c).load = s.load := rfl
@[simp] theorem port_setPump (n : Nat) (c : PumpCh) : (setPump s n c).port = s.port := rfl
@[simp] theorem clk_setPump (n : Nat) (c : PumpCh) : (setPump s n c).clk = s.clk := rfl
@[simp] theorem net_setPump (n : Nat) (c : PumpCh) : (setPump s n c).net = s.net := rfl
@[simp] theorem ser_setPump (n : Nat) (c : PumpCh) : (setPump s n c).ser = s.ser := rfl
@[simp] theorem boot_setPump (n : Nat) (c : PumpCh) : (setPump s n c).boot = s.boot := rfl
@[simp] theorem pwr_setPump (n : Nat) (c : PumpCh) : (setPump s n c).pwr = s.pwr := rfl

/-! ### `setFlow` -/

@[simp] theorem pending_setFlow (n : Nat) (f : FlowRun) : (setFlow s n f).pending = s.pending := rfl
@[simp] theorem freeCtr_setFlow (n : Nat) (f : FlowRun) : (setFlow s n f).freeCtr = s.freeCtr := rfl
@[simp] theorem out_setFlow (n : Nat) (f : FlowRun) : (setFlow s n f).out = s.out := rfl
@[simp] theorem ctl_setFlow (n : Nat) (f : FlowRun) : (setFlow s n f).ctl = s.ctl := rfl
@[simp] theorem latch_setFlow (n : Nat) (f : FlowRun) : (setFlow s n f).latch = s.latch := rfl
@[simp] theorem holder_setFlow (n : Nat) (f : FlowRun) : (setFlow s n f).holder = s.holder := rfl
@[simp] theorem btc_setFlow (n : Nat) (f : FlowRun) : (setFlow s n f).btc = s.btc := rfl
@[simp] theorem quarter_setFlow (n : Nat) (f : FlowRun) : (setFlow s n f).quarter = s.quarter := rfl
@[simp] theorem bnd_setFlow (n : Nat) (f : FlowRun) : (setFlow s n f).bnd = s.bnd := rfl
@[simp] theorem cells_setFlow (n : Nat) (f : FlowRun) : (setFlow s n f).cells = s.cells := rfl
@[simp] theorem mem_setFlow (n : Nat) (f : FlowRun) : (setFlow s n f).mem = s.mem := rfl
@[simp] theorem cisLate_setFlow (n : Nat) (f : FlowRun) : (setFlow s n f).cisLate = s.cisLate := rfl
@[simp] theorem ex_setFlow (n : Nat) (f : FlowRun) : (setFlow s n f).ex = s.ex := rfl
@[simp] theorem wel_setFlow (n : Nat) (f : FlowRun) : (setFlow s n f).wel = s.wel := rfl
@[simp] theorem glc_setFlow (n : Nat) (f : FlowRun) : (setFlow s n f).glc = s.glc := rfl
@[simp] theorem host_setFlow (n : Nat) (f : FlowRun) : (setFlow s n f).host = s.host := rfl
@[simp] theorem ev_setFlow (n : Nat) (f : FlowRun) : (setFlow s n f).ev = s.ev := rfl
@[simp] theorem mtr_setFlow (n : Nat) (f : FlowRun) : (setFlow s n f).mtr = s.mtr := rfl
@[simp] theorem flt_setFlow (n : Nat) (f : FlowRun) : (setFlow s n f).flt = s.flt := rfl
@[simp] theorem crc_setFlow (n : Nat) (f : FlowRun) : (setFlow s n f).crc = s.crc := rfl
@[simp] theorem cmt_setFlow (n : Nat) (f : FlowRun) : (setFlow s n f).cmt = s.cmt := rfl
@[simp] theorem load_setFlow (n : Nat) (f : FlowRun) : (setFlow s n f).load = s.load := rfl
@[simp] theorem port_setFlow (n : Nat) (f : FlowRun) : (setFlow s n f).port = s.port := rfl
@[simp] theorem pump_setFlow (n : Nat) (f : FlowRun) : (setFlow s n f).pump = s.pump := rfl
@[simp] theorem pumpLast_setFlow (n : Nat) (f : FlowRun) : (setFlow s n f).pumpLast = s.pumpLast := rfl
@[simp] theorem clk_setFlow (n : Nat) (f : FlowRun) : (setFlow s n f).clk = s.clk := rfl
@[simp] theorem ser_setFlow (n : Nat) (f : FlowRun) : (setFlow s n f).ser = s.ser := rfl
@[simp] theorem boot_setFlow (n : Nat) (f : FlowRun) : (setFlow s n f).boot = s.boot := rfl
@[simp] theorem pwr_setFlow (n : Nat) (f : FlowRun) : (setFlow s n f).pwr = s.pwr := rfl

/-! ### `setAesRx` -/

@[simp] theorem pending_setAesRx (i : Nat) (r : AesRx) : (setAesRx s i r).pending = s.pending := rfl
@[simp] theorem freeCtr_setAesRx (i : Nat) (r : AesRx) : (setAesRx s i r).freeCtr = s.freeCtr := rfl
@[simp] theorem out_setAesRx (i : Nat) (r : AesRx) : (setAesRx s i r).out = s.out := rfl
@[simp] theorem ctl_setAesRx (i : Nat) (r : AesRx) : (setAesRx s i r).ctl = s.ctl := rfl
@[simp] theorem latch_setAesRx (i : Nat) (r : AesRx) : (setAesRx s i r).latch = s.latch := rfl
@[simp] theorem holder_setAesRx (i : Nat) (r : AesRx) : (setAesRx s i r).holder = s.holder := rfl
@[simp] theorem btc_setAesRx (i : Nat) (r : AesRx) : (setAesRx s i r).btc = s.btc := rfl
@[simp] theorem quarter_setAesRx (i : Nat) (r : AesRx) : (setAesRx s i r).quarter = s.quarter := rfl
@[simp] theorem bnd_setAesRx (i : Nat) (r : AesRx) : (setAesRx s i r).bnd = s.bnd := rfl
@[simp] theorem cells_setAesRx (i : Nat) (r : AesRx) : (setAesRx s i r).cells = s.cells := rfl
@[simp] theorem mem_setAesRx (i : Nat) (r : AesRx) : (setAesRx s i r).mem = s.mem := rfl
@[simp] theorem cisLate_setAesRx (i : Nat) (r : AesRx) : (setAesRx s i r).cisLate = s.cisLate := rfl
@[simp] theorem ex_setAesRx (i : Nat) (r : AesRx) : (setAesRx s i r).ex = s.ex := rfl
@[simp] theorem wel_setAesRx (i : Nat) (r : AesRx) : (setAesRx s i r).wel = s.wel := rfl
@[simp] theorem glc_setAesRx (i : Nat) (r : AesRx) : (setAesRx s i r).glc = s.glc := rfl
@[simp] theorem host_setAesRx (i : Nat) (r : AesRx) : (setAesRx s i r).host = s.host := rfl
@[simp] theorem ev_setAesRx (i : Nat) (r : AesRx) : (setAesRx s i r).ev = s.ev := rfl
@[simp] theorem mtr_setAesRx (i : Nat) (r : AesRx) : (setAesRx s i r).mtr = s.mtr := rfl
@[simp] theorem flt_setAesRx (i : Nat) (r : AesRx) : (setAesRx s i r).flt = s.flt := rfl
@[simp] theorem crc_setAesRx (i : Nat) (r : AesRx) : (setAesRx s i r).crc = s.crc := rfl
@[simp] theorem cmt_setAesRx (i : Nat) (r : AesRx) : (setAesRx s i r).cmt = s.cmt := rfl
@[simp] theorem load_setAesRx (i : Nat) (r : AesRx) : (setAesRx s i r).load = s.load := rfl
@[simp] theorem port_setAesRx (i : Nat) (r : AesRx) : (setAesRx s i r).port = s.port := rfl
@[simp] theorem pump_setAesRx (i : Nat) (r : AesRx) : (setAesRx s i r).pump = s.pump := rfl
@[simp] theorem pumpLast_setAesRx (i : Nat) (r : AesRx) : (setAesRx s i r).pumpLast = s.pumpLast := rfl
@[simp] theorem clk_setAesRx (i : Nat) (r : AesRx) : (setAesRx s i r).clk = s.clk := rfl
@[simp] theorem net_setAesRx (i : Nat) (r : AesRx) : (setAesRx s i r).net = s.net := rfl
@[simp] theorem boot_setAesRx (i : Nat) (r : AesRx) : (setAesRx s i r).boot = s.boot := rfl
@[simp] theorem pwr_setAesRx (i : Nat) (r : AesRx) : (setAesRx s i r).pwr = s.pwr := rfl

/-! ### `setAesTx` -/

@[simp] theorem pending_setAesTx (j : Nat) (r : AesTx) : (setAesTx s j r).pending = s.pending := rfl
@[simp] theorem freeCtr_setAesTx (j : Nat) (r : AesTx) : (setAesTx s j r).freeCtr = s.freeCtr := rfl
@[simp] theorem out_setAesTx (j : Nat) (r : AesTx) : (setAesTx s j r).out = s.out := rfl
@[simp] theorem ctl_setAesTx (j : Nat) (r : AesTx) : (setAesTx s j r).ctl = s.ctl := rfl
@[simp] theorem latch_setAesTx (j : Nat) (r : AesTx) : (setAesTx s j r).latch = s.latch := rfl
@[simp] theorem holder_setAesTx (j : Nat) (r : AesTx) : (setAesTx s j r).holder = s.holder := rfl
@[simp] theorem btc_setAesTx (j : Nat) (r : AesTx) : (setAesTx s j r).btc = s.btc := rfl
@[simp] theorem quarter_setAesTx (j : Nat) (r : AesTx) : (setAesTx s j r).quarter = s.quarter := rfl
@[simp] theorem bnd_setAesTx (j : Nat) (r : AesTx) : (setAesTx s j r).bnd = s.bnd := rfl
@[simp] theorem cells_setAesTx (j : Nat) (r : AesTx) : (setAesTx s j r).cells = s.cells := rfl
@[simp] theorem mem_setAesTx (j : Nat) (r : AesTx) : (setAesTx s j r).mem = s.mem := rfl
@[simp] theorem cisLate_setAesTx (j : Nat) (r : AesTx) : (setAesTx s j r).cisLate = s.cisLate := rfl
@[simp] theorem ex_setAesTx (j : Nat) (r : AesTx) : (setAesTx s j r).ex = s.ex := rfl
@[simp] theorem wel_setAesTx (j : Nat) (r : AesTx) : (setAesTx s j r).wel = s.wel := rfl
@[simp] theorem glc_setAesTx (j : Nat) (r : AesTx) : (setAesTx s j r).glc = s.glc := rfl
@[simp] theorem host_setAesTx (j : Nat) (r : AesTx) : (setAesTx s j r).host = s.host := rfl
@[simp] theorem ev_setAesTx (j : Nat) (r : AesTx) : (setAesTx s j r).ev = s.ev := rfl
@[simp] theorem mtr_setAesTx (j : Nat) (r : AesTx) : (setAesTx s j r).mtr = s.mtr := rfl
@[simp] theorem flt_setAesTx (j : Nat) (r : AesTx) : (setAesTx s j r).flt = s.flt := rfl
@[simp] theorem crc_setAesTx (j : Nat) (r : AesTx) : (setAesTx s j r).crc = s.crc := rfl
@[simp] theorem cmt_setAesTx (j : Nat) (r : AesTx) : (setAesTx s j r).cmt = s.cmt := rfl
@[simp] theorem load_setAesTx (j : Nat) (r : AesTx) : (setAesTx s j r).load = s.load := rfl
@[simp] theorem port_setAesTx (j : Nat) (r : AesTx) : (setAesTx s j r).port = s.port := rfl
@[simp] theorem pump_setAesTx (j : Nat) (r : AesTx) : (setAesTx s j r).pump = s.pump := rfl
@[simp] theorem pumpLast_setAesTx (j : Nat) (r : AesTx) : (setAesTx s j r).pumpLast = s.pumpLast := rfl
@[simp] theorem clk_setAesTx (j : Nat) (r : AesTx) : (setAesTx s j r).clk = s.clk := rfl
@[simp] theorem net_setAesTx (j : Nat) (r : AesTx) : (setAesTx s j r).net = s.net := rfl
@[simp] theorem boot_setAesTx (j : Nat) (r : AesTx) : (setAesTx s j r).boot = s.boot := rfl
@[simp] theorem pwr_setAesTx (j : Nat) (r : AesTx) : (setAesTx s j r).pwr = s.pwr := rfl

/-! ### `setTdm` -/

@[simp] theorem pending_setTdm (q : Nat) (r : TdmRun) : (setTdm s q r).pending = s.pending := rfl
@[simp] theorem freeCtr_setTdm (q : Nat) (r : TdmRun) : (setTdm s q r).freeCtr = s.freeCtr := rfl
@[simp] theorem out_setTdm (q : Nat) (r : TdmRun) : (setTdm s q r).out = s.out := rfl
@[simp] theorem ctl_setTdm (q : Nat) (r : TdmRun) : (setTdm s q r).ctl = s.ctl := rfl
@[simp] theorem latch_setTdm (q : Nat) (r : TdmRun) : (setTdm s q r).latch = s.latch := rfl
@[simp] theorem holder_setTdm (q : Nat) (r : TdmRun) : (setTdm s q r).holder = s.holder := rfl
@[simp] theorem btc_setTdm (q : Nat) (r : TdmRun) : (setTdm s q r).btc = s.btc := rfl
@[simp] theorem quarter_setTdm (q : Nat) (r : TdmRun) : (setTdm s q r).quarter = s.quarter := rfl
@[simp] theorem bnd_setTdm (q : Nat) (r : TdmRun) : (setTdm s q r).bnd = s.bnd := rfl
@[simp] theorem cells_setTdm (q : Nat) (r : TdmRun) : (setTdm s q r).cells = s.cells := rfl
@[simp] theorem mem_setTdm (q : Nat) (r : TdmRun) : (setTdm s q r).mem = s.mem := rfl
@[simp] theorem cisLate_setTdm (q : Nat) (r : TdmRun) : (setTdm s q r).cisLate = s.cisLate := rfl
@[simp] theorem ex_setTdm (q : Nat) (r : TdmRun) : (setTdm s q r).ex = s.ex := rfl
@[simp] theorem wel_setTdm (q : Nat) (r : TdmRun) : (setTdm s q r).wel = s.wel := rfl
@[simp] theorem glc_setTdm (q : Nat) (r : TdmRun) : (setTdm s q r).glc = s.glc := rfl
@[simp] theorem host_setTdm (q : Nat) (r : TdmRun) : (setTdm s q r).host = s.host := rfl
@[simp] theorem ev_setTdm (q : Nat) (r : TdmRun) : (setTdm s q r).ev = s.ev := rfl
@[simp] theorem mtr_setTdm (q : Nat) (r : TdmRun) : (setTdm s q r).mtr = s.mtr := rfl
@[simp] theorem flt_setTdm (q : Nat) (r : TdmRun) : (setTdm s q r).flt = s.flt := rfl
@[simp] theorem crc_setTdm (q : Nat) (r : TdmRun) : (setTdm s q r).crc = s.crc := rfl
@[simp] theorem cmt_setTdm (q : Nat) (r : TdmRun) : (setTdm s q r).cmt = s.cmt := rfl
@[simp] theorem load_setTdm (q : Nat) (r : TdmRun) : (setTdm s q r).load = s.load := rfl
@[simp] theorem port_setTdm (q : Nat) (r : TdmRun) : (setTdm s q r).port = s.port := rfl
@[simp] theorem pump_setTdm (q : Nat) (r : TdmRun) : (setTdm s q r).pump = s.pump := rfl
@[simp] theorem pumpLast_setTdm (q : Nat) (r : TdmRun) : (setTdm s q r).pumpLast = s.pumpLast := rfl
@[simp] theorem clk_setTdm (q : Nat) (r : TdmRun) : (setTdm s q r).clk = s.clk := rfl
@[simp] theorem net_setTdm (q : Nat) (r : TdmRun) : (setTdm s q r).net = s.net := rfl
@[simp] theorem boot_setTdm (q : Nat) (r : TdmRun) : (setTdm s q r).boot = s.boot := rfl
@[simp] theorem pwr_setTdm (q : Nat) (r : TdmRun) : (setTdm s q r).pwr = s.pwr := rfl

/-! ### `setCalled` -/

@[simp] theorem pending_setCalled (n : Nat) (m : Nat) : (setCalled s n m).pending = s.pending := rfl
@[simp] theorem freeCtr_setCalled (n : Nat) (m : Nat) : (setCalled s n m).freeCtr = s.freeCtr := rfl
@[simp] theorem out_setCalled (n : Nat) (m : Nat) : (setCalled s n m).out = s.out := rfl
@[simp] theorem ctl_setCalled (n : Nat) (m : Nat) : (setCalled s n m).ctl = s.ctl := rfl
@[simp] theorem latch_setCalled (n : Nat) (m : Nat) : (setCalled s n m).latch = s.latch := rfl
@[simp] theorem holder_setCalled (n : Nat) (m : Nat) : (setCalled s n m).holder = s.holder := rfl
@[simp] theorem btc_setCalled (n : Nat) (m : Nat) : (setCalled s n m).btc = s.btc := rfl
@[simp] theorem quarter_setCalled (n : Nat) (m : Nat) : (setCalled s n m).quarter = s.quarter := rfl
@[simp] theorem bnd_setCalled (n : Nat) (m : Nat) : (setCalled s n m).bnd = s.bnd := rfl
@[simp] theorem cells_setCalled (n : Nat) (m : Nat) : (setCalled s n m).cells = s.cells := rfl
@[simp] theorem mem_setCalled (n : Nat) (m : Nat) : (setCalled s n m).mem = s.mem := rfl
@[simp] theorem cisLate_setCalled (n : Nat) (m : Nat) : (setCalled s n m).cisLate = s.cisLate := rfl
@[simp] theorem ex_setCalled (n : Nat) (m : Nat) : (setCalled s n m).ex = s.ex := rfl
@[simp] theorem wel_setCalled (n : Nat) (m : Nat) : (setCalled s n m).wel = s.wel := rfl
@[simp] theorem glc_setCalled (n : Nat) (m : Nat) : (setCalled s n m).glc = s.glc := rfl
@[simp] theorem host_setCalled (n : Nat) (m : Nat) : (setCalled s n m).host = s.host := rfl
@[simp] theorem mtr_setCalled (n : Nat) (m : Nat) : (setCalled s n m).mtr = s.mtr := rfl
@[simp] theorem flt_setCalled (n : Nat) (m : Nat) : (setCalled s n m).flt = s.flt := rfl
@[simp] theorem crc_setCalled (n : Nat) (m : Nat) : (setCalled s n m).crc = s.crc := rfl
@[simp] theorem cmt_setCalled (n : Nat) (m : Nat) : (setCalled s n m).cmt = s.cmt := rfl
@[simp] theorem load_setCalled (n : Nat) (m : Nat) : (setCalled s n m).load = s.load := rfl
@[simp] theorem port_setCalled (n : Nat) (m : Nat) : (setCalled s n m).port = s.port := rfl
@[simp] theorem pump_setCalled (n : Nat) (m : Nat) : (setCalled s n m).pump = s.pump := rfl
@[simp] theorem pumpLast_setCalled (n : Nat) (m : Nat) : (setCalled s n m).pumpLast = s.pumpLast := rfl
@[simp] theorem clk_setCalled (n : Nat) (m : Nat) : (setCalled s n m).clk = s.clk := rfl
@[simp] theorem net_setCalled (n : Nat) (m : Nat) : (setCalled s n m).net = s.net := rfl
@[simp] theorem ser_setCalled (n : Nat) (m : Nat) : (setCalled s n m).ser = s.ser := rfl
@[simp] theorem boot_setCalled (n : Nat) (m : Nat) : (setCalled s n m).boot = s.boot := rfl
@[simp] theorem pwr_setCalled (n : Nat) (m : Nat) : (setCalled s n m).pwr = s.pwr := rfl

/-! ### `setPtpPort` -/

@[simp] theorem pending_setPtpPort (n : Nat) (f : PtpPort) : (setPtpPort s n f).pending = s.pending := rfl
@[simp] theorem freeCtr_setPtpPort (n : Nat) (f : PtpPort) : (setPtpPort s n f).freeCtr = s.freeCtr := rfl
@[simp] theorem out_setPtpPort (n : Nat) (f : PtpPort) : (setPtpPort s n f).out = s.out := rfl
@[simp] theorem ctl_setPtpPort (n : Nat) (f : PtpPort) : (setPtpPort s n f).ctl = s.ctl := rfl
@[simp] theorem latch_setPtpPort (n : Nat) (f : PtpPort) : (setPtpPort s n f).latch = s.latch := rfl
@[simp] theorem holder_setPtpPort (n : Nat) (f : PtpPort) : (setPtpPort s n f).holder = s.holder := rfl
@[simp] theorem btc_setPtpPort (n : Nat) (f : PtpPort) : (setPtpPort s n f).btc = s.btc := rfl
@[simp] theorem quarter_setPtpPort (n : Nat) (f : PtpPort) : (setPtpPort s n f).quarter = s.quarter := rfl
@[simp] theorem bnd_setPtpPort (n : Nat) (f : PtpPort) : (setPtpPort s n f).bnd = s.bnd := rfl
@[simp] theorem cells_setPtpPort (n : Nat) (f : PtpPort) : (setPtpPort s n f).cells = s.cells := rfl
@[simp] theorem mem_setPtpPort (n : Nat) (f : PtpPort) : (setPtpPort s n f).mem = s.mem := rfl
@[simp] theorem cisLate_setPtpPort (n : Nat) (f : PtpPort) : (setPtpPort s n f).cisLate = s.cisLate := rfl
@[simp] theorem ex_setPtpPort (n : Nat) (f : PtpPort) : (setPtpPort s n f).ex = s.ex := rfl
@[simp] theorem wel_setPtpPort (n : Nat) (f : PtpPort) : (setPtpPort s n f).wel = s.wel := rfl
@[simp] theorem glc_setPtpPort (n : Nat) (f : PtpPort) : (setPtpPort s n f).glc = s.glc := rfl
@[simp] theorem host_setPtpPort (n : Nat) (f : PtpPort) : (setPtpPort s n f).host = s.host := rfl
@[simp] theorem ev_setPtpPort (n : Nat) (f : PtpPort) : (setPtpPort s n f).ev = s.ev := rfl
@[simp] theorem mtr_setPtpPort (n : Nat) (f : PtpPort) : (setPtpPort s n f).mtr = s.mtr := rfl
@[simp] theorem flt_setPtpPort (n : Nat) (f : PtpPort) : (setPtpPort s n f).flt = s.flt := rfl
@[simp] theorem crc_setPtpPort (n : Nat) (f : PtpPort) : (setPtpPort s n f).crc = s.crc := rfl
@[simp] theorem cmt_setPtpPort (n : Nat) (f : PtpPort) : (setPtpPort s n f).cmt = s.cmt := rfl
@[simp] theorem load_setPtpPort (n : Nat) (f : PtpPort) : (setPtpPort s n f).load = s.load := rfl
@[simp] theorem port_setPtpPort (n : Nat) (f : PtpPort) : (setPtpPort s n f).port = s.port := rfl
@[simp] theorem pump_setPtpPort (n : Nat) (f : PtpPort) : (setPtpPort s n f).pump = s.pump := rfl
@[simp] theorem pumpLast_setPtpPort (n : Nat) (f : PtpPort) : (setPtpPort s n f).pumpLast = s.pumpLast := rfl
@[simp] theorem clk_setPtpPort (n : Nat) (f : PtpPort) : (setPtpPort s n f).clk = s.clk := rfl
@[simp] theorem ser_setPtpPort (n : Nat) (f : PtpPort) : (setPtpPort s n f).ser = s.ser := rfl
@[simp] theorem boot_setPtpPort (n : Nat) (f : PtpPort) : (setPtpPort s n f).boot = s.boot := rfl
@[simp] theorem pwr_setPtpPort (n : Nat) (f : PtpPort) : (setPtpPort s n f).pwr = s.pwr := rfl

end Sys2Proof.Machine
end

