-- ==== Sys2Proof/Laws/Reg.lean ====
section
/-! SUPPORT. Reads of registers, register fields and cells after the updates: the place written gives what was written, every other
place what it gave. -/

namespace Sys2Proof.Machine

/-! ### Bit fields -/

theorem two_pow_split (lo w : Nat) (h : lo + w ≤ 32) : 2 ^ w * 2 ^ lo ≤ 2 ^ 32 := by
  rw [← Nat.pow_add]; exact Nat.pow_le_pow_right (by norm_num) (by omega)

/-- A bit of a field's mask. -/
theorem fmask_testBit (lo w i : Nat) (h : lo + w ≤ 32) : (fmask lo w).getLsbD i = (decide (lo ≤ i) && decide (i < lo + w)) := by
  unfold fmask
  rw [BitVec.getLsbD_ofNat]
  have e : (2 ^ w - 1) * 2 ^ lo = (2 ^ w - 1) <<< lo := by rw [Nat.shiftLeft_eq]
  rw [e, Nat.testBit_shiftLeft, Nat.testBit_two_pow_sub_one]
  by_cases h1 : lo ≤ i <;> by_cases h2 : i < lo + w <;> simp [h1, h2] <;> omega

/-- A bit of a register after a field is written. -/
theorem fput_testBit (v : W32) (lo w f i : Nat) (h : lo + w ≤ 32) :
    (fput v lo w f).getLsbD i = if lo ≤ i ∧ i < lo + w then f.testBit (i - lo) else v.getLsbD i := by
  unfold fput
  rw [BitVec.getLsbD_or, BitVec.getLsbD_and, BitVec.getLsbD_not, fmask_testBit _ _ _ h, BitVec.getLsbD_ofNat]
  have e : (f % 2 ^ w) * 2 ^ lo = (f % 2 ^ w) <<< lo := by rw [Nat.shiftLeft_eq]
  rw [e, Nat.testBit_shiftLeft, Nat.testBit_mod_two_pow]
  by_cases hi : i < 32
  · by_cases h1 : lo ≤ i <;> by_cases h2 : i < lo + w <;> simp [h1, h2, hi]
    · intro h3; omega
    · intro h3; omega
  · have hv : v.getLsbD i = false := BitVec.getLsbD_of_ge _ _ (by omega)
    have : ¬ (lo ≤ i ∧ i < lo + w) := by omega
    simp [hi, hv, this]

/-- A bit of a field read. -/
theorem fld_testBit (v : W32) (lo w i : Nat) : (fld v lo w).testBit i = (decide (i < w) && v.getLsbD (lo + i)) := by
  unfold fld nbits
  rw [Nat.testBit_mod_two_pow, Nat.testBit_div_two_pow, BitVec.getLsbD, Nat.add_comm]

/-- A field reads what was written to it. -/
theorem fld_fput (v : W32) (lo w f : Nat) (h : lo + w ≤ 32) : fld (fput v lo w f) lo w = f % 2 ^ w := by
  apply Nat.eq_of_testBit_eq
  intro i
  rw [fld_testBit, fput_testBit _ _ _ _ _ h, Nat.testBit_mod_two_pow]
  by_cases hi : i < w <;> simp [hi]

/-- A field apart from the one written keeps its value. -/
theorem fld_fput_other (v : W32) (lo w f lo' w' : Nat) (h : lo + w ≤ 32) (d : lo' + w' ≤ lo ∨ lo + w ≤ lo') :
    fld (fput v lo w f) lo' w' = fld v lo' w' := by
  apply Nat.eq_of_testBit_eq
  intro i
  rw [fld_testBit, fld_testBit, fput_testBit _ _ _ _ _ h]
  by_cases hi : i < w'
  · have : ¬ (lo ≤ lo' + i ∧ lo' + i < lo + w) := by omega
    simp [hi, this]
  · simp [hi]

/-- A field that holds the one written. -/
theorem bitOf_fput (v : W32) (lo w f i : Nat) (h : lo + w ≤ 32) :
    bitOf (fput v lo w f) i = if lo ≤ i ∧ i < lo + w then f.testBit (i - lo) else bitOf v i := fput_testBit v lo w f i h

/-! ### Registers -/

theorem rget_rset (s : State) (a b : Nat) (v : W32) : rget (rset s a v) b = if b = a then v else rget s b :=
  mgetD_msetD regReset s.ctl a b v
@[simp] theorem rget_rset_same (s : State) (a : Nat) (v : W32) : rget (rset s a v) a = v := by simp [rget_rset]
theorem rget_rset_other (s : State) (a b : Nat) (v : W32) (h : b ≠ a) : rget (rset s a v) b = rget s b := by simp [rget_rset, h]

theorem rget_rput (s : State) (a b lo w v : Nat) : rget (rput s a lo w v) b = if b = a then fput (rget s a) lo w v else rget s b :=
  rget_rset _ _ _ _
theorem rget_rput_other (s : State) (a b lo w v : Nat) (h : b ≠ a) : rget (rput s a lo w v) b = rget s b := rget_rset_other _ _ _ _ h
theorem rget_rsetBit_other (s : State) (a b i : Nat) (h : b ≠ a) : rget (rsetBit s a i) b = rget s b := rget_rset_other _ _ _ _ h
theorem rget_rputBit_other (s : State) (a b i : Nat) (x : Bool) (h : b ≠ a) : rget (rputBit s a i x) b = rget s b :=
  rget_rset_other _ _ _ _ h
theorem rget_rinc_other (s : State) (a b lo w : Nat) (h : b ≠ a) : rget (rinc s a lo w) b = rget s b := rget_rset_other _ _ _ _ h
theorem rget_rincBy_other (s : State) (a b lo w k : Nat) (h : b ≠ a) : rget (rincBy s a lo w k) b = rget s b :=
  rget_rset_other _ _ _ _ h
theorem rget_rincMod_other (s : State) (a b lo w : Nat) (h : b ≠ a) : rget (rincMod s a lo w) b = rget s b :=
  rget_rset_other _ _ _ _ h

@[simp] theorem rfld_rput_same (s : State) (a lo w v : Nat) (h : lo + w ≤ 32) : rfld (rput s a lo w v) a lo w = v % 2 ^ w := by
  simp [rfld, rget_rput, fld_fput _ _ _ _ h]
theorem rfld_rput_other (s : State) (a b lo w v lo' w' : Nat) (h : lo + w ≤ 32) (d : b ≠ a ∨ lo' + w' ≤ lo ∨ lo + w ≤ lo') :
    rfld (rput s a lo w v) b lo' w' = rfld s b lo' w' := by
  unfold rfld
  by_cases e : b = a
  · subst e
    rw [rget_rput, if_pos rfl, fld_fput_other _ _ _ _ _ _ h (d.resolve_left (by simp))]
  · rw [rget_rput_other _ _ _ _ _ _ e]
theorem rbit_rput (s : State) (a b lo w v i : Nat) (h : lo + w ≤ 32) :
    rbit (rput s a lo w v) b i = if b = a ∧ lo ≤ i ∧ i < lo + w then v.testBit (i - lo) else rbit s b i := by
  unfold rbit
  by_cases e : b = a
  · subst e; rw [rget_rput, if_pos rfl, bitOf_fput _ _ _ _ _ h]; simp
  · rw [rget_rput_other _ _ _ _ _ _ e]; simp [e]
theorem rbit_rputBit (s : State) (a b i j : Nat) (x : Bool) (h : i < 32) :
    rbit (rputBit s a i x) b j = if b = a ∧ j = i then x else rbit s b j := by
  unfold rputBit
  rw [rbit_rput _ _ _ _ _ _ _ (by omega)]
  by_cases e : b = a
  · by_cases f : j = i
    · subst f; cases x <;> simp [e, b2n]
    · rw [if_neg (by omega), if_neg (by omega)]
  · simp [e]
theorem rbit_rsetBit (s : State) (a b i j : Nat) (h : i < 32) :
    rbit (rsetBit s a i) b j = if b = a ∧ j = i then true else rbit s b j := rbit_rputBit s a b i j true h

@[simp] theorem rget_emit (s : State) (o : Out) (x : Nat) : rget (emit s o) x = rget s x := rfl
@[simp] theorem rget_emitAll (s : State) (os : List Out) (x : Nat) : rget (emitAll s os) x = rget s x := rfl
@[simp] theorem rget_drawn (s : State) (x : Nat) : rget (drawn s) x = rget s x := rfl
@[simp] theorem rget_setCell (s : State) (k : Nat) (c : Cell) (x : Nat) : rget (setCell s k c) x = rget s x := rfl
@[simp] theorem rget_onCell (s : State) (k : Nat) (f : Cell → Cell) (x : Nat) : rget (onCell s k f) x = rget s x := rfl
@[simp] theorem rget_flyTo (s : State) (k lat : Nat) (d : Dst) (v : Acc) (x : Nat) : rget (flyTo s k lat d v) x = rget s x := rfl
@[simp] theorem rget_cellPut (s : State) (k off : Nat) (w : Word) (x : Nat) : rget (cellPut s k off w) x = rget s x := rfl
@[simp] theorem rget_setNs (s : State) (a : Nat) (n : NsSession) (x : Nat) : rget (setNs s a n) x = rget s x := rfl
@[simp] theorem rget_setEvStack (s : State) (a : Nat) (l : List Nat) (x : Nat) : rget (setEvStack s a l) x = rget s x := rfl
@[simp] theorem rget_setDelivered (s : State) (n : Nat) (b : Bool) (x : Nat) : rget (setDelivered s n b) x = rget s x := rfl
@[simp] theorem rget_setOpen (s : State) (cls unit : Nat) (b : Bool) (x : Nat) : rget (setOpen s cls unit b) x = rget s x := rfl
@[simp] theorem rget_setGroup (s : State) (g : Nat) (y : Group) (x : Nat) : rget (setGroup s g y) x = rget s x := rfl
@[simp] theorem rget_setCmtCell (s : State) (l : Nat) (c : CellCmt) (x : Nat) : rget (setCmtCell s l c) x = rget s x := rfl
@[simp] theorem rget_onCmtCell (s : State) (l : Nat) (f : CellCmt → CellCmt) (x : Nat) : rget (onCmtCell s l f) x = rget s x := rfl
@[simp] theorem rget_onCmt (s : State) (k : Nat) (f : CellCmt → CellCmt) (x : Nat) : rget (onCmt s k f) x = rget s x := rfl
@[simp] theorem rget_setLane (s : State) (c lane : Nat) (l : Lane) (x : Nat) : rget (setLane s c lane l) x = rget s x := rfl
@[simp] theorem rget_setBridge (s : State) (c k : Nat) (b : Bridge) (x : Nat) : rget (setBridge s c k b) x = rget s x := rfl
@[simp] theorem rget_setCrc (s : State) (u : Nat) (c : CrcUnit) (x : Nat) : rget (setCrc s u c) x = rget s x := rfl
@[simp] theorem rget_onBoot (s : State) (f : BootSt → BootSt) (x : Nat) : rget (onBoot s f) x = rget s x := rfl
@[simp] theorem rget_onPwr (s : State) (f : PwrSt → PwrSt) (x : Nat) : rget (onPwr s f) x = rget s x := rfl
@[simp] theorem rget_onClk (s : State) (f : ClkSt → ClkSt) (x : Nat) : rget (onClk s f) x = rget s x := rfl
@[simp] theorem rget_setRun (s : State) (g : Nat) (r : StrRun) (x : Nat) : rget (setRun s g r) x = rget s x := rfl
@[simp] theorem rget_setPump (s : State) (n : Nat) (c : PumpCh) (x : Nat) : rget (setPump s n c) x = rget s x := rfl
@[simp] theorem rget_setFlow (s : State) (n : Nat) (f : FlowRun) (x : Nat) : rget (setFlow s n f) x = rget s x := rfl
@[simp] theorem rget_setAesRx (s : State) (i : Nat) (r : AesRx) (x : Nat) : rget (setAesRx s i r) x = rget s x := rfl
@[simp] theorem rget_setAesTx (s : State) (j : Nat) (r : AesTx) (x : Nat) : rget (setAesTx s j r) x = rget s x := rfl
@[simp] theorem rget_setTdm (s : State) (q : Nat) (r : TdmRun) (x : Nat) : rget (setTdm s q r) x = rget s x := rfl
/-! ### Cells -/

theorem cellAt_setCell (s : State) (k j : Nat) (c : Cell) : cellAt (setCell s k c) j = if j = k then c else cellAt s j :=
  mget_mset _ _ _ _ _
@[simp] theorem cellAt_setCell_same (s : State) (k : Nat) (c : Cell) : cellAt (setCell s k c) k = c := by simp [cellAt_setCell]
theorem cellAt_setCell_other (s : State) (k j : Nat) (c : Cell) (h : j ≠ k) : cellAt (setCell s k c) j = cellAt s j := by
  simp [cellAt_setCell, h]
theorem cellAt_onCell (s : State) (k j : Nat) (f : Cell → Cell) :
    cellAt (onCell s k f) j = if j = k then f (cellAt s k) else cellAt s j := cellAt_setCell _ _ _ _
@[simp] theorem cellAt_onCell_same (s : State) (k : Nat) (f : Cell → Cell) : cellAt (onCell s k f) k = f (cellAt s k) := by
  simp [cellAt_onCell]
theorem cellAt_flyTo (s : State) (k lat j : Nat) (d : Dst) (v : Acc) :
    cellAt (flyTo s k lat d v) j = if j = k then fly (cellAt s k) lat d v else cellAt s j := cellAt_onCell _ _ _ _
@[simp] theorem cellAt_flyTo_same (s : State) (k lat : Nat) (d : Dst) (v : Acc) :
    cellAt (flyTo s k lat d v) k = fly (cellAt s k) lat d v := by simp [cellAt_flyTo]
@[simp] theorem cellAt_rset (s : State) (a : Nat) (v : W32) (x : Nat) : cellAt (rset s a v) x = cellAt s x := rfl
@[simp] theorem cellAt_rput (s : State) (a lo w v : Nat) (x : Nat) : cellAt (rput s a lo w v) x = cellAt s x := rfl
@[simp] theorem cellAt_rsetBit (s : State) (a i : Nat) (x : Nat) : cellAt (rsetBit s a i) x = cellAt s x := rfl
@[simp] theorem cellAt_rputBit (s : State) (a i : Nat) (b : Bool) (x : Nat) : cellAt (rputBit s a i b) x = cellAt s x := rfl
@[simp] theorem cellAt_rinc (s : State) (a lo w : Nat) (x : Nat) : cellAt (rinc s a lo w) x = cellAt s x := rfl
@[simp] theorem cellAt_rincBy (s : State) (a lo w k : Nat) (x : Nat) : cellAt (rincBy s a lo w k) x = cellAt s x := rfl
@[simp] theorem cellAt_rincMod (s : State) (a lo w : Nat) (x : Nat) : cellAt (rincMod s a lo w) x = cellAt s x := rfl
@[simp] theorem cellAt_rset64 (s : State) (a : Nat) (v : W64) (x : Nat) : cellAt (rset64 s a v) x = cellAt s x := rfl
@[simp] theorem cellAt_emit (s : State) (o : Out) (x : Nat) : cellAt (emit s o) x = cellAt s x := rfl
@[simp] theorem cellAt_emitAll (s : State) (os : List Out) (x : Nat) : cellAt (emitAll s os) x = cellAt s x := rfl
@[simp] theorem cellAt_drawn (s : State) (x : Nat) : cellAt (drawn s) x = cellAt s x := rfl
@[simp] theorem cellAt_cellPut (s : State) (k off : Nat) (w : Word) (x : Nat) : cellAt (cellPut s k off w) x = cellAt s x := rfl
@[simp] theorem cellAt_setNs (s : State) (a : Nat) (n : NsSession) (x : Nat) : cellAt (setNs s a n) x = cellAt s x := rfl
@[simp] theorem cellAt_setEvStack (s : State) (a : Nat) (l : List Nat) (x : Nat) : cellAt (setEvStack s a l) x = cellAt s x := rfl
@[simp] theorem cellAt_setDelivered (s : State) (n : Nat) (b : Bool) (x : Nat) : cellAt (setDelivered s n b) x = cellAt s x := rfl
@[simp] theorem cellAt_setOpen (s : State) (cls unit : Nat) (b : Bool) (x : Nat) : cellAt (setOpen s cls unit b) x = cellAt s x := rfl
@[simp] theorem cellAt_setGroup (s : State) (g : Nat) (y : Group) (x : Nat) : cellAt (setGroup s g y) x = cellAt s x := rfl
@[simp] theorem cellAt_setCmtCell (s : State) (l : Nat) (c : CellCmt) (x : Nat) : cellAt (setCmtCell s l c) x = cellAt s x := rfl
@[simp] theorem cellAt_onCmtCell (s : State) (l : Nat) (f : CellCmt → CellCmt) (x : Nat) : cellAt (onCmtCell s l f) x = cellAt s x := rfl
@[simp] theorem cellAt_onCmt (s : State) (k : Nat) (f : CellCmt → CellCmt) (x : Nat) : cellAt (onCmt s k f) x = cellAt s x := rfl
@[simp] theorem cellAt_setLane (s : State) (c lane : Nat) (l : Lane) (x : Nat) : cellAt (setLane s c lane l) x = cellAt s x := rfl
@[simp] theorem cellAt_setBridge (s : State) (c k : Nat) (b : Bridge) (x : Nat) : cellAt (setBridge s c k b) x = cellAt s x := rfl
@[simp] theorem cellAt_setCrc (s : State) (u : Nat) (c : CrcUnit) (x : Nat) : cellAt (setCrc s u c) x = cellAt s x := rfl
@[simp] theorem cellAt_onBoot (s : State) (f : BootSt → BootSt) (x : Nat) : cellAt (onBoot s f) x = cellAt s x := rfl
@[simp] theorem cellAt_onPwr (s : State) (f : PwrSt → PwrSt) (x : Nat) : cellAt (onPwr s f) x = cellAt s x := rfl
@[simp] theorem cellAt_onClk (s : State) (f : ClkSt → ClkSt) (x : Nat) : cellAt (onClk s f) x = cellAt s x := rfl
@[simp] theorem cellAt_setRun (s : State) (g : Nat) (r : StrRun) (x : Nat) : cellAt (setRun s g r) x = cellAt s x := rfl
@[simp] theorem cellAt_setPump (s : State) (n : Nat) (c : PumpCh) (x : Nat) : cellAt (setPump s n c) x = cellAt s x := rfl
@[simp] theorem cellAt_setFlow (s : State) (n : Nat) (f : FlowRun) (x : Nat) : cellAt (setFlow s n f) x = cellAt s x := rfl
@[simp] theorem cellAt_setAesRx (s : State) (i : Nat) (r : AesRx) (x : Nat) : cellAt (setAesRx s i r) x = cellAt s x := rfl
@[simp] theorem cellAt_setAesTx (s : State) (j : Nat) (r : AesTx) (x : Nat) : cellAt (setAesTx s j r) x = cellAt s x := rfl
@[simp] theorem cellAt_setTdm (s : State) (q : Nat) (r : TdmRun) (x : Nat) : cellAt (setTdm s q r) x = cellAt s x := rfl

end Sys2Proof.Machine
end

