-- ==== Sys2Proof/Laws/Cells.lean ====
section
/-! SUPPORT. What issuing an operation of a cell does before the operation's own effect, and how results in flight add up. -/

namespace Sys2Proof.Machine

/-- The state in which an operation takes its effect: the issue cycles have passed, the issue is counted. -/
def issuedState (st : State) (k g : Nat) (op : CellOp) : State :=
  onCell (onCell st k (tickCell g)) k (countIssue (!(cellNow st k g).sample) op (retireOf op))

/-- A slot that issues runs the operation on that state. -/
theorem cellRun_issues (st : State) (k g : Nat) (op : CellOp) (e : OpEnv) (h : st.issues k g op) :
    cellRun st k g op e = cellOp (issuedState st k g op) k (!(cellNow st k g).sample) op e := by
  have hf : (opLegal (!(tickCell g (cellAt st k)).sample) (tickCell g (cellAt st k)).pc op &&
      wordFits ((tickCell g (cellAt st k)).iss ++ [op])) = true := h.2
  unfold cellRun
  simp only [h.1.1, h.1.2, Bool.not_true, cellAt_onCell_same, hf, if_true]
  rfl

/-- An operation that does not fit its instruction leaves the whole instruction without effect (R106). -/
theorem cellRun_drops (st : State) (k g : Nat) (op : CellOp) (e : OpEnv) (h : st.open_ k g) (n : opFits (cellNow st k g) op = false) :
    cellRun st k g op e = dropInstr (issuedState st k g op) k := by
  have hf : (opLegal (!(tickCell g (cellAt st k)).sample) (tickCell g (cellAt st k)).pc op &&
      wordFits ((tickCell g (cellAt st k)).iss ++ [op])) = false := n
  unfold cellRun
  simp only [h.1, h.2, Bool.not_true, cellAt_onCell_same, hf]
  rfl

/-- A slot that does not issue in that cycle only passes the cycles. -/
theorem cellRun_waits (st : State) (k g : Nat) (op : CellOp) (e : OpEnv) (h : cellOn st k = true)
    (n : canIssue (onCell st k (tickCell g)) k g = false) : cellRun st k g op e = onCell st k (tickCell g) := by
  unfold cellRun; simp [h, n]

/-- A slot that runs nothing is left alone. -/
theorem cellRun_off (st : State) (k g : Nat) (op : CellOp) (e : OpEnv) (h : cellOn st k = false) : cellRun st k g op e = st := by
  unfold cellRun; simp [h]

/-- The count of an issue leaves the results in flight alone. -/
theorem countIssue_flight (b : Bool) (op : CellOp) (n : Nat) (c : Cell) : (countIssue b op n c).flight = c.flight := by cases b <;> rfl

theorem issuedState_flies (st : State) (k g : Nat) (op : CellOp) : Flies st (issuedState st k g op) k g [] := by
  refine ⟨rfl, ?_, ?_, ?_⟩
  · intro j hj; simp [issuedState, cellAt_onCell, hj]
  · simp only [issuedState, cellAt_onCell_same, cellNow]
    cases h : (!(tickCell g (cellAt st k)).sample) <;> simp [countIssue]
  · simp [issuedState, countIssue_flight, flown, cellNow]

/-- What no count of issues and no result in flight is stands. -/
theorem Flies.same {st t : State} {k g : Nat} {rs : List Flown} (h : Flies st t k g rs) {α : Type} (f : Cell → α)
    (hf : ∀ c r b x l i, f { c with retire := r, bissue := b, bxw := x, flight := l, iss := i } = f c) :
    f (cellAt t k) = f (cellNow st k g) := by
  have := congrArg f h.cell
  rwa [hf] at this

/-- One more result. -/
theorem Flies.fly {st t : State} {k g : Nat} {rs : List Flown} (h : Flies st t k g rs) (lat : Nat) (d : Dst) (v : Acc) :
    Flies st (flyTo t k lat d v) k g (rs ++ [(lat, d, v)]) := by
  have hc : (cellAt t k).clk = (cellNow st k g).clk := h.same (fun c => c.clk) (fun _ _ _ _ _ _ => rfl)
  refine ⟨h.rest, ?_, ?_, ?_⟩
  · intro j hj; rw [cellAt_flyTo, if_neg hj, h.others j hj]
  · rw [cellAt_flyTo_same]; exact h.cell
  · rw [cellAt_flyTo_same]; simp [Machine.fly, h.flight, flown, hc]

/-- Both views of an accumulator. -/
theorem Flies.flyAcc {st t : State} {k g : Nat} {rs : List Flown} (h : Flies st t k g rs) (f v n : Nat) (hi lo : Bool) (x : Acc) :
    Flies st (flyAcc t k f v n hi lo x) k g (rs ++ [(f, .acc n true hi lo, x), (v, .acc n false hi lo, x)]) := by
  have := (h.fly f (.acc n true hi lo) x).fly v (.acc n false hi lo) x
  simpa [Machine.flyAcc] using this

/-- A BX write has issued. -/
theorem Flies.bxw {st t : State} {k g : Nat} {rs : List Flown} (h : Flies st t k g rs) : Flies st (bxWritten t k) k g rs := by
  refine ⟨h.rest, ?_, ?_, ?_⟩
  · intro j hj; rw [bxWritten, cellAt_onCell, if_neg hj, h.others j hj]
  · rw [bxWritten, cellAt_onCell_same]; exact h.cell
  · rw [bxWritten, cellAt_onCell_same]; exact h.flight

/-- The registers an operation reads are those of the cell once the issue cycles have passed. -/
theorem issuedState_same (st : State) (k g : Nat) (op : CellOp) {α : Type} (f : Cell → α)
    (hf : ∀ c r b x l i, f { c with retire := r, bissue := b, bxw := x, flight := l, iss := i } = f c) :
    f (cellAt (issuedState st k g op) k) = f (cellNow st k g) := (issuedState_flies st k g op).same f hf

/-- The state an operation works on: only cells differ, and of its own cell only the counts of issues. -/
theorem issuedState_eq (st : State) (k g : Nat) (op : CellOp) : ∃ cs r b i, issuedState st k g op = { st with cells := cs } ∧
    cellAt { st with cells := cs } k = { cellNow st k g with retire := r, bissue := b, iss := i } ∧
    (∀ j, j ≠ k → cellAt { st with cells := cs } j = cellAt st j) := by
  have h := issuedState_flies st k g op
  have hc : ∃ r b i, cellAt (issuedState st k g op) k = { cellNow st k g with retire := r, bissue := b, iss := i } := by
    unfold issuedState countIssue
    rw [cellAt_onCell_same, cellAt_onCell_same]
    split <;> exact ⟨_, _, _, rfl⟩
  obtain ⟨r, b, i, hc⟩ := hc
  exact ⟨(issuedState st k g op).cells, r, b, i, rfl, hc, h.others⟩

theorem Flies.of_run {st : State} {k g : Nat} {op : CellOp} {e : OpEnv} (h : st.issues k g op) {rs : List Flown}
    (hh : Flies st (cellOp (issuedState st k g op) k (!(cellNow st k g).sample) op e) k g rs) :
    Flies st (cellRun st k g op e) k g rs := by
  rw [cellRun_issues _ _ _ _ _ h]; exact hh

end Sys2Proof.Machine
end

