-- ==== Sys2Proof/Laws/Evolve.lean ====
section
/-! SUPPORT. What every operation of the model can do to the parts of a state that the whole-machine statements speak of: the queue
of commands, the outputs, the free values, the blown epoch fuses, the record queues and the memories' canonical form. One relation,
`Evolves`, says it once; each operation has one lemma that it only evolves the state it is given. -/

namespace Sys2Proof.Machine

/-- The parts of a state that `Evolves` speaks of. -/
abbrev coreOf (s : State) :=
  (s.pending, s.boot.floor, s.freeCtr, s.out, s.bnd, s.cmt.recs, s.flt.log, s.ctl, s.mem.cist, s.mem.cell, s.mem.mark)

/-- From `s` to `t` the queue stands, no epoch fuse is unblown, no free value is drawn twice, nothing put out is taken back, and
whatever part of the device's invariant held still holds. -/
structure Evolves (s t : State) : Prop where
  pending : t.pending = s.pending
  floor : s.boot.floor ≤ t.boot.floor
  free : s.freeCtr ≤ t.freeCtr
  out : s.out <+: t.out
  bnd : s.bnd.length ≤ 16 → t.bnd.length ≤ 16
  recs : s.cmt.recs.length ≤ 32 → t.cmt.recs.length ≤ 32
  log : s.flt.log.length ≤ 32 → t.flt.log.length ≤ 32
  ctl : mwfD regReset s.ctl = true → mwfD regReset t.ctl = true
  cist : mwf 0 s.mem.cist = true → mwf 0 t.mem.cist = true
  cell : mwf 0 s.mem.cell = true → mwf 0 t.mem.cell = true
  mark : mwf false s.mem.mark = true → mwf false t.mem.mark = true

theorem Evolves.refl (s : State) : Evolves s s := ⟨rfl, le_refl _, le_refl _, List.prefix_refl _, id, id, id, id, id, id, id⟩

theorem Evolves.trans {a b c : State} (h : Evolves a b) (k : Evolves b c) : Evolves a c :=
  ⟨k.pending.trans h.pending, h.floor.trans k.floor, h.free.trans k.free, h.out.trans k.out, k.bnd ∘ h.bnd, k.recs ∘ h.recs,
   k.log ∘ h.log, k.ctl ∘ h.ctl, k.cist ∘ h.cist, k.cell ∘ h.cell, k.mark ∘ h.mark⟩

/-- An update of other parts of the state. -/
theorem Evolves.upd {a s t : State} (h : Evolves a s) (e : coreOf t = coreOf s) : Evolves a t := by
  simp only [coreOf, Prod.mk.injEq] at e
  obtain ⟨e1, e2, e3, e4, e5, e6, e7, e8, e9, e10, e11⟩ := e
  exact h.trans ⟨e1, e2.ge, e3.ge, e4 ▸ List.prefix_refl _, fun h => e5 ▸ h, fun h => e6 ▸ h, fun h => e7 ▸ h, fun h => e8 ▸ h,
    fun h => e9 ▸ h, fun h => e10 ▸ h, fun h => e11 ▸ h⟩

/-- A record update of other parts, as the record it is. -/
theorem Evolves.lit {a s : State} {latch : SMap (Option (Nat × W32))} {holder : SMap (Option (Nat × W32))} {btc : W64}
    {quarter : Nat} {cells : SMap Cell} {cisLate : SMap Bool} {ex : ExchSt} {wel : WelSt} {glc : GlcSt} {host : HostSt} {ev :
    EventSt} {mtr : MeterSt} {crc : SMap CrcUnit} {load : LoadSt} {port : PortSt} {pump : SMap PumpCh} {pumpLast : Nat} {clk : ClkSt} {net :
    NetSt} {ser : SerSt} {pwr : PwrSt} {mem : MemSt}
    {cmt : CmtSt} {flt : FaultSt} {boot : BootSt} (h : Evolves a s)
    (e : (boot.floor, cmt.recs, flt.log, mem.cist, mem.cell, mem.mark) =
      (s.boot.floor, s.cmt.recs, s.flt.log, s.mem.cist, s.mem.cell, s.mem.mark)) :
    Evolves a ⟨s.pending, s.freeCtr, s.out, s.ctl, latch, holder, btc, quarter, s.bnd, cells, mem, cisLate, ex, wel, glc,
    host, ev, mtr, flt, crc, cmt, load, port, pump, pumpLast, clk, net, ser, boot, pwr⟩ := by
  simp only [Prod.mk.injEq] at e
  obtain ⟨e1, e2, e3, e4, e5, e6⟩ := e
  exact h.upd (by simp [coreOf, e1, e2, e3, e4, e5, e6])

/-- A record update that rewrites memories by operations that keep their form. -/
theorem Evolves.litMem {a s : State} {latch : SMap (Option (Nat × W32))} {holder : SMap (Option (Nat × W32))} {btc : W64}
    {quarter : Nat} {cells : SMap Cell} {cisLate : SMap Bool} {ex : ExchSt} {wel : WelSt} {glc : GlcSt} {host : HostSt} {ev :
    EventSt} {mtr : MeterSt} {crc : SMap CrcUnit} {load : LoadSt} {port : PortSt} {pump : SMap PumpCh} {pumpLast : Nat} {clk : ClkSt} {net :
    NetSt} {ser : SerSt} {pwr : PwrSt} {mem : MemSt}
    {cmt : CmtSt} {flt : FaultSt} {boot : BootSt} (h : Evolves a s)
    (e : (boot.floor, cmt.recs, flt.log) = (s.boot.floor, s.cmt.recs, s.flt.log))
    (hi : mwf 0 s.mem.cist = true → mwf 0 mem.cist = true) (hc : mwf 0 s.mem.cell = true → mwf 0 mem.cell = true)
    (hm : mwf false s.mem.mark = true → mwf false mem.mark = true) :
    Evolves a ⟨s.pending, s.freeCtr, s.out, s.ctl, latch, holder, btc, quarter, s.bnd, cells, mem, cisLate, ex, wel, glc,
    host, ev, mtr, flt, crc, cmt, load, port, pump, pumpLast, clk, net, ser, boot, pwr⟩ := by
  simp only [Prod.mk.injEq] at e
  obtain ⟨e1, e2, e3⟩ := e
  exact h.trans ⟨rfl, e1.ge, le_refl _, List.prefix_refl _, id, fun w => by simpa [e2] using w, fun w => by simpa [e3] using w, id,
    hi, hc, hm⟩

theorem Evolves.ite {a s t : State} {c : Prop} [Decidable c] (h : Evolves a s) (k : Evolves a t) :
    Evolves a (if c then s else t) := by split <;> assumption

theorem Evolves.inv {s t : State} (h : Evolves s t) (i : s.Inv) : t.Inv :=
  ⟨⟨h.ctl i.1.1, h.cist i.1.2.1, h.cell i.1.2.2.1, h.mark i.1.2.2.2⟩, ⟨h.bnd i.2.1, h.recs i.2.2.1, h.log i.2.2.2⟩⟩

/-- The state of a pair that equals another. -/
theorem Evolves.snd {α : Type} {a : State} {q r : α × State} (h : q = r) (e : Evolves a q.2) : Evolves a r.2 := h ▸ e

/-- The handler's entries are not the log (R427, R448). -/
theorem workDrop_log (f : FaultSt) (p : FltWork → Bool) : (workDrop f p).log = f.log := by
  unfold workDrop; dsimp only; (repeat' split) <;> rfl

/-- A command's outcome is a next state into which the state evolves. -/
def NextEv (s : State) (r : Res) : Prop := ∃ t, r = .next t ∧ Evolves s t

theorem next_ev {s t : State} (h : Evolves s t) : NextEv s (.next t) := ⟨t, rfl, h⟩

theorem foldl_ev {α : Type} {a : State} {f : State → α → State} {l : List α} {s : State}
    (h : ∀ s x, Evolves a s → Evolves a (f s x)) (hs : Evolves a s) : Evolves a (l.foldl f s) := by
  induction l generalizing s with
  | nil => exact hs
  | cons x r ih => exact ih (h _ _ hs)

theorem foldl_snd_ev {α β : Type} {a : State} {f : β × State → α → β × State} {l : List α} {q : β × State}
    (h : ∀ q x, Evolves a q.2 → Evolves a (f q x).2) (hs : Evolves a q.2) : Evolves a (l.foldl f q).2 := by
  induction l generalizing q with
  | nil => exact hs
  | cons x r ih => exact ih (h _ _ hs)

theorem foldl_fst_ev {α β : Type} {a : State} {f : State × β → α → State × β} {l : List α} {q : State × β}
    (h : ∀ q x, Evolves a q.1 → Evolves a (f q x).1) (hs : Evolves a q.1) : Evolves a (l.foldl f q).1 := by
  induction l generalizing q with
  | nil => exact hs
  | cons x r ih => exact ih (h _ _ hs)

theorem foldl_snd2_ev {α β γ : Type} {a : State} {f : β × γ × State → α → β × γ × State} {l : List α} {q : β × γ × State}
    (h : ∀ q x, Evolves a q.2.2 → Evolves a (f q x).2.2) (hs : Evolves a q.2.2) : Evolves a (l.foldl f q).2.2 := by
  induction l generalizing q with
  | nil => exact hs
  | cons x r ih => exact ih (h _ _ hs)

theorem forEach_ev {α : Type} {a : State} {f : State → α → State} {l : List α} {s : State}
    (h : ∀ s x, Evolves a s → Evolves a (f s x)) (hs : Evolves a s) : Evolves a (forEach l s f) := foldl_ev h hs

theorem forN_ev {a : State} {f : State → Nat → State} {n : Nat} {s : State}
    (h : ∀ s x, Evolves a s → Evolves a (f s x)) (hs : Evolves a s) : Evolves a (forN n s f) := foldl_ev h hs

theorem whenS_ev {a : State} {f : State → State} {c : Bool} {s : State}
    (h : ∀ s, Evolves a s → Evolves a (f s)) (hs : Evolves a s) : Evolves a (whenS c s f) := by
  unfold whenS; exact Evolves.ite (h _ hs) hs

/-! ### The operations over registers, outputs and free values -/

theorem rset_ev (s : State) (x : Nat) (v : W32) {a : State} (h : Evolves a s) : Evolves a (rset s x v) :=
  h.trans ⟨rfl, le_refl _, le_refl _, List.prefix_refl _, id, id, id, fun w => mwfD_msetD _ _ _ _ w, id, id, id⟩

theorem emit_ev (s : State) (o : Out) {a : State} (h : Evolves a s) : Evolves a (emit s o) :=
  h.trans ⟨rfl, le_refl _, le_refl _, List.prefix_append _ _, id, id, id, id, id, id, id⟩

theorem emitAll_ev (s : State) (os : List Out) {a : State} (h : Evolves a s) : Evolves a (emitAll s os) :=
  h.trans ⟨rfl, le_refl _, le_refl _, List.prefix_append _ _, id, id, id, id, id, id, id⟩

theorem drawn_ev (s : State) {a : State} (h : Evolves a s) : Evolves a (drawn s) :=
  h.trans ⟨rfl, le_refl _, Nat.le_succ _, List.prefix_refl _, id, id, id, id, id, id, id⟩

theorem rput_ev (s : State) (x lo w v : Nat) {a : State} (h : Evolves a s) : Evolves a (rput s x lo w v) := rset_ev _ _ _ h

theorem rinc_ev (s : State) (x lo w : Nat) {a : State} (h : Evolves a s) : Evolves a (rinc s x lo w) := rput_ev _ _ _ _ _ h

theorem bndPop_ev (s : State) {a : State} (h : Evolves a s) : Evolves a { s with bnd := s.bnd.tail } :=
  h.trans ⟨rfl, le_refl _, le_refl _, List.prefix_refl _, fun w => by simp only [List.length_tail]; omega, id, id, id, id, id, id⟩

theorem recPop_ev (s : State) {a : State} (h : Evolves a s) :
    Evolves a { s with cmt := { s.cmt with recs := s.cmt.recs.tail } } :=
  h.trans ⟨rfl, le_refl _, le_refl _, List.prefix_refl _, id, fun w => by simp only [List.length_tail]; omega, id, id, id, id, id⟩

theorem logPop_ev (s : State) {a : State} (h : Evolves a s) : Evolves a { s with flt := { s.flt with log := s.flt.log.tail } } :=
  h.trans ⟨rfl, le_refl _, le_refl _, List.prefix_refl _, id, id, fun w => by simp only [List.length_tail]; omega, id, id, id, id⟩

end Sys2Proof.Machine
end

