-- ==== Sys2Proof/Laws/Ev/Reg.lean ====
section
/-! SUPPORT. Each operation of Machine/Reg.lean only evolves the state it is given. -/

set_option linter.unreachableTactic false
set_option linter.unusedTactic false
set_option linter.tactic.unusedName false

namespace Sys2Proof.Machine

theorem rsetBit_ev (s : State) (a i : Nat) {a_ : State} (h_ : Evolves a_ s) : Evolves a_ (rsetBit s a i) := by
  unfold rsetBit
  repeat' (first
  | with_reducible assumption
  | with_reducible first | apply rput_ev
  | split
  | (with_reducible refine Evolves.lit ?_ ?_; (on_goal 2 => rfl)))

theorem rputBit_ev (s : State) (a i : Nat) (b : Bool) {a_ : State} (h_ : Evolves a_ s) : Evolves a_ (rputBit s a i b) := by
  unfold rputBit
  repeat' (first
  | with_reducible assumption
  | with_reducible first | apply rput_ev
  | split
  | (with_reducible refine Evolves.lit ?_ ?_; (on_goal 2 => rfl)))

theorem rincBy_ev (s : State) (a lo w k : Nat) {a_ : State} (h_ : Evolves a_ s) : Evolves a_ (rincBy s a lo w k) := by
  unfold rincBy
  repeat' (first
  | with_reducible assumption
  | with_reducible first | apply rput_ev
  | split
  | (with_reducible refine Evolves.lit ?_ ?_; (on_goal 2 => rfl)))

theorem rincMod_ev (s : State) (a lo w : Nat) {a_ : State} (h_ : Evolves a_ s) : Evolves a_ (rincMod s a lo w) := by
  unfold rincMod
  repeat' (first
  | with_reducible assumption
  | with_reducible first | apply rput_ev
  | split
  | (with_reducible refine Evolves.lit ?_ ?_; (on_goal 2 => rfl)))

theorem rset64_ev (s : State) (a : Nat) (v : W64) {a_ : State} (h_ : Evolves a_ s) : Evolves a_ (rset64 s a v) := by
  unfold rset64
  repeat' (first
  | with_reducible assumption
  | with_reducible first | apply rset_ev
  | split
  | (with_reducible refine Evolves.lit ?_ ?_; (on_goal 2 => rfl)))

theorem setCell_ev (s : State) (k : Nat) (c : Cell) {a_ : State} (h_ : Evolves a_ s) : Evolves a_ (setCell s k c) := by
  unfold setCell
  repeat' (first
  | with_reducible assumption
  | (extract_lets +onlyGivenNames x; first
     | (refine (fun (hx : Evolves a_ x) => ?_) ?_; (on_goal 2 => subst x); (on_goal 1 => clear_value x))
     | subst x | clear_value x)
  | split
  | (with_reducible refine Evolves.lit ?_ ?_; (on_goal 2 => rfl)))

end Sys2Proof.Machine
end

