-- ==== Sys2Proof/Laws/Ev/Events.lean ====
section
/-! SUPPORT. Each operation of Machine/Events.lean only evolves the state it is given. -/

set_option linter.unreachableTactic false
set_option linter.unusedTactic false
set_option linter.tactic.unusedName false

namespace Sys2Proof.Machine

theorem setNs_ev (s : State) (a : Nat) (n : NsSession) {a_ : State} (h_ : Evolves a_ s) : Evolves a_ (setNs s a n) := by
  unfold setNs
  repeat' (first
  | with_reducible assumption
  | (extract_lets +onlyGivenNames x; first
     | (refine (fun (hx : Evolves a_ x) => ?_) ?_; (on_goal 2 => subst x); (on_goal 1 => clear_value x))
     | subst x | clear_value x)
  | split
  | (with_reducible refine Evolves.lit ?_ ?_; (on_goal 2 => rfl)))

theorem nsSend_ev (s : State) (a typ : Nat) (body : List Byte) {a_ : State} (h_ : Evolves a_ s) : Evolves a_ (nsSend s a typ body) := by
  unfold nsSend
  repeat' (first
  | with_reducible assumption
  | with_reducible refine Evolves.ite ?_ ?_
  | (extract_lets +onlyGivenNames x; first
     | (refine (fun (hx : Evolves a_ x) => ?_) ?_; (on_goal 2 => subst x); (on_goal 1 => clear_value x))
     | (refine (fun (hx : Evolves a_ x.2) => ?_) ?_; (on_goal 2 => subst x); (on_goal 1 => clear_value x))
     | (refine (fun (hx : Evolves a_ x.1) => ?_) ?_; (on_goal 2 => subst x); (on_goal 1 => clear_value x))
     | (refine (fun (hx : Evolves a_ x.2.2) => ?_) ?_; (on_goal 2 => subst x); (on_goal 1 => clear_value x))
     | subst x | clear_value x)
  | with_reducible first | apply emit_ev | apply setNs_ev
  | split
  | (with_reducible refine Evolves.lit ?_ ?_; (on_goal 2 => rfl)))

theorem msixSend_ev (s : State) (v : Nat) {a_ : State} (h_ : Evolves a_ s) : Evolves a_ (msixSend s v) := by
  unfold msixSend
  repeat' (first
  | with_reducible assumption
  | with_reducible refine Evolves.ite ?_ ?_
  | with_reducible first | apply emit_ev
  | split
  | (with_reducible refine Evolves.lit ?_ ?_; (on_goal 2 => rfl)))

theorem msixMasks_ev (s : State) (m : BitVec 64) {a_ : State} (h_ : Evolves a_ s) : Evolves a_ (msixMasks s m) := by
  unfold msixMasks
  repeat' (first
  | with_reducible assumption
  | with_reducible refine Evolves.ite ?_ ?_
  | (extract_lets +onlyGivenNames x; first
     | (refine (fun (hx : Evolves a_ x) => ?_) ?_; (on_goal 2 => subst x); (on_goal 1 => clear_value x))
     | (refine (fun (hx : Evolves a_ x.2) => ?_) ?_; (on_goal 2 => subst x); (on_goal 1 => clear_value x))
     | (refine (fun (hx : Evolves a_ x.1) => ?_) ?_; (on_goal 2 => subst x); (on_goal 1 => clear_value x))
     | (refine (fun (hx : Evolves a_ x.2.2) => ?_) ?_; (on_goal 2 => subst x); (on_goal 1 => clear_value x))
     | subst x | clear_value x)
  | with_reducible first | apply emitAll_ev
  | split
  | (with_reducible refine Evolves.lit ?_ ?_; (on_goal 2 => rfl)))

theorem setEvStack_ev (s : State) (a : Nat) (l : List Nat) {a_ : State} (h_ : Evolves a_ s) : Evolves a_ (setEvStack s a l) := by
  unfold setEvStack
  repeat' (first
  | with_reducible assumption
  | (extract_lets +onlyGivenNames x; first
     | (refine (fun (hx : Evolves a_ x) => ?_) ?_; (on_goal 2 => subst x); (on_goal 1 => clear_value x))
     | (refine (fun (hx : Evolves a_ x.st) => ?_) ?_; (on_goal 2 => subst x); (on_goal 1 => clear_value x))
     | subst x | clear_value x)
  | split
  | (with_reducible refine Evolves.lit ?_ ?_; (on_goal 2 => rfl)))

theorem evLatch_ev (s : State) (n : Nat) {a_ : State} (h_ : Evolves a_ s) : Evolves a_ (evLatch s n) := by
  unfold evLatch
  repeat' (first
  | with_reducible assumption
  | with_reducible refine Evolves.ite ?_ ?_
  | with_reducible first | apply rsetBit_ev
  | split
  | (with_reducible refine Evolves.lit ?_ ?_; (on_goal 2 => rfl)))

theorem setDelivered_ev (s : State) (n : Nat) (b : Bool) {a_ : State} (h_ : Evolves a_ s) : Evolves a_ (setDelivered s n b) := by
  unfold setDelivered
  repeat' (first
  | with_reducible assumption
  | (extract_lets +onlyGivenNames x; first
     | (refine (fun (hx : Evolves a_ x) => ?_) ?_; (on_goal 2 => subst x); (on_goal 1 => clear_value x))
     | subst x | clear_value x)
  | split
  | (with_reducible refine Evolves.lit ?_ ?_; (on_goal 2 => rfl)))

theorem evDeliver_ev (s : State) (n : Nat) {a_ : State} (h_ : Evolves a_ s) : Evolves a_ (evDeliver s n) := by
  unfold evDeliver
  repeat' (first
  | with_reducible assumption
  | with_reducible refine Evolves.ite ?_ ?_
  | (extract_lets +onlyGivenNames x; first
     | (refine (fun (hx : Evolves a_ x) => ?_) ?_; (on_goal 2 => subst x); (on_goal 1 => clear_value x))
     | subst x | clear_value x)
  | with_reducible first | apply evLatch_ev | apply rputBit_ev | apply rsetBit_ev | apply setDelivered_ev | apply rinc_ev
  | split
  | (with_reducible refine Evolves.lit ?_ ?_; (on_goal 2 => rfl)))

theorem callAgent_ev (s : State) (a : Nat) {a_ : State} (h_ : Evolves a_ s) : Evolves a_ (callAgent s a) := by
  unfold callAgent
  repeat' (first
  | with_reducible assumption
  | with_reducible refine Evolves.ite ?_ ?_
  | with_reducible first | apply emit_ev | apply nsSend_ev
  | split
  | (with_reducible refine Evolves.lit ?_ ?_; (on_goal 2 => rfl)))

theorem setCalled_ev (s : State) (n m : Nat) {a_ : State} (h_ : Evolves a_ s) : Evolves a_ (setCalled s n m) := by
  unfold setCalled
  repeat' (first
  | with_reducible assumption
  | with_reducible refine Evolves.ite ?_ ?_
  | split
  | (with_reducible refine Evolves.lit ?_ ?_; (on_goal 2 => rfl)))

theorem evHold_ev (s : State) {a_ : State} (h_ : Evolves a_ s) : Evolves a_ (evHold s) := by
  unfold evHold
  repeat' (first
  | with_reducible assumption
  | with_reducible refine Evolves.ite ?_ ?_
  | (extract_lets +onlyGivenNames x; first
     | (refine (fun (hx : Evolves a_ x) => ?_) ?_; (on_goal 2 => subst x); (on_goal 1 => clear_value x))
     | (refine (fun (hx : Evolves a_ x.2) => ?_) ?_; (on_goal 2 => subst x); (on_goal 1 => clear_value x))
     | (refine (fun (hx : Evolves a_ x.1) => ?_) ?_; (on_goal 2 => subst x); (on_goal 1 => clear_value x))
     | (refine (fun (hx : Evolves a_ x.2.2) => ?_) ?_; (on_goal 2 => subst x); (on_goal 1 => clear_value x))
     | subst x | clear_value x)
  | with_reducible refine forEach_ev (fun _ _ hs => ?_) ?_ | with_reducible refine forN_ev (fun _ _ hs => ?_) ?_
  | with_reducible refine foldl_ev (fun _ _ hs => ?_) ?_ | with_reducible refine foldl_snd_ev (fun _ _ hs => ?_) ?_
  | with_reducible refine foldl_fst_ev (fun _ _ hs => ?_) ?_ | with_reducible refine foldl_snd2_ev (fun _ _ hs => ?_) ?_
  | with_reducible first | apply setCalled_ev | apply rputBit_ev | apply rsetBit_ev | apply foldl_ev | apply callAgent_ev
  | split
  | (with_reducible refine Evolves.lit ?_ ?_; (on_goal 2 => rfl)))

theorem evtSend_ev (s : State) (a : Nat) {a_ : State} (h_ : Evolves a_ s) : Evolves a_ (evtSend s a) := by
  unfold evtSend
  repeat' (first
  | with_reducible assumption
  | with_reducible refine Evolves.ite ?_ ?_
  | (extract_lets +onlyGivenNames x; first
     | (refine (fun (hx : Evolves a_ x) => ?_) ?_; (on_goal 2 => subst x); (on_goal 1 => clear_value x))
     | (refine (fun (hx : Evolves a_ x.2) => ?_) ?_; (on_goal 2 => subst x); (on_goal 1 => clear_value x))
     | (refine (fun (hx : Evolves a_ x.1) => ?_) ?_; (on_goal 2 => subst x); (on_goal 1 => clear_value x))
     | (refine (fun (hx : Evolves a_ x.2.2) => ?_) ?_; (on_goal 2 => subst x); (on_goal 1 => clear_value x))
     | subst x | clear_value x)
  | with_reducible first | apply setNs_ev | apply nsSend_ev
  | split
  | (with_reducible refine Evolves.lit ?_ ?_; (on_goal 2 => rfl)))

theorem evtFlush_ev (s : State) {a_ : State} (h_ : Evolves a_ s) : Evolves a_ (evtFlush s) := by
  unfold evtFlush
  repeat' (first
  | with_reducible assumption
  | with_reducible refine Evolves.ite ?_ ?_
  | (extract_lets +onlyGivenNames x; first
     | (refine (fun (hx : Evolves a_ x) => ?_) ?_; (on_goal 2 => subst x); (on_goal 1 => clear_value x))
     | (refine (fun (hx : Evolves a_ x.2) => ?_) ?_; (on_goal 2 => subst x); (on_goal 1 => clear_value x))
     | (refine (fun (hx : Evolves a_ x.1) => ?_) ?_; (on_goal 2 => subst x); (on_goal 1 => clear_value x))
     | (refine (fun (hx : Evolves a_ x.2.2) => ?_) ?_; (on_goal 2 => subst x); (on_goal 1 => clear_value x))
     | subst x | clear_value x)
  | with_reducible refine forEach_ev (fun _ _ hs => ?_) ?_ | with_reducible refine forN_ev (fun _ _ hs => ?_) ?_
  | with_reducible first | apply evtSend_ev | apply setNs_ev
  | split
  | (with_reducible refine Evolves.lit ?_ ?_; (on_goal 2 => rfl)))

theorem evSignal_ev (s : State) (a : Nat) {a_ : State} (h_ : Evolves a_ s) : Evolves a_ (evSignal s a) := by
  unfold evSignal
  repeat' (first
  | with_reducible assumption
  | with_reducible refine Evolves.ite ?_ ?_
  | (extract_lets +onlyGivenNames x; first
     | (refine (fun (hx : Evolves a_ x) => ?_) ?_; (on_goal 2 => subst x); (on_goal 1 => clear_value x))
     | (refine (fun (hx : Evolves a_ x.2) => ?_) ?_; (on_goal 2 => subst x); (on_goal 1 => clear_value x))
     | (refine (fun (hx : Evolves a_ x.1) => ?_) ?_; (on_goal 2 => subst x); (on_goal 1 => clear_value x))
     | (refine (fun (hx : Evolves a_ x.2.2) => ?_) ?_; (on_goal 2 => subst x); (on_goal 1 => clear_value x))
     | subst x | clear_value x)
  | with_reducible first | apply msixSend_ev | apply evtSend_ev
  | split
  | (with_reducible refine Evolves.lit ?_ ?_; (on_goal 2 => rfl)))

theorem evSettle_ev (s : State) {a_ : State} (h_ : Evolves a_ s) : Evolves a_ (evSettle s) := by
  unfold evSettle
  repeat' (first
  | with_reducible assumption
  | (extract_lets +onlyGivenNames x; first
     | (refine (fun (hx : Evolves a_ x) => ?_) ?_; (on_goal 2 => subst x); (on_goal 1 => clear_value x))
     | subst x | clear_value x)
  | with_reducible refine forEach_ev (fun _ _ hs => ?_) ?_ | with_reducible refine forN_ev (fun _ _ hs => ?_) ?_
  | with_reducible first | apply evDeliver_ev | apply evHold_ev | apply evSignal_ev
  | split
  | (with_reducible refine Evolves.lit ?_ ?_; (on_goal 2 => rfl)))

theorem evRaise_ev (s : State) (n : Nat) {a_ : State} (h_ : Evolves a_ s) : Evolves a_ (evRaise s n) := by
  unfold evRaise
  repeat' (first
  | with_reducible assumption
  | with_reducible first | apply evSettle_ev | apply evLatch_ev
  | split
  | (with_reducible refine Evolves.lit ?_ ?_; (on_goal 2 => rfl)))

theorem evSignalLevel_ev (s : State) (n : Nat) (b : Bool) {a_ : State} (h_ : Evolves a_ s) : Evolves a_ (evSignalLevel s n b) := by
  unfold evSignalLevel
  repeat' (first
  | with_reducible assumption
  | with_reducible refine Evolves.ite ?_ ?_
  | (extract_lets +onlyGivenNames x; first
     | (refine (fun (hx : Evolves a_ x) => ?_) ?_; (on_goal 2 => subst x); (on_goal 1 => clear_value x))
     | subst x | clear_value x)
  | with_reducible first | apply evRaise_ev
  | split
  | (with_reducible refine Evolves.lit ?_ ?_; (on_goal 2 => rfl)))

theorem evClaim_ev (s : State) (a : Nat) {a_ : State} (h_ : Evolves a_ s) : Evolves a_ (evClaim s a).2 := by
  unfold evClaim
  repeat' (first
  | with_reducible assumption
  | with_reducible refine Evolves.ite ?_ ?_
  | (extract_lets +onlyGivenNames x; first
     | (refine (fun (hx : Evolves a_ x) => ?_) ?_; (on_goal 2 => subst x); (on_goal 1 => clear_value x))
     | subst x | clear_value x)
  | with_reducible first | apply rputBit_ev | apply rput_ev | apply rsetBit_ev | apply setDelivered_ev | apply evSettle_ev | apply setEvStack_ev
  | split
  | (with_reducible refine Evolves.lit ?_ ?_; (on_goal 2 => rfl)))

theorem evEndService_ev (s : State) (a n : Nat) {a_ : State} (h_ : Evolves a_ s) : Evolves a_ (evEndService s a n) := by
  unfold evEndService
  repeat' (first
  | with_reducible assumption
  | with_reducible refine Evolves.ite ?_ ?_
  | (extract_lets +onlyGivenNames x; first
     | (refine (fun (hx : Evolves a_ x) => ?_) ?_; (on_goal 2 => subst x); (on_goal 1 => clear_value x))
     | subst x | clear_value x)
  | with_reducible first | apply setEvStack_ev | apply rput_ev | apply rputBit_ev | apply evLatch_ev
  | split
  | (with_reducible refine Evolves.lit ?_ ?_; (on_goal 2 => rfl)))

theorem evEoi_ev (s : State) (a n : Nat) {a_ : State} (h_ : Evolves a_ s) : Evolves a_ (evEoi s a n) := by
  unfold evEoi
  repeat' (first
  | with_reducible assumption
  | with_reducible refine Evolves.ite ?_ ?_
  | with_reducible first | apply evSettle_ev | apply evEndService_ev | apply rsetBit_ev
  | split
  | (with_reducible refine Evolves.lit ?_ ?_; (on_goal 2 => rfl)))

theorem evAgentDown_ev (s : State) (a : Nat) {a_ : State} (h_ : Evolves a_ s) : Evolves a_ (evAgentDown s a) := by
  unfold evAgentDown
  repeat' (first
  | with_reducible assumption
  | (extract_lets +onlyGivenNames x; first
     | (refine (fun (hx : Evolves a_ x) => ?_) ?_; (on_goal 2 => subst x); (on_goal 1 => clear_value x))
     | subst x | clear_value x)
  | with_reducible refine forEach_ev (fun _ _ hs => ?_) ?_ | with_reducible refine forN_ev (fun _ _ hs => ?_) ?_
  | with_reducible first | apply evSettle_ev | apply rsetBit_ev | apply evEndService_ev
  | split
  | (with_reducible refine Evolves.lit ?_ ?_; (on_goal 2 => rfl)))

theorem evRearm_ev (s : State) (n : Nat) {a_ : State} (h_ : Evolves a_ s) : Evolves a_ (evRearm s n) := by
  unfold evRearm
  repeat' (first
  | with_reducible assumption
  | with_reducible refine Evolves.ite ?_ ?_
  | with_reducible first | apply evLatch_ev
  | split
  | (with_reducible refine Evolves.lit ?_ ?_; (on_goal 2 => rfl)))

theorem evSrcWrite_ev (s : State) (n : Nat) (v : W32) {a_ : State} (h_ : Evolves a_ s) : Evolves a_ (evSrcWrite s n v) := by
  unfold evSrcWrite
  repeat' (first
  | with_reducible assumption
  | with_reducible refine Evolves.ite ?_ ?_
  | (extract_lets +onlyGivenNames x; first
     | (refine (fun (hx : Evolves a_ x) => ?_) ?_; (on_goal 2 => subst x); (on_goal 1 => clear_value x))
     | (refine (fun (hx : Evolves a_ x.2) => ?_) ?_; (on_goal 2 => subst x); (on_goal 1 => clear_value x))
     | (refine (fun (hx : Evolves a_ x.1) => ?_) ?_; (on_goal 2 => subst x); (on_goal 1 => clear_value x))
     | (refine (fun (hx : Evolves a_ x.2.2) => ?_) ?_; (on_goal 2 => subst x); (on_goal 1 => clear_value x))
     | subst x | clear_value x)
  | with_reducible first | apply rput_ev | apply rputBit_ev | apply setDelivered_ev | apply evRearm_ev | apply evSettle_ev
  | split
  | (with_reducible refine Evolves.lit ?_ ?_; (on_goal 2 => rfl)))

theorem evClusterFlags_ev (s : State) (c : Nat) {a_ : State} (h_ : Evolves a_ s) : Evolves a_ (evClusterFlags s c) := by
  unfold evClusterFlags
  repeat' (first
  | with_reducible assumption
  | with_reducible refine Evolves.ite ?_ ?_
  | (extract_lets +onlyGivenNames x; first
     | (refine (fun (hx : Evolves a_ x) => ?_) ?_; (on_goal 2 => subst x); (on_goal 1 => clear_value x))
     | subst x | clear_value x)
  | with_reducible first | apply evSignalLevel_ev
  | split
  | (with_reducible refine Evolves.lit ?_ ?_; (on_goal 2 => rfl)))

end Sys2Proof.Machine
end

