-- ==== Sys2Proof/Laws/Ev/Faults.lean ====
section
/-! SUPPORT. Each operation of Machine/Faults.lean only evolves the state it is given. -/

set_option linter.unreachableTactic false
set_option linter.unusedTactic false
set_option linter.tactic.unusedName false

namespace Sys2Proof.Machine

theorem bndRecord_ev (s : State) (b : W64) (typ detail : Nat) {a_ : State} (h_ : Evolves a_ s) :
    Evolves a_ (bndRecord s b typ detail) := by
  unfold bndRecord
  split
  · exact rinc_ev _ _ _ _ (rsetBit_ev _ _ _ h_)
  · rename_i h
    refine evRaise_ev _ _ (h_.trans ⟨rfl, le_refl _, le_refl _, List.prefix_refl _, fun _ => ?_, id, id, id, id, id, id⟩)
    simp only [List.length_append, List.length_singleton]; omega

theorem fltLog_ev (s : State) (kind : Nat) (f : FltInfo) {a_ : State} (h_ : Evolves a_ s) : Evolves a_ (fltLog s kind f) := by
  unfold fltLog
  extract_lets f' s'
  have h' : Evolves a_ s' := drawn_ev s h_
  split
  · exact rinc_ev _ _ _ _ (rsetBit_ev _ _ _ h')
  · rename_i h
    refine evRaise_ev _ _ (h'.trans ⟨rfl, le_refl _, le_refl _, List.prefix_refl _, id, id, fun _ => ?_, id, id, id, id⟩)
    simp only [List.length_append, List.length_singleton]; omega

theorem fltWork_ev (s : State) (w : FltWork) {a_ : State} (h_ : Evolves a_ s) : Evolves a_ (fltWork s w) := by
  unfold fltWork
  repeat' (first
  | with_reducible assumption
  | with_reducible refine Evolves.ite ?_ ?_
  | (extract_lets +onlyGivenNames x; first
     | (refine (fun (hx : Evolves a_ x) => ?_) ?_; (on_goal 2 => subst x); (on_goal 1 => clear_value x))
     | subst x | clear_value x)
  | split
  | (with_reducible refine Evolves.lit ?_ ?_; (on_goal 2 => rfl)))

theorem fltWorkDone_ev (s : State) (cls unit : Nat) {a_ : State} (h_ : Evolves a_ s) : Evolves a_ (fltWorkDone s cls unit) := by
  unfold fltWorkDone
  repeat' (first
  | with_reducible assumption
  | with_reducible refine Evolves.ite ?_ ?_
  | split
  | (with_reducible refine Evolves.lit ?_ ?_; (on_goal 2 => first | rfl | simp only [workDrop_log])))

theorem setOpen_ev (s : State) (cls unit : Nat) (b : Bool) {a_ : State} (h_ : Evolves a_ s) : Evolves a_ (setOpen s cls unit b) := by
  unfold setOpen
  repeat' (first
  | with_reducible assumption
  | (extract_lets +onlyGivenNames x; first
     | (refine (fun (hx : Evolves a_ x) => ?_) ?_; (on_goal 2 => subst x); (on_goal 1 => clear_value x))
     | subst x | clear_value x)
  | split
  | (with_reducible refine Evolves.lit ?_ ?_; (on_goal 2 => rfl)))

theorem fltDetect_ev (s : State) (f : FltInfo) {a_ : State} (h_ : Evolves a_ s) : Evolves a_ (fltDetect s f) := by
  unfold fltDetect
  repeat' (first
  | with_reducible assumption
  | with_reducible refine Evolves.ite ?_ ?_
  | (extract_lets +onlyGivenNames x; first
     | (refine (fun (hx : Evolves a_ x) => ?_) ?_; (on_goal 2 => subst x); (on_goal 1 => clear_value x))
     | subst x | clear_value x)
  | with_reducible first | apply fltLog_ev | apply setOpen_ev
  | split
  | (with_reducible refine Evolves.lit ?_ ?_; (on_goal 2 => rfl)))

theorem fltRecover_ev (s : State) (f : FltInfo) {a_ : State} (h_ : Evolves a_ s) : Evolves a_ (fltRecover s f) := by
  unfold fltRecover
  repeat' (first
  | with_reducible assumption
  | with_reducible refine Evolves.ite ?_ ?_
  | with_reducible first | apply fltWorkDone_ev | apply fltLog_ev | apply setOpen_ev
  | split
  | (with_reducible refine Evolves.lit ?_ ?_; (on_goal 2 => rfl)))

theorem histFreeze_ev (s : State) (k : Nat) (f : Hist → Hist) {a_ : State} (h_ : Evolves a_ s) : Evolves a_ (histFreeze s k f) := by
  unfold histFreeze
  repeat' (first
  | with_reducible assumption
  | (extract_lets +onlyGivenNames x; first
     | (refine (fun (hx : Evolves a_ x) => ?_) ?_; (on_goal 2 => subst x); (on_goal 1 => clear_value x))
     | subst x | clear_value x)
  | with_reducible first | apply evRaise_ev | apply rsetBit_ev
  | split
  | (with_reducible refine Evolves.lit ?_ ?_; (on_goal 2 => rfl)))

theorem histPut_ev (s : State) (k : Nat) (v : Int) {a_ : State} (h_ : Evolves a_ s) : Evolves a_ (histPut s k v) := by
  unfold histPut
  repeat' (first
  | with_reducible assumption
  | with_reducible refine Evolves.ite ?_ ?_
  | (extract_lets +onlyGivenNames x; first
     | (refine (fun (hx : Evolves a_ x) => ?_) ?_; (on_goal 2 => subst x); (on_goal 1 => clear_value x))
     | subst x | clear_value x)
  | with_reducible first | apply histFreeze_ev
  | split
  | (with_reducible refine Evolves.lit ?_ ?_; (on_goal 2 => rfl)))

theorem histSample_ev (s : State) (src sel : Nat) (v : Int) {a_ : State} (h_ : Evolves a_ s) : Evolves a_ (histSample s src sel v) := by
  unfold histSample
  repeat' (first
  | with_reducible assumption
  | with_reducible refine Evolves.ite ?_ ?_
  | with_reducible refine forEach_ev (fun _ _ hs => ?_) ?_ | with_reducible refine forN_ev (fun _ _ hs => ?_) ?_
  | with_reducible first | apply histPut_ev
  | split
  | (with_reducible refine Evolves.lit ?_ ?_; (on_goal 2 => rfl)))

theorem mtrSample_ev (s : State) (at_ : W64 → Bool) (w : Word) {a_ : State} (h_ : Evolves a_ s) : Evolves a_ (mtrSample s at_ w) := by
  unfold mtrSample
  repeat' (first
  | with_reducible assumption
  | with_reducible refine Evolves.ite ?_ ?_
  | (extract_lets +onlyGivenNames x; first
     | (refine (fun (hx : Evolves a_ x) => ?_) ?_; (on_goal 2 => subst x); (on_goal 1 => clear_value x))
     | (refine (fun (hx : Evolves a_ x.2) => ?_) ?_; (on_goal 2 => subst x); (on_goal 1 => clear_value x))
     | (refine (fun (hx : Evolves a_ x.1) => ?_) ?_; (on_goal 2 => subst x); (on_goal 1 => clear_value x))
     | (refine (fun (hx : Evolves a_ x.2.2) => ?_) ?_; (on_goal 2 => subst x); (on_goal 1 => clear_value x))
     | subst x | clear_value x)
  | with_reducible refine forEach_ev (fun _ _ hs => ?_) ?_ | with_reducible refine forN_ev (fun _ _ hs => ?_) ?_
  | split
  | (with_reducible refine Evolves.lit ?_ ?_; (on_goal 2 => rfl)))

theorem mtrLane_ev (s : State) (c lane : Nat) (w : Word) {a_ : State} (h_ : Evolves a_ s) : Evolves a_ (mtrLane s c lane w) := by
  unfold mtrLane
  repeat' (first
  | with_reducible assumption
  | with_reducible first | apply mtrSample_ev
  | split
  | (with_reducible refine Evolves.lit ?_ ?_; (on_goal 2 => rfl)))

theorem mtrSum_ev (s : State) (c sl : Nat) (w : Word) {a_ : State} (h_ : Evolves a_ s) : Evolves a_ (mtrSum s c sl w) := by
  unfold mtrSum
  repeat' (first
  | with_reducible assumption
  | with_reducible first | apply mtrSample_ev
  | split
  | (with_reducible refine Evolves.lit ?_ ?_; (on_goal 2 => rfl)))

theorem mtrPort_ev (s : State) (out : Bool) (port ch : Nat) (w : Word) {a_ : State} (h_ : Evolves a_ s) : Evolves a_ (mtrPort s out port ch w) := by
  unfold mtrPort
  repeat' (first
  | with_reducible assumption
  | with_reducible first | apply mtrSample_ev
  | split
  | (with_reducible refine Evolves.lit ?_ ?_; (on_goal 2 => rfl)))

end Sys2Proof.Machine
end

