-- ==== Sys2Proof/Laws/Ev/Cistern.lean ====
section
/-! SUPPORT. Each operation of Machine/Cistern.lean only evolves the state it is given. -/

set_option linter.unreachableTactic false
set_option linter.unusedTactic false
set_option linter.tactic.unusedName false

namespace Sys2Proof.Machine

theorem cisPut_ev (s : State) (addr : Nat) (w : Word) {a_ : State} (h_ : Evolves a_ s) : Evolves a_ (cisPut s addr w) := by
  unfold cisPut
  repeat' (first
  | with_reducible assumption
  | (extract_lets +onlyGivenNames x; first
     | (refine (fun (hx : Evolves a_ x) => ?_) ?_; (on_goal 2 => subst x); (on_goal 1 => clear_value x))
     | subst x | clear_value x)
  | split
  | (with_reducible refine Evolves.lit ?_ ?_; (on_goal 2 => rfl))
  | (with_reducible refine Evolves.litMem ?_ ?_ ?_ ?_ ?_; (on_goal 2 => rfl); (on_goal 2 => first | (with_reducible first | exact id | exact mwf_mset _ _ _ _ | exact mwf_mputRange _ _ _ _ _ | exact mwf_mclearRange _ _ _ _ | exact mwf_mcopyRange _ _ _ _ _ _) | exact fun _ => rfl | exact mwf_mclearRange _ _ _ _);
     (on_goal 2 => first | (with_reducible first | exact id | exact mwf_mset _ _ _ _ | exact mwf_mputRange _ _ _ _ _ | exact mwf_mclearRange _ _ _ _ | exact mwf_mcopyRange _ _ _ _ _ _) | exact fun _ => rfl | exact mwf_mclearRange _ _ _ _);
     (on_goal 2 => first | (with_reducible first | exact id | exact mwf_mset _ _ _ _ | exact mwf_mputRange _ _ _ _ _ | exact mwf_mclearRange _ _ _ _ | exact mwf_mcopyRange _ _ _ _ _ _) | exact fun _ => rfl | exact mwf_mclearRange _ _ _ _)))

theorem cisErr_ev (s : State) (k bit : Nat) {a_ : State} (h_ : Evolves a_ s) : Evolves a_ (cisErr s k bit) := by
  unfold cisErr
  repeat' (first
  | with_reducible assumption
  | with_reducible first | apply evClusterFlags_ev | apply rsetBit_ev
  | split
  | (with_reducible refine Evolves.lit ?_ ?_; (on_goal 2 => rfl)))

theorem freeW_ev (s : State) {a_ : State} (h_ : Evolves a_ s) : Evolves a_ (freeW s).2 := by
  unfold freeW
  repeat' (first
  | with_reducible assumption
  | with_reducible first | apply drawn_ev
  | split
  | (with_reducible refine Evolves.lit ?_ ?_; (on_goal 2 => rfl)))

theorem freeA_ev (s : State) {a_ : State} (h_ : Evolves a_ s) : Evolves a_ (freeA s).2 := by
  unfold freeA
  repeat' (first
  | with_reducible assumption
  | with_reducible first | apply drawn_ev
  | split
  | (with_reducible refine Evolves.lit ?_ ?_; (on_goal 2 => rfl)))

theorem cisDouble_ev (s : State) (k w port cyc : Nat) {a_ : State} (h_ : Evolves a_ s) : Evolves a_ (cisDouble s k w port cyc) := by
  unfold cisDouble
  repeat' (first
  | with_reducible assumption
  | with_reducible refine Evolves.ite ?_ ?_
  | (extract_lets +onlyGivenNames x; first
     | (refine (fun (hx : Evolves a_ x) => ?_) ?_; (on_goal 2 => subst x); (on_goal 1 => clear_value x))
     | subst x | clear_value x)
  | with_reducible first | apply cisErr_ev | apply rset_ev | apply fltDetect_ev
  | split
  | (with_reducible refine Evolves.lit ?_ ?_; (on_goal 2 => rfl)))

theorem cisSingle_ev (s : State) (k : Nat) {a_ : State} (h_ : Evolves a_ s) : Evolves a_ (cisSingle s k) := by
  unfold cisSingle
  repeat' (first
  | with_reducible assumption
  | with_reducible first | apply rinc_ev
  | split
  | (with_reducible refine Evolves.lit ?_ ?_; (on_goal 2 => rfl)))

theorem cisEcc_ev (s : State) (k w port cyc : Nat) (e : Ecc) {a_ : State} (h_ : Evolves a_ s) : Evolves a_ (cisEcc s k w port cyc e) := by
  unfold cisEcc
  repeat' (first
  | with_reducible assumption
  | (extract_lets +onlyGivenNames x; first
     | (refine (fun (hx : Evolves a_ x) => ?_) ?_; (on_goal 2 => subst x); (on_goal 1 => clear_value x))
     | subst x | clear_value x)
  | with_reducible first | apply cisSingle_ev | apply cisDouble_ev
  | split
  | (with_reducible refine Evolves.lit ?_ ?_; (on_goal 2 => rfl)))

theorem cisStoreAt_ev (s : State) (addr g : Nat) (w : Word) (clk slot : Nat) {a_ : State} (h_ : Evolves a_ s) : Evolves a_ (cisStoreAt s addr g w clk slot) := by
  unfold cisStoreAt
  repeat' (first
  | with_reducible assumption
  | with_reducible refine Evolves.ite ?_ ?_
  | (extract_lets +onlyGivenNames x; first
     | (refine (fun (hx : Evolves a_ x) => ?_) ?_; (on_goal 2 => subst x); (on_goal 1 => clear_value x))
     | (refine (fun (hx : Evolves a_ x.2) => ?_) ?_; (on_goal 2 => subst x); (on_goal 1 => clear_value x))
     | (refine (fun (hx : Evolves a_ x.1) => ?_) ?_; (on_goal 2 => subst x); (on_goal 1 => clear_value x))
     | (refine (fun (hx : Evolves a_ x.2.2) => ?_) ?_; (on_goal 2 => subst x); (on_goal 1 => clear_value x))
     | subst x | clear_value x)
  | with_reducible first | apply cisPut_ev
  | split
  | (with_reducible refine Evolves.lit ?_ ?_; (on_goal 2 => rfl))
  | (with_reducible refine Evolves.litMem ?_ ?_ ?_ ?_ ?_; (on_goal 2 => rfl);
     iterate 3 (on_goal 2 => first | (with_reducible first | exact id | exact mwf_mset _ _ _ _ | exact mwf_mputRange _ _ _ _ _ | exact mwf_mclearRange _ _ _ _ | exact mwf_mcopyRange _ _ _ _ _ _) | exact fun _ => rfl)))

theorem bankTake_ev (s : State) (j : Nat) (ys : List Nat) {a_ : State} (h_ : Evolves a_ s) : Evolves a_ (bankTake s j ys) := by
  unfold bankTake
  repeat' (first
  | with_reducible assumption
  | with_reducible refine Evolves.ite ?_ ?_
  | split
  | (with_reducible refine Evolves.lit ?_ ?_; (on_goal 2 => rfl))
  | (with_reducible refine Evolves.litMem ?_ ?_ ?_ ?_ ?_; (on_goal 2 => rfl);
     iterate 3 (on_goal 2 => first | (with_reducible first | exact id | exact mwf_mset _ _ _ _ | exact mwf_mputRange _ _ _ _ _ | exact mwf_mclearRange _ _ _ _ | exact mwf_mcopyRange _ _ _ _ _ _) | exact fun _ => rfl)))

theorem cisColl_ev (s : State) (k : Nat) {a_ : State} (h_ : Evolves a_ s) : Evolves a_ (cisColl s k) := by
  unfold cisColl
  repeat' (first
  | with_reducible assumption
  | with_reducible first | apply rinc_ev | apply cisErr_ev
  | split
  | (with_reducible refine Evolves.lit ?_ ?_; (on_goal 2 => rfl)))

theorem cisAbandon_ev (s : State) (k : Nat) {a_ : State} (h_ : Evolves a_ s) : Evolves a_ (cisAbandon s k) := by
  unfold cisAbandon
  repeat' (first
  | with_reducible assumption
  | with_reducible first | apply rinc_ev | apply cisErr_ev
  | split
  | (with_reducible refine Evolves.lit ?_ ?_; (on_goal 2 => rfl)))

theorem cisTRead_ev (s : State) (k w : Nat) (e : Ecc) (m : Meet) {a_ : State} (h_ : Evolves a_ s) : Evolves a_ (cisTRead s k w e m).st := by
  unfold cisTRead
  repeat' (first
  | with_reducible assumption
  | with_reducible refine Evolves.ite ?_ ?_
  | (extract_lets +onlyGivenNames x; first
     | (refine (fun (hx : Evolves a_ x) => ?_) ?_; (on_goal 2 => subst x); (on_goal 1 => clear_value x))
     | (refine (fun (hx : Evolves a_ x.2) => ?_) ?_; (on_goal 2 => subst x); (on_goal 1 => clear_value x))
     | (refine (fun (hx : Evolves a_ x.1) => ?_) ?_; (on_goal 2 => subst x); (on_goal 1 => clear_value x))
     | (refine (fun (hx : Evolves a_ x.2.2) => ?_) ?_; (on_goal 2 => subst x); (on_goal 1 => clear_value x))
     | subst x | clear_value x)
  | with_reducible first | apply cisEcc_ev | apply cisColl_ev | apply freeW_ev
  | split
  | (with_reducible refine Evolves.lit ?_ ?_; (on_goal 2 => rfl)))

theorem cisTWrite_ev (s : State) (u : TUser) (k w : Nat) (d : Word) (m : Meet) {a_ : State} (h_ : Evolves a_ s) : Evolves a_ (cisTWrite s u k w d m).st := by
  unfold cisTWrite
  repeat' (first
  | with_reducible assumption
  | with_reducible refine Evolves.ite ?_ ?_
  | (extract_lets +onlyGivenNames x; first
     | (refine (fun (hx : Evolves a_ x) => ?_) ?_; (on_goal 2 => subst x); (on_goal 1 => clear_value x))
     | subst x | clear_value x)
  | with_reducible first | apply cisErr_ev | apply cisPut_ev | apply cisColl_ev
  | split
  | (with_reducible refine Evolves.lit ?_ ?_; (on_goal 2 => rfl)))

theorem cisTRmw_ev (s : State) (u : TUser) (k w : Nat) (f : Word → Word) (e : Ecc) (m : Meet) {a_ : State} (h_ : Evolves a_ s) : Evolves a_ (cisTRmw s u k w f e m).st := by
  unfold cisTRmw
  repeat' (first
  | with_reducible assumption
  | with_reducible refine Evolves.ite ?_ ?_
  | (extract_lets +onlyGivenNames x; first
     | (refine (fun (hx : Evolves a_ x) => ?_) ?_; (on_goal 2 => subst x); (on_goal 1 => clear_value x))
     | (refine (fun (hx : Evolves a_ x.2) => ?_) ?_; (on_goal 2 => subst x); (on_goal 1 => clear_value x))
     | (refine (fun (hx : Evolves a_ x.1) => ?_) ?_; (on_goal 2 => subst x); (on_goal 1 => clear_value x))
     | (refine (fun (hx : Evolves a_ x.2.2) => ?_) ?_; (on_goal 2 => subst x); (on_goal 1 => clear_value x))
     | subst x | clear_value x)
  | with_reducible first | apply cisErr_ev | apply cisAbandon_ev | apply cisEcc_ev | apply cisPut_ev
  | split
  | (with_reducible refine Evolves.lit ?_ ?_; (on_goal 2 => rfl)))

theorem cisSetOwner_ev (s : State) (k o : Nat) {a_ : State} (h_ : Evolves a_ s) : Evolves a_ (cisSetOwner s k o) := by
  unfold cisSetOwner
  repeat' (first
  | with_reducible assumption
  | with_reducible first | apply rput_ev | apply rputBit_ev
  | split
  | (with_reducible refine Evolves.lit ?_ ?_; (on_goal 2 => rfl)))

theorem cisRequest_ev (s : State) (k o : Nat) (at_ : Bool) (cg : Nat) (late : Bool) {a_ : State} (h_ : Evolves a_ s) : Evolves a_ (cisRequest s k o at_ cg late) := by
  unfold cisRequest
  repeat' (first
  | with_reducible assumption
  | with_reducible refine Evolves.ite ?_ ?_
  | (extract_lets +onlyGivenNames x; first
     | (refine (fun (hx : Evolves a_ x) => ?_) ?_; (on_goal 2 => subst x); (on_goal 1 => clear_value x))
     | subst x | clear_value x)
  | with_reducible first | apply cisErr_ev | apply rput_ev | apply rputBit_ev | apply cisSetOwner_ev | apply rsetBit_ev
  | split
  | (with_reducible refine Evolves.lit ?_ ?_; (on_goal 2 => rfl)))

theorem cisUnpend_ev (s : State) (k : Nat) {a_ : State} (h_ : Evolves a_ s) : Evolves a_ (cisUnpend s k) := by
  unfold cisUnpend
  repeat' (first
  | with_reducible assumption
  | with_reducible first | apply rput_ev | apply rputBit_ev
  | split
  | (with_reducible refine Evolves.lit ?_ ?_; (on_goal 2 => rfl)))

theorem cisOwnerWrite_ev (s : State) (firmware : Bool) (k : Nat) (v : W32) (late : Bool) {a_ : State} (h_ : Evolves a_ s) : Evolves a_ (cisOwnerWrite s firmware k v late) := by
  unfold cisOwnerWrite
  repeat' (first
  | with_reducible assumption
  | with_reducible refine Evolves.ite ?_ ?_
  | with_reducible first | apply cisRequest_ev
  | split
  | (with_reducible refine Evolves.lit ?_ ?_; (on_goal 2 => rfl)))

theorem cisHandover_ev (s : State) (c : Nat) {a_ : State} (h_ : Evolves a_ s) : Evolves a_ (cisHandover s c) := by
  unfold cisHandover
  repeat' (first
  | with_reducible assumption
  | with_reducible refine Evolves.ite ?_ ?_
  | (extract_lets +onlyGivenNames x; first
     | (refine (fun (hx : Evolves a_ x) => ?_) ?_; (on_goal 2 => subst x); (on_goal 1 => clear_value x))
     | subst x | clear_value x)
  | with_reducible refine forEach_ev (fun _ _ hs => ?_) ?_ | with_reducible refine forN_ev (fun _ _ hs => ?_) ?_
  | with_reducible first | apply cisSetOwner_ev
  | split
  | (with_reducible refine Evolves.lit ?_ ?_; (on_goal 2 => rfl)))

theorem cisGroupHandover_ev (s : State) (g : Nat) {a_ : State} (h_ : Evolves a_ s) : Evolves a_ (cisGroupHandover s g) := by
  unfold cisGroupHandover
  repeat' (first
  | with_reducible assumption
  | with_reducible refine Evolves.ite ?_ ?_
  | with_reducible refine forEach_ev (fun _ _ hs => ?_) ?_ | with_reducible refine forN_ev (fun _ _ hs => ?_) ?_
  | with_reducible first | apply cisSetOwner_ev
  | split
  | (with_reducible refine Evolves.lit ?_ ?_; (on_goal 2 => rfl)))

theorem cisGroupDiscard_ev (s : State) (g : Nat) {a_ : State} (h_ : Evolves a_ s) : Evolves a_ (cisGroupDiscard s g) := by
  unfold cisGroupDiscard
  repeat' (first
  | with_reducible assumption
  | with_reducible refine Evolves.ite ?_ ?_
  | with_reducible refine forEach_ev (fun _ _ hs => ?_) ?_ | with_reducible refine forN_ev (fun _ _ hs => ?_) ?_
  | with_reducible first | apply cisUnpend_ev
  | split
  | (with_reducible refine Evolves.lit ?_ ?_; (on_goal 2 => rfl)))

end Sys2Proof.Machine
end

