-- ==== Sys2Proof/Laws/Ev/Exchange.lean ====
section
/-! SUPPORT. Each operation of Machine/Exchange.lean only evolves the state it is given. -/

set_option linter.unreachableTactic false
set_option linter.unusedTactic false
set_option linter.tactic.unusedName false

namespace Sys2Proof.Machine

theorem xchErr_ev (s : State) (c bit : Nat) {a_ : State} (h_ : Evolves a_ s) : Evolves a_ (xchErr s c bit) := by
  unfold xchErr
  repeat' (first
  | with_reducible assumption
  | with_reducible first | apply evClusterFlags_ev | apply rsetBit_ev
  | split
  | (with_reducible refine Evolves.lit ?_ ?_; (on_goal 2 => rfl)))

theorem setSlotState_ev (s : State) (k v : Nat) {a_ : State} (h_ : Evolves a_ s) : Evolves a_ (setSlotState s k v) := by
  unfold setSlotState
  repeat' (first
  | with_reducible assumption
  | with_reducible refine Evolves.ite ?_ ?_
  | (extract_lets +onlyGivenNames x; first
     | (refine (fun (hx : Evolves a_ x) => ?_) ?_; (on_goal 2 => subst x); (on_goal 1 => clear_value x))
     | (refine (fun (hx : Evolves a_ x.2) => ?_) ?_; (on_goal 2 => subst x); (on_goal 1 => clear_value x))
     | (refine (fun (hx : Evolves a_ x.1) => ?_) ?_; (on_goal 2 => subst x); (on_goal 1 => clear_value x))
     | (refine (fun (hx : Evolves a_ x.2.2) => ?_) ?_; (on_goal 2 => subst x); (on_goal 1 => clear_value x))
     | subst x | clear_value x)
  | with_reducible first | apply rput_ev | apply rputBit_ev
  | split
  | (with_reducible refine Evolves.lit ?_ ?_; (on_goal 2 => rfl)))

theorem setLane_ev (s : State) (c lane : Nat) (l : Lane) {a_ : State} (h_ : Evolves a_ s) : Evolves a_ (setLane s c lane l) := by
  unfold setLane
  repeat' (first
  | with_reducible assumption
  | (extract_lets +onlyGivenNames x; first
     | (refine (fun (hx : Evolves a_ x) => ?_) ?_; (on_goal 2 => subst x); (on_goal 1 => clear_value x))
     | subst x | clear_value x)
  | split
  | (with_reducible refine Evolves.lit ?_ ?_; (on_goal 2 => rfl)))

theorem xchParity_ev (s : State) (c ring cyc : Nat) {a_ : State} (h_ : Evolves a_ s) : Evolves a_ (xchParity s c ring cyc) := by
  unfold xchParity
  repeat' (first
  | with_reducible assumption
  | (extract_lets +onlyGivenNames x; first
     | (refine (fun (hx : Evolves a_ x) => ?_) ?_; (on_goal 2 => subst x); (on_goal 1 => clear_value x))
     | subst x | clear_value x)
  | with_reducible first | apply rinc_ev | apply xchErr_ev | apply fltDetect_ev
  | split
  | (with_reducible refine Evolves.lit ?_ ?_; (on_goal 2 => rfl)))

theorem laneArrive_ev (s : State) (c lane arr : Nat) (w : Acc) (bad : List Nat) (ring : Nat) {a_ : State} (h_ : Evolves a_ s) : Evolves a_ (laneArrive s c lane arr w bad ring) := by
  unfold laneArrive
  repeat' (first
  | with_reducible assumption
  | with_reducible refine Evolves.ite ?_ ?_
  | (extract_lets +onlyGivenNames x; first
     | (refine (fun (hx : Evolves a_ x) => ?_) ?_; (on_goal 2 => subst x); (on_goal 1 => clear_value x))
     | subst x | clear_value x)
  | with_reducible refine forEach_ev (fun _ _ hs => ?_) ?_ | with_reducible refine forN_ev (fun _ _ hs => ?_) ?_
  | with_reducible first | apply setLane_ev | apply xchParity_ev | apply mtrLane_ev
  | split
  | (with_reducible refine Evolves.lit ?_ ?_; (on_goal 2 => rfl)))

theorem setBridge_ev (s : State) (c k : Nat) (b : Bridge) {a_ : State} (h_ : Evolves a_ s) : Evolves a_ (setBridge s c k b) := by
  unfold setBridge
  repeat' (first
  | with_reducible assumption
  | (extract_lets +onlyGivenNames x; first
     | (refine (fun (hx : Evolves a_ x) => ?_) ?_; (on_goal 2 => subst x); (on_goal 1 => clear_value x))
     | subst x | clear_value x)
  | split
  | (with_reducible refine Evolves.lit ?_ ?_; (on_goal 2 => rfl)))

theorem unscheduled_ev (s : State) (c : Nat) {a_ : State} (h_ : Evolves a_ s) : Evolves a_ (unscheduled s c) := by
  unfold unscheduled
  repeat' (first
  | with_reducible assumption
  | with_reducible first | apply rinc_ev | apply xchErr_ev
  | split
  | (with_reducible refine Evolves.lit ?_ ?_; (on_goal 2 => rfl)))

theorem laneSend_ev (s : State) (c i lane : Nat) (w : Word) (cyc : Nat) (badHere badThere : List Nat) (badPoint : Bool) {a_ : State} (h_ : Evolves a_ s) : Evolves a_ (laneSend s c i lane w cyc badHere badThere badPoint) := by
  unfold laneSend
  repeat' (first
  | with_reducible assumption
  | with_reducible refine Evolves.ite ?_ ?_
  | (extract_lets +onlyGivenNames x; first
     | (refine (fun (hx : Evolves a_ x) => ?_) ?_; (on_goal 2 => subst x); (on_goal 1 => clear_value x))
     | subst x | clear_value x)
  | with_reducible first | apply laneArrive_ev | apply xchParity_ev | apply setBridge_ev | apply unscheduled_ev
  | split
  | (with_reducible refine Evolves.lit ?_ ?_; (on_goal 2 => rfl)))

theorem lateContribution_ev (s : State) (c : Nat) {a_ : State} (h_ : Evolves a_ s) : Evolves a_ (lateContribution s c) := by
  unfold lateContribution
  repeat' (first
  | with_reducible assumption
  | with_reducible first | apply rinc_ev | apply xchErr_ev
  | split
  | (with_reducible refine Evolves.lit ?_ ?_; (on_goal 2 => rfl)))

theorem chainLaunch_ev (s : State) (c i lane : Nat) (w : Acc) (cyc : Nat) (bad : Bool) {a_ : State} (h_ : Evolves a_ s) : Evolves a_ (chainLaunch s c i lane w cyc bad) := by
  unfold chainLaunch
  repeat' (first
  | with_reducible assumption
  | with_reducible refine Evolves.ite ?_ ?_
  | (extract_lets +onlyGivenNames x; first
     | (refine (fun (hx : Evolves a_ x) => ?_) ?_; (on_goal 2 => subst x); (on_goal 1 => clear_value x))
     | subst x | clear_value x)
  | with_reducible first | apply setLane_ev | apply lateContribution_ev | apply xchParity_ev | apply unscheduled_ev
  | split
  | (with_reducible refine Evolves.lit ?_ ?_; (on_goal 2 => rfl)))

theorem redSat_ev (s : State) (c : Nat) (b : Bool) {a_ : State} (h_ : Evolves a_ s) : Evolves a_ (redSat s c b) := by
  unfold redSat
  repeat' (first
  | with_reducible assumption
  | with_reducible refine Evolves.ite ?_ ?_
  | with_reducible first | apply xchErr_ev
  | split
  | (with_reducible refine Evolves.lit ?_ ?_; (on_goal 2 => rfl)))

theorem countRing_ev (s : State) (c dir : Nat) {a_ : State} (h_ : Evolves a_ s) : Evolves a_ (countRing s c dir) := by
  unfold countRing
  repeat' (first
  | with_reducible assumption
  | (extract_lets +onlyGivenNames x; first
     | (refine (fun (hx : Evolves a_ x) => ?_) ?_; (on_goal 2 => subst x); (on_goal 1 => clear_value x))
     | subst x | clear_value x)
  | split
  | (with_reducible refine Evolves.lit ?_ ?_; (on_goal 2 => rfl)))

theorem chainAdd_ev (s : State) (ch c : Nat) (badUp badDn : Bool) (bad : List Nat) {a_ : State} (h_ : Evolves a_ s) : Evolves a_ (chainAdd s ch c badUp badDn bad) := by
  unfold chainAdd
  repeat' (first
  | with_reducible assumption
  | with_reducible refine Evolves.ite ?_ ?_
  | (extract_lets +onlyGivenNames x; first
     | (refine (fun (hx : Evolves a_ x) => ?_) ?_; (on_goal 2 => subst x); (on_goal 1 => clear_value x))
     | (refine (fun (hx : Evolves a_ x.2) => ?_) ?_; (on_goal 2 => subst x); (on_goal 1 => clear_value x))
     | (refine (fun (hx : Evolves a_ x.1) => ?_) ?_; (on_goal 2 => subst x); (on_goal 1 => clear_value x))
     | (refine (fun (hx : Evolves a_ x.2.2) => ?_) ?_; (on_goal 2 => subst x); (on_goal 1 => clear_value x))
     | subst x | clear_value x)
  | with_reducible refine forEach_ev (fun _ _ hs => ?_) ?_ | with_reducible refine forN_ev (fun _ _ hs => ?_) ?_
  | with_reducible first | apply xchParity_ev | apply redSat_ev | apply countRing_ev | apply laneArrive_ev
  | split
  | (with_reducible refine Evolves.lit ?_ ?_; (on_goal 2 => rfl)))

theorem exchTickEnd_ev (s : State) (c : Nat) {a_ : State} (h_ : Evolves a_ s) : Evolves a_ (exchTickEnd s c) := by
  unfold exchTickEnd
  repeat' (first
  | with_reducible assumption
  | with_reducible refine Evolves.ite ?_ ?_
  | (extract_lets +onlyGivenNames x; first
     | (refine (fun (hx : Evolves a_ x) => ?_) ?_; (on_goal 2 => subst x); (on_goal 1 => clear_value x))
     | (refine (fun (hx : Evolves a_ x.2) => ?_) ?_; (on_goal 2 => subst x); (on_goal 1 => clear_value x))
     | (refine (fun (hx : Evolves a_ x.1) => ?_) ?_; (on_goal 2 => subst x); (on_goal 1 => clear_value x))
     | (refine (fun (hx : Evolves a_ x.2.2) => ?_) ?_; (on_goal 2 => subst x); (on_goal 1 => clear_value x))
     | subst x | clear_value x)
  | with_reducible refine forEach_ev (fun _ _ hs => ?_) ?_ | with_reducible refine forN_ev (fun _ _ hs => ?_) ?_
  | with_reducible first | apply setLane_ev
  | split
  | (with_reducible refine Evolves.lit ?_ ?_; (on_goal 2 => rfl)))

end Sys2Proof.Machine
end

