-- ==== Sys2Proof/Laws/Ev/Ops.lean ====
section
/-! SUPPORT. Each operation of Machine/Ops.lean only evolves the state it is given. -/

set_option linter.unreachableTactic false
set_option linter.unusedTactic false
set_option linter.tactic.unusedName false

namespace Sys2Proof.Machine

theorem setBstate_ev (s : State) (k v : Nat) {a_ : State} (h_ : Evolves a_ s) : Evolves a_ (setBstate s k v) := by
  unfold setBstate
  repeat' (first
  | with_reducible assumption
  | with_reducible first | apply rput_ev
  | split
  | (with_reducible refine Evolves.lit ?_ ?_; (on_goal 2 => rfl)))

theorem cellPut_ev (s : State) (k off : Nat) (w : Word) {a_ : State} (h_ : Evolves a_ s) : Evolves a_ (cellPut s k off w) := by
  unfold cellPut
  repeat' (first
  | with_reducible assumption
  | (extract_lets +onlyGivenNames x; first
     | (refine (fun (hx : Evolves a_ x) => ?_) ?_; (on_goal 2 => subst x); (on_goal 1 => clear_value x))
     | subst x | clear_value x)
  | split
  | (with_reducible refine Evolves.lit ?_ ?_; (on_goal 2 => rfl))
  | (with_reducible refine Evolves.litMem ?_ ?_ ?_ ?_ ?_; (on_goal 2 => rfl); (on_goal 2 => first | (with_reducible first | exact id | exact mwf_mset _ _ _ _ | exact mwf_mputRange _ _ _ _ _ | exact mwf_mclearRange _ _ _ _ | exact mwf_mcopyRange _ _ _ _ _ _) | exact fun _ => rfl | exact mwf_mclearRange _ _ _ _);
     (on_goal 2 => first | (with_reducible first | exact id | exact mwf_mset _ _ _ _ | exact mwf_mputRange _ _ _ _ _ | exact mwf_mclearRange _ _ _ _ | exact mwf_mcopyRange _ _ _ _ _ _) | exact fun _ => rfl | exact mwf_mclearRange _ _ _ _);
     (on_goal 2 => first | (with_reducible first | exact id | exact mwf_mset _ _ _ _ | exact mwf_mputRange _ _ _ _ _ | exact mwf_mclearRange _ _ _ _ | exact mwf_mcopyRange _ _ _ _ _ _) | exact fun _ => rfl | exact mwf_mclearRange _ _ _ _)))

theorem cellFault_ev (s : State) (k d from_ : Nat) (zst : Bool) {a_ : State} (h_ : Evolves a_ s) : Evolves a_ (cellFault s k d from_ zst) := by
  unfold cellFault
  repeat' (first
  | with_reducible assumption
  | with_reducible refine Evolves.ite ?_ ?_
  | (extract_lets +onlyGivenNames x; first
     | (refine (fun (hx : Evolves a_ x) => ?_) ?_; (on_goal 2 => subst x); (on_goal 1 => clear_value x))
     | subst x | clear_value x)
  | with_reducible first | apply setCell_ev | apply fltDetect_ev
  | split
  | (with_reducible refine Evolves.lit ?_ ?_; (on_goal 2 => rfl)))

theorem cellEcc_ev (s : State) (k mem : Nat) (e : Ecc) {a_ : State} (h_ : Evolves a_ s) : Evolves a_ (cellEcc s k mem e) := by
  unfold cellEcc
  repeat' (first
  | with_reducible assumption
  | with_reducible refine Evolves.ite ?_ ?_
  | (extract_lets +onlyGivenNames x; first
     | (refine (fun (hx : Evolves a_ x) => ?_) ?_; (on_goal 2 => subst x); (on_goal 1 => clear_value x))
     | subst x | clear_value x)
  | with_reducible first | apply rinc_ev | apply rput_ev | apply cellFault_ev | apply rsetBit_ev
  | split
  | (with_reducible refine Evolves.lit ?_ ?_; (on_goal 2 => rfl)))

theorem onCell_ev (s : State) (k : Nat) (f : Cell → Cell) {a_ : State} (h_ : Evolves a_ s) : Evolves a_ (onCell s k f) := by
  unfold onCell
  repeat' (first
  | with_reducible assumption
  | with_reducible first | apply setCell_ev
  | split
  | (with_reducible refine Evolves.lit ?_ ?_; (on_goal 2 => rfl)))

theorem stateStore_ev (s : State) (k off : Nat) (w : Word) (lat : Nat) {a_ : State} (h_ : Evolves a_ s) : Evolves a_ (stateStore s k off w lat) := by
  unfold stateStore
  repeat' (first
  | with_reducible assumption
  | with_reducible refine Evolves.ite ?_ ?_
  | (extract_lets +onlyGivenNames x; first
     | (refine (fun (hx : Evolves a_ x) => ?_) ?_; (on_goal 2 => subst x); (on_goal 1 => clear_value x))
     | (refine (fun (hx : Evolves a_ x.2) => ?_) ?_; (on_goal 2 => subst x); (on_goal 1 => clear_value x))
     | (refine (fun (hx : Evolves a_ x.1) => ?_) ?_; (on_goal 2 => subst x); (on_goal 1 => clear_value x))
     | (refine (fun (hx : Evolves a_ x.2.2) => ?_) ?_; (on_goal 2 => subst x); (on_goal 1 => clear_value x))
     | subst x | clear_value x)
  | with_reducible first | apply onCell_ev | apply cellPut_ev
  | split
  | (with_reducible refine Evolves.lit ?_ ?_; (on_goal 2 => rfl)))

theorem coefRead_ev (s : State) (k off : Nat) (e : Ecc) {a_ : State} (h_ : Evolves a_ s) : Evolves a_ (coefRead s k off e).2 := by
  unfold coefRead
  repeat' (first
  | with_reducible assumption
  | with_reducible refine Evolves.ite ?_ ?_
  | (extract_lets +onlyGivenNames x; first
     | (refine (fun (hx : Evolves a_ x) => ?_) ?_; (on_goal 2 => subst x); (on_goal 1 => clear_value x))
     | subst x | clear_value x)
  | with_reducible first | apply onCell_ev | apply cellEcc_ev
  | split
  | (with_reducible refine Evolves.lit ?_ ?_; (on_goal 2 => rfl)))

theorem undoStores_ev (s : State) (k : Nat) {a_ : State} (h_ : Evolves a_ s) : Evolves a_ (undoStores s k) := by
  unfold undoStores
  repeat' (first
  | with_reducible assumption
  | with_reducible refine Evolves.ite ?_ ?_
  | (extract_lets +onlyGivenNames x; first
     | (refine (fun (hx : Evolves a_ x) => ?_) ?_; (on_goal 2 => subst x); (on_goal 1 => clear_value x))
     | (refine (fun (hx : Evolves a_ x.2) => ?_) ?_; (on_goal 2 => subst x); (on_goal 1 => clear_value x))
     | (refine (fun (hx : Evolves a_ x.1) => ?_) ?_; (on_goal 2 => subst x); (on_goal 1 => clear_value x))
     | (refine (fun (hx : Evolves a_ x.2.2) => ?_) ?_; (on_goal 2 => subst x); (on_goal 1 => clear_value x))
     | subst x | clear_value x)
  | with_reducible refine forEach_ev (fun _ _ hs => ?_) ?_ | with_reducible refine forN_ev (fun _ _ hs => ?_) ?_
  | with_reducible first | apply cellPut_ev | apply onCell_ev | apply cisPut_ev
  | split
  | (with_reducible refine Evolves.lit ?_ ?_; (on_goal 2 => rfl))
  | (with_reducible refine Evolves.litMem ?_ ?_ ?_ ?_ ?_; (on_goal 2 => rfl);
     iterate 3 (on_goal 2 => first | (with_reducible first | exact id | exact mwf_mset _ _ _ _ | exact mwf_mputRange _ _ _ _ _ | exact mwf_mclearRange _ _ _ _ | exact mwf_mcopyRange _ _ _ _ _ _) | exact fun _ => rfl)))

theorem dropInstr_ev (s : State) (k : Nat) {a_ : State} (h_ : Evolves a_ s) : Evolves a_ (dropInstr s k) := by
  unfold dropInstr
  repeat' (first
  | with_reducible assumption
  | with_reducible refine Evolves.ite ?_ ?_
  | with_reducible first | apply onCell_ev | apply undoStores_ev
  | split
  | (with_reducible refine Evolves.lit ?_ ?_; (on_goal 2 => rfl)))

theorem cisArbitrate_ev (s : State) (k : Nat) (blk : Bool) (j : Nat) (two : Bool) (stalls : Nat) {a_ : State} (h_ : Evolves a_ s) : Evolves a_ (cisArbitrate s k blk j two stalls).2 := by
  unfold cisArbitrate
  repeat' (first
  | with_reducible assumption
  | with_reducible refine Evolves.ite ?_ ?_
  | (extract_lets +onlyGivenNames x; first
     | (refine (fun (hx : Evolves a_ x) => ?_) ?_; (on_goal 2 => subst x); (on_goal 1 => clear_value x))
     | (refine (fun (hx : Evolves a_ x.2) => ?_) ?_; (on_goal 2 => subst x); (on_goal 1 => clear_value x))
     | (refine (fun (hx : Evolves a_ x.1) => ?_) ?_; (on_goal 2 => subst x); (on_goal 1 => clear_value x))
     | (refine (fun (hx : Evolves a_ x.2.2) => ?_) ?_; (on_goal 2 => subst x); (on_goal 1 => clear_value x))
     | subst x | clear_value x)
  | with_reducible first | apply rinc_ev | apply onCell_ev | apply dropInstr_ev | apply bankTake_ev
  | split
  | (with_reducible refine Evolves.lit ?_ ?_; (on_goal 2 => rfl))
  | (with_reducible refine Evolves.litMem ?_ ?_ ?_ ?_ ?_; (on_goal 2 => rfl);
     iterate 3 (on_goal 2 => first | (with_reducible first | exact id | exact mwf_mset _ _ _ _ | exact mwf_mputRange _ _ _ _ _ | exact mwf_mclearRange _ _ _ _ | exact mwf_mcopyRange _ _ _ _ _ _) | exact fun _ => rfl)))

theorem flyTo_ev (s : State) (k lat : Nat) (d : Dst) (v : Acc) {a_ : State} (h_ : Evolves a_ s) : Evolves a_ (flyTo s k lat d v) := by
  unfold flyTo
  repeat' (first
  | with_reducible assumption
  | with_reducible first | apply onCell_ev
  | split
  | (with_reducible refine Evolves.lit ?_ ?_; (on_goal 2 => rfl)))

theorem flyAcc_ev (s : State) (k latF latV an : Nat) (hi lo : Bool) (v : Acc) {a_ : State} (h_ : Evolves a_ s) : Evolves a_ (flyAcc s k latF latV an hi lo v) := by
  unfold flyAcc
  repeat' (first
  | with_reducible assumption
  | with_reducible first | apply flyTo_ev
  | split
  | (with_reducible refine Evolves.lit ?_ ?_; (on_goal 2 => rfl)))

theorem doMac_ev (s : State) (k : Nat) (blk : Bool) (op mode an xr : Nat) (ysrc : Bool) (yop : Nat) (e : OpEnv) {a_ : State} (h_ : Evolves a_ s) : Evolves a_ (doMac s k blk op mode an xr ysrc yop e) := by
  unfold doMac
  repeat' (first
  | with_reducible assumption
  | with_reducible refine Evolves.ite ?_ ?_
  | (extract_lets +onlyGivenNames x; first
     | (refine (fun (hx : Evolves a_ x) => ?_) ?_; (on_goal 2 => subst x); (on_goal 1 => clear_value x))
     | (refine (fun (hx : Evolves a_ x.st) => ?_) ?_; (on_goal 2 => subst x); (on_goal 1 => clear_value x))
     | (refine (fun (hx : Evolves a_ x.1.st) => ?_) ?_; (on_goal 2 => subst x); (on_goal 1 => clear_value x))
     | (refine (fun (hx : Evolves a_ x.2) => ?_) ?_; (on_goal 2 => subst x); (on_goal 1 => clear_value x))
     | (refine (fun (hx : Evolves a_ x.1) => ?_) ?_; (on_goal 2 => subst x); (on_goal 1 => clear_value x))
     | (refine (fun (hx : Evolves a_ x.2.2) => ?_) ?_; (on_goal 2 => subst x); (on_goal 1 => clear_value x))
     | subst x | clear_value x)
  | with_reducible first | apply coefRead_ev | apply flyTo_ev | apply freeA_ev | apply flyAcc_ev | apply cellFault_ev | apply rsetBit_ev
  | split
  | (with_reducible refine Evolves.lit ?_ ?_; (on_goal 2 => rfl)))

theorem cellCisRead_ev (s : State) (k : Nat) (p : BitVec 20) (n : Nat) (e : OpEnv) {a_ : State} (h_ : Evolves a_ s) : Evolves a_ (cellCisRead s k p n e).2 := by
  unfold cellCisRead
  repeat' (first
  | with_reducible assumption
  | with_reducible refine Evolves.ite ?_ ?_
  | (extract_lets +onlyGivenNames x; first
     | (refine (fun (hx : Evolves a_ x) => ?_) ?_; (on_goal 2 => subst x); (on_goal 1 => clear_value x))
     | (refine (fun (hx : Evolves a_ x.2) => ?_) ?_; (on_goal 2 => subst x); (on_goal 1 => clear_value x))
     | (refine (fun (hx : Evolves a_ x.1) => ?_) ?_; (on_goal 2 => subst x); (on_goal 1 => clear_value x))
     | (refine (fun (hx : Evolves a_ x.2.2) => ?_) ?_; (on_goal 2 => subst x); (on_goal 1 => clear_value x))
     | subst x | clear_value x)
  | with_reducible first | apply cisErr_ev | apply freeW_ev | apply cisEcc_ev
  | split
  | (with_reducible refine Evolves.lit ?_ ?_; (on_goal 2 => rfl)))

theorem doLoad_ev (s : State) (k : Nat) (blk : Bool) (mem part d p am : Nat) (e : OpEnv) {a_ : State} (h_ : Evolves a_ s) : Evolves a_ (doLoad s k blk mem part d p am e) := by
  unfold doLoad
  extract_lets c
  split
  · exact h_
  · extract_lets t
    have ht : Evolves a_ t := by subst t; split <;> first | exact h_ | exact flyTo_ev _ _ _ _ _ h_
    clear_value t
    split
    · exact cellEcc_ev _ _ _ _ (flyTo_ev _ _ _ _ _ ht)
    · exact flyTo_ev _ _ _ _ _ (coefRead_ev _ _ _ _ ht)
    · split
      · rename_i h
        have q := Evolves.snd h (cisArbitrate_ev _ _ _ _ _ _ ht)
        exact q
      · rename_i h
        have q := Evolves.snd h (cisArbitrate_ev _ _ _ _ _ _ ht)
        exact flyTo_ev _ _ _ _ _ (cellCisRead_ev _ _ _ _ _ q)

theorem bxWritten_ev (s : State) (k : Nat) {a_ : State} (h_ : Evolves a_ s) : Evolves a_ (bxWritten s k) := by
  unfold bxWritten
  repeat' (first
  | with_reducible assumption
  | (extract_lets +onlyGivenNames x; first
     | (refine (fun (hx : Evolves a_ x) => ?_) ?_; (on_goal 2 => subst x); (on_goal 1 => clear_value x))
     | subst x | clear_value x)
  | with_reducible first | apply onCell_ev
  | split
  | (with_reducible refine Evolves.lit ?_ ?_; (on_goal 2 => rfl)))

theorem onCmt_ev (s : State) (k : Nat) (f : CellCmt → CellCmt) {a_ : State} (h_ : Evolves a_ s) : Evolves a_ (onCmt s k f) := by
  unfold onCmt
  repeat' (first
  | with_reducible assumption
  | (extract_lets +onlyGivenNames x; first
     | (refine (fun (hx : Evolves a_ x) => ?_) ?_; (on_goal 2 => subst x); (on_goal 1 => clear_value x))
     | subst x | clear_value x)
  | split
  | (with_reducible refine Evolves.lit ?_ ?_; (on_goal 2 => rfl)))

theorem xfCapture_ev (s : State) (k kind : Nat) (vals : List Int) {a_ : State} (h_ : Evolves a_ s) : Evolves a_ (xfCapture s k kind vals) := by
  unfold xfCapture
  repeat' (first
  | with_reducible assumption
  | with_reducible refine Evolves.ite ?_ ?_
  | (extract_lets +onlyGivenNames x; first
     | (refine (fun (hx : Evolves a_ x) => ?_) ?_; (on_goal 2 => subst x); (on_goal 1 => clear_value x))
     | subst x | clear_value x)
  | with_reducible first | apply onCmt_ev
  | split
  | (with_reducible refine Evolves.lit ?_ ?_; (on_goal 2 => rfl)))

theorem xfMix_ev (s : State) (k : Nat) (vals : List Int) {a_ : State} (h_ : Evolves a_ s) : Evolves a_ (xfMix s k vals).2.2 := by
  unfold xfMix
  repeat' (first
  | with_reducible assumption
  | with_reducible refine Evolves.ite ?_ ?_
  | (extract_lets +onlyGivenNames x; first
     | (refine (fun (hx : Evolves a_ x) => ?_) ?_; (on_goal 2 => subst x); (on_goal 1 => clear_value x))
     | (refine (fun (hx : Evolves a_ x.2) => ?_) ?_; (on_goal 2 => subst x); (on_goal 1 => clear_value x))
     | (refine (fun (hx : Evolves a_ x.1) => ?_) ?_; (on_goal 2 => subst x); (on_goal 1 => clear_value x))
     | (refine (fun (hx : Evolves a_ x.2.2) => ?_) ?_; (on_goal 2 => subst x); (on_goal 1 => clear_value x))
     | subst x | clear_value x)
  | with_reducible first | apply onCmt_ev
  | with_reducible first | apply bndPop_ev | apply recPop_ev | apply logPop_ev
  | split
  | (with_reducible refine Evolves.lit ?_ ?_; (on_goal 2 => rfl)))

theorem doStore_ev (s : State) (k : Nat) (blk : Bool) (dst fmt src : Nat) (dop : BitVec 9) (ext : Option (BitVec 20)) (e : OpEnv) {a_ : State} (h_ : Evolves a_ s) : Evolves a_ (doStore s k blk dst fmt src dop ext e) := by
  unfold doStore
  extract_lets c x sh dth half illegal
  split
  · exact h_
  · refine Evolves.ite h_ ?_
    extract_lets
    refine Evolves.ite h_ ?_
    extract_lets
    rename_i p0 am la lb xf upd trk addr off j w d xo vs f heq ex
    have hu : ∀ t, Evolves a_ t → Evolves a_ (upd t) := by
      intro t ht; simp only [upd]; split <;> first | exact ht | exact flyTo_ev _ _ _ _ _ ht
    clear_value upd
    refine Evolves.ite (hu _ (xfCapture_ev _ _ _ _ h_)) ?_
    have hq : Evolves a_ (if dst = 1 then cisArbitrate s k blk (cellCis k (am.getD (0, none)).1) half e.stalls else (some 0, s)).2 := by
      split
      · exact cisArbitrate_ev _ _ _ _ _ _ h_
      · exact h_
    split
    · rename_i h; rw [h] at hq; exact hq
    · rename_i h
      rw [h] at hq
      have hx := xfMix_ev _ k ex hq
      extract_lets mx t1 r t2 t3 t4 t5
      have h1 : Evolves a_ t1 := Evolves.ite hx hq
      clear_value t1
      have h2 : Evolves a_ t2 := Evolves.ite (onCell_ev _ _ _ h1) h1
      clear_value t2
      have h3 : Evolves a_ t3 := Evolves.ite (flyTo_ev _ _ _ _ _ h2) h2
      clear_value t3
      have h4 : Evolves a_ t4 := Evolves.ite (flyTo_ev _ _ _ _ _ h3) h3
      clear_value t4
      have h5 : Evolves a_ t5 := hu _ h4
      clear_value t5
      split
      · exact Evolves.ite (Evolves.ite (cellEcc_ev _ _ _ _ h5) (stateStore_ev _ _ _ _ _ (cellEcc_ev _ _ _ _ h5))) (stateStore_ev _ _ _ _ _ h5)
      · skip
        refine Evolves.ite (cisErr_ev _ _ _ h5) (Evolves.ite (Evolves.ite ?_ ?_) (cisStoreAt_ev _ _ _ _ _ _ h5))
        · exact cisEcc_ev _ _ _ _ _ _ h5
        · exact cisStoreAt_ev _ _ _ _ _ _ (cisEcc_ev _ _ _ _ _ _ h5)
      · exact laneSend_ev _ _ _ _ _ _ _ _ _ h5
      · exact flyTo_ev _ _ _ _ _ h5

theorem branchTo_ev (s : State) (k t : Nat) {a_ : State} (h_ : Evolves a_ s) : Evolves a_ (branchTo s k t) := by
  unfold branchTo
  repeat' (first
  | with_reducible assumption
  | with_reducible refine Evolves.ite ?_ ?_
  | (extract_lets +onlyGivenNames x; first
     | (refine (fun (hx : Evolves a_ x) => ?_) ?_; (on_goal 2 => subst x); (on_goal 1 => clear_value x))
     | (refine (fun (hx : Evolves a_ x.2) => ?_) ?_; (on_goal 2 => subst x); (on_goal 1 => clear_value x))
     | (refine (fun (hx : Evolves a_ x.1) => ?_) ?_; (on_goal 2 => subst x); (on_goal 1 => clear_value x))
     | (refine (fun (hx : Evolves a_ x.2.2) => ?_) ?_; (on_goal 2 => subst x); (on_goal 1 => clear_value x))
     | subst x | clear_value x)
  | with_reducible first | apply onCell_ev
  | split
  | (with_reducible refine Evolves.lit ?_ ?_; (on_goal 2 => rfl)))

theorem doYend_ev (s : State) (k : Nat) {a_ : State} (h_ : Evolves a_ s) : Evolves a_ (doYend s k) := by
  unfold doYend
  repeat' (first
  | with_reducible assumption
  | with_reducible refine Evolves.ite ?_ ?_
  | (extract_lets +onlyGivenNames x; first
     | (refine (fun (hx : Evolves a_ x) => ?_) ?_; (on_goal 2 => subst x); (on_goal 1 => clear_value x))
     | (refine (fun (hx : Evolves a_ x.st) => ?_) ?_; (on_goal 2 => subst x); (on_goal 1 => clear_value x))
     | (refine (fun (hx : Evolves a_ x.1.st) => ?_) ?_; (on_goal 2 => subst x); (on_goal 1 => clear_value x))
     | (refine (fun (hx : Evolves a_ x.2) => ?_) ?_; (on_goal 2 => subst x); (on_goal 1 => clear_value x))
     | (refine (fun (hx : Evolves a_ x.1) => ?_) ?_; (on_goal 2 => subst x); (on_goal 1 => clear_value x))
     | (refine (fun (hx : Evolves a_ x.2.2) => ?_) ?_; (on_goal 2 => subst x); (on_goal 1 => clear_value x))
     | (refine (fun (hx : Evolves a_ x.2.1) => ?_) ?_; (on_goal 2 => subst x); (on_goal 1 => clear_value x))
     | (refine (fun (hx : Evolves a_ x.2.2.1) => ?_) ?_; (on_goal 2 => subst x); (on_goal 1 => clear_value x))
     | (refine (fun (hx : Evolves a_ x.2.2.2) => ?_) ?_; (on_goal 2 => subst x); (on_goal 1 => clear_value x))
     | (refine (fun (hx : Evolves a_ x.2.st) => ?_) ?_; (on_goal 2 => subst x); (on_goal 1 => clear_value x))
     | (refine (fun (hx : Evolves a_ x.2.1.st) => ?_) ?_; (on_goal 2 => subst x); (on_goal 1 => clear_value x))
     | subst x | clear_value x)
  | with_reducible first | apply setBstate_ev | apply onCell_ev
  | split
  | (with_reducible refine Evolves.lit ?_ ?_; (on_goal 2 => rfl)))

theorem cellOp_ev (s : State) (k : Nat) (blk : Bool) (op : CellOp) (e : OpEnv) {a_ : State} (h_ : Evolves a_ s) : Evolves a_ (cellOp s k blk op e) := by
  unfold cellOp
  repeat' (first
  | with_reducible assumption
  | with_reducible refine Evolves.ite ?_ ?_
  | (extract_lets +onlyGivenNames x; first
     | (refine (fun (hx : Evolves a_ x) => ?_) ?_; (on_goal 2 => subst x); (on_goal 1 => clear_value x))
     | (refine (fun (hx : Evolves a_ x.st) => ?_) ?_; (on_goal 2 => subst x); (on_goal 1 => clear_value x))
     | (refine (fun (hx : Evolves a_ x.1.st) => ?_) ?_; (on_goal 2 => subst x); (on_goal 1 => clear_value x))
     | (refine (fun (hx : Evolves a_ x.2) => ?_) ?_; (on_goal 2 => subst x); (on_goal 1 => clear_value x))
     | (refine (fun (hx : Evolves a_ x.1) => ?_) ?_; (on_goal 2 => subst x); (on_goal 1 => clear_value x))
     | (refine (fun (hx : Evolves a_ x.2.2) => ?_) ?_; (on_goal 2 => subst x); (on_goal 1 => clear_value x))
     | subst x | clear_value x)
  | with_reducible first | apply doMac_ev | apply doLoad_ev | apply flyTo_ev | apply flyAcc_ev | apply xfCapture_ev | apply xfMix_ev | apply chainLaunch_ev | apply drawn_ev | apply bxWritten_ev | apply cellEcc_ev | apply stateStore_ev | apply doStore_ev | apply onCell_ev | apply setBstate_ev | apply setCell_ev | apply doYend_ev | apply branchTo_ev
  | split
  | (with_reducible refine Evolves.lit ?_ ?_; (on_goal 2 => rfl)))

end Sys2Proof.Machine
end

