-- ==== Sys2Proof/Laws/Ev/CmtBase.lean ====
section
/-! SUPPORT. Each operation of Machine/CmtBase.lean only evolves the state it is given. -/

set_option linter.unreachableTactic false
set_option linter.unusedTactic false
set_option linter.tactic.unusedName false

namespace Sys2Proof.Machine

theorem setGroup_ev (s : State) (g : Nat) (x : Group) {a_ : State} (h_ : Evolves a_ s) : Evolves a_ (setGroup s g x) := by
  unfold setGroup
  repeat' (first
  | with_reducible assumption
  | (extract_lets +onlyGivenNames x; first
     | (refine (fun (hx : Evolves a_ x) => ?_) ?_; (on_goal 2 => subst x); (on_goal 1 => clear_value x))
     | subst x | clear_value x)
  | split
  | (with_reducible refine Evolves.lit ?_ ?_; (on_goal 2 => rfl)))

theorem setCmtCell_ev (s : State) (l : Nat) (c : CellCmt) {a_ : State} (h_ : Evolves a_ s) : Evolves a_ (setCmtCell s l c) := by
  unfold setCmtCell
  repeat' (first
  | with_reducible assumption
  | (extract_lets +onlyGivenNames x; first
     | (refine (fun (hx : Evolves a_ x) => ?_) ?_; (on_goal 2 => subst x); (on_goal 1 => clear_value x))
     | subst x | clear_value x)
  | split
  | (with_reducible refine Evolves.lit ?_ ?_; (on_goal 2 => rfl)))

theorem onCmtCell_ev (s : State) (l : Nat) (f : CellCmt → CellCmt) {a_ : State} (h_ : Evolves a_ s) : Evolves a_ (onCmtCell s l f) := by
  unfold onCmtCell
  repeat' (first
  | with_reducible assumption
  | with_reducible first | apply setCmtCell_ev
  | split
  | (with_reducible refine Evolves.lit ?_ ?_; (on_goal 2 => rfl)))

theorem memberRefused_ev (s : State) (m : Nat) (lock : LoadRun → Bool) {t a_ : State} (h_ : Evolves a_ s)
    (e : memberRefused s m lock = some t) : Evolves a_ t := by
  unfold memberRefused at e
  split at e
  · cases e; exact setGroup_ev _ _ _ h_
  · split at e
    · split at e
      · cases e; exact Evolves.upd h_ rfl
      · cases e
    · cases e

end Sys2Proof.Machine
end

