-- ==== Sys2Proof/Laws/Ev/Crc.lean ====
section
/-! SUPPORT. Each operation of Machine/Crc.lean only evolves the state it is given. -/

set_option linter.unreachableTactic false
set_option linter.unusedTactic false
set_option linter.tactic.unusedName false

namespace Sys2Proof.Machine

theorem setCrc_ev (s : State) (u : Nat) (c : CrcUnit) {a_ : State} (h_ : Evolves a_ s) : Evolves a_ (setCrc s u c) := by
  unfold setCrc
  repeat' (first
  | with_reducible assumption
  | (extract_lets +onlyGivenNames x; first
     | (refine (fun (hx : Evolves a_ x) => ?_) ?_; (on_goal 2 => subst x); (on_goal 1 => clear_value x))
     | subst x | clear_value x)
  | split
  | (with_reducible refine Evolves.lit ?_ ?_; (on_goal 2 => rfl)))

theorem crcStart_ev (s : State) (u : Nat) {a_ : State} (h_ : Evolves a_ s) : Evolves a_ (crcStart s u) := by
  unfold crcStart
  repeat' (first
  | with_reducible assumption
  | (extract_lets +onlyGivenNames x; first
     | (refine (fun (hx : Evolves a_ x) => ?_) ?_; (on_goal 2 => subst x); (on_goal 1 => clear_value x))
     | subst x | clear_value x)
  | with_reducible first | apply rput_ev | apply rset_ev | apply setCrc_ev
  | split
  | (with_reducible refine Evolves.lit ?_ ?_; (on_goal 2 => rfl)))

theorem crcLevel_ev (s : State) (u : Nat) {a_ : State} (h_ : Evolves a_ s) : Evolves a_ (crcLevel s u) := by
  unfold crcLevel
  repeat' (first
  | with_reducible assumption
  | with_reducible first | apply rput_ev
  | split
  | (with_reducible refine Evolves.lit ?_ ?_; (on_goal 2 => rfl)))

theorem crcCheckEnd_ev (s : State) (u : Nat) (later : Bool) {a_ : State} (h_ : Evolves a_ s) : Evolves a_ (crcCheckEnd s u later) := by
  unfold crcCheckEnd
  repeat' (first
  | with_reducible assumption
  | with_reducible refine Evolves.ite ?_ ?_
  | (extract_lets +onlyGivenNames x; first
     | (refine (fun (hx : Evolves a_ x) => ?_) ?_; (on_goal 2 => subst x); (on_goal 1 => clear_value x))
     | subst x | clear_value x)
  | with_reducible first | apply rsetBit_ev | apply setCrc_ev
  | split
  | (with_reducible refine Evolves.lit ?_ ?_; (on_goal 2 => rfl)))

theorem crcEat_ev (n : Nat) (s : State) (u : Nat) {a_ : State} (h_ : Evolves a_ s) : Evolves a_ (crcEat n s u) := by
  induction n generalizing s u with
  | zero => rw [crcEat]; exact h_
  | succ _ ih =>
  rw [crcEat]
  repeat' (first
  | with_reducible assumption
  | with_reducible refine Evolves.ite ?_ ?_
  | (extract_lets +onlyGivenNames x; first
     | (refine (fun (hx : Evolves a_ x) => ?_) ?_; (on_goal 2 => subst x); (on_goal 1 => clear_value x))
     | subst x | clear_value x)
  | with_reducible apply ih
  | with_reducible first | apply setCrc_ev | apply rset_ev | apply crcLevel_ev | apply crcCheckEnd_ev
  | split
  | (with_reducible refine Evolves.lit ?_ ?_; (on_goal 2 => rfl)))

theorem crcPush_ev (s : State) (u : Nat) (bs : List Byte) {a_ : State} (h_ : Evolves a_ s) : Evolves a_ (crcPush s u bs) := by
  unfold crcPush
  repeat' (first
  | with_reducible assumption
  | (extract_lets +onlyGivenNames x; first
     | (refine (fun (hx : Evolves a_ x) => ?_) ?_; (on_goal 2 => subst x); (on_goal 1 => clear_value x))
     | subst x | clear_value x)
  | with_reducible first | apply crcLevel_ev | apply setCrc_ev
  | split
  | (with_reducible refine Evolves.lit ?_ ?_; (on_goal 2 => rfl)))

theorem crcDin_ev (s : State) (u : Nat) (bs : List Byte) {a_ : State} (h_ : Evolves a_ s) : Evolves a_ (crcDin s u bs) := by
  unfold crcDin
  repeat' (first
  | with_reducible assumption
  | with_reducible refine Evolves.ite ?_ ?_
  | (extract_lets +onlyGivenNames x; first
     | (refine (fun (hx : Evolves a_ x) => ?_) ?_; (on_goal 2 => subst x); (on_goal 1 => clear_value x))
     | subst x | clear_value x)
  | with_reducible first | apply rsetBit_ev | apply crcPush_ev
  | split
  | (with_reducible refine Evolves.lit ?_ ?_; (on_goal 2 => rfl)))

theorem crcFeed_ev (s : State) (u : Nat) (w : Word) {a_ : State} (h_ : Evolves a_ s) : Evolves a_ (crcFeed s u w).st := by
  unfold crcFeed
  repeat' (first
  | with_reducible assumption
  | with_reducible refine Evolves.ite ?_ ?_
  | (extract_lets +onlyGivenNames x; first
     | (refine (fun (hx : Evolves a_ x) => ?_) ?_; (on_goal 2 => subst x); (on_goal 1 => clear_value x))
     | subst x | clear_value x)
  | with_reducible first | apply crcEat_ev | apply rsetBit_ev | apply crcPush_ev
  | split
  | (with_reducible refine Evolves.lit ?_ ?_; (on_goal 2 => rfl)))

theorem crcFin_ev (s : State) (u : Nat) {a_ : State} (h_ : Evolves a_ s) : Evolves a_ (crcFin s u) := by
  unfold crcFin
  repeat' (first
  | with_reducible assumption
  | with_reducible refine Evolves.ite ?_ ?_
  | (extract_lets +onlyGivenNames x; first
     | (refine (fun (hx : Evolves a_ x) => ?_) ?_; (on_goal 2 => subst x); (on_goal 1 => clear_value x))
     | subst x | clear_value x)
  | with_reducible first | apply crcCheckEnd_ev | apply setCrc_ev
  | split
  | (with_reducible refine Evolves.lit ?_ ?_; (on_goal 2 => rfl)))

theorem crcDone_ev (s : State) (u : Nat) {a_ : State} (h_ : Evolves a_ s) : Evolves a_ (crcDone s u) := by
  unfold crcDone
  repeat' (first
  | with_reducible assumption
  | with_reducible refine Evolves.ite ?_ ?_
  | (extract_lets +onlyGivenNames x; first
     | (refine (fun (hx : Evolves a_ x) => ?_) ?_; (on_goal 2 => subst x); (on_goal 1 => clear_value x))
     | subst x | clear_value x)
  | with_reducible refine foldl_ev (fun _ _ hs => ?_) ?_ | with_reducible refine foldl_snd_ev (fun _ _ hs => ?_) ?_
  | with_reducible refine foldl_fst_ev (fun _ _ hs => ?_) ?_ | with_reducible refine foldl_snd2_ev (fun _ _ hs => ?_) ?_
  | with_reducible first | apply crcCheckEnd_ev | apply crcEat_ev | apply rset64_ev | apply crcLevel_ev | apply rput_ev | apply setCrc_ev | apply evRaise_ev
  | split
  | (with_reducible refine Evolves.lit ?_ ?_; (on_goal 2 => rfl)))

theorem crcSel_ev (s : State) (u sel : Nat) {a_ : State} (h_ : Evolves a_ s) : Evolves a_ (crcSel s u sel) := by
  unfold crcSel
  repeat' (first
  | with_reducible assumption
  | with_reducible refine Evolves.ite ?_ ?_
  | with_reducible first | apply rput_ev
  | split
  | (with_reducible refine Evolves.lit ?_ ?_; (on_goal 2 => rfl)))

theorem crcCtlWrite_ev (s : State) (u : Nat) (v : W32) {a_ : State} (h_ : Evolves a_ s) : Evolves a_ (crcCtlWrite s u v) := by
  unfold crcCtlWrite
  repeat' (first
  | with_reducible assumption
  | with_reducible refine Evolves.ite ?_ ?_
  | (extract_lets +onlyGivenNames x; first
     | (refine (fun (hx : Evolves a_ x) => ?_) ?_; (on_goal 2 => subst x); (on_goal 1 => clear_value x))
     | subst x | clear_value x)
  | with_reducible first | apply crcSel_ev | apply rputBit_ev | apply crcStart_ev | apply crcFin_ev
  | split
  | (with_reducible refine Evolves.lit ?_ ?_; (on_goal 2 => rfl)))

theorem crcMode_ev (s : State) (m : Nat) {a_ : State} (h_ : Evolves a_ s) : Evolves a_ (crcMode s m) := by
  unfold crcMode
  repeat' (first
  | with_reducible assumption
  | with_reducible refine Evolves.ite ?_ ?_
  | (extract_lets +onlyGivenNames x; first
     | (refine (fun (hx : Evolves a_ x) => ?_) ?_; (on_goal 2 => subst x); (on_goal 1 => clear_value x))
     | subst x | clear_value x)
  | with_reducible refine forEach_ev (fun _ _ hs => ?_) ?_ | with_reducible refine forN_ev (fun _ _ hs => ?_) ?_
  | with_reducible first | apply rset_ev | apply rput_ev | apply rsetBit_ev | apply setCrc_ev | apply crcLevel_ev
  | split
  | (with_reducible refine Evolves.lit ?_ ?_; (on_goal 2 => rfl)))

theorem execCrcStart_ev (u : Fin 8) (ate : Nat) (st : State) : NextEv st (execCrcStart u ate st) := by
  have h_ := Evolves.refl st
  unfold execCrcStart
  repeat' (first
  | with_reducible assumption
  | with_reducible refine next_ev ?_
  | with_reducible first | apply crcStart_ev | apply crcEat_ev
  | split
  | (with_reducible refine Evolves.lit ?_ ?_; (on_goal 2 => rfl)))

theorem execCrcFin_ev (u : Fin 8) (ate : Nat) (st : State) : NextEv st (execCrcFin u ate st) := by
  have h_ := Evolves.refl st
  unfold execCrcFin
  repeat' (first
  | with_reducible assumption
  | with_reducible refine next_ev ?_
  | with_reducible first | apply crcFin_ev | apply crcEat_ev
  | split
  | (with_reducible refine Evolves.lit ?_ ?_; (on_goal 2 => rfl)))

theorem execCrcDin8_ev (u : Fin 8) (ate : Nat) (d : BitVec 8) (st : State) : NextEv st (execCrcDin8 u ate d st) := by
  have h_ := Evolves.refl st
  unfold execCrcDin8
  repeat' (first
  | with_reducible assumption
  | with_reducible refine next_ev ?_
  | with_reducible first | apply crcDin_ev | apply crcEat_ev
  | split
  | (with_reducible refine Evolves.lit ?_ ?_; (on_goal 2 => rfl)))

theorem execCrcDin16_ev (u : Fin 8) (ate : Nat) (d : BitVec 16) (st : State) : NextEv st (execCrcDin16 u ate d st) := by
  have h_ := Evolves.refl st
  unfold execCrcDin16
  repeat' (first
  | with_reducible assumption
  | with_reducible refine next_ev ?_
  | with_reducible first | apply crcDin_ev | apply crcEat_ev
  | split
  | (with_reducible refine Evolves.lit ?_ ?_; (on_goal 2 => rfl)))

theorem execCrcDin32_ev (u : Fin 8) (ate : Nat) (d : W32) (st : State) : NextEv st (execCrcDin32 u ate d st) := by
  have h_ := Evolves.refl st
  unfold execCrcDin32
  repeat' (first
  | with_reducible assumption
  | with_reducible refine next_ev ?_
  | with_reducible first | apply crcDin_ev | apply crcEat_ev
  | split
  | (with_reducible refine Evolves.lit ?_ ?_; (on_goal 2 => rfl)))

theorem execCrcFeedWrite_ev (u : Fin 8) (ate : Nat) (w : Word) (st : State) : NextEv st (execCrcFeedWrite u ate w st) := by
  have h_ := Evolves.refl st
  unfold execCrcFeedWrite
  repeat' (first
  | with_reducible assumption
  | with_reducible refine next_ev ?_
  | with_reducible first | apply crcFeed_ev | apply crcEat_ev
  | split
  | (with_reducible refine Evolves.lit ?_ ?_; (on_goal 2 => rfl)))

theorem execCrcDone_ev (u : Fin 8) (st : State) : NextEv st (execCrcDone u st) := by
  have h_ := Evolves.refl st
  unfold execCrcDone
  repeat' (first
  | with_reducible assumption
  | with_reducible refine next_ev ?_
  | with_reducible first | apply crcDone_ev
  | split
  | (with_reducible refine Evolves.lit ?_ ?_; (on_goal 2 => rfl)))

end Sys2Proof.Machine
end

