-- ==== Sys2Proof/Laws/Ev/Host.lean ====
section
/-! SUPPORT. Each operation of Machine/Host.lean only evolves the state it is given. -/

set_option linter.unreachableTactic false
set_option linter.unusedTactic false
set_option linter.tactic.unusedName false

namespace Sys2Proof.Machine

theorem opUpdate_ev (s : State) (o : CmdOp) {a_ : State} (h_ : Evolves a_ s) : Evolves a_ (opUpdate s o) := by
  unfold opUpdate
  repeat' (first
  | with_reducible assumption
  | with_reducible refine Evolves.ite ?_ ?_
  | split
  | (with_reducible refine Evolves.lit ?_ ?_; (on_goal 2 => rfl)))

theorem opStart_ev (s : State) (o : CmdOp) {a_ : State} (h_ : Evolves a_ s) : Evolves a_ (opStart s o) := by
  unfold opStart
  repeat' (first
  | with_reducible assumption
  | (extract_lets +onlyGivenNames x; first
     | (refine (fun (hx : Evolves a_ x) => ?_) ?_; (on_goal 2 => subst x); (on_goal 1 => clear_value x))
     | subst x | clear_value x)
  | with_reducible first | apply opUpdate_ev
  | split
  | (with_reducible refine Evolves.lit ?_ ?_; (on_goal 2 => rfl)))

theorem wakeSrc_ev (s : State) (a : Nat) {a_ : State} (h_ : Evolves a_ s) : Evolves a_ (wakeSrc s a) := by
  unfold wakeSrc
  repeat' (first
  | with_reducible assumption
  | with_reducible refine Evolves.ite ?_ ?_
  | (extract_lets +onlyGivenNames x; first
     | (refine (fun (hx : Evolves a_ x) => ?_) ?_; (on_goal 2 => subst x); (on_goal 1 => clear_value x))
     | (refine (fun (hx : Evolves a_ x.2) => ?_) ?_; (on_goal 2 => subst x); (on_goal 1 => clear_value x))
     | (refine (fun (hx : Evolves a_ x.1) => ?_) ?_; (on_goal 2 => subst x); (on_goal 1 => clear_value x))
     | (refine (fun (hx : Evolves a_ x.2.2) => ?_) ?_; (on_goal 2 => subst x); (on_goal 1 => clear_value x))
     | subst x | clear_value x)
  | with_reducible first | apply rsetBit_ev | apply callAgent_ev | apply evHold_ev
  | split
  | (with_reducible refine Evolves.lit ?_ ?_; (on_goal 2 => rfl)))

theorem histCommand_ev (s : State) (o : CmdOp) {a_ : State} (h_ : Evolves a_ s) : Evolves a_ (histCommand s o) := by
  unfold histCommand
  repeat' (first
  | with_reducible assumption
  | with_reducible refine Evolves.ite ?_ ?_
  | (extract_lets +onlyGivenNames x; first
     | (refine (fun (hx : Evolves a_ x) => ?_) ?_; (on_goal 2 => subst x); (on_goal 1 => clear_value x))
     | (refine (fun (hx : Evolves a_ x.2) => ?_) ?_; (on_goal 2 => subst x); (on_goal 1 => clear_value x))
     | (refine (fun (hx : Evolves a_ x.1) => ?_) ?_; (on_goal 2 => subst x); (on_goal 1 => clear_value x))
     | (refine (fun (hx : Evolves a_ x.2.2) => ?_) ?_; (on_goal 2 => subst x); (on_goal 1 => clear_value x))
     | subst x | clear_value x)
  | with_reducible first | apply histSample_ev | apply drawn_ev
  | split
  | (with_reducible refine Evolves.lit ?_ ?_; (on_goal 2 => rfl)))

theorem opEnd_ev (s : State) (o : CmdOp) (status detail : Nat) (result : List Byte) {a_ : State} (h_ : Evolves a_ s) : Evolves a_ (opEnd s o status detail result) := by
  unfold opEnd
  repeat' (first
  | with_reducible assumption
  | with_reducible refine Evolves.ite ?_ ?_
  | (extract_lets +onlyGivenNames x; first
     | (refine (fun (hx : Evolves a_ x) => ?_) ?_; (on_goal 2 => subst x); (on_goal 1 => clear_value x))
     | (refine (fun (hx : Evolves a_ x.2) => ?_) ?_; (on_goal 2 => subst x); (on_goal 1 => clear_value x))
     | (refine (fun (hx : Evolves a_ x.1) => ?_) ?_; (on_goal 2 => subst x); (on_goal 1 => clear_value x))
     | (refine (fun (hx : Evolves a_ x.2.2) => ?_) ?_; (on_goal 2 => subst x); (on_goal 1 => clear_value x))
     | subst x | clear_value x)
  | with_reducible first | apply histCommand_ev | apply wakeSrc_ev
  | split
  | (with_reducible refine Evolves.lit ?_ ?_; (on_goal 2 => rfl)))

theorem complFire_ev (s : State) (a : Nat) {a_ : State} (h_ : Evolves a_ s) : Evolves a_ (complFire s a) := by
  unfold complFire
  repeat' (first
  | with_reducible assumption
  | with_reducible refine Evolves.ite ?_ ?_
  | with_reducible first | apply msixSend_ev
  | split
  | (with_reducible refine Evolves.lit ?_ ?_; (on_goal 2 => rfl)))

theorem complWrite_ev (s : State) (a : Nat) {a_ : State} (h_ : Evolves a_ s) : Evolves a_ (complWrite s a) := by
  unfold complWrite
  repeat' (first
  | with_reducible assumption
  | with_reducible refine Evolves.ite ?_ ?_
  | (extract_lets +onlyGivenNames x; first
     | (refine (fun (hx : Evolves a_ x) => ?_) ?_; (on_goal 2 => subst x); (on_goal 1 => clear_value x))
     | subst x | clear_value x)
  | with_reducible first | apply emitAll_ev | apply rputBit_ev | apply rput_ev | apply complFire_ev
  | split
  | (with_reducible refine Evolves.lit ?_ ?_; (on_goal 2 => rfl)))

theorem complDatagram_ev (s : State) (a : Nat) (cs : List (Nat × Compl)) {a_ : State} (h_ : Evolves a_ s) : Evolves a_ (complDatagram s a cs) := by
  unfold complDatagram
  repeat' (first
  | with_reducible assumption
  | with_reducible first | apply nsSend_ev
  | split
  | (with_reducible refine Evolves.lit ?_ ?_; (on_goal 2 => rfl)))

theorem complDatagrams_ev (n : Nat) (s : State) (a : Nat) (cs : List (Nat × Compl)) {a_ : State} (h_ : Evolves a_ s) : Evolves a_ (complDatagrams n s a cs) := by
  induction n generalizing s a cs with
  | zero => rw [complDatagrams]; exact h_
  | succ _ ih =>
  rw [complDatagrams]
  repeat' (first
  | with_reducible assumption
  | with_reducible refine Evolves.ite ?_ ?_
  | (extract_lets +onlyGivenNames x; first
     | (refine (fun (hx : Evolves a_ x) => ?_) ?_; (on_goal 2 => subst x); (on_goal 1 => clear_value x))
     | subst x | clear_value x)
  | with_reducible apply ih
  | with_reducible first | apply complDatagram_ev
  | split
  | (with_reducible refine Evolves.lit ?_ ?_; (on_goal 2 => rfl)))

theorem complRelease_ev (s : State) (a n : Nat) {a_ : State} (h_ : Evolves a_ s) : Evolves a_ (complRelease s a n) := by
  unfold complRelease
  repeat' (first
  | with_reducible assumption
  | (extract_lets +onlyGivenNames x; first
     | (refine (fun (hx : Evolves a_ x) => ?_) ?_; (on_goal 2 => subst x); (on_goal 1 => clear_value x))
     | subst x | clear_value x)
  | with_reducible refine foldl_ev (fun _ _ hs => ?_) ?_ | with_reducible refine foldl_snd_ev (fun _ _ hs => ?_) ?_
  | with_reducible refine foldl_fst_ev (fun _ _ hs => ?_) ?_ | with_reducible refine foldl_snd2_ev (fun _ _ hs => ?_) ?_
  | with_reducible first | apply setNs_ev | apply complDatagrams_ev
  | split
  | (with_reducible refine Evolves.lit ?_ ?_; (on_goal 2 => rfl)))

theorem complGo_ev (s : State) (a : Nat) {a_ : State} (h_ : Evolves a_ s) : Evolves a_ (complGo s a) := by
  unfold complGo
  repeat' (first
  | with_reducible assumption
  | with_reducible refine Evolves.ite ?_ ?_
  | (extract_lets +onlyGivenNames x; first
     | (refine (fun (hx : Evolves a_ x) => ?_) ?_; (on_goal 2 => subst x); (on_goal 1 => clear_value x))
     | subst x | clear_value x)
  | with_reducible first | apply complWrite_ev | apply complRelease_ev
  | split
  | (with_reducible refine Evolves.lit ?_ ?_; (on_goal 2 => rfl)))

theorem modFire_ev (s : State) (a : Nat) {a_ : State} (h_ : Evolves a_ s) : Evolves a_ (modFire s a) := by
  unfold modFire
  repeat' (first
  | with_reducible assumption
  | with_reducible refine Evolves.ite ?_ ?_
  | with_reducible first | apply complFire_ev | apply complRelease_ev
  | split
  | (with_reducible refine Evolves.lit ?_ ?_; (on_goal 2 => rfl)))

theorem setAgSt_ev (s : State) (a v : Nat) {a_ : State} (h_ : Evolves a_ s) : Evolves a_ (setAgSt s a v) := by
  unfold setAgSt
  repeat' (first
  | with_reducible assumption
  | with_reducible refine Evolves.ite ?_ ?_
  | with_reducible first | apply rput_ev
  | split
  | (with_reducible refine Evolves.lit ?_ ?_; (on_goal 2 => rfl)))

theorem agentDown_ev (s : State) (a : Nat) {a_ : State} (h_ : Evolves a_ s) : Evolves a_ (agentDown s a) := by
  unfold agentDown
  repeat' (first
  | with_reducible assumption
  | with_reducible refine Evolves.ite ?_ ?_
  | (extract_lets +onlyGivenNames x; first
     | (refine (fun (hx : Evolves a_ x) => ?_) ?_; (on_goal 2 => subst x); (on_goal 1 => clear_value x))
     | (refine (fun (hx : Evolves a_ x.2) => ?_) ?_; (on_goal 2 => subst x); (on_goal 1 => clear_value x))
     | (refine (fun (hx : Evolves a_ x.1) => ?_) ?_; (on_goal 2 => subst x); (on_goal 1 => clear_value x))
     | (refine (fun (hx : Evolves a_ x.2.2) => ?_) ?_; (on_goal 2 => subst x); (on_goal 1 => clear_value x))
     | subst x | clear_value x)
  | with_reducible first | apply setAgSt_ev | apply rputBit_ev | apply setNs_ev | apply evAgentDown_ev
  | split
  | (with_reducible refine Evolves.lit ?_ ?_; (on_goal 2 => rfl)))

theorem agentAwake_ev (s : State) (a : Nat) {a_ : State} (h_ : Evolves a_ s) : Evolves a_ (agentAwake s a) := by
  unfold agentAwake
  repeat' (first
  | with_reducible assumption
  | with_reducible refine Evolves.ite ?_ ?_
  | (extract_lets +onlyGivenNames x; first
     | (refine (fun (hx : Evolves a_ x) => ?_) ?_; (on_goal 2 => subst x); (on_goal 1 => clear_value x))
     | subst x | clear_value x)
  | with_reducible first | apply rput_ev | apply evSettle_ev | apply setAgSt_ev | apply rsetBit_ev | apply rputBit_ev
  | split
  | (with_reducible refine Evolves.lit ?_ ?_; (on_goal 2 => rfl)))

theorem sleepHeld_ev (s : State) (a : Nat) {a_ : State} (h_ : Evolves a_ s) : Evolves a_ (sleepHeld s a) := by
  unfold sleepHeld
  repeat' (first
  | with_reducible assumption
  | with_reducible refine Evolves.ite ?_ ?_
  | with_reducible first | apply wakeSrc_ev
  | split
  | (with_reducible refine Evolves.lit ?_ ?_; (on_goal 2 => rfl)))

theorem agentSleep_ev (s : State) (a : Nat) {a_ : State} (h_ : Evolves a_ s) : Evolves a_ (agentSleep s a) := by
  unfold agentSleep
  repeat' (first
  | with_reducible assumption
  | with_reducible refine Evolves.ite ?_ ?_
  | (extract_lets +onlyGivenNames x; first
     | (refine (fun (hx : Evolves a_ x) => ?_) ?_; (on_goal 2 => subst x); (on_goal 1 => clear_value x))
     | (refine (fun (hx : Evolves a_ x.2) => ?_) ?_; (on_goal 2 => subst x); (on_goal 1 => clear_value x))
     | (refine (fun (hx : Evolves a_ x.1) => ?_) ?_; (on_goal 2 => subst x); (on_goal 1 => clear_value x))
     | (refine (fun (hx : Evolves a_ x.2.2) => ?_) ?_; (on_goal 2 => subst x); (on_goal 1 => clear_value x))
     | subst x | clear_value x)
  | with_reducible refine forEach_ev (fun _ _ hs => ?_) ?_ | with_reducible refine forN_ev (fun _ _ hs => ?_) ?_
  | with_reducible first | apply complWrite_ev | apply complFire_ev | apply rsetBit_ev | apply setAgSt_ev | apply evSettle_ev | apply sleepHeld_ev
  | split
  | (with_reducible refine Evolves.lit ?_ ?_; (on_goal 2 => rfl)))

theorem doorbell_ev (s : State) (a tail : Nat) {a_ : State} (h_ : Evolves a_ s) : Evolves a_ (doorbell s a tail) := by
  unfold doorbell
  repeat' (first
  | with_reducible assumption
  | with_reducible refine Evolves.ite ?_ ?_
  | (extract_lets +onlyGivenNames x; first
     | (refine (fun (hx : Evolves a_ x) => ?_) ?_; (on_goal 2 => subst x); (on_goal 1 => clear_value x))
     | subst x | clear_value x)
  | with_reducible first | apply rsetBit_ev | apply emitAll_ev | apply rput_ev
  | split
  | (with_reducible refine Evolves.lit ?_ ?_; (on_goal 2 => rfl)))

theorem fetchFailed_ev (s : State) (a : Nat) {a_ : State} (h_ : Evolves a_ s) : Evolves a_ (fetchFailed s a) := by
  unfold fetchFailed
  repeat' (first
  | with_reducible assumption
  | with_reducible refine Evolves.ite ?_ ?_
  | (extract_lets +onlyGivenNames x; first
     | (refine (fun (hx : Evolves a_ x) => ?_) ?_; (on_goal 2 => subst x); (on_goal 1 => clear_value x))
     | (refine (fun (hx : Evolves a_ x.2) => ?_) ?_; (on_goal 2 => subst x); (on_goal 1 => clear_value x))
     | (refine (fun (hx : Evolves a_ x.1) => ?_) ?_; (on_goal 2 => subst x); (on_goal 1 => clear_value x))
     | (refine (fun (hx : Evolves a_ x.2.2) => ?_) ?_; (on_goal 2 => subst x); (on_goal 1 => clear_value x))
     | subst x | clear_value x)
  | with_reducible first | apply rsetBit_ev | apply setAgSt_ev | apply evSettle_ev | apply msixSend_ev | apply rputBit_ev
  | split
  | (with_reducible refine Evolves.lit ?_ ?_; (on_goal 2 => rfl)))

theorem opAccept_ev (s : State) (a : Nat) (e : List Byte) {a_ : State} (h_ : Evolves a_ s) : Evolves a_ (opAccept s a e).2 := by
  unfold opAccept
  repeat' (first
  | with_reducible assumption
  | with_reducible refine Evolves.ite ?_ ?_
  | (extract_lets +onlyGivenNames x; first
     | (refine (fun (hx : Evolves a_ x) => ?_) ?_; (on_goal 2 => subst x); (on_goal 1 => clear_value x))
     | (refine (fun (hx : Evolves a_ x.2) => ?_) ?_; (on_goal 2 => subst x); (on_goal 1 => clear_value x))
     | (refine (fun (hx : Evolves a_ x.1) => ?_) ?_; (on_goal 2 => subst x); (on_goal 1 => clear_value x))
     | (refine (fun (hx : Evolves a_ x.2.2) => ?_) ?_; (on_goal 2 => subst x); (on_goal 1 => clear_value x))
     | subst x | clear_value x)
  | split
  | (with_reducible refine Evolves.lit ?_ ?_; (on_goal 2 => rfl)))

theorem nsDrop_ev (s : State) (a : Nat) {a_ : State} (h_ : Evolves a_ s) : Evolves a_ (nsDrop s a) := by
  unfold nsDrop
  repeat' (first
  | with_reducible assumption
  | with_reducible first | apply rinc_ev
  | split
  | (with_reducible refine Evolves.lit ?_ ?_; (on_goal 2 => rfl)))

theorem nsReceive_ev (s : State) (a typ : Nat) (p : Peer) (bytes : List Byte) {a_ : State} (h_ : Evolves a_ s) : Evolves a_ (nsReceive s a typ p bytes).2 := by
  unfold nsReceive
  repeat' (first
  | with_reducible assumption
  | with_reducible refine Evolves.ite ?_ ?_
  | with_reducible first | apply setNs_ev | apply nsDrop_ev
  | split
  | (with_reducible refine Evolves.lit ?_ ?_; (on_goal 2 => rfl)))

theorem nsCredit_ev (s : State) (a : Nat) (body : List Byte) {a_ : State} (h_ : Evolves a_ s) : Evolves a_ (nsCredit s a body) := by
  unfold nsCredit
  repeat' (first
  | with_reducible assumption
  | with_reducible refine Evolves.ite ?_ ?_
  | (extract_lets +onlyGivenNames x; first
     | (refine (fun (hx : Evolves a_ x) => ?_) ?_; (on_goal 2 => subst x); (on_goal 1 => clear_value x))
     | (refine (fun (hx : Evolves a_ x.2) => ?_) ?_; (on_goal 2 => subst x); (on_goal 1 => clear_value x))
     | (refine (fun (hx : Evolves a_ x.1) => ?_) ?_; (on_goal 2 => subst x); (on_goal 1 => clear_value x))
     | (refine (fun (hx : Evolves a_ x.2.2) => ?_) ?_; (on_goal 2 => subst x); (on_goal 1 => clear_value x))
     | subst x | clear_value x)
  | with_reducible first | apply complGo_ev | apply setNs_ev
  | split
  | (with_reducible refine Evolves.lit ?_ ?_; (on_goal 2 => rfl)))

theorem nsState_ev (s : State) (a : Nat) (body : List Byte) {a_ : State} (h_ : Evolves a_ s) : Evolves a_ (nsState s a body) := by
  unfold nsState
  repeat' (first
  | with_reducible assumption
  | with_reducible refine Evolves.ite ?_ ?_
  | (extract_lets +onlyGivenNames x; first
     | (refine (fun (hx : Evolves a_ x) => ?_) ?_; (on_goal 2 => subst x); (on_goal 1 => clear_value x))
     | (refine (fun (hx : Evolves a_ x.2) => ?_) ?_; (on_goal 2 => subst x); (on_goal 1 => clear_value x))
     | (refine (fun (hx : Evolves a_ x.1) => ?_) ?_; (on_goal 2 => subst x); (on_goal 1 => clear_value x))
     | (refine (fun (hx : Evolves a_ x.2.2) => ?_) ?_; (on_goal 2 => subst x); (on_goal 1 => clear_value x))
     | subst x | clear_value x)
  | with_reducible first | apply evSettle_ev | apply setAgSt_ev | apply rputBit_ev | apply complRelease_ev | apply sleepHeld_ev | apply nsSend_ev
  | split
  | (with_reducible refine Evolves.lit ?_ ?_; (on_goal 2 => rfl)))

theorem execCommandDoorbell_ev (a : Fin 4) (tail : BitVec 12) (st : State) : NextEv st (execCommandDoorbell a tail st) := by
  have h_ := Evolves.refl st
  unfold execCommandDoorbell
  repeat' (first
  | with_reducible assumption
  | with_reducible refine next_ev ?_
  | with_reducible refine Evolves.ite ?_ ?_
  | with_reducible first | apply doorbell_ev
  | split
  | (with_reducible refine Evolves.lit ?_ ?_; (on_goal 2 => rfl)))

theorem execCommandFetchError_ev (a : Fin 4) (st : State) : NextEv st (execCommandFetchError a st) := by
  have h_ := Evolves.refl st
  unfold execCommandFetchError
  repeat' (first
  | with_reducible assumption
  | with_reducible refine next_ev ?_
  | with_reducible first | apply fetchFailed_ev
  | split
  | (with_reducible refine Evolves.lit ?_ ?_; (on_goal 2 => rfl)))

theorem execCompletionWrite_ev (a : Fin 8) (st : State) : NextEv st (execCompletionWrite a st) := by
  have h_ := Evolves.refl st
  unfold execCompletionWrite
  repeat' (first
  | with_reducible assumption
  | with_reducible refine next_ev ?_
  | with_reducible first | apply complGo_ev
  | split
  | (with_reducible refine Evolves.lit ?_ ?_; (on_goal 2 => rfl)))

theorem headAdvance_ev (s : State) (a head : Nat) {a_ : State} (h_ : Evolves a_ s) : Evolves a_ (headAdvance s a head) := by
  unfold headAdvance
  repeat' (first
  | with_reducible assumption
  | with_reducible refine forEach_ev (fun _ _ hs => ?_) ?_ | with_reducible refine forN_ev (fun _ _ hs => ?_) ?_
  | with_reducible first | apply rput_ev | apply complWrite_ev
  | split
  | (with_reducible refine Evolves.lit ?_ ?_; (on_goal 2 => rfl)))

theorem agentWake_ev (s : State) (a : Nat) {a_ : State} (h_ : Evolves a_ s) : Evolves a_ (agentWake s a) := by
  unfold agentWake
  repeat' (first
  | with_reducible assumption
  | (extract_lets +onlyGivenNames x; first
     | (refine (fun (hx : Evolves a_ x) => ?_) ?_; (on_goal 2 => subst x); (on_goal 1 => clear_value x))
     | subst x | clear_value x)
  | with_reducible refine forEach_ev (fun _ _ hs => ?_) ?_ | with_reducible refine forN_ev (fun _ _ hs => ?_) ?_
  | with_reducible first | apply agentAwake_ev | apply complWrite_ev
  | split
  | (with_reducible refine Evolves.lit ?_ ?_; (on_goal 2 => rfl)))

theorem execCompletionHeadAdvance_ev (a : Fin 4) (head : BitVec 12) (st : State) : NextEv st (execCompletionHeadAdvance a head st) := by
  have h_ := Evolves.refl st
  unfold execCompletionHeadAdvance
  repeat' (first
  | with_reducible assumption
  | with_reducible refine next_ev ?_
  | with_reducible refine Evolves.ite ?_ ?_
  | with_reducible first | apply headAdvance_ev
  | split
  | (with_reducible refine Evolves.lit ?_ ?_; (on_goal 2 => rfl)))

theorem execModerationTimer_ev (a : Fin 8) (st : State) : NextEv st (execModerationTimer a st) := by
  have h_ := Evolves.refl st
  unfold execModerationTimer
  repeat' (first
  | with_reducible assumption
  | with_reducible refine next_ev ?_
  | with_reducible first | apply modFire_ev
  | split
  | (with_reducible refine Evolves.lit ?_ ?_; (on_goal 2 => rfl)))

theorem execAgentAwake_ev (a : Fin 4) (st : State) : NextEv st (execAgentAwake a st) := by
  have h_ := Evolves.refl st
  unfold execAgentAwake
  repeat' (first
  | with_reducible assumption
  | with_reducible refine next_ev ?_
  | with_reducible refine Evolves.ite ?_ ?_
  | with_reducible first | apply agentWake_ev
  | split
  | (with_reducible refine Evolves.lit ?_ ?_; (on_goal 2 => rfl)))

theorem execAgentSleep_ev (a : Fin 4) (st : State) : NextEv st (execAgentSleep a st) := by
  have h_ := Evolves.refl st
  unfold execAgentSleep
  repeat' (first
  | with_reducible assumption
  | with_reducible refine next_ev ?_
  | with_reducible refine Evolves.ite ?_ ?_
  | with_reducible first | apply agentSleep_ev
  | split
  | (with_reducible refine Evolves.lit ?_ ?_; (on_goal 2 => rfl)))

theorem execAgentDown_ev (a : Fin 4) (st : State) : NextEv st (execAgentDown a st) := by
  have h_ := Evolves.refl st
  unfold execAgentDown
  repeat' (first
  | with_reducible assumption
  | with_reducible refine next_ev ?_
  | with_reducible refine Evolves.ite ?_ ?_
  | with_reducible first | apply agentDown_ev
  | split
  | (with_reducible refine Evolves.lit ?_ ?_; (on_goal 2 => rfl)))

theorem execSleepWakeTimer_ev (a : Fin 8) (st : State) : NextEv st (execSleepWakeTimer a st) := by
  have h_ := Evolves.refl st
  unfold execSleepWakeTimer
  repeat' (first
  | with_reducible assumption
  | with_reducible refine next_ev ?_
  | with_reducible refine Evolves.ite ?_ ?_
  | with_reducible first | apply wakeSrc_ev
  | split
  | (with_reducible refine Evolves.lit ?_ ?_; (on_goal 2 => rfl)))

theorem execCredit_ev (n : Fin 4) (p : Peer) (bytes : List Byte) (st : State) : NextEv st (execCredit n p bytes st) := by
  have h_ := Evolves.refl st
  unfold execCredit
  repeat' (first
  | with_reducible assumption
  | with_reducible refine next_ev ?_
  | (extract_lets +onlyGivenNames x; first
     | (refine (fun (hx : Evolves st x) => ?_) ?_; (on_goal 2 => subst x); (on_goal 1 => clear_value x))
     | (refine (fun (hx : Evolves st x.2) => ?_) ?_; (on_goal 2 => subst x); (on_goal 1 => clear_value x))
     | (refine (fun (hx : Evolves st x.1) => ?_) ?_; (on_goal 2 => subst x); (on_goal 1 => clear_value x))
     | (refine (fun (hx : Evolves st x.2.2) => ?_) ?_; (on_goal 2 => subst x); (on_goal 1 => clear_value x))
     | subst x | clear_value x)
  | with_reducible first | apply nsReceive_ev | apply nsCredit_ev
  | split
  | (with_reducible refine Evolves.lit ?_ ?_; (on_goal 2 => rfl)))

theorem execState_ev (n : Fin 4) (p : Peer) (bytes : List Byte) (st : State) : NextEv st (execState n p bytes st) := by
  have h_ := Evolves.refl st
  unfold execState
  repeat' (first
  | with_reducible assumption
  | with_reducible refine next_ev ?_
  | (extract_lets +onlyGivenNames x; first
     | (refine (fun (hx : Evolves st x) => ?_) ?_; (on_goal 2 => subst x); (on_goal 1 => clear_value x))
     | (refine (fun (hx : Evolves st x.2) => ?_) ?_; (on_goal 2 => subst x); (on_goal 1 => clear_value x))
     | (refine (fun (hx : Evolves st x.1) => ?_) ?_; (on_goal 2 => subst x); (on_goal 1 => clear_value x))
     | (refine (fun (hx : Evolves st x.2.2) => ?_) ?_; (on_goal 2 => subst x); (on_goal 1 => clear_value x))
     | subst x | clear_value x)
  | with_reducible first | apply nsReceive_ev | apply nsState_ev
  | split
  | (with_reducible refine Evolves.lit ?_ ?_; (on_goal 2 => rfl)))

theorem execCompletionResendTimer_ev (n : Fin 4) (st : State) : NextEv st (execCompletionResendTimer n st) := by
  have h_ := Evolves.refl st
  unfold execCompletionResendTimer
  repeat' (first
  | with_reducible assumption
  | with_reducible refine next_ev ?_
  | with_reducible refine Evolves.ite ?_ ?_
  | with_reducible first | apply complDatagrams_ev
  | split
  | (with_reducible refine Evolves.lit ?_ ?_; (on_goal 2 => rfl)))

theorem execWakeRepeatTimer_ev (n : Fin 4) (st : State) : NextEv st (execWakeRepeatTimer n st) := by
  have h_ := Evolves.refl st
  unfold execWakeRepeatTimer
  repeat' (first
  | with_reducible assumption
  | with_reducible refine next_ev ?_
  | with_reducible refine Evolves.ite ?_ ?_
  | with_reducible first | apply next_ev | apply nsSend_ev
  | split
  | (with_reducible refine Evolves.lit ?_ ?_; (on_goal 2 => rfl)))

theorem execEventRepeatTimer_ev (n : Fin 4) (st : State) : NextEv st (execEventRepeatTimer n st) := by
  have h_ := Evolves.refl st
  unfold execEventRepeatTimer
  repeat' (first
  | with_reducible assumption
  | with_reducible refine next_ev ?_
  | with_reducible refine Evolves.ite ?_ ?_
  | with_reducible first | apply next_ev | apply evtSend_ev
  | split
  | (with_reducible refine Evolves.lit ?_ ?_; (on_goal 2 => rfl)))

end Sys2Proof.Machine
end

