-- ==== Sys2Proof/Laws/Ev/CellCmd.lean ====
section
/-! SUPPORT. Each operation of Machine/CellCmd.lean only evolves the state it is given. -/

set_option linter.unreachableTactic false
set_option linter.unusedTactic false
set_option linter.tactic.unusedName false

namespace Sys2Proof.Machine

theorem progRead_ev (s : State) (k pc : Nat) (e : Ecc) {a_ : State} (h_ : Evolves a_ s) : Evolves a_ (progRead s k pc e).2 := by
  unfold progRead
  repeat' (first
  | with_reducible assumption
  | with_reducible refine Evolves.ite ?_ ?_
  | (extract_lets +onlyGivenNames x; first
     | (refine (fun (hx : Evolves a_ x) => ?_) ?_; (on_goal 2 => subst x); (on_goal 1 => clear_value x))
     | subst x | clear_value x)
  | with_reducible first | apply cellEcc_ev | apply onCell_ev
  | split
  | (with_reducible refine Evolves.lit ?_ ?_; (on_goal 2 => rfl)))

theorem issueWord_ev (s : State) (k stalls : Nat) (e : Ecc) (facts : List OpFacts) {a_ : State} (h_ : Evolves a_ s) : Evolves a_ (issueWord s k stalls e facts) := by
  unfold issueWord
  repeat' (first
  | with_reducible assumption
  | with_reducible refine Evolves.ite ?_ ?_
  | (extract_lets +onlyGivenNames x; first
     | (refine (fun (hx : Evolves a_ x) => ?_) ?_; (on_goal 2 => subst x); (on_goal 1 => clear_value x))
     | (refine (fun (hx : Evolves a_ x.2) => ?_) ?_; (on_goal 2 => subst x); (on_goal 1 => clear_value x))
     | (refine (fun (hx : Evolves a_ x.1) => ?_) ?_; (on_goal 2 => subst x); (on_goal 1 => clear_value x))
     | (refine (fun (hx : Evolves a_ x.2.2) => ?_) ?_; (on_goal 2 => subst x); (on_goal 1 => clear_value x))
     | subst x | clear_value x)
  | with_reducible refine forEach_ev (fun _ _ hs => ?_) ?_ | with_reducible refine forN_ev (fun _ _ hs => ?_) ?_
  | with_reducible first | apply progRead_ev | apply cellOp_ev | apply onCell_ev
  | split
  | (with_reducible refine Evolves.lit ?_ ?_; (on_goal 2 => rfl)))

theorem sampleStart_ev (s : State) (k stalls : Nat) (e : Ecc) (facts : List OpFacts) {a_ : State} (h_ : Evolves a_ s) : Evolves a_ (sampleStart s k stalls e facts) := by
  unfold sampleStart
  repeat' (first
  | with_reducible assumption
  | with_reducible refine Evolves.ite ?_ ?_
  | (extract_lets +onlyGivenNames x; first
     | (refine (fun (hx : Evolves a_ x) => ?_) ?_; (on_goal 2 => subst x); (on_goal 1 => clear_value x))
     | (refine (fun (hx : Evolves a_ x.2) => ?_) ?_; (on_goal 2 => subst x); (on_goal 1 => clear_value x))
     | (refine (fun (hx : Evolves a_ x.1) => ?_) ?_; (on_goal 2 => subst x); (on_goal 1 => clear_value x))
     | (refine (fun (hx : Evolves a_ x.2.2) => ?_) ?_; (on_goal 2 => subst x); (on_goal 1 => clear_value x))
     | subst x | clear_value x)
  | with_reducible first | apply setCell_ev | apply issueWord_ev
  | split
  | (with_reducible refine Evolves.lit ?_ ?_; (on_goal 2 => rfl)))

theorem crossStart_ev (s : State) (k stalls : Nat) (e : Ecc) (facts : List OpFacts) {a_ : State} (h_ : Evolves a_ s) : Evolves a_ (crossStart s k stalls e facts) := by
  unfold crossStart
  repeat' (first
  | with_reducible assumption
  | with_reducible refine Evolves.ite ?_ ?_
  | (extract_lets +onlyGivenNames x; first
     | (refine (fun (hx : Evolves a_ x) => ?_) ?_; (on_goal 2 => subst x); (on_goal 1 => clear_value x))
     | (refine (fun (hx : Evolves a_ x.2) => ?_) ?_; (on_goal 2 => subst x); (on_goal 1 => clear_value x))
     | (refine (fun (hx : Evolves a_ x.1) => ?_) ?_; (on_goal 2 => subst x); (on_goal 1 => clear_value x))
     | (refine (fun (hx : Evolves a_ x.2.2) => ?_) ?_; (on_goal 2 => subst x); (on_goal 1 => clear_value x))
     | subst x | clear_value x)
  | with_reducible first | apply onCmt_ev | apply setCell_ev | apply issueWord_ev
  | split
  | (with_reducible refine Evolves.lit ?_ ?_; (on_goal 2 => rfl)))

theorem yieldRedirect_ev (s : State) (k : Nat) (withdrawn : Bool) {a_ : State} (h_ : Evolves a_ s) : Evolves a_ (yieldRedirect s k withdrawn) := by
  unfold yieldRedirect
  repeat' (first
  | with_reducible assumption
  | with_reducible refine Evolves.ite ?_ ?_
  | (extract_lets +onlyGivenNames x; first
     | (refine (fun (hx : Evolves a_ x) => ?_) ?_; (on_goal 2 => subst x); (on_goal 1 => clear_value x))
     | (refine (fun (hx : Evolves a_ x.2) => ?_) ?_; (on_goal 2 => subst x); (on_goal 1 => clear_value x))
     | (refine (fun (hx : Evolves a_ x.1) => ?_) ?_; (on_goal 2 => subst x); (on_goal 1 => clear_value x))
     | (refine (fun (hx : Evolves a_ x.2.2) => ?_) ?_; (on_goal 2 => subst x); (on_goal 1 => clear_value x))
     | subst x | clear_value x)
  | with_reducible first | apply rinc_ev | apply onCell_ev | apply setBstate_ev
  | split
  | (with_reducible refine Evolves.lit ?_ ?_; (on_goal 2 => rfl)))

theorem yieldOverran_ev (s : State) (k : Nat) {a_ : State} (h_ : Evolves a_ s) : Evolves a_ (yieldOverran s k) := by
  unfold yieldOverran
  repeat' (first
  | with_reducible assumption
  | with_reducible refine Evolves.ite ?_ ?_
  | (extract_lets +onlyGivenNames x; first
     | (refine (fun (hx : Evolves a_ x) => ?_) ?_; (on_goal 2 => subst x); (on_goal 1 => clear_value x))
     | (refine (fun (hx : Evolves a_ x.2) => ?_) ?_; (on_goal 2 => subst x); (on_goal 1 => clear_value x))
     | (refine (fun (hx : Evolves a_ x.1) => ?_) ?_; (on_goal 2 => subst x); (on_goal 1 => clear_value x))
     | (refine (fun (hx : Evolves a_ x.2.2) => ?_) ?_; (on_goal 2 => subst x); (on_goal 1 => clear_value x))
     | subst x | clear_value x)
  | with_reducible first | apply setBstate_ev | apply onCell_ev | apply rsetBit_ev | apply fltDetect_ev
  | split
  | (with_reducible refine Evolves.lit ?_ ?_; (on_goal 2 => rfl)))

theorem blockResumed_ev (s : State) (k : Nat) {a_ : State} (h_ : Evolves a_ s) : Evolves a_ (blockResumed s k) := by
  unfold blockResumed
  repeat' (first
  | with_reducible assumption
  | with_reducible refine Evolves.ite ?_ ?_
  | (extract_lets +onlyGivenNames x; first
     | (refine (fun (hx : Evolves a_ x) => ?_) ?_; (on_goal 2 => subst x); (on_goal 1 => clear_value x))
     | (refine (fun (hx : Evolves a_ x.2) => ?_) ?_; (on_goal 2 => subst x); (on_goal 1 => clear_value x))
     | (refine (fun (hx : Evolves a_ x.1) => ?_) ?_; (on_goal 2 => subst x); (on_goal 1 => clear_value x))
     | (refine (fun (hx : Evolves a_ x.2.2) => ?_) ?_; (on_goal 2 => subst x); (on_goal 1 => clear_value x))
     | subst x | clear_value x)
  | with_reducible first | apply setCell_ev | apply setBstate_ev
  | split
  | (with_reducible refine Evolves.lit ?_ ?_; (on_goal 2 => rfl)))

theorem blockFresh_ev (s : State) (k : Nat) {a_ : State} (h_ : Evolves a_ s) : Evolves a_ (blockFresh s k) := by
  unfold blockFresh
  repeat' (first
  | with_reducible assumption
  | with_reducible refine Evolves.ite ?_ ?_
  | (extract_lets +onlyGivenNames x; first
     | (refine (fun (hx : Evolves a_ x) => ?_) ?_; (on_goal 2 => subst x); (on_goal 1 => clear_value x))
     | (refine (fun (hx : Evolves a_ x.2) => ?_) ?_; (on_goal 2 => subst x); (on_goal 1 => clear_value x))
     | (refine (fun (hx : Evolves a_ x.1) => ?_) ?_; (on_goal 2 => subst x); (on_goal 1 => clear_value x))
     | (refine (fun (hx : Evolves a_ x.2.2) => ?_) ?_; (on_goal 2 => subst x); (on_goal 1 => clear_value x))
     | subst x | clear_value x)
  | with_reducible first | apply onCell_ev | apply rsetBit_ev | apply setBstate_ev
  | split
  | (with_reducible refine Evolves.lit ?_ ?_; (on_goal 2 => rfl)))

theorem cellNop_ev (s : State) (k g : Nat) (e : Ecc) {a_ : State} (h_ : Evolves a_ s) : Evolves a_ (cellNop s k g e) := by
  unfold cellNop
  repeat' (first
  | with_reducible assumption
  | with_reducible refine Evolves.ite ?_ ?_
  | (extract_lets +onlyGivenNames x; first
     | (refine (fun (hx : Evolves a_ x) => ?_) ?_; (on_goal 2 => subst x); (on_goal 1 => clear_value x))
     | (refine (fun (hx : Evolves a_ x.2) => ?_) ?_; (on_goal 2 => subst x); (on_goal 1 => clear_value x))
     | (refine (fun (hx : Evolves a_ x.1) => ?_) ?_; (on_goal 2 => subst x); (on_goal 1 => clear_value x))
     | (refine (fun (hx : Evolves a_ x.2.2) => ?_) ?_; (on_goal 2 => subst x); (on_goal 1 => clear_value x))
     | subst x | clear_value x)
  | with_reducible first | apply onCell_ev | apply progRead_ev | apply dropInstr_ev
  | split
  | (with_reducible refine Evolves.lit ?_ ?_; (on_goal 2 => rfl)))

theorem execSampleProgramStart_ev (c : Fin 16) (s : Fin 68) (stalls : Nat) (f : StartFacts) (st : State) : NextEv st (execSampleProgramStart c s stalls f st) := by
  have h_ := Evolves.refl st
  unfold execSampleProgramStart
  repeat' (first
  | with_reducible assumption
  | with_reducible refine next_ev ?_
  | with_reducible refine Evolves.ite ?_ ?_
  | with_reducible first | apply next_ev | apply sampleStart_ev
  | split
  | (with_reducible refine Evolves.lit ?_ ?_; (on_goal 2 => rfl)))

theorem execCrossfadeProgramStart_ev (c : Fin 16) (s : Fin 68) (stalls : Nat) (f : StartFacts) (st : State) : NextEv st (execCrossfadeProgramStart c s stalls f st) := by
  have h_ := Evolves.refl st
  unfold execCrossfadeProgramStart
  repeat' (first
  | with_reducible assumption
  | with_reducible refine next_ev ?_
  | with_reducible refine Evolves.ite ?_ ?_
  | with_reducible first | apply next_ev | apply crossStart_ev
  | split
  | (with_reducible refine Evolves.lit ?_ ?_; (on_goal 2 => rfl)))

theorem execYieldRedirection_ev (c : Fin 16) (s : Fin 68) (withdrawn : Bool) (st : State) : NextEv st (execYieldRedirection c s withdrawn st) := by
  have h_ := Evolves.refl st
  unfold execYieldRedirection
  repeat' (first
  | with_reducible assumption
  | with_reducible refine next_ev ?_
  | (extract_lets +onlyGivenNames x; first
     | (refine (fun (hx : Evolves st x) => ?_) ?_; (on_goal 2 => subst x); (on_goal 1 => clear_value x))
     | subst x | clear_value x)
  | with_reducible first | apply yieldRedirect_ev
  | split
  | (with_reducible refine Evolves.lit ?_ ?_; (on_goal 2 => rfl)))

theorem execYieldOverrun_ev (c : Fin 16) (s : Fin 68) (st : State) : NextEv st (execYieldOverrun c s st) := by
  have h_ := Evolves.refl st
  unfold execYieldOverrun
  repeat' (first
  | with_reducible assumption
  | with_reducible refine next_ev ?_
  | with_reducible first | apply yieldOverran_ev
  | split
  | (with_reducible refine Evolves.lit ?_ ?_; (on_goal 2 => rfl)))

theorem execBlockResume_ev (c : Fin 16) (s : Fin 68) (st : State) : NextEv st (execBlockResume c s st) := by
  have h_ := Evolves.refl st
  unfold execBlockResume
  repeat' (first
  | with_reducible assumption
  | with_reducible refine next_ev ?_
  | with_reducible first | apply blockResumed_ev
  | split
  | (with_reducible refine Evolves.lit ?_ ?_; (on_goal 2 => rfl)))

theorem execMpy_ev (c : Fin 16) (s : Fin 68) (g : Nat) (mode : Fin 8) (an : Fin 4) (xr : Fin 32) (ysrc : Bool) (yop : Fin 32) (ecc : Ecc) (mism : Bool) (st : State) : NextEv st (execMpy c s g mode an xr ysrc yop ecc mism st) := by
  have h_ := Evolves.refl st
  unfold execMpy
  repeat' (first
  | with_reducible assumption
  | with_reducible refine next_ev ?_
  | with_reducible first | apply cellRun_ev
  | split
  | (with_reducible refine Evolves.lit ?_ ?_; (on_goal 2 => rfl)))

theorem execMac_ev (c : Fin 16) (s : Fin 68) (g : Nat) (mode : Fin 8) (an : Fin 4) (xr : Fin 32) (ysrc : Bool) (yop : Fin 32) (ecc : Ecc) (mism : Bool) (st : State) : NextEv st (execMac c s g mode an xr ysrc yop ecc mism st) := by
  have h_ := Evolves.refl st
  unfold execMac
  repeat' (first
  | with_reducible assumption
  | with_reducible refine next_ev ?_
  | with_reducible first | apply cellRun_ev
  | split
  | (with_reducible refine Evolves.lit ?_ ?_; (on_goal 2 => rfl)))

theorem execMsu_ev (c : Fin 16) (s : Fin 68) (g : Nat) (mode : Fin 8) (an : Fin 4) (xr : Fin 32) (ysrc : Bool) (yop : Fin 32) (ecc : Ecc) (mism : Bool) (st : State) : NextEv st (execMsu c s g mode an xr ysrc yop ecc mism st) := by
  have h_ := Evolves.refl st
  unfold execMsu
  repeat' (first
  | with_reducible assumption
  | with_reducible refine next_ev ?_
  | with_reducible first | apply cellRun_ev
  | split
  | (with_reducible refine Evolves.lit ?_ ?_; (on_goal 2 => rfl)))

theorem execCellNop_ev (c : Fin 16) (s : Fin 68) (g : Nat) (ecc : Ecc) (st : State) : NextEv st (execCellNop c s g ecc st) := by
  have h_ := Evolves.refl st
  unfold execCellNop
  repeat' (first
  | with_reducible assumption
  | with_reducible refine next_ev ?_
  | with_reducible first | apply cellNop_ev
  | split
  | (with_reducible refine Evolves.lit ?_ ?_; (on_goal 2 => rfl)))

theorem execLds_ev (c : Fin 16) (s : Fin 68) (g : Nat) (d : Fin 32) (p : Fin 16) (am : Fin 8) (ecc : Ecc) (st : State) : NextEv st (execLds c s g d p am ecc st) := by
  have h_ := Evolves.refl st
  unfold execLds
  repeat' (first
  | with_reducible assumption
  | with_reducible refine next_ev ?_
  | with_reducible first | apply cellRun_ev
  | split
  | (with_reducible refine Evolves.lit ?_ ?_; (on_goal 2 => rfl)))

theorem execLdsH_ev (c : Fin 16) (s : Fin 68) (g : Nat) (d : Fin 32) (p : Fin 16) (am : Fin 8) (ecc : Ecc) (st : State) : NextEv st (execLdsH c s g d p am ecc st) := by
  have h_ := Evolves.refl st
  unfold execLdsH
  repeat' (first
  | with_reducible assumption
  | with_reducible refine next_ev ?_
  | with_reducible first | apply cellRun_ev
  | split
  | (with_reducible refine Evolves.lit ?_ ?_; (on_goal 2 => rfl)))

theorem execLdsL_ev (c : Fin 16) (s : Fin 68) (g : Nat) (d : Fin 32) (p : Fin 16) (am : Fin 8) (ecc : Ecc) (st : State) : NextEv st (execLdsL c s g d p am ecc st) := by
  have h_ := Evolves.refl st
  unfold execLdsL
  repeat' (first
  | with_reducible assumption
  | with_reducible refine next_ev ?_
  | with_reducible first | apply cellRun_ev
  | split
  | (with_reducible refine Evolves.lit ?_ ?_; (on_goal 2 => rfl)))

theorem execLdk_ev (c : Fin 16) (s : Fin 68) (g : Nat) (d : Fin 32) (p : Fin 16) (am : Fin 8) (ecc : Ecc) (st : State) : NextEv st (execLdk c s g d p am ecc st) := by
  have h_ := Evolves.refl st
  unfold execLdk
  repeat' (first
  | with_reducible assumption
  | with_reducible refine next_ev ?_
  | with_reducible first | apply cellRun_ev
  | split
  | (with_reducible refine Evolves.lit ?_ ?_; (on_goal 2 => rfl)))

theorem execLdkH_ev (c : Fin 16) (s : Fin 68) (g : Nat) (d : Fin 32) (p : Fin 16) (am : Fin 8) (ecc : Ecc) (st : State) : NextEv st (execLdkH c s g d p am ecc st) := by
  have h_ := Evolves.refl st
  unfold execLdkH
  repeat' (first
  | with_reducible assumption
  | with_reducible refine next_ev ?_
  | with_reducible first | apply cellRun_ev
  | split
  | (with_reducible refine Evolves.lit ?_ ?_; (on_goal 2 => rfl)))

theorem execLdkL_ev (c : Fin 16) (s : Fin 68) (g : Nat) (d : Fin 32) (p : Fin 16) (am : Fin 8) (ecc : Ecc) (st : State) : NextEv st (execLdkL c s g d p am ecc st) := by
  have h_ := Evolves.refl st
  unfold execLdkL
  repeat' (first
  | with_reducible assumption
  | with_reducible refine next_ev ?_
  | with_reducible first | apply cellRun_ev
  | split
  | (with_reducible refine Evolves.lit ?_ ?_; (on_goal 2 => rfl)))

theorem execLdc_ev (c : Fin 16) (s : Fin 68) (g : Nat) (d : Fin 32) (p : Fin 16) (am : Fin 8) (stalls : Nat) (ecc : Ecc) (coll : Bool) (st : State) : NextEv st (execLdc c s g d p am stalls ecc coll st) := by
  have h_ := Evolves.refl st
  unfold execLdc
  repeat' (first
  | with_reducible assumption
  | with_reducible refine next_ev ?_
  | with_reducible first | apply cellRun_ev
  | split
  | (with_reducible refine Evolves.lit ?_ ?_; (on_goal 2 => rfl)))

theorem execLdcH_ev (c : Fin 16) (s : Fin 68) (g : Nat) (d : Fin 32) (p : Fin 16) (am : Fin 8) (stalls : Nat) (ecc : Ecc) (coll : Bool) (st : State) : NextEv st (execLdcH c s g d p am stalls ecc coll st) := by
  have h_ := Evolves.refl st
  unfold execLdcH
  repeat' (first
  | with_reducible assumption
  | with_reducible refine next_ev ?_
  | with_reducible first | apply cellRun_ev
  | split
  | (with_reducible refine Evolves.lit ?_ ?_; (on_goal 2 => rfl)))

theorem execLdcL_ev (c : Fin 16) (s : Fin 68) (g : Nat) (d : Fin 32) (p : Fin 16) (am : Fin 8) (stalls : Nat) (ecc : Ecc) (coll : Bool) (st : State) : NextEv st (execLdcL c s g d p am stalls ecc coll st) := by
  have h_ := Evolves.refl st
  unfold execLdcL
  repeat' (first
  | with_reducible assumption
  | with_reducible refine next_ev ?_
  | with_reducible first | apply cellRun_ev
  | split
  | (with_reducible refine Evolves.lit ?_ ?_; (on_goal 2 => rfl)))

theorem execMov_ev (c : Fin 16) (s : Fin 68) (g : Nat) (d n : Fin 32) (st : State) : NextEv st (execMov c s g d n st) := by
  have h_ := Evolves.refl st
  unfold execMov
  repeat' (first
  | with_reducible assumption
  | with_reducible refine next_ev ?_
  | with_reducible first | apply cellRun_ev
  | split
  | (with_reducible refine Evolves.lit ?_ ?_; (on_goal 2 => rfl)))

theorem execSwaph_ev (c : Fin 16) (s : Fin 68) (g : Nat) (d n : Fin 32) (st : State) : NextEv st (execSwaph c s g d n st) := by
  have h_ := Evolves.refl st
  unfold execSwaph
  repeat' (first
  | with_reducible assumption
  | with_reducible refine next_ev ?_
  | with_reducible first | apply cellRun_ev
  | split
  | (with_reducible refine Evolves.lit ?_ ?_; (on_goal 2 => rfl)))

theorem execCmp_ev (c : Fin 16) (s : Fin 68) (g : Nat) (n m : Fin 32) (rel k : Fin 4) (st : State) : NextEv st (execCmp c s g n m rel k st) := by
  have h_ := Evolves.refl st
  unfold execCmp
  repeat' (first
  | with_reducible assumption
  | with_reducible refine next_ev ?_
  | with_reducible first | apply cellRun_ev
  | split
  | (with_reducible refine Evolves.lit ?_ ?_; (on_goal 2 => rfl)))

theorem execCmovT_ev (c : Fin 16) (s : Fin 68) (g : Nat) (d n : Fin 32) (k : Fin 4) (st : State) : NextEv st (execCmovT c s g d n k st) := by
  have h_ := Evolves.refl st
  unfold execCmovT
  repeat' (first
  | with_reducible assumption
  | with_reducible refine next_ev ?_
  | with_reducible first | apply cellRun_ev
  | split
  | (with_reducible refine Evolves.lit ?_ ?_; (on_goal 2 => rfl)))

theorem execCmovF_ev (c : Fin 16) (s : Fin 68) (g : Nat) (d n : Fin 32) (k : Fin 4) (st : State) : NextEv st (execCmovF c s g d n k st) := by
  have h_ := Evolves.refl st
  unfold execCmovF
  repeat' (first
  | with_reducible assumption
  | with_reducible refine next_ev ?_
  | with_reducible first | apply cellRun_ev
  | split
  | (with_reducible refine Evolves.lit ?_ ?_; (on_goal 2 => rfl)))

theorem execShf_ev (c : Fin 16) (s : Fin 68) (g : Nat) (d : Fin 32) (sh : BitVec 7) (fn : Fin 4) (st : State) : NextEv st (execShf c s g d sh fn st) := by
  have h_ := Evolves.refl st
  unfold execShf
  repeat' (first
  | with_reducible assumption
  | with_reducible refine next_ev ?_
  | with_reducible first | apply cellRun_ev
  | split
  | (with_reducible refine Evolves.lit ?_ ?_; (on_goal 2 => rfl)))

theorem execClra_ev (c : Fin 16) (s : Fin 68) (g : Nat) (a : Fin 4) (st : State) : NextEv st (execClra c s g a st) := by
  have h_ := Evolves.refl st
  unfold execClra
  repeat' (first
  | with_reducible assumption
  | with_reducible refine next_ev ?_
  | with_reducible refine Evolves.ite ?_ ?_
  | with_reducible first | apply next_ev | apply cellRun_ev
  | split
  | (with_reducible refine Evolves.lit ?_ ?_; (on_goal 2 => rfl)))

theorem execMva_ev (c : Fin 16) (s : Fin 68) (g : Nat) (a : Fin 4) (n : Fin 32) (st : State) : NextEv st (execMva c s g a n st) := by
  have h_ := Evolves.refl st
  unfold execMva
  repeat' (first
  | with_reducible assumption
  | with_reducible refine next_ev ?_
  | with_reducible refine Evolves.ite ?_ ?_
  | with_reducible first | apply next_ev | apply cellRun_ev
  | split
  | (with_reducible refine Evolves.lit ?_ ?_; (on_goal 2 => rfl)))

theorem execMvah_ev (c : Fin 16) (s : Fin 68) (g : Nat) (a : Fin 4) (n : Fin 32) (st : State) : NextEv st (execMvah c s g a n st) := by
  have h_ := Evolves.refl st
  unfold execMvah
  repeat' (first
  | with_reducible assumption
  | with_reducible refine next_ev ?_
  | with_reducible first | apply cellRun_ev
  | split
  | (with_reducible refine Evolves.lit ?_ ?_; (on_goal 2 => rfl)))

theorem execMval_ev (c : Fin 16) (s : Fin 68) (g : Nat) (a : Fin 4) (n : Fin 32) (st : State) : NextEv st (execMval c s g a n st) := by
  have h_ := Evolves.refl st
  unfold execMval
  repeat' (first
  | with_reducible assumption
  | with_reducible refine next_ev ?_
  | with_reducible first | apply cellRun_ev
  | split
  | (with_reducible refine Evolves.lit ?_ ?_; (on_goal 2 => rfl)))

theorem execXrd_ev (c : Fin 16) (s : Fin 68) (g : Nat) (d : Fin 32) (lane : Fin 256) (st : State) : NextEv st (execXrd c s g d lane st) := by
  have h_ := Evolves.refl st
  unfold execXrd
  repeat' (first
  | with_reducible assumption
  | with_reducible refine next_ev ?_
  | with_reducible first | apply cellRun_ev
  | split
  | (with_reducible refine Evolves.lit ?_ ?_; (on_goal 2 => rfl)))

theorem execXra_ev (c : Fin 16) (s : Fin 68) (g : Nat) (a : Fin 4) (lane : Fin 256) (st : State) : NextEv st (execXra c s g a lane st) := by
  have h_ := Evolves.refl st
  unfold execXra
  repeat' (first
  | with_reducible assumption
  | with_reducible refine next_ev ?_
  | with_reducible refine Evolves.ite ?_ ?_
  | with_reducible first | apply next_ev | apply cellRun_ev
  | split
  | (with_reducible refine Evolves.lit ?_ ?_; (on_goal 2 => rfl)))

theorem execXred_ev (c : Fin 16) (s : Fin 68) (g : Nat) (a : Fin 4) (lane : Fin 256) (badPoint : Bool) (st : State) : NextEv st (execXred c s g a lane badPoint st) := by
  have h_ := Evolves.refl st
  unfold execXred
  repeat' (first
  | with_reducible assumption
  | with_reducible refine next_ev ?_
  | with_reducible first | apply cellRun_ev
  | split
  | (with_reducible refine Evolves.lit ?_ ?_; (on_goal 2 => rfl)))

theorem execMovs_ev (c : Fin 16) (s : Fin 68) (g : Nat) (wr : Bool) (cls : Fin 8) (idx : Fin 16) (n : Fin 32) (st : State) : NextEv st (execMovs c s g wr cls idx n st) := by
  have h_ := Evolves.refl st
  unfold execMovs
  repeat' (first
  | with_reducible assumption
  | with_reducible refine next_ev ?_
  | with_reducible first | apply cellRun_ev
  | split
  | (with_reducible refine Evolves.lit ?_ ?_; (on_goal 2 => rfl)))

theorem execSetp_ev (c : Fin 16) (s : Fin 68) (g : Nat) (cls : Fin 4) (n : Fin 16) (imm : BitVec 20) (st : State) : NextEv st (execSetp c s g cls n imm st) := by
  have h_ := Evolves.refl st
  unfold execSetp
  repeat' (first
  | with_reducible assumption
  | with_reducible refine next_ev ?_
  | with_reducible first | apply cellRun_ev
  | split
  | (with_reducible refine Evolves.lit ?_ ?_; (on_goal 2 => rfl)))

theorem execPadd_ev (c : Fin 16) (s : Fin 68) (g : Nat) (p : Fin 16) (imm : BitVec 10) (st : State) : NextEv st (execPadd c s g p imm st) := by
  have h_ := Evolves.refl st
  unfold execPadd
  repeat' (first
  | with_reducible assumption
  | with_reducible refine next_ev ?_
  | with_reducible first | apply cellRun_ev
  | split
  | (with_reducible refine Evolves.lit ?_ ?_; (on_goal 2 => rfl)))

theorem execPmod_ev (c : Fin 16) (s : Fin 68) (g : Nat) (p : Fin 16) (am : Fin 8) (st : State) : NextEv st (execPmod c s g p am st) := by
  have h_ := Evolves.refl st
  unfold execPmod
  repeat' (first
  | with_reducible assumption
  | with_reducible refine next_ev ?_
  | with_reducible first | apply cellRun_ev
  | split
  | (with_reducible refine Evolves.lit ?_ ?_; (on_goal 2 => rfl)))

theorem execLdpt_ev (c : Fin 16) (s : Fin 68) (g : Nat) (n : Fin 16) (ecc : Ecc) (st : State) : NextEv st (execLdpt c s g n ecc st) := by
  have h_ := Evolves.refl st
  unfold execLdpt
  repeat' (first
  | with_reducible assumption
  | with_reducible refine next_ev ?_
  | with_reducible first | apply cellRun_ev
  | split
  | (with_reducible refine Evolves.lit ?_ ?_; (on_goal 2 => rfl)))

theorem execStpt_ev (c : Fin 16) (s : Fin 68) (g : Nat) (n : Fin 16) (st : State) : NextEv st (execStpt c s g n st) := by
  have h_ := Evolves.refl st
  unfold execStpt
  repeat' (first
  | with_reducible assumption
  | with_reducible refine next_ev ?_
  | with_reducible first | apply cellRun_ev
  | split
  | (with_reducible refine Evolves.lit ?_ ?_; (on_goal 2 => rfl)))

theorem execStorePathMove_ev (c : Fin 16) (s : Fin 68) (g : Nat) (dst fmt : Fin 4) (src : Fin 64) (dop : BitVec 9) (ext : Option (BitVec 20)) (stalls : Nat) (ecc : Ecc) (badHere badThere : List (Fin 65)) (badPoint : Bool) (st : State) : NextEv st (execStorePathMove c s g dst fmt src dop ext stalls ecc badHere badThere badPoint st) := by
  have h_ := Evolves.refl st
  unfold execStorePathMove
  repeat' (first
  | with_reducible assumption
  | with_reducible refine next_ev ?_
  | with_reducible refine Evolves.ite ?_ ?_
  | with_reducible first | apply next_ev | apply cellRun_ev
  | split
  | (with_reducible refine Evolves.lit ?_ ?_; (on_goal 2 => rfl)))

theorem execCellEnd_ev (c : Fin 16) (s : Fin 68) (g : Nat) (st : State) : NextEv st (execCellEnd c s g st) := by
  have h_ := Evolves.refl st
  unfold execCellEnd
  repeat' (first
  | with_reducible assumption
  | with_reducible refine next_ev ?_
  | with_reducible first | apply cellRun_ev
  | split
  | (with_reducible refine Evolves.lit ?_ ?_; (on_goal 2 => rfl)))

theorem execRep_ev (c : Fin 16) (s : Fin 68) (g : Nat) (lp : Fin 4) (len : Fin 512) (count : BitVec 16) (st : State) : NextEv st (execRep c s g lp len count st) := by
  have h_ := Evolves.refl st
  unfold execRep
  repeat' (first
  | with_reducible assumption
  | with_reducible refine next_ev ?_
  | with_reducible first | apply cellRun_ev
  | split
  | (with_reducible refine Evolves.lit ?_ ?_; (on_goal 2 => rfl)))

theorem execBxclr_ev (c : Fin 16) (s : Fin 68) (g : Nat) (st : State) : NextEv st (execBxclr c s g st) := by
  have h_ := Evolves.refl st
  unfold execBxclr
  repeat' (first
  | with_reducible assumption
  | with_reducible refine next_ev ?_
  | with_reducible first | apply cellRun_ev
  | split
  | (with_reducible refine Evolves.lit ?_ ?_; (on_goal 2 => rfl)))

theorem execStset_ev (c : Fin 16) (s : Fin 68) (g : Nat) (mask : BitVec 8) (st : State) : NextEv st (execStset c s g mask st) := by
  have h_ := Evolves.refl st
  unfold execStset
  repeat' (first
  | with_reducible assumption
  | with_reducible refine next_ev ?_
  | with_reducible first | apply cellRun_ev
  | split
  | (with_reducible refine Evolves.lit ?_ ?_; (on_goal 2 => rfl)))

theorem execStclr_ev (c : Fin 16) (s : Fin 68) (g : Nat) (mask : BitVec 8) (st : State) : NextEv st (execStclr c s g mask st) := by
  have h_ := Evolves.refl st
  unfold execStclr
  repeat' (first
  | with_reducible assumption
  | with_reducible refine next_ev ?_
  | with_reducible first | apply cellRun_ev
  | split
  | (with_reducible refine Evolves.lit ?_ ?_; (on_goal 2 => rfl)))

theorem execBwait_ev (c : Fin 16) (s : Fin 68) (g : Nat) (st : State) : NextEv st (execBwait c s g st) := by
  have h_ := Evolves.refl st
  unfold execBwait
  repeat' (first
  | with_reducible assumption
  | with_reducible refine next_ev ?_
  | with_reducible first | apply cellRun_ev
  | split
  | (with_reducible refine Evolves.lit ?_ ?_; (on_goal 2 => rfl)))

theorem execYend_ev (c : Fin 16) (s : Fin 68) (g : Nat) (st : State) : NextEv st (execYend c s g st) := by
  have h_ := Evolves.refl st
  unfold execYend
  repeat' (first
  | with_reducible assumption
  | with_reducible refine next_ev ?_
  | with_reducible first | apply cellRun_ev
  | split
  | (with_reducible refine Evolves.lit ?_ ?_; (on_goal 2 => rfl)))

theorem execBr_ev (c : Fin 16) (s : Fin 68) (g : Nat) (off : BitVec 9) (st : State) : NextEv st (execBr c s g off st) := by
  have h_ := Evolves.refl st
  unfold execBr
  repeat' (first
  | with_reducible assumption
  | with_reducible refine next_ev ?_
  | with_reducible first | apply cellRun_ev
  | split
  | (with_reducible refine Evolves.lit ?_ ?_; (on_goal 2 => rfl)))

theorem execBrt_ev (c : Fin 16) (s : Fin 68) (g : Nat) (k : Fin 4) (off : BitVec 9) (st : State) : NextEv st (execBrt c s g k off st) := by
  have h_ := Evolves.refl st
  unfold execBrt
  repeat' (first
  | with_reducible assumption
  | with_reducible refine next_ev ?_
  | with_reducible first | apply cellRun_ev
  | split
  | (with_reducible refine Evolves.lit ?_ ?_; (on_goal 2 => rfl)))

theorem execBrf_ev (c : Fin 16) (s : Fin 68) (g : Nat) (k : Fin 4) (off : BitVec 9) (st : State) : NextEv st (execBrf c s g k off st) := by
  have h_ := Evolves.refl st
  unfold execBrf
  repeat' (first
  | with_reducible assumption
  | with_reducible refine next_ev ?_
  | with_reducible first | apply cellRun_ev
  | split
  | (with_reducible refine Evolves.lit ?_ ?_; (on_goal 2 => rfl)))

theorem execJmp_ev (c : Fin 16) (s : Fin 68) (g : Nat) (t : BitVec 11) (st : State) : NextEv st (execJmp c s g t st) := by
  have h_ := Evolves.refl st
  unfold execJmp
  repeat' (first
  | with_reducible assumption
  | with_reducible refine next_ev ?_
  | with_reducible first | apply cellRun_ev
  | split
  | (with_reducible refine Evolves.lit ?_ ?_; (on_goal 2 => rfl)))

theorem execJmpp_ev (c : Fin 16) (s : Fin 68) (g : Nat) (p : Fin 16) (st : State) : NextEv st (execJmpp c s g p st) := by
  have h_ := Evolves.refl st
  unfold execJmpp
  repeat' (first
  | with_reducible assumption
  | with_reducible refine next_ev ?_
  | with_reducible first | apply cellRun_ev
  | split
  | (with_reducible refine Evolves.lit ?_ ?_; (on_goal 2 => rfl)))

end Sys2Proof.Machine
end

