-- ==== Sys2Proof/Laws/Ev/Wellhead.lean ====
section
/-! SUPPORT. Each operation of Machine/Wellhead.lean only evolves the state it is given. -/

set_option linter.unreachableTactic false
set_option linter.unusedTactic false
set_option linter.tactic.unusedName false

namespace Sys2Proof.Machine

theorem welErr_ev (s : State) (c bit : Nat) {a_ : State} (h_ : Evolves a_ s) : Evolves a_ (welErr s c bit) := by
  unfold welErr
  repeat' (first
  | with_reducible assumption
  | with_reducible first | apply evClusterFlags_ev | apply rsetBit_ev
  | split
  | (with_reducible refine Evolves.lit ?_ ?_; (on_goal 2 => rfl)))

theorem welFault_ev (s : State) (c bit cyc : Nat) {a_ : State} (h_ : Evolves a_ s) : Evolves a_ (welFault s c bit cyc) := by
  unfold welFault
  repeat' (first
  | with_reducible assumption
  | (extract_lets +onlyGivenNames x; first
     | (refine (fun (hx : Evolves a_ x) => ?_) ?_; (on_goal 2 => subst x); (on_goal 1 => clear_value x))
     | subst x | clear_value x)
  | with_reducible first | apply welErr_ev | apply fltDetect_ev
  | split
  | (with_reducible refine Evolves.lit ?_ ?_; (on_goal 2 => rfl)))

theorem welCorr_ev (s : State) (c : Nat) {a_ : State} (h_ : Evolves a_ s) : Evolves a_ (welCorr s c) := by
  unfold welCorr
  repeat' (first
  | with_reducible assumption
  | with_reducible first | apply rinc_ev
  | split
  | (with_reducible refine Evolves.lit ?_ ?_; (on_goal 2 => rfl)))

theorem welEcc_ev (s : State) (c slot a : Nat) (e : Ecc) {a_ : State} (h_ : Evolves a_ s) : Evolves a_ (welEcc s c slot a e) := by
  unfold welEcc
  repeat' (first
  | with_reducible assumption
  | with_reducible refine Evolves.ite ?_ ?_
  | (extract_lets +onlyGivenNames x; first
     | (refine (fun (hx : Evolves a_ x) => ?_) ?_; (on_goal 2 => subst x); (on_goal 1 => clear_value x))
     | (refine (fun (hx : Evolves a_ x.2) => ?_) ?_; (on_goal 2 => subst x); (on_goal 1 => clear_value x))
     | (refine (fun (hx : Evolves a_ x.1) => ?_) ?_; (on_goal 2 => subst x); (on_goal 1 => clear_value x))
     | (refine (fun (hx : Evolves a_ x.2.2) => ?_) ?_; (on_goal 2 => subst x); (on_goal 1 => clear_value x))
     | subst x | clear_value x)
  | with_reducible first | apply welCorr_ev | apply welFault_ev | apply cisEcc_ev
  | split
  | (with_reducible refine Evolves.lit ?_ ?_; (on_goal 2 => rfl)))

theorem tapWord_ev (s : State) (c k : Nat) (d : W32) (tick i : Int) (e : Ecc) (coll : Bool) {a_ : State} (h_ : Evolves a_ s) : Evolves a_ (tapWord s c k d tick i e coll).2 := by
  unfold tapWord
  repeat' (first
  | with_reducible assumption
  | with_reducible refine Evolves.ite ?_ ?_
  | (extract_lets +onlyGivenNames x; first
     | (refine (fun (hx : Evolves a_ x) => ?_) ?_; (on_goal 2 => subst x); (on_goal 1 => clear_value x))
     | (refine (fun (hx : Evolves a_ x.2) => ?_) ?_; (on_goal 2 => subst x); (on_goal 1 => clear_value x))
     | (refine (fun (hx : Evolves a_ x.1) => ?_) ?_; (on_goal 2 => subst x); (on_goal 1 => clear_value x))
     | (refine (fun (hx : Evolves a_ x.2.2) => ?_) ?_; (on_goal 2 => subst x); (on_goal 1 => clear_value x))
     | subst x | clear_value x)
  | with_reducible first | apply freeW_ev
  | split
  | (with_reducible refine Evolves.lit ?_ ?_; (on_goal 2 => rfl)))

theorem tapRender_ev (s : State) (c slot : Nat) (t : TapEntry) (delay : Nat) (gain : Dyadic) (win : List Ecc) (coll : List Bool) {a_ : State} (h_ : Evolves a_ s) : Evolves a_ (tapRender s c slot t delay gain win coll) := by
  unfold tapRender
  repeat' (first
  | with_reducible assumption
  | with_reducible refine Evolves.ite ?_ ?_
  | (extract_lets +onlyGivenNames x; first
     | (refine (fun (hx : Evolves a_ x) => ?_) ?_; (on_goal 2 => subst x); (on_goal 1 => clear_value x))
     | (refine (fun (hx : Evolves a_ x.2) => ?_) ?_; (on_goal 2 => subst x); (on_goal 1 => clear_value x))
     | (refine (fun (hx : Evolves a_ x.1) => ?_) ?_; (on_goal 2 => subst x); (on_goal 1 => clear_value x))
     | (refine (fun (hx : Evolves a_ x.2.2) => ?_) ?_; (on_goal 2 => subst x); (on_goal 1 => clear_value x))
     | subst x | clear_value x)
  | with_reducible refine forEach_ev (fun _ _ hs => ?_) ?_ | with_reducible refine forN_ev (fun _ _ hs => ?_) ?_
  | with_reducible refine foldl_ev (fun _ _ hs => ?_) ?_ | with_reducible refine foldl_snd_ev (fun _ _ hs => ?_) ?_
  | with_reducible refine foldl_fst_ev (fun _ _ hs => ?_) ?_ | with_reducible refine foldl_snd2_ev (fun _ _ hs => ?_) ?_
  | with_reducible first | apply rinc_ev | apply welErr_ev | apply bankTake_ev | apply welEcc_ev | apply foldl_ev | apply tapWord_ev
  | split
  | (with_reducible refine Evolves.lit ?_ ?_; (on_goal 2 => rfl)))

theorem welCapture_ev (s : State) (c : Nat) (r : TapRun) {a_ : State} (h_ : Evolves a_ s) : Evolves a_ (welCapture s c r) := by
  unfold welCapture
  repeat' (first
  | with_reducible assumption
  | (extract_lets +onlyGivenNames x; first
     | (refine (fun (hx : Evolves a_ x) => ?_) ?_; (on_goal 2 => subst x); (on_goal 1 => clear_value x))
     | subst x | clear_value x)
  | with_reducible first | apply rset_ev
  | split
  | (with_reducible refine Evolves.lit ?_ ?_; (on_goal 2 => rfl)))

theorem welTap_ev (s : State) (c e : Nat) (second : Bool) (tbl : Ecc) (win : List Ecc) (coll : List Bool) {a_ : State} (h_ : Evolves a_ s) : Evolves a_ (welTap s c e second tbl win coll) := by
  unfold welTap
  repeat' (first
  | with_reducible assumption
  | with_reducible refine Evolves.ite ?_ ?_
  | (extract_lets +onlyGivenNames x; first
     | (refine (fun (hx : Evolves a_ x) => ?_) ?_; (on_goal 2 => subst x); (on_goal 1 => clear_value x))
     | (refine (fun (hx : Evolves a_ x.2) => ?_) ?_; (on_goal 2 => subst x); (on_goal 1 => clear_value x))
     | (refine (fun (hx : Evolves a_ x.1) => ?_) ?_; (on_goal 2 => subst x); (on_goal 1 => clear_value x))
     | (refine (fun (hx : Evolves a_ x.2.2) => ?_) ?_; (on_goal 2 => subst x); (on_goal 1 => clear_value x))
     | subst x | clear_value x)
  | with_reducible first | apply welCorr_ev | apply welFault_ev | apply tapRender_ev | apply welCapture_ev
  | split
  | (with_reducible refine Evolves.lit ?_ ?_; (on_goal 2 => rfl)))

theorem welClose_ev (s : State) (c : Nat) {a_ : State} (h_ : Evolves a_ s) : Evolves a_ (welClose s c) := by
  unfold welClose
  repeat' (first
  | with_reducible assumption
  | with_reducible refine Evolves.ite ?_ ?_
  | (extract_lets +onlyGivenNames x; first
     | (refine (fun (hx : Evolves a_ x) => ?_) ?_; (on_goal 2 => subst x); (on_goal 1 => clear_value x))
     | (refine (fun (hx : Evolves a_ x.2) => ?_) ?_; (on_goal 2 => subst x); (on_goal 1 => clear_value x))
     | (refine (fun (hx : Evolves a_ x.1) => ?_) ?_; (on_goal 2 => subst x); (on_goal 1 => clear_value x))
     | (refine (fun (hx : Evolves a_ x.2.2) => ?_) ?_; (on_goal 2 => subst x); (on_goal 1 => clear_value x))
     | subst x | clear_value x)
  | with_reducible refine forEach_ev (fun _ _ hs => ?_) ?_ | with_reducible refine forN_ev (fun _ _ hs => ?_) ?_
  | with_reducible refine foldl_ev (fun _ _ hs => ?_) ?_ | with_reducible refine foldl_snd_ev (fun _ _ hs => ?_) ?_
  | with_reducible refine foldl_fst_ev (fun _ _ hs => ?_) ?_ | with_reducible refine foldl_snd2_ev (fun _ _ hs => ?_) ?_
  | with_reducible first | apply mtrSum_ev
  | split
  | (with_reducible refine Evolves.lit ?_ ?_; (on_goal 2 => rfl)))

theorem welDrive_ev (s : State) (c lane : Nat) (bad : List Nat) {a_ : State} (h_ : Evolves a_ s) : Evolves a_ (welDrive s c lane bad) := by
  unfold welDrive
  repeat' (first
  | with_reducible assumption
  | with_reducible refine Evolves.ite ?_ ?_
  | (extract_lets +onlyGivenNames x; first
     | (refine (fun (hx : Evolves a_ x) => ?_) ?_; (on_goal 2 => subst x); (on_goal 1 => clear_value x))
     | (refine (fun (hx : Evolves a_ x.2) => ?_) ?_; (on_goal 2 => subst x); (on_goal 1 => clear_value x))
     | (refine (fun (hx : Evolves a_ x.1) => ?_) ?_; (on_goal 2 => subst x); (on_goal 1 => clear_value x))
     | (refine (fun (hx : Evolves a_ x.2.2) => ?_) ?_; (on_goal 2 => subst x); (on_goal 1 => clear_value x))
     | subst x | clear_value x)
  | with_reducible first | apply welErr_ev | apply laneArrive_ev
  | split
  | (with_reducible refine Evolves.lit ?_ ?_; (on_goal 2 => rfl)))

theorem welWriteSlot_ev (s : State) (c line : Nat) (ecc : Ecc) {a_ : State} (h_ : Evolves a_ s) : Evolves a_ (welWriteSlot s c line ecc) := by
  unfold welWriteSlot
  repeat' (first
  | with_reducible assumption
  | with_reducible refine Evolves.ite ?_ ?_
  | (extract_lets +onlyGivenNames x; first
     | (refine (fun (hx : Evolves a_ x) => ?_) ?_; (on_goal 2 => subst x); (on_goal 1 => clear_value x))
     | (refine (fun (hx : Evolves a_ x.2) => ?_) ?_; (on_goal 2 => subst x); (on_goal 1 => clear_value x))
     | (refine (fun (hx : Evolves a_ x.1) => ?_) ?_; (on_goal 2 => subst x); (on_goal 1 => clear_value x))
     | (refine (fun (hx : Evolves a_ x.2.2) => ?_) ?_; (on_goal 2 => subst x); (on_goal 1 => clear_value x))
     | subst x | clear_value x)
  | with_reducible refine forEach_ev (fun _ _ hs => ?_) ?_ | with_reducible refine forN_ev (fun _ _ hs => ?_) ?_
  | with_reducible first | apply bankTake_ev | apply cisEcc_ev | apply cisPut_ev
  | split
  | (with_reducible refine Evolves.lit ?_ ?_; (on_goal 2 => rfl)))

theorem welInletCapture_ev (s : State) (c : Nat) {a_ : State} (h_ : Evolves a_ s) : Evolves a_ (welInletCapture s c) := by
  unfold welInletCapture
  repeat' (first
  | with_reducible assumption
  | with_reducible refine Evolves.ite ?_ ?_
  | (extract_lets +onlyGivenNames x; first
     | (refine (fun (hx : Evolves a_ x) => ?_) ?_; (on_goal 2 => subst x); (on_goal 1 => clear_value x))
     | (refine (fun (hx : Evolves a_ x.2) => ?_) ?_; (on_goal 2 => subst x); (on_goal 1 => clear_value x))
     | (refine (fun (hx : Evolves a_ x.1) => ?_) ?_; (on_goal 2 => subst x); (on_goal 1 => clear_value x))
     | (refine (fun (hx : Evolves a_ x.2.2) => ?_) ?_; (on_goal 2 => subst x); (on_goal 1 => clear_value x))
     | subst x | clear_value x)
  | with_reducible refine forEach_ev (fun _ _ hs => ?_) ?_ | with_reducible refine forN_ev (fun _ _ hs => ?_) ?_
  | with_reducible first | apply welErr_ev
  | split
  | (with_reducible refine Evolves.lit ?_ ?_; (on_goal 2 => rfl)))

theorem entPut_ev (s : State) (c e : Nat) (t : TapEntry) {a_ : State} (h_ : Evolves a_ s) : Evolves a_ (entPut s c e t) := by
  unfold entPut
  repeat' (first
  | with_reducible assumption
  | (extract_lets +onlyGivenNames x; first
     | (refine (fun (hx : Evolves a_ x) => ?_) ?_; (on_goal 2 => subst x); (on_goal 1 => clear_value x))
     | subst x | clear_value x)
  | split
  | (with_reducible refine Evolves.lit ?_ ?_; (on_goal 2 => rfl)))

theorem linePut_ev (s : State) (c k : Nat) (v : W32) {a_ : State} (h_ : Evolves a_ s) : Evolves a_ (linePut s c k v) := by
  unfold linePut
  repeat' (first
  | with_reducible assumption
  | (extract_lets +onlyGivenNames x; first
     | (refine (fun (hx : Evolves a_ x) => ?_) ?_; (on_goal 2 => subst x); (on_goal 1 => clear_value x))
     | subst x | clear_value x)
  | split
  | (with_reducible refine Evolves.lit ?_ ?_; (on_goal 2 => rfl)))

theorem welSwap_ev (s : State) (c : Nat) (act : Bool) {a_ : State} (h_ : Evolves a_ s) : Evolves a_ (welSwap s c act) := by
  unfold welSwap
  repeat' (first
  | with_reducible assumption
  | with_reducible refine Evolves.ite ?_ ?_
  | (extract_lets +onlyGivenNames x; first
     | (refine (fun (hx : Evolves a_ x) => ?_) ?_; (on_goal 2 => subst x); (on_goal 1 => clear_value x))
     | (refine (fun (hx : Evolves a_ x.2) => ?_) ?_; (on_goal 2 => subst x); (on_goal 1 => clear_value x))
     | (refine (fun (hx : Evolves a_ x.1) => ?_) ?_; (on_goal 2 => subst x); (on_goal 1 => clear_value x))
     | (refine (fun (hx : Evolves a_ x.2.2) => ?_) ?_; (on_goal 2 => subst x); (on_goal 1 => clear_value x))
     | subst x | clear_value x)
  | with_reducible refine foldl_ev (fun _ _ hs => ?_) ?_ | with_reducible refine foldl_snd_ev (fun _ _ hs => ?_) ?_
  | with_reducible refine foldl_fst_ev (fun _ _ hs => ?_) ?_ | with_reducible refine foldl_snd2_ev (fun _ _ hs => ?_) ?_
  | with_reducible first | apply rputBit_ev | apply welErr_ev
  | split
  | (with_reducible refine Evolves.lit ?_ ?_; (on_goal 2 => rfl)))

end Sys2Proof.Machine
end

