-- ==== Sys2Proof/Laws/Ev/Glacier.lean ====
section
/-! SUPPORT. Each operation of Machine/Glacier.lean only evolves the state it is given. -/

set_option linter.unreachableTactic false
set_option linter.unusedTactic false
set_option linter.tactic.unusedName false

namespace Sys2Proof.Machine

theorem setGlcState_ev (s : State) (v : Nat) {a_ : State} (h_ : Evolves a_ s) : Evolves a_ (setGlcState s v) := by
  unfold setGlcState
  repeat' (first
  | with_reducible assumption
  | with_reducible first | apply rput_ev
  | split
  | (with_reducible refine Evolves.lit ?_ ?_; (on_goal 2 => rfl)))

theorem setRun_ev (s : State) (g : Nat) (r : StrRun) {a_ : State} (h_ : Evolves a_ s) : Evolves a_ (setRun s g r) := by
  unfold setRun
  repeat' (first
  | with_reducible assumption
  | (extract_lets +onlyGivenNames x; first
     | (refine (fun (hx : Evolves a_ x) => ?_) ?_; (on_goal 2 => subst x); (on_goal 1 => clear_value x))
     | subst x | clear_value x)
  | split
  | (with_reducible refine Evolves.lit ?_ ?_; (on_goal 2 => rfl)))

theorem putBlock_ev (s : State) (n : Nat) (b : DramBlock) {a_ : State} (h_ : Evolves a_ s) : Evolves a_ (putBlock s n b) := by
  unfold putBlock
  repeat' (first
  | with_reducible assumption
  | (extract_lets +onlyGivenNames x; first
     | (refine (fun (hx : Evolves a_ x) => ?_) ?_; (on_goal 2 => subst x); (on_goal 1 => clear_value x))
     | subst x | clear_value x)
  | split
  | (with_reducible refine Evolves.lit ?_ ?_; (on_goal 2 => rfl)))

theorem glcErr_ev (s : State) (bit : Nat) {a_ : State} (h_ : Evolves a_ s) : Evolves a_ (glcErr s bit) := by
  unfold glcErr
  repeat' (first
  | with_reducible assumption
  | with_reducible first | apply rsetBit_ev
  | split
  | (with_reducible refine Evolves.lit ?_ ?_; (on_goal 2 => rfl)))

theorem glcFinding_ev (s : State) (u bit : Nat) {a_ : State} (h_ : Evolves a_ s) : Evolves a_ (glcFinding s u bit) := by
  unfold glcFinding
  repeat' (first
  | with_reducible assumption
  | with_reducible refine Evolves.ite ?_ ?_
  | (extract_lets +onlyGivenNames x; first
     | (refine (fun (hx : Evolves a_ x) => ?_) ?_; (on_goal 2 => subst x); (on_goal 1 => clear_value x))
     | (refine (fun (hx : Evolves a_ x.2) => ?_) ?_; (on_goal 2 => subst x); (on_goal 1 => clear_value x))
     | (refine (fun (hx : Evolves a_ x.1) => ?_) ?_; (on_goal 2 => subst x); (on_goal 1 => clear_value x))
     | (refine (fun (hx : Evolves a_ x.2.2) => ?_) ?_; (on_goal 2 => subst x); (on_goal 1 => clear_value x))
     | subst x | clear_value x)
  | with_reducible first | apply glcErr_ev | apply fltDetect_ev | apply evRaise_ev
  | split
  | (with_reducible refine Evolves.lit ?_ ?_; (on_goal 2 => rfl)))

theorem glcEaddr_ev (s : State) (n : Nat) {a_ : State} (h_ : Evolves a_ s) : Evolves a_ (glcEaddr s n) := by
  unfold glcEaddr
  repeat' (first
  | with_reducible assumption
  | with_reducible refine Evolves.ite ?_ ?_
  | with_reducible first | apply rset_ev
  | split
  | (with_reducible refine Evolves.lit ?_ ?_; (on_goal 2 => rfl)))

theorem glcEcc_ev (s : State) (u n : Nat) (e : Ecc) {a_ : State} (h_ : Evolves a_ s) : Evolves a_ (glcEcc s u n e) := by
  unfold glcEcc
  repeat' (first
  | with_reducible assumption
  | with_reducible refine Evolves.ite ?_ ?_
  | with_reducible first | apply rinc_ev | apply glcEaddr_ev | apply glcFinding_ev
  | split
  | (with_reducible refine Evolves.lit ?_ ?_; (on_goal 2 => rfl)))

theorem glcRead_ev (s : State) (a : Nat) (e : Ecc) {a_ : State} (h_ : Evolves a_ s) : Evolves a_ (glcRead s a e).st := by
  unfold glcRead
  repeat' (first
  | with_reducible assumption
  | with_reducible refine Evolves.ite ?_ ?_
  | with_reducible first | apply glcEcc_ev
  | split
  | (with_reducible refine Evolves.lit ?_ ?_; (on_goal 2 => rfl)))

theorem glcWrite_ev (s : State) (a : Nat) (f : Word → Word) (e : Ecc) {a_ : State} (h_ : Evolves a_ s) : Evolves a_ (glcWrite s a f e).st := by
  unfold glcWrite
  repeat' (first
  | with_reducible assumption
  | with_reducible refine Evolves.ite ?_ ?_
  | (extract_lets +onlyGivenNames x; first
     | (refine (fun (hx : Evolves a_ x) => ?_) ?_; (on_goal 2 => subst x); (on_goal 1 => clear_value x))
     | (refine (fun (hx : Evolves a_ x.2) => ?_) ?_; (on_goal 2 => subst x); (on_goal 1 => clear_value x))
     | (refine (fun (hx : Evolves a_ x.1) => ?_) ?_; (on_goal 2 => subst x); (on_goal 1 => clear_value x))
     | (refine (fun (hx : Evolves a_ x.2.2) => ?_) ?_; (on_goal 2 => subst x); (on_goal 1 => clear_value x))
     | subst x | clear_value x)
  | with_reducible first | apply glcErr_ev | apply glcEcc_ev | apply putBlock_ev
  | split
  | (with_reducible refine Evolves.lit ?_ ?_; (on_goal 2 => rfl)))

theorem glcCisRead_ev (s : State) (c a : Nat) (e : Ecc) (m : Meet) {a_ : State} (h_ : Evolves a_ s) : Evolves a_ (glcCisRead s c a e m).2 := by
  unfold glcCisRead
  repeat' (first
  | with_reducible assumption
  | with_reducible refine Evolves.ite ?_ ?_
  | (extract_lets +onlyGivenNames x; first
     | (refine (fun (hx : Evolves a_ x) => ?_) ?_; (on_goal 2 => subst x); (on_goal 1 => clear_value x))
     | (refine (fun (hx : Evolves a_ x.st) => ?_) ?_; (on_goal 2 => subst x); (on_goal 1 => clear_value x))
     | (refine (fun (hx : Evolves a_ x.1.st) => ?_) ?_; (on_goal 2 => subst x); (on_goal 1 => clear_value x))
     | (refine (fun (hx : Evolves a_ x.2) => ?_) ?_; (on_goal 2 => subst x); (on_goal 1 => clear_value x))
     | (refine (fun (hx : Evolves a_ x.1) => ?_) ?_; (on_goal 2 => subst x); (on_goal 1 => clear_value x))
     | (refine (fun (hx : Evolves a_ x.2.2) => ?_) ?_; (on_goal 2 => subst x); (on_goal 1 => clear_value x))
     | (refine (fun (hx : Evolves a_ x.2.1) => ?_) ?_; (on_goal 2 => subst x); (on_goal 1 => clear_value x))
     | (refine (fun (hx : Evolves a_ x.2.2.1) => ?_) ?_; (on_goal 2 => subst x); (on_goal 1 => clear_value x))
     | (refine (fun (hx : Evolves a_ x.2.2.2) => ?_) ?_; (on_goal 2 => subst x); (on_goal 1 => clear_value x))
     | (refine (fun (hx : Evolves a_ x.2.st) => ?_) ?_; (on_goal 2 => subst x); (on_goal 1 => clear_value x))
     | (refine (fun (hx : Evolves a_ x.2.1.st) => ?_) ?_; (on_goal 2 => subst x); (on_goal 1 => clear_value x))
     | subst x | clear_value x)
  | with_reducible first | apply cisTRead_ev
  | split
  | (with_reducible refine Evolves.lit ?_ ?_; (on_goal 2 => rfl)))

theorem glcCisPut_ev (s : State) (c a : Nat) (w : Word) (m : Meet) {a_ : State} (h_ : Evolves a_ s) : Evolves a_ (glcCisPut s c a w m) := by
  unfold glcCisPut
  repeat' (first
  | with_reducible assumption
  | with_reducible refine Evolves.ite ?_ ?_
  | with_reducible first | apply cisTWrite_ev
  | split
  | (with_reducible refine Evolves.lit ?_ ?_; (on_goal 2 => rfl)))

theorem glcCollect_ev (s : State) (d : StrDesc) (t0 : Nat) (acc : List Access) {a_ : State} (h_ : Evolves a_ s) : Evolves a_ (glcCollect s d t0 acc).2 := by
  unfold glcCollect
  repeat' (first
  | with_reducible assumption
  | with_reducible refine Evolves.ite ?_ ?_
  | (extract_lets +onlyGivenNames x; first
     | (refine (fun (hx : Evolves a_ x) => ?_) ?_; (on_goal 2 => subst x); (on_goal 1 => clear_value x))
     | (refine (fun (hx : Evolves a_ x.2) => ?_) ?_; (on_goal 2 => subst x); (on_goal 1 => clear_value x))
     | (refine (fun (hx : Evolves a_ x.1) => ?_) ?_; (on_goal 2 => subst x); (on_goal 1 => clear_value x))
     | (refine (fun (hx : Evolves a_ x.2.2) => ?_) ?_; (on_goal 2 => subst x); (on_goal 1 => clear_value x))
     | subst x | clear_value x)
  | with_reducible refine foldl_ev (fun _ _ hs => ?_) ?_ | with_reducible refine foldl_snd_ev (fun _ _ hs => ?_) ?_
  | with_reducible refine foldl_fst_ev (fun _ _ hs => ?_) ?_ | with_reducible refine foldl_snd2_ev (fun _ _ hs => ?_) ?_
  | with_reducible first | apply foldl_ev | apply glcCisRead_ev | apply freeW_ev | apply glcCisPut_ev | apply glcErr_ev
  | split
  | (with_reducible refine Evolves.lit ?_ ?_; (on_goal 2 => rfl)))

theorem glcGrainWrite_ev (s : State) (g : Nat) (acc : List Access) {a_ : State} (h_ : Evolves a_ s) : Evolves a_ (glcGrainWrite s g acc) := by
  unfold glcGrainWrite
  repeat' (first
  | with_reducible assumption
  | with_reducible refine Evolves.ite ?_ ?_
  | (extract_lets +onlyGivenNames x; first
     | (refine (fun (hx : Evolves a_ x) => ?_) ?_; (on_goal 2 => subst x); (on_goal 1 => clear_value x))
     | (refine (fun (hx : Evolves a_ x.2) => ?_) ?_; (on_goal 2 => subst x); (on_goal 1 => clear_value x))
     | (refine (fun (hx : Evolves a_ x.1) => ?_) ?_; (on_goal 2 => subst x); (on_goal 1 => clear_value x))
     | (refine (fun (hx : Evolves a_ x.2.2) => ?_) ?_; (on_goal 2 => subst x); (on_goal 1 => clear_value x))
     | subst x | clear_value x)
  | with_reducible first | apply glcCollect_ev | apply putBlock_ev | apply setRun_ev
  | split
  | (with_reducible refine Evolves.lit ?_ ?_; (on_goal 2 => rfl)))

theorem glcWriteMiss_ev (s : State) (g : Nat) {a_ : State} (h_ : Evolves a_ s) : Evolves a_ (glcWriteMiss s g) := by
  unfold glcWriteMiss
  repeat' (first
  | with_reducible assumption
  | with_reducible refine Evolves.ite ?_ ?_
  | (extract_lets +onlyGivenNames x; first
     | (refine (fun (hx : Evolves a_ x) => ?_) ?_; (on_goal 2 => subst x); (on_goal 1 => clear_value x))
     | subst x | clear_value x)
  | with_reducible first | apply setRun_ev | apply rinc_ev | apply glcErr_ev
  | split
  | (with_reducible refine Evolves.lit ?_ ?_; (on_goal 2 => rfl)))

theorem glcFill_ev (s : State) (g n : Nat) (xs : List (Option Half)) (meets : List Meet) {a_ : State} (h_ : Evolves a_ s) : Evolves a_ (glcFill s g n xs meets) := by
  unfold glcFill
  repeat' (first
  | with_reducible assumption
  | with_reducible refine Evolves.ite ?_ ?_
  | (extract_lets +onlyGivenNames x; first
     | (refine (fun (hx : Evolves a_ x) => ?_) ?_; (on_goal 2 => subst x); (on_goal 1 => clear_value x))
     | (refine (fun (hx : Evolves a_ x.2) => ?_) ?_; (on_goal 2 => subst x); (on_goal 1 => clear_value x))
     | (refine (fun (hx : Evolves a_ x.1) => ?_) ?_; (on_goal 2 => subst x); (on_goal 1 => clear_value x))
     | (refine (fun (hx : Evolves a_ x.2.2) => ?_) ?_; (on_goal 2 => subst x); (on_goal 1 => clear_value x))
     | subst x | clear_value x)
  | with_reducible refine foldl_ev (fun _ _ hs => ?_) ?_ | with_reducible refine foldl_snd_ev (fun _ _ hs => ?_) ?_
  | with_reducible refine foldl_fst_ev (fun _ _ hs => ?_) ?_ | with_reducible refine foldl_snd2_ev (fun _ _ hs => ?_) ?_
  | with_reducible first | apply foldl_ev | apply glcCisPut_ev | apply setRun_ev
  | split
  | (with_reducible refine Evolves.lit ?_ ?_; (on_goal 2 => rfl)))

theorem glcGrainRead_ev (s : State) (g : Nat) (ecc : List Ecc) (meets : List Meet) {a_ : State} (h_ : Evolves a_ s) : Evolves a_ (glcGrainRead s g ecc meets) := by
  unfold glcGrainRead
  repeat' (first
  | with_reducible assumption
  | with_reducible refine Evolves.ite ?_ ?_
  | (extract_lets +onlyGivenNames x; first
     | (refine (fun (hx : Evolves a_ x) => ?_) ?_; (on_goal 2 => subst x); (on_goal 1 => clear_value x))
     | (refine (fun (hx : Evolves a_ x.2) => ?_) ?_; (on_goal 2 => subst x); (on_goal 1 => clear_value x))
     | (refine (fun (hx : Evolves a_ x.1) => ?_) ?_; (on_goal 2 => subst x); (on_goal 1 => clear_value x))
     | (refine (fun (hx : Evolves a_ x.2.2) => ?_) ?_; (on_goal 2 => subst x); (on_goal 1 => clear_value x))
     | subst x | clear_value x)
  | with_reducible refine forEach_ev (fun _ _ hs => ?_) ?_ | with_reducible refine forN_ev (fun _ _ hs => ?_) ?_
  | with_reducible first | apply glcFill_ev | apply glcEcc_ev | apply glcEaddr_ev | apply glcFinding_ev
  | split
  | (with_reducible refine Evolves.lit ?_ ?_; (on_goal 2 => rfl)))

theorem glcHeadLate_ev (s : State) (g : Nat) {a_ : State} (h_ : Evolves a_ s) : Evolves a_ (glcHeadLate s g) := by
  unfold glcHeadLate
  repeat' (first
  | with_reducible assumption
  | with_reducible refine Evolves.ite ?_ ?_
  | (extract_lets +onlyGivenNames x; first
     | (refine (fun (hx : Evolves a_ x) => ?_) ?_; (on_goal 2 => subst x); (on_goal 1 => clear_value x))
     | subst x | clear_value x)
  | with_reducible first | apply setRun_ev | apply rinc_ev | apply glcErr_ev
  | split
  | (with_reducible refine Evolves.lit ?_ ?_; (on_goal 2 => rfl)))

theorem glcLineCopy_ev (s : State) (g : Nat) (head line : Access) {a_ : State} (h_ : Evolves a_ s) : Evolves a_ (glcLineCopy s g head line) := by
  unfold glcLineCopy
  repeat' (first
  | with_reducible assumption
  | with_reducible refine Evolves.ite ?_ ?_
  | (extract_lets +onlyGivenNames x; first
     | (refine (fun (hx : Evolves a_ x) => ?_) ?_; (on_goal 2 => subst x); (on_goal 1 => clear_value x))
     | (refine (fun (hx : Evolves a_ x.st) => ?_) ?_; (on_goal 2 => subst x); (on_goal 1 => clear_value x))
     | (refine (fun (hx : Evolves a_ x.1.st) => ?_) ?_; (on_goal 2 => subst x); (on_goal 1 => clear_value x))
     | (refine (fun (hx : Evolves a_ x.2) => ?_) ?_; (on_goal 2 => subst x); (on_goal 1 => clear_value x))
     | (refine (fun (hx : Evolves a_ x.1) => ?_) ?_; (on_goal 2 => subst x); (on_goal 1 => clear_value x))
     | (refine (fun (hx : Evolves a_ x.2.2) => ?_) ?_; (on_goal 2 => subst x); (on_goal 1 => clear_value x))
     | (refine (fun (hx : Evolves a_ x.2.1) => ?_) ?_; (on_goal 2 => subst x); (on_goal 1 => clear_value x))
     | (refine (fun (hx : Evolves a_ x.2.2.1) => ?_) ?_; (on_goal 2 => subst x); (on_goal 1 => clear_value x))
     | (refine (fun (hx : Evolves a_ x.2.2.2) => ?_) ?_; (on_goal 2 => subst x); (on_goal 1 => clear_value x))
     | (refine (fun (hx : Evolves a_ x.2.st) => ?_) ?_; (on_goal 2 => subst x); (on_goal 1 => clear_value x))
     | (refine (fun (hx : Evolves a_ x.2.1.st) => ?_) ?_; (on_goal 2 => subst x); (on_goal 1 => clear_value x))
     | subst x | clear_value x)
  | with_reducible first | apply glcCisRead_ev | apply rinc_ev | apply glcFinding_ev | apply setRun_ev | apply cisTRmw_ev | apply glcCisPut_ev
  | split
  | (with_reducible refine Evolves.lit ?_ ?_; (on_goal 2 => rfl)))

theorem glcSwap_ev (s : State) (c : Nat) {a_ : State} (h_ : Evolves a_ s) : Evolves a_ (glcSwap s c) := by
  unfold glcSwap
  repeat' (first
  | with_reducible assumption
  | with_reducible refine Evolves.ite ?_ ?_
  | (extract_lets +onlyGivenNames x; first
     | (refine (fun (hx : Evolves a_ x) => ?_) ?_; (on_goal 2 => subst x); (on_goal 1 => clear_value x))
     | (refine (fun (hx : Evolves a_ x.2) => ?_) ?_; (on_goal 2 => subst x); (on_goal 1 => clear_value x))
     | (refine (fun (hx : Evolves a_ x.1) => ?_) ?_; (on_goal 2 => subst x); (on_goal 1 => clear_value x))
     | (refine (fun (hx : Evolves a_ x.2.2) => ?_) ?_; (on_goal 2 => subst x); (on_goal 1 => clear_value x))
     | subst x | clear_value x)
  | with_reducible refine forEach_ev (fun _ _ hs => ?_) ?_ | with_reducible refine forN_ev (fun _ _ hs => ?_) ?_
  | with_reducible first | apply setRun_ev
  | split
  | (with_reducible refine Evolves.lit ?_ ?_; (on_goal 2 => rfl)))

theorem glcShow_ev (s : State) (rate step time : Nat) {a_ : State} (h_ : Evolves a_ s) : Evolves a_ (glcShow s rate step time) := by
  unfold glcShow
  repeat' (first
  | with_reducible assumption
  | with_reducible refine Evolves.ite ?_ ?_
  | with_reducible first | apply rput_ev
  | split
  | (with_reducible refine Evolves.lit ?_ ?_; (on_goal 2 => rfl)))

theorem glcTrained_ev (s : State) (rate step time : Nat) (retain : Bool) {a_ : State} (h_ : Evolves a_ s) : Evolves a_ (glcTrained s rate step time retain) := by
  unfold glcTrained
  repeat' (first
  | with_reducible assumption
  | with_reducible refine Evolves.ite ?_ ?_
  | (extract_lets +onlyGivenNames x; first
     | (refine (fun (hx : Evolves a_ x) => ?_) ?_; (on_goal 2 => subst x); (on_goal 1 => clear_value x))
     | (refine (fun (hx : Evolves a_ x.2) => ?_) ?_; (on_goal 2 => subst x); (on_goal 1 => clear_value x))
     | (refine (fun (hx : Evolves a_ x.1) => ?_) ?_; (on_goal 2 => subst x); (on_goal 1 => clear_value x))
     | (refine (fun (hx : Evolves a_ x.2.2) => ?_) ?_; (on_goal 2 => subst x); (on_goal 1 => clear_value x))
     | subst x | clear_value x)
  | with_reducible first | apply rputBit_ev | apply glcShow_ev | apply setGlcState_ev | apply rput_ev
  | split
  | (with_reducible refine Evolves.lit ?_ ?_; (on_goal 2 => rfl)))

theorem glcTrackFail_ev (s : State) {a_ : State} (h_ : Evolves a_ s) : Evolves a_ (glcTrackFail s) := by
  unfold glcTrackFail
  repeat' (first
  | with_reducible assumption
  | with_reducible refine Evolves.ite ?_ ?_
  | (extract_lets +onlyGivenNames x; first
     | (refine (fun (hx : Evolves a_ x) => ?_) ?_; (on_goal 2 => subst x); (on_goal 1 => clear_value x))
     | subst x | clear_value x)
  | with_reducible first | apply setGlcState_ev | apply glcErr_ev | apply fltWork_ev | apply fltDetect_ev
  | split
  | (with_reducible refine Evolves.lit ?_ ?_; (on_goal 2 => rfl)))

theorem glcRetrained_ev (s : State) (ok : Bool) (step time : Nat) {a_ : State} (h_ : Evolves a_ s) : Evolves a_ (glcRetrained s ok step time) := by
  unfold glcRetrained
  repeat' (first
  | with_reducible assumption
  | with_reducible refine Evolves.ite ?_ ?_
  | (extract_lets +onlyGivenNames x; first
     | (refine (fun (hx : Evolves a_ x) => ?_) ?_; (on_goal 2 => subst x); (on_goal 1 => clear_value x))
     | (refine (fun (hx : Evolves a_ x.2) => ?_) ?_; (on_goal 2 => subst x); (on_goal 1 => clear_value x))
     | (refine (fun (hx : Evolves a_ x.1) => ?_) ?_; (on_goal 2 => subst x); (on_goal 1 => clear_value x))
     | (refine (fun (hx : Evolves a_ x.2.2) => ?_) ?_; (on_goal 2 => subst x); (on_goal 1 => clear_value x))
     | subst x | clear_value x)
  | with_reducible refine forEach_ev (fun _ _ hs => ?_) ?_ | with_reducible refine forN_ev (fun _ _ hs => ?_) ?_
  | with_reducible first | apply glcShow_ev | apply fltWorkDone_ev | apply setGlcState_ev | apply fltRecover_ev | apply rput_ev
  | split
  | (with_reducible refine Evolves.lit ?_ ?_; (on_goal 2 => rfl)))

theorem glcStrIdx_ev (s : State) (g : Nat) (wr rd cap : Bool) {a_ : State} (h_ : Evolves a_ s) : Evolves a_ (glcStrIdx s g wr rd cap) := by
  unfold glcStrIdx
  repeat' (first
  | with_reducible assumption
  | with_reducible refine Evolves.ite ?_ ?_
  | (extract_lets +onlyGivenNames x; first
     | (refine (fun (hx : Evolves a_ x) => ?_) ?_; (on_goal 2 => subst x); (on_goal 1 => clear_value x))
     | (refine (fun (hx : Evolves a_ x.2) => ?_) ?_; (on_goal 2 => subst x); (on_goal 1 => clear_value x))
     | (refine (fun (hx : Evolves a_ x.1) => ?_) ?_; (on_goal 2 => subst x); (on_goal 1 => clear_value x))
     | (refine (fun (hx : Evolves a_ x.2.2) => ?_) ?_; (on_goal 2 => subst x); (on_goal 1 => clear_value x))
     | subst x | clear_value x)
  | with_reducible refine forEach_ev (fun _ _ hs => ?_) ?_ | with_reducible refine forN_ev (fun _ _ hs => ?_) ?_
  | with_reducible first | apply rput_ev | apply rset_ev | apply rset64_ev
  | (rename_i he; obtain ⟨_, _, hc⟩ := List.exists_of_findSome?_eq_some he; refine memberRefused_ev _ _ _ ?_ hc)
  | split
  | (with_reducible refine Evolves.lit ?_ ?_; (on_goal 2 => rfl)))

theorem execGlacierGrainWrite_ev (w : GrainWrite) (st : State) : NextEv st (execGlacierGrainWrite w st) := by
  have h_ := Evolves.refl st
  unfold execGlacierGrainWrite
  repeat' (first
  | with_reducible assumption
  | with_reducible refine next_ev ?_
  | with_reducible refine Evolves.ite ?_ ?_
  | with_reducible first | apply next_ev | apply glcGrainWrite_ev
  | split
  | (with_reducible refine Evolves.lit ?_ ?_; (on_goal 2 => rfl)))

theorem execGlacierWriteMiss_ev (g : Fin 4096) (st : State) : NextEv st (execGlacierWriteMiss g st) := by
  have h_ := Evolves.refl st
  unfold execGlacierWriteMiss
  repeat' (first
  | with_reducible assumption
  | with_reducible refine next_ev ?_
  | with_reducible first | apply glcWriteMiss_ev
  | split
  | (with_reducible refine Evolves.lit ?_ ?_; (on_goal 2 => rfl)))

theorem execGlacierGrainRead_ev (g : Fin 4096) (f : GrainFacts) (st : State) : NextEv st (execGlacierGrainRead g f st) := by
  have h_ := Evolves.refl st
  unfold execGlacierGrainRead
  repeat' (first
  | with_reducible assumption
  | with_reducible refine next_ev ?_
  | with_reducible refine Evolves.ite ?_ ?_
  | with_reducible first | apply next_ev | apply glcGrainRead_ev
  | split
  | (with_reducible refine Evolves.lit ?_ ?_; (on_goal 2 => rfl)))

theorem execGlacierHeadLate_ev (g : Fin 4096) (st : State) : NextEv st (execGlacierHeadLate g st) := by
  have h_ := Evolves.refl st
  unfold execGlacierHeadLate
  repeat' (first
  | with_reducible assumption
  | with_reducible refine next_ev ?_
  | with_reducible first | apply glcHeadLate_ev
  | split
  | (with_reducible refine Evolves.lit ?_ ?_; (on_goal 2 => rfl)))

theorem execGlacierLineCopy_ev (g : Fin 4096) (f : LineFacts) (st : State) : NextEv st (execGlacierLineCopy g f st) := by
  have h_ := Evolves.refl st
  unfold execGlacierLineCopy
  repeat' (first
  | with_reducible assumption
  | with_reducible refine next_ev ?_
  | with_reducible refine Evolves.ite ?_ ?_
  | with_reducible first | apply next_ev | apply glcLineCopy_ev
  | split
  | (with_reducible refine Evolves.lit ?_ ?_; (on_goal 2 => rfl)))

theorem execGlacierTrackingFailure_ev (st : State) : NextEv st (execGlacierTrackingFailure st) := by
  have h_ := Evolves.refl st
  unfold execGlacierTrackingFailure
  repeat' (first
  | with_reducible assumption
  | with_reducible refine next_ev ?_
  | with_reducible first | apply glcTrackFail_ev
  | split
  | (with_reducible refine Evolves.lit ?_ ?_; (on_goal 2 => rfl)))

theorem execGlacierRetrainDone_ev (r : Retrain) (st : State) : NextEv st (execGlacierRetrainDone r st) := by
  have h_ := Evolves.refl st
  unfold execGlacierRetrainDone
  repeat' (first
  | with_reducible assumption
  | with_reducible refine next_ev ?_
  | with_reducible refine Evolves.ite ?_ ?_
  | with_reducible first | apply next_ev | apply glcRetrained_ev
  | split
  | (with_reducible refine Evolves.lit ?_ ?_; (on_goal 2 => rfl)))

theorem execGlacierRefreshReport_ev (st : State) : NextEv st (execGlacierRefreshReport st) := by
  have h_ := Evolves.refl st
  unfold execGlacierRefreshReport
  repeat' (first
  | with_reducible assumption
  | with_reducible refine next_ev ?_
  | with_reducible refine Evolves.ite ?_ ?_
  | with_reducible first | apply glcErr_ev
  | split
  | (with_reducible refine Evolves.lit ?_ ?_; (on_goal 2 => rfl)))

theorem execGlcStrWr_ev (g : Fin 4096) (st : State) : NextEv st (execGlcStrWr g st) := by
  have h_ := Evolves.refl st
  unfold execGlcStrWr
  repeat' (first
  | with_reducible assumption
  | with_reducible refine next_ev ?_
  | with_reducible first | apply glcStrIdx_ev
  | split
  | (with_reducible refine Evolves.lit ?_ ?_; (on_goal 2 => rfl)))

theorem execGlcStrRd_ev (g : Fin 4096) (st : State) : NextEv st (execGlcStrRd g st) := by
  have h_ := Evolves.refl st
  unfold execGlcStrRd
  repeat' (first
  | with_reducible assumption
  | with_reducible refine next_ev ?_
  | with_reducible first | apply glcStrIdx_ev
  | split
  | (with_reducible refine Evolves.lit ?_ ?_; (on_goal 2 => rfl)))

theorem execGlcStrCap_ev (g : Fin 4096) (st : State) : NextEv st (execGlcStrCap g st) := by
  have h_ := Evolves.refl st
  unfold execGlcStrCap
  repeat' (first
  | with_reducible assumption
  | with_reducible refine next_ev ?_
  | with_reducible first | apply glcStrIdx_ev
  | split
  | (with_reducible refine Evolves.lit ?_ ?_; (on_goal 2 => rfl)))

theorem execGlcEaddrClr_ev (st : State) : NextEv st (execGlcEaddrClr st) := by
  have h_ := Evolves.refl st
  unfold execGlcEaddrClr
  repeat' (first
  | with_reducible assumption
  | with_reducible refine next_ev ?_
  | with_reducible first | apply rset_ev
  | split
  | (with_reducible refine Evolves.lit ?_ ?_; (on_goal 2 => rfl)))

end Sys2Proof.Machine
end

