-- ==== Sys2Proof/Laws/Ev/Fabric.lean ====
section
/-! SUPPORT. Each operation of Machine/Fabric.lean only evolves the state it is given. -/

set_option linter.unreachableTactic false
set_option linter.unusedTactic false
set_option linter.tactic.unusedName false

namespace Sys2Proof.Machine

theorem pagePut_ev (s : State) (k off : Nat) (f : Word → Word) {a_ : State} (h_ : Evolves a_ s) : Evolves a_ (pagePut s k off f) := by
  unfold pagePut
  repeat' (first
  | with_reducible assumption
  | with_reducible refine Evolves.ite ?_ ?_
  | (extract_lets +onlyGivenNames x; first
     | (refine (fun (hx : Evolves a_ x) => ?_) ?_; (on_goal 2 => subst x); (on_goal 1 => clear_value x))
     | subst x | clear_value x)
  | with_reducible first | apply cellPut_ev
  | split
  | (with_reducible refine Evolves.lit ?_ ?_; (on_goal 2 => rfl))
  | (with_reducible refine Evolves.litMem ?_ ?_ ?_ ?_ ?_; (on_goal 2 => rfl); (on_goal 2 => first | (with_reducible first | exact id | exact mwf_mset _ _ _ _ | exact mwf_mputRange _ _ _ _ _ | exact mwf_mclearRange _ _ _ _ | exact mwf_mcopyRange _ _ _ _ _ _) | exact fun _ => rfl | exact mwf_mclearRange _ _ _ _);
     (on_goal 2 => first | (with_reducible first | exact id | exact mwf_mset _ _ _ _ | exact mwf_mputRange _ _ _ _ _ | exact mwf_mclearRange _ _ _ _ | exact mwf_mcopyRange _ _ _ _ _ _) | exact fun _ => rfl | exact mwf_mclearRange _ _ _ _);
     (on_goal 2 => first | (with_reducible first | exact id | exact mwf_mset _ _ _ _ | exact mwf_mputRange _ _ _ _ _ | exact mwf_mclearRange _ _ _ _ | exact mwf_mcopyRange _ _ _ _ _ _) | exact fun _ => rfl | exact mwf_mclearRange _ _ _ _)))

theorem winRmw_ev (s : State) (k off : Nat) (m : Word) (e : Ecc) (put : State → State) {a_ : State}
    (hp : ∀ t, Evolves a_ t → Evolves a_ (put t)) (h_ : Evolves a_ s) : Evolves a_ (winRmw s k off m e put).st := by
  unfold winRmw
  split
  · exact hp _ h_
  · split
    · exact cellEcc_ev _ _ _ _ h_
    · exact hp _ (cellEcc_ev _ _ _ _ h_)

theorem statePut_ev (s : State) (k off : Nat) (f : Word → Word) {a_ : State} (h_ : Evolves a_ s) : Evolves a_ (statePut s k off f) := by
  unfold statePut
  repeat' (first
  | with_reducible assumption
  | with_reducible refine Evolves.ite ?_ ?_
  | (extract_lets +onlyGivenNames x; first
     | (refine (fun (hx : Evolves a_ x) => ?_) ?_; (on_goal 2 => subst x); (on_goal 1 => clear_value x))
     | (refine (fun (hx : Evolves a_ x.2) => ?_) ?_; (on_goal 2 => subst x); (on_goal 1 => clear_value x))
     | (refine (fun (hx : Evolves a_ x.1) => ?_) ?_; (on_goal 2 => subst x); (on_goal 1 => clear_value x))
     | (refine (fun (hx : Evolves a_ x.2.2) => ?_) ?_; (on_goal 2 => subst x); (on_goal 1 => clear_value x))
     | subst x | clear_value x)
  | with_reducible first | apply cellPut_ev
  | split
  | (with_reducible refine Evolves.lit ?_ ?_; (on_goal 2 => rfl)))

theorem winWrite_ev (s : State) (k off : Nat) (m w : Word) (e : Ecc) {a_ : State} (h_ : Evolves a_ s) : Evolves a_ (winWrite s k off m w e).st := by
  unfold winWrite
  extract_lets st put
  have hp : ∀ t, Evolves a_ t → Evolves a_ (put t) := fun t ht => pagePut_ev _ _ _ _ ht
  clear_value st put
  repeat' (first
  | with_reducible assumption
  | (with_reducible refine winRmw_ev _ _ _ _ _ _ ?_ ?_)
  | exact hp
  | (intro t ht; exact statePut_ev _ _ _ _ ht)
  | (rename_i he; refine memberRefused_ev _ _ _ ?_ he)
  | split)

theorem winRead_ev (s : State) (k off : Nat) (e : Ecc) {a_ : State} (h_ : Evolves a_ s) : Evolves a_ (winRead s k off e).st := by
  unfold winRead
  repeat' (first
  | with_reducible assumption
  | with_reducible refine Evolves.ite ?_ ?_
  | (extract_lets +onlyGivenNames x; first
     | (refine (fun (hx : Evolves a_ x) => ?_) ?_; (on_goal 2 => subst x); (on_goal 1 => clear_value x))
     | (refine (fun (hx : Evolves a_ x.2) => ?_) ?_; (on_goal 2 => subst x); (on_goal 1 => clear_value x))
     | (refine (fun (hx : Evolves a_ x.1) => ?_) ?_; (on_goal 2 => subst x); (on_goal 1 => clear_value x))
     | (refine (fun (hx : Evolves a_ x.2.2) => ?_) ?_; (on_goal 2 => subst x); (on_goal 1 => clear_value x))
     | subst x | clear_value x)
  | with_reducible first | apply cellEcc_ev
  | split
  | (with_reducible refine Evolves.lit ?_ ?_; (on_goal 2 => rfl)))

theorem fabRead_ev (s : State) (a : Nat) (e : Ecc) (m : Meet) {a_ : State} (h_ : Evolves a_ s) : Evolves a_ (fabRead s a e m).st := by
  unfold fabRead
  repeat' (first
  | with_reducible assumption
  | (extract_lets +onlyGivenNames x; first
     | (refine (fun (hx : Evolves a_ x) => ?_) ?_; (on_goal 2 => subst x); (on_goal 1 => clear_value x))
     | subst x | clear_value x)
  | with_reducible first | apply cisTRead_ev | apply winRead_ev | apply glcRead_ev
  | split
  | (with_reducible refine Evolves.lit ?_ ?_; (on_goal 2 => rfl)))

theorem fabWrite_ev (s : State) (u a : Nat) (m w : Word) (e : Ecc) (mt : Meet) {a_ : State} (h_ : Evolves a_ s) : Evolves a_ (fabWrite s u a m w e mt).st := by
  unfold fabWrite
  repeat' (first
  | with_reducible assumption
  | with_reducible refine Evolves.ite ?_ ?_
  | with_reducible first | apply cisTWrite_ev | apply cisTRmw_ev | apply winWrite_ev | apply crcFeed_ev | apply glcWrite_ev
  | split
  | (rename_i heq_; with_reducible refine (Evolves.snd heq_ ?_ :))
  | (with_reducible refine Evolves.lit ?_ ?_; (on_goal 2 => rfl)))

end Sys2Proof.Machine
end

