-- ==== Sys2Proof/Laws/Ev/Bar2.lean ====
section
/-! SUPPORT. Each operation of Machine/Bar2.lean only evolves the state it is given. -/

set_option linter.unreachableTactic false
set_option linter.unusedTactic false
set_option linter.tactic.unusedName false

namespace Sys2Proof.Machine

theorem b2Flags_ev (s : State) (a : Nat) (r : TRes) {a_ : State} (h_ : Evolves a_ s) : Evolves a_ (b2Flags s a r) := by
  unfold b2Flags
  have h := Evolves.ite (c := r.err = true) (rsetBit_ev _ (pageA a + 8) 2 h_) h_
  exact Evolves.ite (rsetBit_ev _ _ _ h) h

theorem b2ReadWord_ev (acc : List Byte × List Access × State) (a w lo hi : Nat) {a_ : State} (h_ : Evolves a_ acc.2.2) :
    Evolves a_ (b2ReadWord acc a w lo hi).2.2 := by
  unfold b2ReadWord
  extract_lets s x r v
  split
  · exact h_
  · exact b2Flags_ev _ _ _ (fabRead_ev _ _ _ _ h_)

theorem b2Read_ev (s : State) (a off len : Nat) (acc : List Access) {a_ : State} (h_ : Evolves a_ s) :
    Evolves a_ (b2Read s a off len acc) :=
  emit_ev _ _ (foldl_snd2_ev (fun _ _ hs => b2ReadWord_ev _ _ _ _ _ hs) h_)

theorem b2Write_ev (s : State) (a off : Nat) (bytes : List Byte) (acc : List Access) {a_ : State} (h_ : Evolves a_ s) :
    Evolves a_ (b2Write s a off bytes acc) := by
  refine foldl_snd_ev (fun q x hs => ?_) h_
  show Evolves a_ (if x.2.1 ≥ 9 then q else _).2
  split
  · exact hs
  · exact b2Flags_ev _ _ _ (fabWrite_ev _ _ _ _ _ _ _ hs)

theorem execBar2Read_ev (a : Fin 4) (off : BitVec 22) (len : Fin 4097) (acc : List Access) (st : State) : NextEv st (execBar2Read a off len acc st) := by
  have h_ := Evolves.refl st
  unfold execBar2Read
  repeat' (first
  | with_reducible assumption
  | with_reducible refine next_ev ?_
  | with_reducible refine Evolves.ite ?_ ?_
  | (extract_lets +onlyGivenNames x; first
     | (refine (fun (hx : Evolves st x) => ?_) ?_; (on_goal 2 => subst x); (on_goal 1 => clear_value x))
     | subst x | clear_value x)
  | with_reducible first | apply b2Read_ev | apply emit_ev
  | split
  | (with_reducible refine Evolves.lit ?_ ?_; (on_goal 2 => rfl)))

theorem execBar2ReadTimeout_ev (a : Fin 4) (len : Fin 4097) (st : State) : NextEv st (execBar2ReadTimeout a len st) :=
  next_ev (emit_ev _ _ (whenS_ev (fun _ hs => rsetBit_ev _ _ _ hs) (Evolves.refl st)))

theorem execBar2Write_ev (a : Fin 4) (off : BitVec 22) (bytes : List Byte) (acc : List Access) (st : State) : NextEv st (execBar2Write a off bytes acc st) := by
  have h_ := Evolves.refl st
  unfold execBar2Write
  repeat' (first
  | with_reducible assumption
  | with_reducible refine next_ev ?_
  | with_reducible refine Evolves.ite ?_ ?_
  | with_reducible first | apply b2Write_ev
  | split
  | (with_reducible refine Evolves.lit ?_ ?_; (on_goal 2 => rfl)))

end Sys2Proof.Machine
end

