-- ==== Sys2Proof/Laws/Ev/ExchCmd.lean ====
section
/-! SUPPORT. Each operation of Machine/ExchCmd.lean only evolves the state it is given. -/

set_option linter.unreachableTactic false
set_option linter.unusedTactic false
set_option linter.tactic.unusedName false

namespace Sys2Proof.Machine

theorem bridgeFilter_ev (s : State) (c k : Nat) {a_ : State} (h_ : Evolves a_ s) : Evolves a_ (bridgeFilter s c k) := by
  unfold bridgeFilter
  repeat' (first
  | with_reducible assumption
  | with_reducible refine Evolves.ite ?_ ?_
  | (extract_lets +onlyGivenNames x; first
     | (refine (fun (hx : Evolves a_ x) => ?_) ?_; (on_goal 2 => subst x); (on_goal 1 => clear_value x))
     | (refine (fun (hx : Evolves a_ x.2) => ?_) ?_; (on_goal 2 => subst x); (on_goal 1 => clear_value x))
     | (refine (fun (hx : Evolves a_ x.1) => ?_) ?_; (on_goal 2 => subst x); (on_goal 1 => clear_value x))
     | (refine (fun (hx : Evolves a_ x.2.2) => ?_) ?_; (on_goal 2 => subst x); (on_goal 1 => clear_value x))
     | subst x | clear_value x)
  | with_reducible first | apply setBridge_ev | apply rincBy_ev | apply xchErr_ev
  | split
  | (with_reducible refine Evolves.lit ?_ ?_; (on_goal 2 => rfl)))

theorem bridgeCapture_ev (s : State) (c k : Nat) {a_ : State} (h_ : Evolves a_ s) : Evolves a_ (bridgeCapture s c k) := by
  unfold bridgeCapture
  repeat' (first
  | with_reducible assumption
  | (extract_lets +onlyGivenNames x; first
     | (refine (fun (hx : Evolves a_ x) => ?_) ?_; (on_goal 2 => subst x); (on_goal 1 => clear_value x))
     | (refine (fun (hx : Evolves a_ x.2) => ?_) ?_; (on_goal 2 => subst x); (on_goal 1 => clear_value x))
     | (refine (fun (hx : Evolves a_ x.1) => ?_) ?_; (on_goal 2 => subst x); (on_goal 1 => clear_value x))
     | (refine (fun (hx : Evolves a_ x.2.2) => ?_) ?_; (on_goal 2 => subst x); (on_goal 1 => clear_value x))
     | subst x | clear_value x)
  | with_reducible first | apply setBridge_ev
  | split
  | (with_reducible refine Evolves.lit ?_ ?_; (on_goal 2 => rfl)))

theorem bridgeOutput_ev (s : State) (c k : Nat) (bad : List Nat) {a_ : State} (h_ : Evolves a_ s) : Evolves a_ (bridgeOutput s c k bad) := by
  unfold bridgeOutput
  repeat' (first
  | with_reducible assumption
  | with_reducible refine Evolves.ite ?_ ?_
  | (extract_lets +onlyGivenNames x; first
     | (refine (fun (hx : Evolves a_ x) => ?_) ?_; (on_goal 2 => subst x); (on_goal 1 => clear_value x))
     | subst x | clear_value x)
  | with_reducible first | apply laneArrive_ev
  | split
  | (with_reducible refine Evolves.lit ?_ ?_; (on_goal 2 => rfl)))

theorem execChainAdd_ev (ch : Fin 4096) (c : Fin 16) (badUp badDn : Bool) (bad : List (Fin 65)) (st : State) : NextEv st (execChainAdd ch c badUp badDn bad st) := by
  have h_ := Evolves.refl st
  unfold execChainAdd
  repeat' (first
  | with_reducible assumption
  | with_reducible refine next_ev ?_
  | with_reducible refine Evolves.ite ?_ ?_
  | with_reducible first | apply next_ev | apply chainAdd_ev
  | split
  | (with_reducible refine Evolves.lit ?_ ?_; (on_goal 2 => rfl)))

theorem execBridgeOutput_ev (c : Fin 16) (k : Fin 32) (bad : List (Fin 65)) (st : State) : NextEv st (execBridgeOutput c k bad st) := by
  have h_ := Evolves.refl st
  unfold execBridgeOutput
  repeat' (first
  | with_reducible assumption
  | with_reducible refine next_ev ?_
  | with_reducible refine Evolves.ite ?_ ?_
  | with_reducible first | apply next_ev | apply bridgeOutput_ev
  | split
  | (with_reducible refine Evolves.lit ?_ ?_; (on_goal 2 => rfl)))

theorem execWellheadClose_ev (c : Fin 16) (st : State) : NextEv st (execWellheadClose c st) := by
  have h_ := Evolves.refl st
  unfold execWellheadClose
  repeat' (first
  | with_reducible assumption
  | with_reducible refine next_ev ?_
  | with_reducible first | apply welClose_ev
  | split
  | (with_reducible refine Evolves.lit ?_ ?_; (on_goal 2 => rfl)))

theorem execWellheadTap_ev (c : Fin 16) (e : Fin 32768) (second : Bool) (tbl : Ecc) (win : WindowFacts) (st : State) : NextEv st (execWellheadTap c e second tbl win st) := by
  have h_ := Evolves.refl st
  unfold execWellheadTap
  repeat' (first
  | with_reducible assumption
  | with_reducible refine next_ev ?_
  | with_reducible refine Evolves.ite ?_ ?_
  | with_reducible first | apply next_ev | apply welTap_ev
  | split
  | (with_reducible refine Evolves.lit ?_ ?_; (on_goal 2 => rfl)))

theorem execWellheadWriteSlot_ev (c : Fin 16) (line : Fin 1024) (ecc : Ecc) (st : State) : NextEv st (execWellheadWriteSlot c line ecc st) := by
  have h_ := Evolves.refl st
  unfold execWellheadWriteSlot
  repeat' (first
  | with_reducible assumption
  | with_reducible refine next_ev ?_
  | with_reducible first | apply welWriteSlot_ev
  | split
  | (with_reducible refine Evolves.lit ?_ ?_; (on_goal 2 => rfl)))

theorem execWellheadLaneDrive_ev (c : Fin 16) (lane : Fin 256) (bad : List (Fin 65)) (st : State) : NextEv st (execWellheadLaneDrive c lane bad st) := by
  have h_ := Evolves.refl st
  unfold execWellheadLaneDrive
  repeat' (first
  | with_reducible assumption
  | with_reducible refine next_ev ?_
  | with_reducible refine Evolves.ite ?_ ?_
  | with_reducible first | apply next_ev | apply welDrive_ev
  | split
  | (with_reducible refine Evolves.lit ?_ ?_; (on_goal 2 => rfl)))

theorem welEntIdx_ev (s : State) (c e : Nat) (wr rd : Bool) {a_ : State} (h_ : Evolves a_ s) : Evolves a_ (welEntIdx s c e wr rd) := by
  unfold welEntIdx
  repeat' (first
  | with_reducible assumption
  | with_reducible refine Evolves.ite ?_ ?_
  | (extract_lets +onlyGivenNames x; first
     | (refine (fun (hx : Evolves a_ x) => ?_) ?_; (on_goal 2 => subst x); (on_goal 1 => clear_value x))
     | (refine (fun (hx : Evolves a_ x.2) => ?_) ?_; (on_goal 2 => subst x); (on_goal 1 => clear_value x))
     | (refine (fun (hx : Evolves a_ x.1) => ?_) ?_; (on_goal 2 => subst x); (on_goal 1 => clear_value x))
     | (refine (fun (hx : Evolves a_ x.2.2) => ?_) ?_; (on_goal 2 => subst x); (on_goal 1 => clear_value x))
     | subst x | clear_value x)
  | with_reducible refine forEach_ev (fun _ _ hs => ?_) ?_ | with_reducible refine forN_ev (fun _ _ hs => ?_) ?_
  | with_reducible first | apply rput_ev | apply entPut_ev | apply rset_ev
  | (rename_i he; refine memberRefused_ev _ _ _ ?_ he)
  | split
  | (with_reducible refine Evolves.lit ?_ ?_; (on_goal 2 => rfl)))

theorem welLineWrite_ev (s : State) (c k : Nat) (v : W32) {a_ : State} (h_ : Evolves a_ s) : Evolves a_ (welLineWrite s c k v) := by
  unfold welLineWrite
  repeat' (first
  | with_reducible assumption
  | with_reducible refine Evolves.ite ?_ ?_
  | with_reducible first | apply linePut_ev
  | (rename_i he; refine memberRefused_ev _ _ _ ?_ he)
  | split
  | (with_reducible refine Evolves.lit ?_ ?_; (on_goal 2 => rfl)))

theorem welLdGo_ev (s : State) (c : Nat) {a_ : State} (h_ : Evolves a_ s) : Evolves a_ (welLdGo s c) := by
  unfold welLdGo
  repeat' (first
  | with_reducible assumption
  | with_reducible refine Evolves.ite ?_ ?_
  | (extract_lets +onlyGivenNames x; first
     | (refine (fun (hx : Evolves a_ x) => ?_) ?_; (on_goal 2 => subst x); (on_goal 1 => clear_value x))
     | (refine (fun (hx : Evolves a_ x.2) => ?_) ?_; (on_goal 2 => subst x); (on_goal 1 => clear_value x))
     | (refine (fun (hx : Evolves a_ x.1) => ?_) ?_; (on_goal 2 => subst x); (on_goal 1 => clear_value x))
     | (refine (fun (hx : Evolves a_ x.2.2) => ?_) ?_; (on_goal 2 => subst x); (on_goal 1 => clear_value x))
     | subst x | clear_value x)
  | with_reducible first | apply evRaise_ev | apply rput_ev | apply rsetBit_ev
  | split
  | (with_reducible refine Evolves.lit ?_ ?_; (on_goal 2 => rfl)))

theorem welLoadLoop_ev (n : Nat) (s : State) (c src e j : Nat) (bad : Option Nat) {a_ : State} (h_ : Evolves a_ s) : Evolves a_ (welLoadLoop n s c src e j bad).1 := by
  induction n generalizing s c src e j bad with
  | zero => rw [welLoadLoop]; exact h_
  | succ _ ih =>
  rw [welLoadLoop]
  repeat' (first
  | with_reducible assumption
  | with_reducible refine Evolves.ite ?_ ?_
  | (extract_lets +onlyGivenNames x; first
     | (refine (fun (hx : Evolves a_ x) => ?_) ?_; (on_goal 2 => subst x); (on_goal 1 => clear_value x))
     | (refine (fun (hx : Evolves a_ x.2) => ?_) ?_; (on_goal 2 => subst x); (on_goal 1 => clear_value x))
     | (refine (fun (hx : Evolves a_ x.1) => ?_) ?_; (on_goal 2 => subst x); (on_goal 1 => clear_value x))
     | (refine (fun (hx : Evolves a_ x.2.2) => ?_) ?_; (on_goal 2 => subst x); (on_goal 1 => clear_value x))
     | subst x | clear_value x)
  | with_reducible first | apply entPut_ev
  | (rename_i he; refine memberRefused_ev _ _ _ ?_ he)
  | with_reducible apply ih
  | split
  | (with_reducible refine Evolves.lit ?_ ?_; (on_goal 2 => rfl)))

theorem welLoadDone_ev (s : State) (c : Nat) (bad : Option Nat) {a_ : State} (h_ : Evolves a_ s) : Evolves a_ (welLoadDone s c bad) := by
  unfold welLoadDone
  repeat' (first
  | with_reducible assumption
  | with_reducible refine Evolves.ite ?_ ?_
  | (extract_lets +onlyGivenNames x; first
     | (refine (fun (hx : Evolves a_ x) => ?_) ?_; (on_goal 2 => subst x); (on_goal 1 => clear_value x))
     | (refine (fun (hx : Evolves a_ x.2) => ?_) ?_; (on_goal 2 => subst x); (on_goal 1 => clear_value x))
     | (refine (fun (hx : Evolves a_ x.1) => ?_) ?_; (on_goal 2 => subst x); (on_goal 1 => clear_value x))
     | (refine (fun (hx : Evolves a_ x.2.2) => ?_) ?_; (on_goal 2 => subst x); (on_goal 1 => clear_value x))
     | subst x | clear_value x)
  | with_reducible first | apply welLoadLoop_ev | apply cisDouble_ev | apply evRaise_ev | apply rput_ev | apply rputBit_ev
  | split
  | (with_reducible refine Evolves.lit ?_ ?_; (on_goal 2 => rfl)))

theorem welRunIdx_ev (s : State) (c e : Nat) (cap : Bool) {a_ : State} (h_ : Evolves a_ s) : Evolves a_ (welRunIdx s c e cap) := by
  unfold welRunIdx
  repeat' (first
  | with_reducible assumption
  | with_reducible refine Evolves.ite ?_ ?_
  | (extract_lets +onlyGivenNames x; first
     | (refine (fun (hx : Evolves a_ x) => ?_) ?_; (on_goal 2 => subst x); (on_goal 1 => clear_value x))
     | subst x | clear_value x)
  | with_reducible first | apply rput_ev | apply rputBit_ev
  | split
  | (with_reducible refine Evolves.lit ?_ ?_; (on_goal 2 => rfl)))

theorem execWelEntWr_ev (c : Fin 16) (e : Fin 32768) (st : State) : NextEv st (execWelEntWr c e st) := by
  have h_ := Evolves.refl st
  unfold execWelEntWr
  repeat' (first
  | with_reducible assumption
  | with_reducible refine next_ev ?_
  | with_reducible first | apply welEntIdx_ev
  | split
  | (with_reducible refine Evolves.lit ?_ ?_; (on_goal 2 => rfl)))

theorem execWelEntRd_ev (c : Fin 16) (e : Fin 32768) (st : State) : NextEv st (execWelEntRd c e st) := by
  have h_ := Evolves.refl st
  unfold execWelEntRd
  repeat' (first
  | with_reducible assumption
  | with_reducible refine next_ev ?_
  | with_reducible first | apply welEntIdx_ev
  | split
  | (with_reducible refine Evolves.lit ?_ ?_; (on_goal 2 => rfl)))

theorem execWelLineWrite_ev (c : Fin 16) (k : Fin 1024) (v : W32) (st : State) : NextEv st (execWelLineWrite c k v st) := by
  have h_ := Evolves.refl st
  unfold execWelLineWrite
  repeat' (first
  | with_reducible assumption
  | with_reducible refine next_ev ?_
  | with_reducible first | apply welLineWrite_ev
  | split
  | (with_reducible refine Evolves.lit ?_ ?_; (on_goal 2 => rfl)))

theorem execWelLdGo_ev (c : Fin 16) (st : State) : NextEv st (execWelLdGo c st) := by
  have h_ := Evolves.refl st
  unfold execWelLdGo
  repeat' (first
  | with_reducible assumption
  | with_reducible refine next_ev ?_
  | with_reducible first | apply welLdGo_ev
  | split
  | (with_reducible refine Evolves.lit ?_ ?_; (on_goal 2 => rfl)))

theorem execWelLoadDone_ev (c : Fin 16) (bad : Option (Fin 65536)) (st : State) : NextEv st (execWelLoadDone c bad st) := by
  have h_ := Evolves.refl st
  unfold execWelLoadDone
  repeat' (first
  | with_reducible assumption
  | with_reducible refine next_ev ?_
  | with_reducible first | apply welLoadDone_ev
  | split
  | (with_reducible refine Evolves.lit ?_ ?_; (on_goal 2 => rfl)))

theorem execWelRunCapture_ev (c : Fin 16) (e : Fin 32768) (st : State) : NextEv st (execWelRunCapture c e st) := by
  have h_ := Evolves.refl st
  unfold execWelRunCapture
  repeat' (first
  | with_reducible assumption
  | with_reducible refine next_ev ?_
  | with_reducible first | apply welRunIdx_ev
  | split
  | (with_reducible refine Evolves.lit ?_ ?_; (on_goal 2 => rfl)))

end Sys2Proof.Machine
end

