-- ==== Sys2Proof/Laws/Ev/Commit.lean ====
section
/-! SUPPORT. Each operation of Machine/Commit.lean only evolves the state it is given. -/

set_option linter.unreachableTactic false
set_option linter.unusedTactic false
set_option linter.tactic.unusedName false

namespace Sys2Proof.Machine

theorem clearMarks_ev (s : State) (k lo n : Nat) {a_ : State} (h_ : Evolves a_ s) : Evolves a_ (clearMarks s k lo n) := by
  unfold clearMarks
  repeat' (first
  | with_reducible assumption
  | (extract_lets +onlyGivenNames x; first
     | (refine (fun (hx : Evolves a_ x) => ?_) ?_; (on_goal 2 => subst x); (on_goal 1 => clear_value x))
     | subst x | clear_value x)
  | split
  | (with_reducible refine Evolves.lit ?_ ?_; (on_goal 2 => rfl))
  | (with_reducible refine Evolves.litMem ?_ ?_ ?_ ?_ ?_; (on_goal 2 => rfl); (on_goal 2 => first | (with_reducible first | exact id | exact mwf_mset _ _ _ _ | exact mwf_mputRange _ _ _ _ _ | exact mwf_mclearRange _ _ _ _ | exact mwf_mcopyRange _ _ _ _ _ _) | exact fun _ => rfl | exact mwf_mclearRange _ _ _ _);
     (on_goal 2 => first | (with_reducible first | exact id | exact mwf_mset _ _ _ _ | exact mwf_mputRange _ _ _ _ _ | exact mwf_mclearRange _ _ _ _ | exact mwf_mcopyRange _ _ _ _ _ _) | exact fun _ => rfl | exact mwf_mclearRange _ _ _ _);
     (on_goal 2 => first | (with_reducible first | exact id | exact mwf_mset _ _ _ _ | exact mwf_mputRange _ _ _ _ _ | exact mwf_mclearRange _ _ _ _ | exact mwf_mcopyRange _ _ _ _ _ _) | exact fun _ => rfl | exact mwf_mclearRange _ _ _ _)))

theorem cmtRecord_ev (s : State) (r : CmtRec) {a_ : State} (h_ : Evolves a_ s) : Evolves a_ (cmtRecord s r) := by
  unfold cmtRecord
  split
  · exact rinc_ev _ _ _ _ (rsetBit_ev _ _ _ h_)
  · rename_i h
    refine evRaise_ev _ _ (h_.trans ⟨rfl, le_refl _, le_refl _, List.prefix_refl _, id, fun _ => ?_, id, id, id, id, id⟩)
    simp only [List.length_append, List.length_singleton]; omega

theorem cmtResolve_ev (s : State) (g : Nat) {a_ : State} (h_ : Evolves a_ s) : Evolves a_ (cmtResolve s g) := by
  unfold cmtResolve
  repeat' (first
  | with_reducible assumption
  | with_reducible refine Evolves.ite ?_ ?_
  | (extract_lets +onlyGivenNames x; first
     | (refine (fun (hx : Evolves a_ x) => ?_) ?_; (on_goal 2 => subst x); (on_goal 1 => clear_value x))
     | (refine (fun (hx : Evolves a_ x.st) => ?_) ?_; (on_goal 2 => subst x); (on_goal 1 => clear_value x))
     | subst x | clear_value x)
  | with_reducible first | apply setGroup_ev
  | split
  | (with_reducible refine Evolves.lit ?_ ?_; (on_goal 2 => rfl)))

theorem cmtResolveAll_ev (s : State) {a_ : State} (h_ : Evolves a_ s) : Evolves a_ (cmtResolveAll s) := by
  unfold cmtResolveAll
  repeat' (first
  | with_reducible assumption
  | with_reducible refine forEach_ev (fun _ _ hs => ?_) ?_ | with_reducible refine forN_ev (fun _ _ hs => ?_) ?_
  | with_reducible first | apply cmtResolve_ev
  | split
  | (with_reducible refine Evolves.lit ?_ ?_; (on_goal 2 => rfl)))

theorem cmtWaiters_ev (s : State) (g result reason : Nat) (r : CmtRec) (b : Nat) {a_ : State} (h_ : Evolves a_ s) : Evolves a_ (cmtWaiters s g result reason r b) := by
  unfold cmtWaiters
  repeat' (first
  | with_reducible assumption
  | (extract_lets +onlyGivenNames x; first
     | (refine (fun (hx : Evolves a_ x) => ?_) ?_; (on_goal 2 => subst x); (on_goal 1 => clear_value x))
     | (refine (fun (hx : Evolves a_ x.st) => ?_) ?_; (on_goal 2 => subst x); (on_goal 1 => clear_value x))
     | subst x | clear_value x)
  | with_reducible refine forEach_ev (fun _ _ hs => ?_) ?_ | with_reducible refine forN_ev (fun _ _ hs => ?_) ?_
  | with_reducible first | apply opEnd_ev
  | split
  | (with_reducible refine Evolves.lit ?_ ?_; (on_goal 2 => rfl)))

theorem groupResult_ev (s : State) (g result reason m code : Nat) (fence : Bool) {a_ : State} (h_ : Evolves a_ s) : Evolves a_ (groupResult s g result reason m code fence) := by
  unfold groupResult
  repeat' (first
  | with_reducible assumption
  | with_reducible refine Evolves.ite ?_ ?_
  | (extract_lets +onlyGivenNames x; first
     | (refine (fun (hx : Evolves a_ x) => ?_) ?_; (on_goal 2 => subst x); (on_goal 1 => clear_value x))
     | subst x | clear_value x)
  | with_reducible first | apply setGroup_ev | apply cisGroupDiscard_ev | apply cmtWaiters_ev | apply cmtRecord_ev
  | split
  | (with_reducible refine Evolves.lit ?_ ?_; (on_goal 2 => rfl)))

theorem cmtReconvert_ev (s : State) {a_ : State} (h_ : Evolves a_ s) : Evolves a_ (cmtReconvert s) := by
  unfold cmtReconvert
  repeat' (first
  | with_reducible assumption
  | with_reducible refine Evolves.ite ?_ ?_
  | (extract_lets +onlyGivenNames x; first
     | (refine (fun (hx : Evolves a_ x) => ?_) ?_; (on_goal 2 => subst x); (on_goal 1 => clear_value x))
     | (refine (fun (hx : Evolves a_ x.2) => ?_) ?_; (on_goal 2 => subst x); (on_goal 1 => clear_value x))
     | (refine (fun (hx : Evolves a_ x.1) => ?_) ?_; (on_goal 2 => subst x); (on_goal 1 => clear_value x))
     | (refine (fun (hx : Evolves a_ x.2.2) => ?_) ?_; (on_goal 2 => subst x); (on_goal 1 => clear_value x))
     | subst x | clear_value x)
  | with_reducible refine forEach_ev (fun _ _ hs => ?_) ?_ | with_reducible refine forN_ev (fun _ _ hs => ?_) ?_
  | with_reducible first | apply setGroup_ev
  | split
  | (with_reducible refine Evolves.lit ?_ ?_; (on_goal 2 => rfl)))

theorem revalidate_ev (s : State) (g : Nat) {a_ : State} (h_ : Evolves a_ s) : Evolves a_ (revalidate s g) := by
  unfold revalidate
  repeat' (first
  | with_reducible assumption
  | with_reducible refine Evolves.ite ?_ ?_
  | (extract_lets +onlyGivenNames x; first
     | (refine (fun (hx : Evolves a_ x) => ?_) ?_; (on_goal 2 => subst x); (on_goal 1 => clear_value x))
     | (refine (fun (hx : Evolves a_ x.st) => ?_) ?_; (on_goal 2 => subst x); (on_goal 1 => clear_value x))
     | (refine (fun (hx : Evolves a_ x.1.st) => ?_) ?_; (on_goal 2 => subst x); (on_goal 1 => clear_value x))
     | (refine (fun (hx : Evolves a_ x.2) => ?_) ?_; (on_goal 2 => subst x); (on_goal 1 => clear_value x))
     | (refine (fun (hx : Evolves a_ x.1) => ?_) ?_; (on_goal 2 => subst x); (on_goal 1 => clear_value x))
     | (refine (fun (hx : Evolves a_ x.2.2) => ?_) ?_; (on_goal 2 => subst x); (on_goal 1 => clear_value x))
     | subst x | clear_value x)
  | with_reducible refine forEach_ev (fun _ _ hs => ?_) ?_ | with_reducible refine forN_ev (fun _ _ hs => ?_) ?_
  | with_reducible first | apply setGroup_ev
  | split
  | (with_reducible refine Evolves.lit ?_ ?_; (on_goal 2 => rfl)))

theorem groupArm_ev (s : State) (g : Nat) {a_ : State} (h_ : Evolves a_ s) : Evolves a_ (groupArm s g) := by
  unfold groupArm
  repeat' (first
  | with_reducible assumption
  | with_reducible refine Evolves.ite ?_ ?_
  | (extract_lets +onlyGivenNames x; first
     | (refine (fun (hx : Evolves a_ x) => ?_) ?_; (on_goal 2 => subst x); (on_goal 1 => clear_value x))
     | (refine (fun (hx : Evolves a_ x.st) => ?_) ?_; (on_goal 2 => subst x); (on_goal 1 => clear_value x))
     | subst x | clear_value x)
  | with_reducible first | apply setGroup_ev
  | split
  | (with_reducible refine Evolves.lit ?_ ?_; (on_goal 2 => rfl)))

theorem groupCancel_ev (s : State) (g : Nat) {a_ : State} (h_ : Evolves a_ s) : Evolves a_ (groupCancel s g) := by
  unfold groupCancel
  repeat' (first
  | with_reducible assumption
  | with_reducible refine Evolves.ite ?_ ?_
  | (extract_lets +onlyGivenNames x; first
     | (refine (fun (hx : Evolves a_ x) => ?_) ?_; (on_goal 2 => subst x); (on_goal 1 => clear_value x))
     | (refine (fun (hx : Evolves a_ x.st) => ?_) ?_; (on_goal 2 => subst x); (on_goal 1 => clear_value x))
     | subst x | clear_value x)
  | with_reducible first | apply setGroup_ev | apply revalidate_ev | apply groupResult_ev
  | split
  | (with_reducible refine Evolves.lit ?_ ?_; (on_goal 2 => rfl)))

theorem groupDeadline_ev (s : State) (g : Nat) {a_ : State} (h_ : Evolves a_ s) : Evolves a_ (groupDeadline s g) := by
  unfold groupDeadline
  repeat' (first
  | with_reducible assumption
  | with_reducible refine Evolves.ite ?_ ?_
  | (extract_lets +onlyGivenNames x; first
     | (refine (fun (hx : Evolves a_ x) => ?_) ?_; (on_goal 2 => subst x); (on_goal 1 => clear_value x))
     | (refine (fun (hx : Evolves a_ x.st) => ?_) ?_; (on_goal 2 => subst x); (on_goal 1 => clear_value x))
     | subst x | clear_value x)
  | with_reducible first | apply revalidate_ev | apply groupResult_ev | apply setGroup_ev
  | split
  | (with_reducible refine Evolves.lit ?_ ?_; (on_goal 2 => rfl)))

theorem memAdd_ev (s : State) (g m : Nat) {a_ : State} (h_ : Evolves a_ s) : Evolves a_ (memAdd s g m).2 := by
  unfold memAdd
  repeat' (first
  | with_reducible assumption
  | with_reducible refine Evolves.ite ?_ ?_
  | (extract_lets +onlyGivenNames x; first
     | (refine (fun (hx : Evolves a_ x) => ?_) ?_; (on_goal 2 => subst x); (on_goal 1 => clear_value x))
     | (refine (fun (hx : Evolves a_ x.st) => ?_) ?_; (on_goal 2 => subst x); (on_goal 1 => clear_value x))
     | (refine (fun (hx : Evolves a_ x.1.st) => ?_) ?_; (on_goal 2 => subst x); (on_goal 1 => clear_value x))
     | (refine (fun (hx : Evolves a_ x.2) => ?_) ?_; (on_goal 2 => subst x); (on_goal 1 => clear_value x))
     | (refine (fun (hx : Evolves a_ x.1) => ?_) ?_; (on_goal 2 => subst x); (on_goal 1 => clear_value x))
     | (refine (fun (hx : Evolves a_ x.2.2) => ?_) ?_; (on_goal 2 => subst x); (on_goal 1 => clear_value x))
     | subst x | clear_value x)
  | with_reducible first | apply setGroup_ev
  | split
  | (with_reducible refine Evolves.lit ?_ ?_; (on_goal 2 => rfl))
  | (with_reducible refine Evolves.litMem ?_ ?_ ?_ ?_ ?_; (on_goal 2 => rfl); (on_goal 2 => first | (with_reducible first | exact id | exact mwf_mset _ _ _ _ | exact mwf_mputRange _ _ _ _ _ | exact mwf_mclearRange _ _ _ _ | exact mwf_mcopyRange _ _ _ _ _ _) | exact fun _ => rfl | exact mwf_mclearRange _ _ _ _);
     (on_goal 2 => first | (with_reducible first | exact id | exact mwf_mset _ _ _ _ | exact mwf_mputRange _ _ _ _ _ | exact mwf_mclearRange _ _ _ _ | exact mwf_mcopyRange _ _ _ _ _ _) | exact fun _ => rfl | exact mwf_mclearRange _ _ _ _);
     (on_goal 2 => first | (with_reducible first | exact id | exact mwf_mset _ _ _ _ | exact mwf_mputRange _ _ _ _ _ | exact mwf_mclearRange _ _ _ _ | exact mwf_mcopyRange _ _ _ _ _ _) | exact fun _ => rfl | exact mwf_mclearRange _ _ _ _)))

theorem memRem_ev (s : State) (g m : Nat) {a_ : State} (h_ : Evolves a_ s) : Evolves a_ (memRem s g m).2 := by
  unfold memRem
  repeat' (first
  | with_reducible assumption
  | with_reducible refine Evolves.ite ?_ ?_
  | (extract_lets +onlyGivenNames x; first
     | (refine (fun (hx : Evolves a_ x) => ?_) ?_; (on_goal 2 => subst x); (on_goal 1 => clear_value x))
     | (refine (fun (hx : Evolves a_ x.st) => ?_) ?_; (on_goal 2 => subst x); (on_goal 1 => clear_value x))
     | subst x | clear_value x)
  | with_reducible first | apply setGroup_ev
  | split
  | (with_reducible refine Evolves.lit ?_ ?_; (on_goal 2 => rfl))
  | (with_reducible refine Evolves.litMem ?_ ?_ ?_ ?_ ?_; (on_goal 2 => rfl); (on_goal 2 => first | (with_reducible first | exact id | exact mwf_mset _ _ _ _ | exact mwf_mputRange _ _ _ _ _ | exact mwf_mclearRange _ _ _ _ | exact mwf_mcopyRange _ _ _ _ _ _) | exact fun _ => rfl | exact mwf_mclearRange _ _ _ _);
     (on_goal 2 => first | (with_reducible first | exact id | exact mwf_mset _ _ _ _ | exact mwf_mputRange _ _ _ _ _ | exact mwf_mclearRange _ _ _ _ | exact mwf_mcopyRange _ _ _ _ _ _) | exact fun _ => rfl | exact mwf_mclearRange _ _ _ _);
     (on_goal 2 => first | (with_reducible first | exact id | exact mwf_mset _ _ _ _ | exact mwf_mputRange _ _ _ _ _ | exact mwf_mclearRange _ _ _ _ | exact mwf_mcopyRange _ _ _ _ _ _) | exact fun _ => rfl | exact mwf_mclearRange _ _ _ _)))

theorem memCtl_ev (s : State) (kind g id : Nat) (add : Bool) {a_ : State} (h_ : Evolves a_ s) : Evolves a_ (memCtl s kind g id add) := by
  unfold memCtl
  repeat' (first
  | with_reducible assumption
  | with_reducible refine Evolves.ite ?_ ?_
  | (extract_lets +onlyGivenNames x; first
     | (refine (fun (hx : Evolves a_ x) => ?_) ?_; (on_goal 2 => subst x); (on_goal 1 => clear_value x))
     | (refine (fun (hx : Evolves a_ x.2) => ?_) ?_; (on_goal 2 => subst x); (on_goal 1 => clear_value x))
     | (refine (fun (hx : Evolves a_ x.1) => ?_) ?_; (on_goal 2 => subst x); (on_goal 1 => clear_value x))
     | (refine (fun (hx : Evolves a_ x.2.2) => ?_) ?_; (on_goal 2 => subst x); (on_goal 1 => clear_value x))
     | subst x | clear_value x)
  | with_reducible first | apply rput_ev | apply memAdd_ev | apply memRem_ev | apply rputBit_ev
  | split
  | (with_reducible refine Evolves.lit ?_ ?_; (on_goal 2 => rfl)))

theorem glideStep_ev (s : State) (l : Nat) {a_ : State} (h_ : Evolves a_ s) : Evolves a_ (glideStep s l) := by
  unfold glideStep
  repeat' (first
  | with_reducible assumption
  | with_reducible refine Evolves.ite ?_ ?_
  | (extract_lets +onlyGivenNames x; first
     | (refine (fun (hx : Evolves a_ x) => ?_) ?_; (on_goal 2 => subst x); (on_goal 1 => clear_value x))
     | (refine (fun (hx : Evolves a_ x.2) => ?_) ?_; (on_goal 2 => subst x); (on_goal 1 => clear_value x))
     | (refine (fun (hx : Evolves a_ x.1) => ?_) ?_; (on_goal 2 => subst x); (on_goal 1 => clear_value x))
     | (refine (fun (hx : Evolves a_ x.2.2) => ?_) ?_; (on_goal 2 => subst x); (on_goal 1 => clear_value x))
     | subst x | clear_value x)
  | with_reducible refine forEach_ev (fun _ _ hs => ?_) ?_ | with_reducible refine forN_ev (fun _ _ hs => ?_) ?_
  | with_reducible first | apply cellPut_ev | apply onCmtCell_ev
  | split
  | (with_reducible refine Evolves.lit ?_ ?_; (on_goal 2 => rfl)))

theorem coefSwap_ev (s : State) (l : Nat) {a_ : State} (h_ : Evolves a_ s) : Evolves a_ (coefSwap s l) := by
  unfold coefSwap
  repeat' (first
  | with_reducible assumption
  | with_reducible refine Evolves.ite ?_ ?_
  | (extract_lets +onlyGivenNames x; first
     | (refine (fun (hx : Evolves a_ x) => ?_) ?_; (on_goal 2 => subst x); (on_goal 1 => clear_value x))
     | (refine (fun (hx : Evolves a_ x.2) => ?_) ?_; (on_goal 2 => subst x); (on_goal 1 => clear_value x))
     | (refine (fun (hx : Evolves a_ x.1) => ?_) ?_; (on_goal 2 => subst x); (on_goal 1 => clear_value x))
     | (refine (fun (hx : Evolves a_ x.2.2) => ?_) ?_; (on_goal 2 => subst x); (on_goal 1 => clear_value x))
     | subst x | clear_value x)
  | with_reducible refine forEach_ev (fun _ _ hs => ?_) ?_ | with_reducible refine forN_ev (fun _ _ hs => ?_) ?_
  | with_reducible first | apply onCmtCell_ev | apply cellPut_ev | apply clearMarks_ev | apply rput_ev
  | split
  | (with_reducible refine Evolves.lit ?_ ?_; (on_goal 2 => rfl)))

theorem showPage_ev (s : State) (k : Nat) {a_ : State} (h_ : Evolves a_ s) : Evolves a_ (showPage s k) := by
  unfold showPage
  repeat' (first
  | with_reducible assumption
  | (extract_lets +onlyGivenNames x; first
     | (refine (fun (hx : Evolves a_ x) => ?_) ?_; (on_goal 2 => subst x); (on_goal 1 => clear_value x))
     | subst x | clear_value x)
  | with_reducible first | apply rput_ev | apply rputBit_ev | apply rset_ev
  | split
  | (with_reducible refine Evolves.lit ?_ ?_; (on_goal 2 => rfl)))

theorem blockRestart_ev (s : State) (k : Nat) {a_ : State} (h_ : Evolves a_ s) : Evolves a_ (blockRestart s k) := by
  unfold blockRestart
  repeat' (first
  | with_reducible assumption
  | with_reducible refine Evolves.ite ?_ ?_
  | (extract_lets +onlyGivenNames x; first
     | (refine (fun (hx : Evolves a_ x) => ?_) ?_; (on_goal 2 => subst x); (on_goal 1 => clear_value x))
     | subst x | clear_value x)
  | with_reducible first | apply blockFresh_ev | apply setBstate_ev | apply onCell_ev
  | split
  | (with_reducible refine Evolves.lit ?_ ?_; (on_goal 2 => rfl)))

theorem progSwap_ev (s : State) (l : Nat) {a_ : State} (h_ : Evolves a_ s) : Evolves a_ (progSwap s l) := by
  unfold progSwap
  repeat' (first
  | with_reducible assumption
  | with_reducible refine Evolves.ite ?_ ?_
  | (extract_lets +onlyGivenNames x; first
     | (refine (fun (hx : Evolves a_ x) => ?_) ?_; (on_goal 2 => subst x); (on_goal 1 => clear_value x))
     | subst x | clear_value x)
  | with_reducible refine forEach_ev (fun _ _ hs => ?_) ?_ | with_reducible refine forN_ev (fun _ _ hs => ?_) ?_
  | with_reducible first | apply clearMarks_ev | apply rput_ev | apply onCmtCell_ev | apply blockRestart_ev | apply showPage_ev
  | split
  | (with_reducible refine Evolves.lit ?_ ?_; (on_goal 2 => rfl)))

theorem asgSwap_ev (s : State) (l : Nat) (a : Bool) {a_ : State} (h_ : Evolves a_ s) : Evolves a_ (asgSwap s l a) := by
  unfold asgSwap
  repeat' (first
  | with_reducible assumption
  | with_reducible refine Evolves.ite ?_ ?_
  | (extract_lets +onlyGivenNames x; first
     | (refine (fun (hx : Evolves a_ x) => ?_) ?_; (on_goal 2 => subst x); (on_goal 1 => clear_value x))
     | (refine (fun (hx : Evolves a_ x.2) => ?_) ?_; (on_goal 2 => subst x); (on_goal 1 => clear_value x))
     | (refine (fun (hx : Evolves a_ x.1) => ?_) ?_; (on_goal 2 => subst x); (on_goal 1 => clear_value x))
     | (refine (fun (hx : Evolves a_ x.2.2) => ?_) ?_; (on_goal 2 => subst x); (on_goal 1 => clear_value x))
     | subst x | clear_value x)
  | with_reducible first | apply onCmtCell_ev | apply rput_ev | apply setSlotState_ev | apply rputBit_ev | apply setBstate_ev | apply onCell_ev
  | split
  | (with_reducible refine Evolves.lit ?_ ?_; (on_goal 2 => rfl)))

theorem cellSwap_ev (s : State) (l : Nat) {a_ : State} (h_ : Evolves a_ s) : Evolves a_ (cellSwap s l) := by
  unfold cellSwap
  repeat' (first
  | with_reducible assumption
  | with_reducible refine Evolves.ite ?_ ?_
  | (extract_lets +onlyGivenNames x; first
     | (refine (fun (hx : Evolves a_ x) => ?_) ?_; (on_goal 2 => subst x); (on_goal 1 => clear_value x))
     | (refine (fun (hx : Evolves a_ x.2) => ?_) ?_; (on_goal 2 => subst x); (on_goal 1 => clear_value x))
     | (refine (fun (hx : Evolves a_ x.1) => ?_) ?_; (on_goal 2 => subst x); (on_goal 1 => clear_value x))
     | (refine (fun (hx : Evolves a_ x.2.2) => ?_) ?_; (on_goal 2 => subst x); (on_goal 1 => clear_value x))
     | subst x | clear_value x)
  | with_reducible first | apply onCmtCell_ev | apply asgSwap_ev | apply coefSwap_ev | apply progSwap_ev
  | split
  | (with_reducible refine Evolves.lit ?_ ?_; (on_goal 2 => rfl)))

theorem tableSwap_ev (s : State) (c : Nat) {a_ : State} (h_ : Evolves a_ s) : Evolves a_ (tableSwap s c) := by
  unfold tableSwap
  repeat' (first
  | with_reducible assumption
  | with_reducible refine Evolves.ite ?_ ?_
  | (extract_lets +onlyGivenNames x; first
     | (refine (fun (hx : Evolves a_ x) => ?_) ?_; (on_goal 2 => subst x); (on_goal 1 => clear_value x))
     | (refine (fun (hx : Evolves a_ x.2) => ?_) ?_; (on_goal 2 => subst x); (on_goal 1 => clear_value x))
     | (refine (fun (hx : Evolves a_ x.1) => ?_) ?_; (on_goal 2 => subst x); (on_goal 1 => clear_value x))
     | (refine (fun (hx : Evolves a_ x.2.2) => ?_) ?_; (on_goal 2 => subst x); (on_goal 1 => clear_value x))
     | subst x | clear_value x)
  | with_reducible refine forEach_ev (fun _ _ hs => ?_) ?_ | with_reducible refine forN_ev (fun _ _ hs => ?_) ?_
  | with_reducible first | apply rput_ev | apply rsetBit_ev
  | split
  | (with_reducible refine Evolves.lit ?_ ?_; (on_goal 2 => rfl)))

theorem portSwap_ev (s : State) (p : Nat) {a_ : State} (h_ : Evolves a_ s) : Evolves a_ (portSwap s p) := by
  unfold portSwap
  repeat' (first
  | with_reducible assumption
  | with_reducible refine Evolves.ite ?_ ?_
  | (extract_lets +onlyGivenNames x; first
     | (refine (fun (hx : Evolves a_ x) => ?_) ?_; (on_goal 2 => subst x); (on_goal 1 => clear_value x))
     | subst x | clear_value x)
  | with_reducible refine foldl_ev (fun _ _ hs => ?_) ?_ | with_reducible refine foldl_snd_ev (fun _ _ hs => ?_) ?_
  | with_reducible refine foldl_fst_ev (fun _ _ hs => ?_) ?_ | with_reducible refine foldl_snd2_ev (fun _ _ hs => ?_) ?_
  | split
  | (with_reducible refine Evolves.lit ?_ ?_; (on_goal 2 => rfl)))

theorem memberSwap_ev (s : State) (m : Nat) {a_ : State} (h_ : Evolves a_ s) : Evolves a_ (memberSwap s m) := by
  unfold memberSwap
  repeat' (first
  | with_reducible assumption
  | (extract_lets +onlyGivenNames x; first
     | (refine (fun (hx : Evolves a_ x) => ?_) ?_; (on_goal 2 => subst x); (on_goal 1 => clear_value x))
     | subst x | clear_value x)
  | with_reducible first | apply cellSwap_ev | apply tableSwap_ev | apply glcSwap_ev | apply welSwap_ev | apply portSwap_ev
  | split
  | (with_reducible refine Evolves.lit ?_ ?_; (on_goal 2 => rfl)))

theorem attSwap_ev (s : State) (key : Nat) (v : W64) {a_ : State} (h_ : Evolves a_ s) : Evolves a_ (attSwap s key v) := by
  unfold attSwap
  repeat' (first
  | with_reducible assumption
  | with_reducible refine Evolves.ite ?_ ?_
  | (extract_lets +onlyGivenNames x; first
     | (refine (fun (hx : Evolves a_ x) => ?_) ?_; (on_goal 2 => subst x); (on_goal 1 => clear_value x))
     | subst x | clear_value x)
  | split
  | (with_reducible refine Evolves.lit ?_ ?_; (on_goal 2 => rfl)))

theorem setDom_ev (s : State) (c v : Nat) {a_ : State} (h_ : Evolves a_ s) : Evolves a_ (setDom s c v) := by
  unfold setDom
  repeat' (first
  | with_reducible assumption
  | with_reducible first | apply rput_ev
  | split
  | (with_reducible refine Evolves.lit ?_ ?_; (on_goal 2 => rfl)))

theorem pendSwap_ev (s : State) (g : Nat) {a_ : State} (h_ : Evolves a_ s) : Evolves a_ (pendSwap s g) := by
  unfold pendSwap
  repeat' (first
  | with_reducible assumption
  | (extract_lets +onlyGivenNames x; first
     | (refine (fun (hx : Evolves a_ x) => ?_) ?_; (on_goal 2 => subst x); (on_goal 1 => clear_value x))
     | (refine (fun (hx : Evolves a_ x.2) => ?_) ?_; (on_goal 2 => subst x); (on_goal 1 => clear_value x))
     | (refine (fun (hx : Evolves a_ x.1) => ?_) ?_; (on_goal 2 => subst x); (on_goal 1 => clear_value x))
     | (refine (fun (hx : Evolves a_ x.2.2) => ?_) ?_; (on_goal 2 => subst x); (on_goal 1 => clear_value x))
     | subst x | clear_value x)
  | with_reducible refine forEach_ev (fun _ _ hs => ?_) ?_ | with_reducible refine forN_ev (fun _ _ hs => ?_) ?_
  | with_reducible first | apply attSwap_ev | apply setGroup_ev
  | split
  | (with_reducible refine Evolves.lit ?_ ?_; (on_goal 2 => rfl))
  | (with_reducible refine Evolves.litMem ?_ ?_ ?_ ?_ ?_; (on_goal 2 => rfl); (on_goal 2 => first | (with_reducible first | exact id | exact mwf_mset _ _ _ _ | exact mwf_mputRange _ _ _ _ _ | exact mwf_mclearRange _ _ _ _ | exact mwf_mcopyRange _ _ _ _ _ _) | exact fun _ => rfl | exact mwf_mclearRange _ _ _ _);
     (on_goal 2 => first | (with_reducible first | exact id | exact mwf_mset _ _ _ _ | exact mwf_mputRange _ _ _ _ _ | exact mwf_mclearRange _ _ _ _ | exact mwf_mcopyRange _ _ _ _ _ _) | exact fun _ => rfl | exact mwf_mclearRange _ _ _ _);
     (on_goal 2 => first | (with_reducible first | exact id | exact mwf_mset _ _ _ _ | exact mwf_mputRange _ _ _ _ _ | exact mwf_mclearRange _ _ _ _ | exact mwf_mcopyRange _ _ _ _ _ _) | exact fun _ => rfl | exact mwf_mclearRange _ _ _ _)))

theorem pendOwners_ev (s : State) (g : Nat) {a_ : State} (h_ : Evolves a_ s) : Evolves a_ (pendOwners s g) := by
  unfold pendOwners
  repeat' (first
  | with_reducible assumption
  | (extract_lets +onlyGivenNames x; first
     | (refine (fun (hx : Evolves a_ x) => ?_) ?_; (on_goal 2 => subst x); (on_goal 1 => clear_value x))
     | (refine (fun (hx : Evolves a_ x.2) => ?_) ?_; (on_goal 2 => subst x); (on_goal 1 => clear_value x))
     | (refine (fun (hx : Evolves a_ x.1) => ?_) ?_; (on_goal 2 => subst x); (on_goal 1 => clear_value x))
     | (refine (fun (hx : Evolves a_ x.2.2) => ?_) ?_; (on_goal 2 => subst x); (on_goal 1 => clear_value x))
     | subst x | clear_value x)
  | with_reducible refine forEach_ev (fun _ _ hs => ?_) ?_ | with_reducible refine forN_ev (fun _ _ hs => ?_) ?_
  | with_reducible first | apply cisSetOwner_ev
  | split
  | (with_reducible refine Evolves.lit ?_ ?_; (on_goal 2 => rfl)))

theorem pendDoms_ev (s : State) (g : Nat) (b : W64) {a_ : State} (h_ : Evolves a_ s) : Evolves a_ (pendDoms s g b) := by
  unfold pendDoms
  repeat' (first
  | with_reducible assumption
  | with_reducible refine Evolves.ite ?_ ?_
  | (extract_lets +onlyGivenNames x; first
     | (refine (fun (hx : Evolves a_ x) => ?_) ?_; (on_goal 2 => subst x); (on_goal 1 => clear_value x))
     | (refine (fun (hx : Evolves a_ x.2) => ?_) ?_; (on_goal 2 => subst x); (on_goal 1 => clear_value x))
     | (refine (fun (hx : Evolves a_ x.1) => ?_) ?_; (on_goal 2 => subst x); (on_goal 1 => clear_value x))
     | (refine (fun (hx : Evolves a_ x.2.2) => ?_) ?_; (on_goal 2 => subst x); (on_goal 1 => clear_value x))
     | subst x | clear_value x)
  | with_reducible refine forEach_ev (fun _ _ hs => ?_) ?_ | with_reducible refine forN_ev (fun _ _ hs => ?_) ?_
  | with_reducible first | apply bndRecord_ev | apply setDom_ev
  | split
  | (with_reducible refine Evolves.lit ?_ ?_; (on_goal 2 => rfl)))

theorem pendDone_ev (s : State) (g : Nat) {a_ : State} (h_ : Evolves a_ s) : Evolves a_ (pendDone s g) := by
  unfold pendDone
  repeat' (first
  | with_reducible assumption
  | (extract_lets +onlyGivenNames x; first
     | (refine (fun (hx : Evolves a_ x) => ?_) ?_; (on_goal 2 => subst x); (on_goal 1 => clear_value x))
     | subst x | clear_value x)
  | split
  | (with_reducible refine Evolves.lit ?_ ?_; (on_goal 2 => rfl)))

theorem bridgeHistory_ev (before : List (Nat × Nat × (W32 × List (Nat × W64)))) (s : State) {a_ : State} (h_ : Evolves a_ s) : Evolves a_ (bridgeHistory before s) := by
  unfold bridgeHistory
  repeat' (first
  | with_reducible assumption
  | with_reducible refine Evolves.ite ?_ ?_
  | (extract_lets +onlyGivenNames x; first
     | (refine (fun (hx : Evolves a_ x) => ?_) ?_; (on_goal 2 => subst x); (on_goal 1 => clear_value x))
     | (refine (fun (hx : Evolves a_ x.2) => ?_) ?_; (on_goal 2 => subst x); (on_goal 1 => clear_value x))
     | (refine (fun (hx : Evolves a_ x.1) => ?_) ?_; (on_goal 2 => subst x); (on_goal 1 => clear_value x))
     | (refine (fun (hx : Evolves a_ x.2.2) => ?_) ?_; (on_goal 2 => subst x); (on_goal 1 => clear_value x))
     | subst x | clear_value x)
  | with_reducible refine forEach_ev (fun _ _ hs => ?_) ?_ | with_reducible refine forN_ev (fun _ _ hs => ?_) ?_
  | with_reducible first | apply rputBit_ev | apply rsetBit_ev | apply setBridge_ev
  | split
  | (with_reducible refine Evolves.lit ?_ ?_; (on_goal 2 => rfl)))

theorem groupsSwap_ev (s : State) (gs : List Nat) {a_ : State} (h_ : Evolves a_ s) : Evolves a_ (groupsSwap s gs) := by
  unfold groupsSwap
  repeat' (first
  | with_reducible assumption
  | with_reducible refine Evolves.ite ?_ ?_
  | (extract_lets +onlyGivenNames x; first
     | (refine (fun (hx : Evolves a_ x) => ?_) ?_; (on_goal 2 => subst x); (on_goal 1 => clear_value x))
     | subst x | clear_value x)
  | with_reducible refine forEach_ev (fun _ _ hs => ?_) ?_ | with_reducible refine forN_ev (fun _ _ hs => ?_) ?_
  | with_reducible first | apply pendSwap_ev | apply memberSwap_ev | apply bridgeHistory_ev
  | split
  | (with_reducible refine Evolves.lit ?_ ?_; (on_goal 2 => rfl)))

theorem groupsDone_ev (s : State) (gs : List Nat) (b : W64) {a_ : State} (h_ : Evolves a_ s) : Evolves a_ (groupsDone s gs b) := by
  unfold groupsDone
  repeat' (first
  | with_reducible assumption
  | (extract_lets +onlyGivenNames x; first
     | (refine (fun (hx : Evolves a_ x) => ?_) ?_; (on_goal 2 => subst x); (on_goal 1 => clear_value x))
     | subst x | clear_value x)
  | with_reducible refine forEach_ev (fun _ _ hs => ?_) ?_ | with_reducible refine forN_ev (fun _ _ hs => ?_) ?_
  | with_reducible first | apply pendDone_ev | apply pendDoms_ev | apply groupResult_ev | apply setGroup_ev
  | split
  | (with_reducible refine Evolves.lit ?_ ?_; (on_goal 2 => rfl)))

theorem resyncPage_ev (s : State) (k act pen : Nat) {a_ : State} (h_ : Evolves a_ s) : Evolves a_ (resyncPage s k act pen) := by
  unfold resyncPage
  repeat' (first
  | with_reducible assumption
  | (extract_lets +onlyGivenNames x; first
     | (refine (fun (hx : Evolves a_ x) => ?_) ?_; (on_goal 2 => subst x); (on_goal 1 => clear_value x))
     | (refine (fun (hx : Evolves a_ x.2) => ?_) ?_; (on_goal 2 => subst x); (on_goal 1 => clear_value x))
     | (refine (fun (hx : Evolves a_ x.1) => ?_) ?_; (on_goal 2 => subst x); (on_goal 1 => clear_value x))
     | (refine (fun (hx : Evolves a_ x.2.2) => ?_) ?_; (on_goal 2 => subst x); (on_goal 1 => clear_value x))
     | subst x | clear_value x)
  | with_reducible refine forEach_ev (fun _ _ hs => ?_) ?_ | with_reducible refine forN_ev (fun _ _ hs => ?_) ?_
  | with_reducible first | apply cellPut_ev
  | split
  | (with_reducible refine Evolves.lit ?_ ?_; (on_goal 2 => rfl))
  | (with_reducible refine Evolves.litMem ?_ ?_ ?_ ?_ ?_; (on_goal 2 => rfl); (on_goal 2 => first | (with_reducible first | exact id | exact mwf_mset _ _ _ _ | exact mwf_mputRange _ _ _ _ _ | exact mwf_mclearRange _ _ _ _ | exact mwf_mcopyRange _ _ _ _ _ _) | exact fun _ => rfl | exact mwf_mclearRange _ _ _ _);
     (on_goal 2 => first | (with_reducible first | exact id | exact mwf_mset _ _ _ _ | exact mwf_mputRange _ _ _ _ _ | exact mwf_mclearRange _ _ _ _ | exact mwf_mcopyRange _ _ _ _ _ _) | exact fun _ => rfl | exact mwf_mclearRange _ _ _ _);
     (on_goal 2 => first | (with_reducible first | exact id | exact mwf_mset _ _ _ _ | exact mwf_mputRange _ _ _ _ _ | exact mwf_mclearRange _ _ _ _ | exact mwf_mcopyRange _ _ _ _ _ _) | exact fun _ => rfl | exact mwf_mclearRange _ _ _ _)))

theorem resyncDone_ev (s : State) (l : Nat) {a_ : State} (h_ : Evolves a_ s) : Evolves a_ (resyncDone s l) := by
  unfold resyncDone
  repeat' (first
  | with_reducible assumption
  | with_reducible refine Evolves.ite ?_ ?_
  | (extract_lets +onlyGivenNames x; first
     | (refine (fun (hx : Evolves a_ x) => ?_) ?_; (on_goal 2 => subst x); (on_goal 1 => clear_value x))
     | subst x | clear_value x)
  | with_reducible refine forEach_ev (fun _ _ hs => ?_) ?_ | with_reducible refine forN_ev (fun _ _ hs => ?_) ?_
  | with_reducible first | apply onCmtCell_ev | apply resyncPage_ev | apply cmtResolveAll_ev
  | split
  | (with_reducible refine Evolves.lit ?_ ?_; (on_goal 2 => rfl))
  | (with_reducible refine Evolves.litMem ?_ ?_ ?_ ?_ ?_; (on_goal 2 => rfl); (on_goal 2 => first | (with_reducible first | exact id | exact mwf_mset _ _ _ _ | exact mwf_mputRange _ _ _ _ _ | exact mwf_mclearRange _ _ _ _ | exact mwf_mcopyRange _ _ _ _ _ _) | exact fun _ => rfl | exact mwf_mclearRange _ _ _ _);
     (on_goal 2 => first | (with_reducible first | exact id | exact mwf_mset _ _ _ _ | exact mwf_mputRange _ _ _ _ _ | exact mwf_mclearRange _ _ _ _ | exact mwf_mcopyRange _ _ _ _ _ _) | exact fun _ => rfl | exact mwf_mclearRange _ _ _ _);
     (on_goal 2 => first | (with_reducible first | exact id | exact mwf_mset _ _ _ _ | exact mwf_mputRange _ _ _ _ _ | exact mwf_mclearRange _ _ _ _ | exact mwf_mcopyRange _ _ _ _ _ _) | exact fun _ => rfl | exact mwf_mclearRange _ _ _ _)))

theorem crossfadeStep_ev (s : State) (l : Nat) {a_ : State} (h_ : Evolves a_ s) : Evolves a_ (crossfadeStep s l) := by
  unfold crossfadeStep
  repeat' (first
  | with_reducible assumption
  | with_reducible refine Evolves.ite ?_ ?_
  | (extract_lets +onlyGivenNames x; first
     | (refine (fun (hx : Evolves a_ x) => ?_) ?_; (on_goal 2 => subst x); (on_goal 1 => clear_value x))
     | subst x | clear_value x)
  | with_reducible first | apply cmtResolveAll_ev | apply onCmtCell_ev
  | split
  | (with_reducible refine Evolves.lit ?_ ?_; (on_goal 2 => rfl)))

theorem gldIdx_ev (s : State) (cell slot : Nat) (live wr rd : Bool) {a_ : State} (h_ : Evolves a_ s) : Evolves a_ (gldIdx s cell slot live wr rd) := by
  unfold gldIdx
  repeat' (first
  | with_reducible assumption
  | with_reducible refine Evolves.ite ?_ ?_
  | (extract_lets +onlyGivenNames x; first
     | (refine (fun (hx : Evolves a_ x) => ?_) ?_; (on_goal 2 => subst x); (on_goal 1 => clear_value x))
     | (refine (fun (hx : Evolves a_ x.2) => ?_) ?_; (on_goal 2 => subst x); (on_goal 1 => clear_value x))
     | (refine (fun (hx : Evolves a_ x.1) => ?_) ?_; (on_goal 2 => subst x); (on_goal 1 => clear_value x))
     | (refine (fun (hx : Evolves a_ x.2.2) => ?_) ?_; (on_goal 2 => subst x); (on_goal 1 => clear_value x))
     | subst x | clear_value x)
  | with_reducible first | apply rputBit_ev | apply rput_ev | apply onCmtCell_ev | apply rset_ev
  | (rename_i he; refine memberRefused_ev _ _ _ ?_ he)
  | split
  | (with_reducible refine Evolves.lit ?_ ?_; (on_goal 2 => rfl)))

theorem cellCtlWrite_ev (s : State) (v : W32) {a_ : State} (h_ : Evolves a_ s) : Evolves a_ (cellCtlWrite s v) := by
  unfold cellCtlWrite
  repeat' (first
  | with_reducible assumption
  | with_reducible refine Evolves.ite ?_ ?_
  | (extract_lets +onlyGivenNames x; first
     | (refine (fun (hx : Evolves a_ x) => ?_) ?_; (on_goal 2 => subst x); (on_goal 1 => clear_value x))
     | (refine (fun (hx : Evolves a_ x.2) => ?_) ?_; (on_goal 2 => subst x); (on_goal 1 => clear_value x))
     | (refine (fun (hx : Evolves a_ x.1) => ?_) ?_; (on_goal 2 => subst x); (on_goal 1 => clear_value x))
     | (refine (fun (hx : Evolves a_ x.2.2) => ?_) ?_; (on_goal 2 => subst x); (on_goal 1 => clear_value x))
     | subst x | clear_value x)
  | with_reducible first | apply onCmtCell_ev
  | (rename_i he; refine memberRefused_ev _ _ _ ?_ he)
  | split
  | (with_reducible refine Evolves.lit ?_ ?_; (on_goal 2 => rfl)))

theorem snapTaken_ev (s : State) (cyc sec ns : Nat) {a_ : State} (h_ : Evolves a_ s) : Evolves a_ (snapTaken s cyc sec ns) := by
  unfold snapTaken
  repeat' (first
  | with_reducible assumption
  | (extract_lets +onlyGivenNames x; first
     | (refine (fun (hx : Evolves a_ x) => ?_) ?_; (on_goal 2 => subst x); (on_goal 1 => clear_value x))
     | subst x | clear_value x)
  | with_reducible first | apply rset64_ev | apply rput_ev | apply rset_ev | apply rsetBit_ev
  | split
  | (with_reducible refine Evolves.lit ?_ ?_; (on_goal 2 => rfl)))

theorem execCommitDeadline_ev (g : Fin 256) (st : State) : NextEv st (execCommitDeadline g st) := by
  have h_ := Evolves.refl st
  unfold execCommitDeadline
  repeat' (first
  | with_reducible assumption
  | with_reducible refine next_ev ?_
  | with_reducible first | apply groupDeadline_ev
  | split
  | (with_reducible refine Evolves.lit ?_ ?_; (on_goal 2 => rfl)))

theorem execCmtGCtlArm_ev (st : State) : NextEv st (execCmtGCtlArm st) := by
  have h_ := Evolves.refl st
  unfold execCmtGCtlArm
  repeat' (first
  | with_reducible assumption
  | with_reducible refine next_ev ?_
  | with_reducible first | apply groupArm_ev
  | split
  | (with_reducible refine Evolves.lit ?_ ?_; (on_goal 2 => rfl)))

theorem execCmtGCtlCancel_ev (st : State) : NextEv st (execCmtGCtlCancel st) := by
  have h_ := Evolves.refl st
  unfold execCmtGCtlCancel
  repeat' (first
  | with_reducible assumption
  | with_reducible refine next_ev ?_
  | with_reducible first | apply groupCancel_ev
  | split
  | (with_reducible refine Evolves.lit ?_ ?_; (on_goal 2 => rfl)))

theorem execCmtMemCtlAdd_ev (kind : Fin 16) (g : Fin 256) (id : BitVec 16) (st : State) : NextEv st (execCmtMemCtlAdd kind g id st) := by
  have h_ := Evolves.refl st
  unfold execCmtMemCtlAdd
  repeat' (first
  | with_reducible assumption
  | with_reducible refine next_ev ?_
  | with_reducible first | apply memCtl_ev
  | split
  | (with_reducible refine Evolves.lit ?_ ?_; (on_goal 2 => rfl)))

theorem execCmtMemCtlRem_ev (kind : Fin 16) (g : Fin 256) (id : BitVec 16) (st : State) : NextEv st (execCmtMemCtlRem kind g id st) := by
  have h_ := Evolves.refl st
  unfold execCmtMemCtlRem
  repeat' (first
  | with_reducible assumption
  | with_reducible refine next_ev ?_
  | with_reducible first | apply memCtl_ev
  | split
  | (with_reducible refine Evolves.lit ?_ ?_; (on_goal 2 => rfl)))

theorem execCmtGldIdxWr_ev (cell : Fin 1024) (slot : Fin 64) (st : State) : NextEv st (execCmtGldIdxWr cell slot st) := by
  have h_ := Evolves.refl st
  unfold execCmtGldIdxWr
  repeat' (first
  | with_reducible assumption
  | with_reducible refine next_ev ?_
  | with_reducible first | apply gldIdx_ev
  | split
  | (with_reducible refine Evolves.lit ?_ ?_; (on_goal 2 => rfl)))

theorem execCmtGldIdxRd_ev (cell : Fin 1024) (slot : Fin 64) (live : Bool) (st : State) : NextEv st (execCmtGldIdxRd cell slot live st) := by
  have h_ := Evolves.refl st
  unfold execCmtGldIdxRd
  repeat' (first
  | with_reducible assumption
  | with_reducible refine next_ev ?_
  | with_reducible first | apply gldIdx_ev
  | split
  | (with_reducible refine Evolves.lit ?_ ?_; (on_goal 2 => rfl)))

theorem execResyncDone_ev (cell : Fin 1024) (st : State) : NextEv st (execResyncDone cell st) := by
  have h_ := Evolves.refl st
  unfold execResyncDone
  repeat' (first
  | with_reducible assumption
  | with_reducible refine next_ev ?_
  | with_reducible first | apply resyncDone_ev
  | split
  | (with_reducible refine Evolves.lit ?_ ?_; (on_goal 2 => rfl)))

theorem execCmtRecPop_ev (st : State) : NextEv st (execCmtRecPop st) := next_ev (recPop_ev st (Evolves.refl st))

theorem execCmtBndPop_ev (st : State) : NextEv st (execCmtBndPop st) := next_ev (bndPop_ev st (Evolves.refl st))

theorem execCmtSnap_ev (cyc : Fin 25600) (sec : BitVec 48) (ns : Fin 1000000000) (st : State) : NextEv st (execCmtSnap cyc sec ns st) := by
  have h_ := Evolves.refl st
  unfold execCmtSnap
  repeat' (first
  | with_reducible assumption
  | with_reducible refine next_ev ?_
  | with_reducible first | apply snapTaken_ev
  | split
  | (with_reducible refine Evolves.lit ?_ ?_; (on_goal 2 => rfl)))

theorem execCmtClStallClr_ev (c : Fin 16) (st : State) : NextEv st (execCmtClStallClr c st) := by
  have h_ := Evolves.refl st
  unfold execCmtClStallClr
  repeat' (first
  | with_reducible assumption
  | with_reducible refine next_ev ?_
  | with_reducible first | apply rset_ev
  | split
  | (with_reducible refine Evolves.lit ?_ ?_; (on_goal 2 => rfl)))

end Sys2Proof.Machine
end

