-- ==== Sys2Proof/Laws/Ev/Clock.lean ====
section
/-! SUPPORT. Each operation of Machine/Clock.lean only evolves the state it is given. -/

set_option linter.unreachableTactic false
set_option linter.unusedTactic false
set_option linter.tactic.unusedName false

namespace Sys2Proof.Machine

theorem onClk_ev (s : State) (f : ClkSt → ClkSt) {a_ : State} (h_ : Evolves a_ s) : Evolves a_ (onClk s f) := by
  unfold onClk
  repeat' (first
  | with_reducible assumption
  | (extract_lets +onlyGivenNames x; first
     | (refine (fun (hx : Evolves a_ x) => ?_) ?_; (on_goal 2 => subst x); (on_goal 1 => clear_value x))
     | subst x | clear_value x)
  | split
  | (with_reducible refine Evolves.lit ?_ ?_; (on_goal 2 => rfl)))

theorem setSynState_ev (s : State) (x v : Nat) {a_ : State} (h_ : Evolves a_ s) : Evolves a_ (setSynState s x v) := by
  unfold setSynState
  repeat' (first
  | with_reducible assumption
  | with_reducible first | apply rput_ev
  | split
  | (with_reducible refine Evolves.lit ?_ ?_; (on_goal 2 => rfl)))

theorem setSynRole_ev (s : State) (x v : Nat) {a_ : State} (h_ : Evolves a_ s) : Evolves a_ (setSynRole s x v) := by
  unfold setSynRole
  repeat' (first
  | with_reducible assumption
  | with_reducible first | apply rput_ev | apply rputBit_ev
  | split
  | (with_reducible refine Evolves.lit ?_ ?_; (on_goal 2 => rfl)))

theorem synEv_ev (s : State) (x bit : Nat) {a_ : State} (h_ : Evolves a_ s) : Evolves a_ (synEv s x bit) := by
  unfold synEv
  repeat' (first
  | with_reducible assumption
  | with_reducible first | apply evRaise_ev | apply rsetBit_ev
  | split
  | (with_reducible refine Evolves.lit ?_ ?_; (on_goal 2 => rfl)))

theorem setRefState_ev (s : State) (v : Nat) {a_ : State} (h_ : Evolves a_ s) : Evolves a_ (setRefState s v) := by
  unfold setRefState
  repeat' (first
  | with_reducible assumption
  | with_reducible refine Evolves.ite ?_ ?_
  | (extract_lets +onlyGivenNames x; first
     | (refine (fun (hx : Evolves a_ x) => ?_) ?_; (on_goal 2 => subst x); (on_goal 1 => clear_value x))
     | subst x | clear_value x)
  | with_reducible first | apply rput_ev | apply synEv_ev
  | split
  | (with_reducible refine Evolves.lit ?_ ?_; (on_goal 2 => rfl)))

theorem setRatio_ev (s : State) (x n : Nat) {a_ : State} (h_ : Evolves a_ s) : Evolves a_ (setRatio s x n) := by
  unfold setRatio
  repeat' (first
  | with_reducible assumption
  | with_reducible first | apply rset64_ev
  | split
  | (with_reducible refine Evolves.lit ?_ ?_; (on_goal 2 => rfl)))

theorem calUsed_ev (s : State) (x k : Nat) {a_ : State} (h_ : Evolves a_ s) : Evolves a_ (calUsed s x k) := by
  unfold calUsed
  repeat' (first
  | with_reducible assumption
  | (extract_lets +onlyGivenNames x; first
     | (refine (fun (hx : Evolves a_ x) => ?_) ?_; (on_goal 2 => subst x); (on_goal 1 => clear_value x))
     | subst x | clear_value x)
  | with_reducible first | apply rput_ev | apply onClk_ev
  | split
  | (with_reducible refine Evolves.lit ?_ ?_; (on_goal 2 => rfl)))

theorem synTune_ev (s : State) (x n : Nat) {a_ : State} (h_ : Evolves a_ s) : Evolves a_ (synTune s x n) := by
  unfold synTune
  repeat' (first
  | with_reducible assumption
  | (extract_lets +onlyGivenNames x; first
     | (refine (fun (hx : Evolves a_ x) => ?_) ?_; (on_goal 2 => subst x); (on_goal 1 => clear_value x))
     | subst x | clear_value x)
  | with_reducible first | apply setRatio_ev | apply calUsed_ev | apply setSynState_ev
  | split
  | (with_reducible refine Evolves.lit ?_ ?_; (on_goal 2 => rfl)))

theorem ckoGate_ev (s : State) (o bit : Nat) (closed : Bool) {a_ : State} (h_ : Evolves a_ s) : Evolves a_ (ckoGate s o bit closed) := by
  unfold ckoGate
  repeat' (first
  | with_reducible assumption
  | (extract_lets +onlyGivenNames x; first
     | (refine (fun (hx : Evolves a_ x) => ?_) ?_; (on_goal 2 => subst x); (on_goal 1 => clear_value x))
     | subst x | clear_value x)
  | with_reducible first | apply rputBit_ev
  | split
  | (with_reducible refine Evolves.lit ?_ ?_; (on_goal 2 => rfl)))

theorem ckoGateAll_ev (s : State) (bit : Nat) (closed : Bool) {a_ : State} (h_ : Evolves a_ s) : Evolves a_ (ckoGateAll s bit closed) := by
  unfold ckoGateAll
  repeat' (first
  | with_reducible assumption
  | with_reducible refine forEach_ev (fun _ _ hs => ?_) ?_ | with_reducible refine forN_ev (fun _ _ hs => ?_) ?_
  | with_reducible first | apply ckoGate_ev
  | split
  | (with_reducible refine Evolves.lit ?_ ?_; (on_goal 2 => rfl)))

theorem hopEnd_ev (s : State) (h : Hop) (status detail : Nat) {a_ : State} (h_ : Evolves a_ s) : Evolves a_ (hopEnd s h status detail) := by
  unfold hopEnd
  repeat' (first
  | with_reducible assumption
  | with_reducible refine Evolves.ite ?_ ?_
  | with_reducible refine forEach_ev (fun _ _ hs => ?_) ?_ | with_reducible refine forN_ev (fun _ _ hs => ?_) ?_
  | with_reducible first | apply opEnd_ev
  | split
  | (with_reducible refine Evolves.lit ?_ ?_; (on_goal 2 => rfl)))

theorem hopCancel_ev (s : State) (byLock : Bool) (detail : Nat) (atBnd : Bool) {a_ : State} (h_ : Evolves a_ s) : Evolves a_ (hopCancel s byLock detail atBnd) := by
  unfold hopCancel
  repeat' (first
  | with_reducible assumption
  | with_reducible refine Evolves.ite ?_ ?_
  | (extract_lets +onlyGivenNames x; first
     | (refine (fun (hx : Evolves a_ x) => ?_) ?_; (on_goal 2 => subst x); (on_goal 1 => clear_value x))
     | (refine (fun (hx : Evolves a_ x.2) => ?_) ?_; (on_goal 2 => subst x); (on_goal 1 => clear_value x))
     | (refine (fun (hx : Evolves a_ x.1) => ?_) ?_; (on_goal 2 => subst x); (on_goal 1 => clear_value x))
     | (refine (fun (hx : Evolves a_ x.2.2) => ?_) ?_; (on_goal 2 => subst x); (on_goal 1 => clear_value x))
     | subst x | clear_value x)
  | with_reducible first | apply rputBit_ev | apply onClk_ev | apply bndRecord_ev | apply synTune_ev | apply setSynRole_ev | apply hopEnd_ev
  | split
  | (with_reducible refine Evolves.lit ?_ ?_; (on_goal 2 => rfl)))

theorem hopSchedule_ev (s : State) (btc : Nat) (fam : Bool) (p : Int) (by_ : HopBy) (agent handle : Nat) {a_ : State} (h_ : Evolves a_ s) : Evolves a_ (hopSchedule s btc fam p by_ agent handle) := by
  unfold hopSchedule
  repeat' (first
  | with_reducible assumption
  | with_reducible refine Evolves.ite ?_ ?_
  | (extract_lets +onlyGivenNames x; first
     | (refine (fun (hx : Evolves a_ x) => ?_) ?_; (on_goal 2 => subst x); (on_goal 1 => clear_value x))
     | (refine (fun (hx : Evolves a_ x.2) => ?_) ?_; (on_goal 2 => subst x); (on_goal 1 => clear_value x))
     | (refine (fun (hx : Evolves a_ x.1) => ?_) ?_; (on_goal 2 => subst x); (on_goal 1 => clear_value x))
     | (refine (fun (hx : Evolves a_ x.2.2) => ?_) ?_; (on_goal 2 => subst x); (on_goal 1 => clear_value x))
     | subst x | clear_value x)
  | with_reducible first | apply rsetBit_ev | apply onClk_ev | apply synTune_ev | apply setSynRole_ev
  | split
  | (with_reducible refine Evolves.lit ?_ ?_; (on_goal 2 => rfl)))

theorem safeEnter_ev (s : State) (old : Nat) {a_ : State} (h_ : Evolves a_ s) : Evolves a_ (safeEnter s old) := by
  unfold safeEnter
  repeat' (first
  | with_reducible assumption
  | with_reducible refine Evolves.ite ?_ ?_
  | (extract_lets +onlyGivenNames x; first
     | (refine (fun (hx : Evolves a_ x) => ?_) ?_; (on_goal 2 => subst x); (on_goal 1 => clear_value x))
     | (refine (fun (hx : Evolves a_ x.2) => ?_) ?_; (on_goal 2 => subst x); (on_goal 1 => clear_value x))
     | (refine (fun (hx : Evolves a_ x.1) => ?_) ?_; (on_goal 2 => subst x); (on_goal 1 => clear_value x))
     | (refine (fun (hx : Evolves a_ x.2.2) => ?_) ?_; (on_goal 2 => subst x); (on_goal 1 => clear_value x))
     | subst x | clear_value x)
  | with_reducible refine forEach_ev (fun _ _ hs => ?_) ?_ | with_reducible refine forN_ev (fun _ _ hs => ?_) ?_
  | with_reducible first | apply hopCancel_ev | apply rsetBit_ev | apply rput_ev | apply ckoGateAll_ev | apply onClk_ev | apply revalidate_ev | apply groupResult_ev
  | split
  | (with_reducible refine Evolves.lit ?_ ?_; (on_goal 2 => rfl)))

theorem synLock_ev (s : State) (x : Nat) (err : BitVec 16) {a_ : State} (h_ : Evolves a_ s) : Evolves a_ (synLock s x err) := by
  unfold synLock
  repeat' (first
  | with_reducible assumption
  | with_reducible refine Evolves.ite ?_ ?_
  | (extract_lets +onlyGivenNames x; first
     | (refine (fun (hx : Evolves a_ x) => ?_) ?_; (on_goal 2 => subst x); (on_goal 1 => clear_value x))
     | (refine (fun (hx : Evolves a_ x.2) => ?_) ?_; (on_goal 2 => subst x); (on_goal 1 => clear_value x))
     | (refine (fun (hx : Evolves a_ x.1) => ?_) ?_; (on_goal 2 => subst x); (on_goal 1 => clear_value x))
     | (refine (fun (hx : Evolves a_ x.2.2) => ?_) ?_; (on_goal 2 => subst x); (on_goal 1 => clear_value x))
     | subst x | clear_value x)
  | with_reducible refine forEach_ev (fun _ _ hs => ?_) ?_ | with_reducible refine forN_ev (fun _ _ hs => ?_) ?_
  | with_reducible first | apply synEv_ev | apply rput_ev | apply setSynState_ev | apply setSynRole_ev | apply fltRecover_ev
  | split
  | (with_reducible refine Evolves.lit ?_ ?_; (on_goal 2 => rfl)))

theorem synLoss_ev (s : State) (x : Nat) (err : BitVec 16) (cyc : Nat) {a_ : State} (h_ : Evolves a_ s) : Evolves a_ (synLoss s x err cyc) := by
  unfold synLoss
  repeat' (first
  | with_reducible assumption
  | with_reducible refine Evolves.ite ?_ ?_
  | (extract_lets +onlyGivenNames x; first
     | (refine (fun (hx : Evolves a_ x) => ?_) ?_; (on_goal 2 => subst x); (on_goal 1 => clear_value x))
     | (refine (fun (hx : Evolves a_ x.2) => ?_) ?_; (on_goal 2 => subst x); (on_goal 1 => clear_value x))
     | (refine (fun (hx : Evolves a_ x.1) => ?_) ?_; (on_goal 2 => subst x); (on_goal 1 => clear_value x))
     | (refine (fun (hx : Evolves a_ x.2.2) => ?_) ?_; (on_goal 2 => subst x); (on_goal 1 => clear_value x))
     | subst x | clear_value x)
  | with_reducible first | apply synEv_ev | apply rput_ev | apply rinc_ev | apply setSynState_ev | apply fltDetect_ev | apply setSynRole_ev | apply ckoGateAll_ev | apply onClk_ev | apply safeEnter_ev | apply synTune_ev | apply hopCancel_ev
  | split
  | (with_reducible refine Evolves.lit ?_ ?_; (on_goal 2 => rfl)))

theorem bandDone_ev (s : State) (x : Nat) (band : Option (BitVec 6)) {a_ : State} (h_ : Evolves a_ s) : Evolves a_ (bandDone s x band) := by
  unfold bandDone
  repeat' (first
  | with_reducible assumption
  | with_reducible refine Evolves.ite ?_ ?_
  | (extract_lets +onlyGivenNames x; first
     | (refine (fun (hx : Evolves a_ x) => ?_) ?_; (on_goal 2 => subst x); (on_goal 1 => clear_value x))
     | (refine (fun (hx : Evolves a_ x.2) => ?_) ?_; (on_goal 2 => subst x); (on_goal 1 => clear_value x))
     | (refine (fun (hx : Evolves a_ x.1) => ?_) ?_; (on_goal 2 => subst x); (on_goal 1 => clear_value x))
     | (refine (fun (hx : Evolves a_ x.2.2) => ?_) ?_; (on_goal 2 => subst x); (on_goal 1 => clear_value x))
     | subst x | clear_value x)
  | with_reducible first | apply synEv_ev | apply calUsed_ev | apply setSynState_ev | apply rset_ev | apply hopCancel_ev
  | split
  | (with_reducible refine Evolves.lit ?_ ?_; (on_goal 2 => rfl)))

theorem rampGo_ev (s : State) (nseg : Nat) {a_ : State} (h_ : Evolves a_ s) : Evolves a_ (rampGo s nseg) := by
  unfold rampGo
  repeat' (first
  | with_reducible assumption
  | with_reducible refine Evolves.ite ?_ ?_
  | (extract_lets +onlyGivenNames x; first
     | (refine (fun (hx : Evolves a_ x) => ?_) ?_; (on_goal 2 => subst x); (on_goal 1 => clear_value x))
     | subst x | clear_value x)
  | with_reducible first | apply rput_ev | apply rsetBit_ev | apply onClk_ev
  | split
  | (with_reducible refine Evolves.lit ?_ ?_; (on_goal 2 => rfl)))

theorem rampStop_ev (s : State) {a_ : State} (h_ : Evolves a_ s) : Evolves a_ (rampStop s) := by
  unfold rampStop
  repeat' (first
  | with_reducible assumption
  | with_reducible first | apply rputBit_ev
  | split
  | (with_reducible refine Evolves.lit ?_ ?_; (on_goal 2 => rfl)))

theorem phaseAdd_ev (s : State) (n : BitVec 16) {a_ : State} (h_ : Evolves a_ s) : Evolves a_ (phaseAdd s n) := by
  unfold phaseAdd
  repeat' (first
  | with_reducible assumption
  | with_reducible refine Evolves.ite ?_ ?_
  | (extract_lets +onlyGivenNames x; first
     | (refine (fun (hx : Evolves a_ x) => ?_) ?_; (on_goal 2 => subst x); (on_goal 1 => clear_value x))
     | subst x | clear_value x)
  | with_reducible first | apply rsetBit_ev | apply rput_ev
  | split
  | (with_reducible refine Evolves.lit ?_ ?_; (on_goal 2 => rfl)))

theorem setPull_ev (s : State) (p : Int) {a_ : State} (h_ : Evolves a_ s) : Evolves a_ (setPull s p) := by
  unfold setPull
  repeat' (first
  | with_reducible assumption
  | with_reducible refine Evolves.ite ?_ ?_
  | (extract_lets +onlyGivenNames x; first
     | (refine (fun (hx : Evolves a_ x) => ?_) ?_; (on_goal 2 => subst x); (on_goal 1 => clear_value x))
     | subst x | clear_value x)
  | with_reducible refine forEach_ev (fun _ _ hs => ?_) ?_ | with_reducible refine forN_ev (fun _ _ hs => ?_) ?_
  | with_reducible first | apply rset_ev | apply onClk_ev | apply setRatio_ev
  | split
  | (with_reducible refine Evolves.lit ?_ ?_; (on_goal 2 => rfl)))

theorem rampStep_ev (s : State) (hopHere : Bool) {a_ : State} (h_ : Evolves a_ s) : Evolves a_ (rampStep s hopHere) := by
  unfold rampStep
  repeat' (first
  | with_reducible assumption
  | with_reducible refine Evolves.ite ?_ ?_
  | (extract_lets +onlyGivenNames x; first
     | (refine (fun (hx : Evolves a_ x) => ?_) ?_; (on_goal 2 => subst x); (on_goal 1 => clear_value x))
     | (refine (fun (hx : Evolves a_ x.2) => ?_) ?_; (on_goal 2 => subst x); (on_goal 1 => clear_value x))
     | (refine (fun (hx : Evolves a_ x.1) => ?_) ?_; (on_goal 2 => subst x); (on_goal 1 => clear_value x))
     | (refine (fun (hx : Evolves a_ x.2.2) => ?_) ?_; (on_goal 2 => subst x); (on_goal 1 => clear_value x))
     | subst x | clear_value x)
  | with_reducible first | apply rampStop_ev | apply onClk_ev | apply rsetBit_ev | apply setPull_ev | apply rput_ev
  | split
  | (with_reducible refine Evolves.lit ?_ ?_; (on_goal 2 => rfl)))

theorem phaseStep_ev (s : State) {a_ : State} (h_ : Evolves a_ s) : Evolves a_ (phaseStep s) := by
  unfold phaseStep
  repeat' (first
  | with_reducible assumption
  | with_reducible refine Evolves.ite ?_ ?_
  | (extract_lets +onlyGivenNames x; first
     | (refine (fun (hx : Evolves a_ x) => ?_) ?_; (on_goal 2 => subst x); (on_goal 1 => clear_value x))
     | subst x | clear_value x)
  | with_reducible first | apply rput_ev | apply rinc_ev
  | split
  | (with_reducible refine Evolves.lit ?_ ?_; (on_goal 2 => rfl)))

theorem ckoSlew_ev (s : State) (o : Nat) {a_ : State} (h_ : Evolves a_ s) : Evolves a_ (ckoSlew s o) := by
  unfold ckoSlew
  repeat' (first
  | with_reducible assumption
  | (extract_lets +onlyGivenNames x; first
     | (refine (fun (hx : Evolves a_ x) => ?_) ?_; (on_goal 2 => subst x); (on_goal 1 => clear_value x))
     | subst x | clear_value x)
  | with_reducible first | apply rput_ev
  | split
  | (with_reducible refine Evolves.lit ?_ ?_; (on_goal 2 => rfl)))

theorem clkBoundary_ev (s : State) {a_ : State} (h_ : Evolves a_ s) : Evolves a_ (clkBoundary s) := by
  unfold clkBoundary
  repeat' (first
  | with_reducible assumption
  | with_reducible refine Evolves.ite ?_ ?_
  | (extract_lets +onlyGivenNames x; first
     | (refine (fun (hx : Evolves a_ x) => ?_) ?_; (on_goal 2 => subst x); (on_goal 1 => clear_value x))
     | (refine (fun (hx : Evolves a_ x.2) => ?_) ?_; (on_goal 2 => subst x); (on_goal 1 => clear_value x))
     | (refine (fun (hx : Evolves a_ x.1) => ?_) ?_; (on_goal 2 => subst x); (on_goal 1 => clear_value x))
     | (refine (fun (hx : Evolves a_ x.2.2) => ?_) ?_; (on_goal 2 => subst x); (on_goal 1 => clear_value x))
     | subst x | clear_value x)
  | with_reducible refine forEach_ev (fun _ _ hs => ?_) ?_ | with_reducible refine forN_ev (fun _ _ hs => ?_) ?_
  | with_reducible first | apply onClk_ev | apply bndRecord_ev | apply phaseStep_ev | apply rampStep_ev | apply rputBit_ev | apply ckoGateAll_ev | apply ckoSlew_ev | apply ckoGate_ev
  | split
  | (with_reducible refine Evolves.lit ?_ ?_; (on_goal 2 => rfl)))

theorem refSelect_ev (s : State) (r rx : Nat) {a_ : State} (h_ : Evolves a_ s) : Evolves a_ (refSelect s r rx) := by
  unfold refSelect
  repeat' (first
  | with_reducible assumption
  | with_reducible refine Evolves.ite ?_ ?_
  | (extract_lets +onlyGivenNames x; first
     | (refine (fun (hx : Evolves a_ x) => ?_) ?_; (on_goal 2 => subst x); (on_goal 1 => clear_value x))
     | subst x | clear_value x)
  | with_reducible first | apply rput_ev | apply onClk_ev | apply rampStop_ev | apply setRefState_ev
  | split
  | (with_reducible refine Evolves.lit ?_ ?_; (on_goal 2 => rfl)))

theorem refMeasured_ev (s : State) (fam : Bool) (mult : Nat) (p : Int) {a_ : State} (h_ : Evolves a_ s) : Evolves a_ (refMeasured s fam mult p) := by
  unfold refMeasured
  repeat' (first
  | with_reducible assumption
  | with_reducible refine Evolves.ite ?_ ?_
  | (extract_lets +onlyGivenNames x; first
     | (refine (fun (hx : Evolves a_ x) => ?_) ?_; (on_goal 2 => subst x); (on_goal 1 => clear_value x))
     | (refine (fun (hx : Evolves a_ x.2) => ?_) ?_; (on_goal 2 => subst x); (on_goal 1 => clear_value x))
     | (refine (fun (hx : Evolves a_ x.1) => ?_) ?_; (on_goal 2 => subst x); (on_goal 1 => clear_value x))
     | (refine (fun (hx : Evolves a_ x.2.2) => ?_) ?_; (on_goal 2 => subst x); (on_goal 1 => clear_value x))
     | subst x | clear_value x)
  | with_reducible first | apply rput_ev | apply rset_ev | apply onClk_ev | apply hopSchedule_ev | apply setPull_ev
  | split
  | (with_reducible refine Evolves.lit ?_ ?_; (on_goal 2 => rfl)))

theorem refLocked_ev (s : State) {a_ : State} (h_ : Evolves a_ s) : Evolves a_ (refLocked s) := by
  unfold refLocked
  repeat' (first
  | with_reducible assumption
  | with_reducible refine Evolves.ite ?_ ?_
  | (extract_lets +onlyGivenNames x; first
     | (refine (fun (hx : Evolves a_ x) => ?_) ?_; (on_goal 2 => subst x); (on_goal 1 => clear_value x))
     | (refine (fun (hx : Evolves a_ x.st) => ?_) ?_; (on_goal 2 => subst x); (on_goal 1 => clear_value x))
     | subst x | clear_value x)
  | with_reducible refine forEach_ev (fun _ _ hs => ?_) ?_ | with_reducible refine forN_ev (fun _ _ hs => ?_) ?_
  | with_reducible first | apply setRefState_ev | apply onClk_ev | apply opEnd_ev
  | split
  | (with_reducible refine Evolves.lit ?_ ?_; (on_goal 2 => rfl)))

theorem refLost_ev (s : State) {a_ : State} (h_ : Evolves a_ s) : Evolves a_ (refLost s) := by
  unfold refLost
  repeat' (first
  | with_reducible assumption
  | with_reducible refine Evolves.ite ?_ ?_
  | (extract_lets +onlyGivenNames x; first
     | (refine (fun (hx : Evolves a_ x) => ?_) ?_; (on_goal 2 => subst x); (on_goal 1 => clear_value x))
     | subst x | clear_value x)
  | with_reducible first | apply onClk_ev | apply rset_ev | apply setPull_ev | apply setRefState_ev
  | split
  | (with_reducible refine Evolves.lit ?_ ?_; (on_goal 2 => rfl)))

theorem refReturned_ev (s : State) {a_ : State} (h_ : Evolves a_ s) : Evolves a_ (refReturned s) := by
  unfold refReturned
  repeat' (first
  | with_reducible assumption
  | with_reducible refine Evolves.ite ?_ ?_
  | (extract_lets +onlyGivenNames x; first
     | (refine (fun (hx : Evolves a_ x) => ?_) ?_; (on_goal 2 => subst x); (on_goal 1 => clear_value x))
     | subst x | clear_value x)
  | with_reducible first | apply setRefState_ev | apply onClk_ev
  | split
  | (with_reducible refine Evolves.lit ?_ ?_; (on_goal 2 => rfl)))

theorem refTimeout_ev (s : State) {a_ : State} (h_ : Evolves a_ s) : Evolves a_ (refTimeout s) := by
  unfold refTimeout
  repeat' (first
  | with_reducible assumption
  | with_reducible refine Evolves.ite ?_ ?_
  | (extract_lets +onlyGivenNames x; first
     | (refine (fun (hx : Evolves a_ x) => ?_) ?_; (on_goal 2 => subst x); (on_goal 1 => clear_value x))
     | (refine (fun (hx : Evolves a_ x.st) => ?_) ?_; (on_goal 2 => subst x); (on_goal 1 => clear_value x))
     | subst x | clear_value x)
  | with_reducible refine forEach_ev (fun _ _ hs => ?_) ?_ | with_reducible refine forN_ev (fun _ _ hs => ?_) ?_
  | with_reducible first | apply opEnd_ev | apply setRefState_ev | apply onClk_ev
  | split
  | (with_reducible refine Evolves.lit ?_ ?_; (on_goal 2 => rfl)))

theorem hopDo_ev (s : State) {a_ : State} (h_ : Evolves a_ s) : Evolves a_ (hopDo s) := by
  unfold hopDo
  repeat' (first
  | with_reducible assumption
  | with_reducible refine Evolves.ite ?_ ?_
  | (extract_lets +onlyGivenNames x; first
     | (refine (fun (hx : Evolves a_ x) => ?_) ?_; (on_goal 2 => subst x); (on_goal 1 => clear_value x))
     | (refine (fun (hx : Evolves a_ x.2) => ?_) ?_; (on_goal 2 => subst x); (on_goal 1 => clear_value x))
     | (refine (fun (hx : Evolves a_ x.1) => ?_) ?_; (on_goal 2 => subst x); (on_goal 1 => clear_value x))
     | (refine (fun (hx : Evolves a_ x.2.2) => ?_) ?_; (on_goal 2 => subst x); (on_goal 1 => clear_value x))
     | subst x | clear_value x)
  | with_reducible refine forEach_ev (fun _ _ hs => ?_) ?_ | with_reducible refine forN_ev (fun _ _ hs => ?_) ?_
  | with_reducible first | apply hopCancel_ev | apply rputBit_ev | apply onClk_ev | apply rput_ev | apply setSynRole_ev | apply setPull_ev | apply rampStop_ev | apply synTune_ev | apply bndRecord_ev | apply ckoGate_ev | apply setRefState_ev | apply cmtReconvert_ev | apply hopEnd_ev
  | split
  | (with_reducible refine Evolves.lit ?_ ?_; (on_goal 2 => rfl)))

theorem hopCheck_ev (s : State) {a_ : State} (h_ : Evolves a_ s) : Evolves a_ (hopCheck s) := by
  unfold hopCheck
  repeat' (first
  | with_reducible assumption
  | with_reducible refine Evolves.ite ?_ ?_
  | with_reducible first | apply hopCancel_ev
  | split
  | (with_reducible refine Evolves.lit ?_ ?_; (on_goal 2 => rfl)))

theorem alignLock_ev (s : State) (o : Nat) {a_ : State} (h_ : Evolves a_ s) : Evolves a_ (alignLock s o) := by
  unfold alignLock
  repeat' (first
  | with_reducible assumption
  | with_reducible refine Evolves.ite ?_ ?_
  | with_reducible first | apply rsetBit_ev
  | split
  | (with_reducible refine Evolves.lit ?_ ?_; (on_goal 2 => rfl)))

theorem alignLoss_ev (s : State) (o : Nat) {a_ : State} (h_ : Evolves a_ s) : Evolves a_ (alignLoss s o) := by
  unfold alignLoss
  repeat' (first
  | with_reducible assumption
  | with_reducible refine Evolves.ite ?_ ?_
  | (extract_lets +onlyGivenNames x; first
     | (refine (fun (hx : Evolves a_ x) => ?_) ?_; (on_goal 2 => subst x); (on_goal 1 => clear_value x))
     | subst x | clear_value x)
  | with_reducible first | apply rsetBit_ev | apply rputBit_ev | apply ckoGate_ev | apply evRaise_ev
  | split
  | (with_reducible refine Evolves.lit ?_ ?_; (on_goal 2 => rfl)))

theorem ckoCtlWrite_ev (s : State) (o : Nat) (v : W32) {a_ : State} (h_ : Evolves a_ s) : Evolves a_ (ckoCtlWrite s o v) := by
  unfold ckoCtlWrite
  repeat' (first
  | with_reducible assumption
  | with_reducible refine Evolves.ite ?_ ?_
  | (extract_lets +onlyGivenNames x; first
     | (refine (fun (hx : Evolves a_ x) => ?_) ?_; (on_goal 2 => subst x); (on_goal 1 => clear_value x))
     | subst x | clear_value x)
  | with_reducible first | apply rsetBit_ev | apply rput_ev | apply rputBit_ev | apply ckoGate_ev
  | split
  | (with_reducible refine Evolves.lit ?_ ?_; (on_goal 2 => rfl)))

theorem execReferenceMeasured_ev (fam : Bool) (mult : Fin 3) (p : Int) (st : State) : NextEv st (execReferenceMeasured fam mult p st) := by
  have h_ := Evolves.refl st
  unfold execReferenceMeasured
  repeat' (first
  | with_reducible assumption
  | with_reducible refine next_ev ?_
  | with_reducible first | apply refMeasured_ev
  | split
  | (with_reducible refine Evolves.lit ?_ ?_; (on_goal 2 => rfl)))

theorem execReferenceLocked_ev (st : State) : NextEv st (execReferenceLocked st) := by
  have h_ := Evolves.refl st
  unfold execReferenceLocked
  repeat' (first
  | with_reducible assumption
  | with_reducible refine next_ev ?_
  | with_reducible first | apply refLocked_ev
  | split
  | (with_reducible refine Evolves.lit ?_ ?_; (on_goal 2 => rfl)))

theorem execReferenceLoss_ev (st : State) : NextEv st (execReferenceLoss st) := by
  have h_ := Evolves.refl st
  unfold execReferenceLoss
  repeat' (first
  | with_reducible assumption
  | with_reducible refine next_ev ?_
  | with_reducible first | apply refLost_ev
  | split
  | (with_reducible refine Evolves.lit ?_ ?_; (on_goal 2 => rfl)))

theorem execReferenceReturn_ev (st : State) : NextEv st (execReferenceReturn st) := by
  have h_ := Evolves.refl st
  unfold execReferenceReturn
  repeat' (first
  | with_reducible assumption
  | with_reducible refine next_ev ?_
  | with_reducible first | apply refReturned_ev
  | split
  | (with_reducible refine Evolves.lit ?_ ?_; (on_goal 2 => rfl)))

theorem execReferenceLockTimeout_ev (st : State) : NextEv st (execReferenceLockTimeout st) := by
  have h_ := Evolves.refl st
  unfold execReferenceLockTimeout
  repeat' (first
  | with_reducible assumption
  | with_reducible refine next_ev ?_
  | with_reducible first | apply refTimeout_ev
  | split
  | (with_reducible refine Evolves.lit ?_ ?_; (on_goal 2 => rfl)))

theorem execHopCancelCheck_ev (st : State) : NextEv st (execHopCancelCheck st) := by
  have h_ := Evolves.refl st
  unfold execHopCancelCheck
  repeat' (first
  | with_reducible assumption
  | with_reducible refine next_ev ?_
  | with_reducible first | apply hopCheck_ev
  | split
  | (with_reducible refine Evolves.lit ?_ ?_; (on_goal 2 => rfl)))

theorem execSynthLock_ev (x : Fin 2) (err : BitVec 16) (st : State) : NextEv st (execSynthLock x err st) := by
  have h_ := Evolves.refl st
  unfold execSynthLock
  repeat' (first
  | with_reducible assumption
  | with_reducible refine next_ev ?_
  | with_reducible first | apply synLock_ev
  | split
  | (with_reducible refine Evolves.lit ?_ ?_; (on_goal 2 => rfl)))

theorem execSynthLockLoss_ev (x : Fin 2) (err : BitVec 16) (cyc : Fin 25600) (st : State) : NextEv st (execSynthLockLoss x err cyc st) := by
  have h_ := Evolves.refl st
  unfold execSynthLockLoss
  repeat' (first
  | with_reducible assumption
  | with_reducible refine next_ev ?_
  | with_reducible first | apply synLoss_ev
  | split
  | (with_reducible refine Evolves.lit ?_ ?_; (on_goal 2 => rfl)))

theorem execBandSearchDone_ev (x : Fin 2) (band : Option (BitVec 6)) (st : State) : NextEv st (execBandSearchDone x band st) := by
  have h_ := Evolves.refl st
  unfold execBandSearchDone
  repeat' (first
  | with_reducible assumption
  | with_reducible refine next_ev ?_
  | with_reducible first | apply bandDone_ev
  | split
  | (with_reducible refine Evolves.lit ?_ ?_; (on_goal 2 => rfl)))

theorem execSynRampGo_ev (nseg : BitVec 5) (st : State) : NextEv st (execSynRampGo nseg st) := by
  have h_ := Evolves.refl st
  unfold execSynRampGo
  repeat' (first
  | with_reducible assumption
  | with_reducible refine next_ev ?_
  | with_reducible first | apply rampGo_ev
  | split
  | (with_reducible refine Evolves.lit ?_ ?_; (on_goal 2 => rfl)))

theorem execSynRampStop_ev (st : State) : NextEv st (execSynRampStop st) := by
  have h_ := Evolves.refl st
  unfold execSynRampStop
  repeat' (first
  | with_reducible assumption
  | with_reducible refine next_ev ?_
  | with_reducible first | apply rampStop_ev
  | split
  | (with_reducible refine Evolves.lit ?_ ?_; (on_goal 2 => rfl)))

theorem execSynPhaseAdd_ev (n : BitVec 16) (st : State) : NextEv st (execSynPhaseAdd n st) := by
  have h_ := Evolves.refl st
  unfold execSynPhaseAdd
  repeat' (first
  | with_reducible assumption
  | with_reducible refine next_ev ?_
  | with_reducible first | apply phaseAdd_ev
  | split
  | (with_reducible refine Evolves.lit ?_ ?_; (on_goal 2 => rfl)))

theorem execAlignerLock_ev (o : Fin 4) (st : State) : NextEv st (execAlignerLock o st) := by
  have h_ := Evolves.refl st
  unfold execAlignerLock
  repeat' (first
  | with_reducible assumption
  | with_reducible refine next_ev ?_
  | with_reducible first | apply alignLock_ev
  | split
  | (with_reducible refine Evolves.lit ?_ ?_; (on_goal 2 => rfl)))

theorem execAlignerLoss_ev (o : Fin 4) (st : State) : NextEv st (execAlignerLoss o st) := by
  have h_ := Evolves.refl st
  unfold execAlignerLoss
  repeat' (first
  | with_reducible assumption
  | with_reducible refine next_ev ?_
  | with_reducible first | apply alignLoss_ev
  | split
  | (with_reducible refine Evolves.lit ?_ ?_; (on_goal 2 => rfl)))

end Sys2Proof.Machine
end

