-- ==== Sys2Proof/Laws/Ev/Ports.lean ====
section
/-! SUPPORT. Each operation of Machine/Ports.lean only evolves the state it is given. -/

set_option linter.unreachableTactic false
set_option linter.unusedTactic false
set_option linter.tactic.unusedName false

namespace Sys2Proof.Machine

theorem withAcc_ev (acc : List (Nat × Access)) (s : State) (f : State → State) {a_ : State} (hf : ∀ t, Evolves a_ t → Evolves a_ (f t))
    (h_ : Evolves a_ s) : Evolves a_ (withAcc acc s f) := by
  unfold withAcc
  have hr : Evolves a_ (f { s with port := { s.port with acc := acc } }) := hf _ (Evolves.upd h_ rfl)
  exact Evolves.upd hr rfl

theorem engRead_ev (s : State) (a : Nat) {a_ : State} (h_ : Evolves a_ s) : Evolves a_ (engRead s a).2.2 := by
  unfold engRead
  extract_lets r f
  have hr : Evolves a_ r.st := cisTRead_ev _ _ _ _ _ h_
  clear_value r
  split
  · exact freeW_ev _ hr
  · exact hr

theorem engWrite_ev (s : State) (p a : Nat) (w : Word) {a_ : State} (h_ : Evolves a_ s) : Evolves a_ (engWrite s p a w) := by
  unfold engWrite
  repeat' (first
  | with_reducible assumption
  | with_reducible refine Evolves.ite ?_ ?_
  | with_reducible first | apply cisTWrite_ev
  | split
  | (with_reducible refine Evolves.lit ?_ ?_; (on_goal 2 => rfl)))

theorem portIn_ev (s : State) (p ch : Nat) (w : Word) {a_ : State} (h_ : Evolves a_ s) : Evolves a_ (portIn s p ch w) := by
  unfold portIn
  repeat' (first
  | with_reducible assumption
  | with_reducible refine Evolves.ite ?_ ?_
  | (extract_lets +onlyGivenNames x; first
     | (refine (fun (hx : Evolves a_ x) => ?_) ?_; (on_goal 2 => subst x); (on_goal 1 => clear_value x))
     | (refine (fun (hx : Evolves a_ x.2) => ?_) ?_; (on_goal 2 => subst x); (on_goal 1 => clear_value x))
     | (refine (fun (hx : Evolves a_ x.1) => ?_) ?_; (on_goal 2 => subst x); (on_goal 1 => clear_value x))
     | (refine (fun (hx : Evolves a_ x.2.2) => ?_) ?_; (on_goal 2 => subst x); (on_goal 1 => clear_value x))
     | subst x | clear_value x)
  | with_reducible first | apply mtrPort_ev | apply engWrite_ev
  | split
  | (with_reducible refine Evolves.lit ?_ ?_; (on_goal 2 => rfl)))

theorem bufSwap_ev (s : State) (b : PortBind) (base : Nat) {a_ : State} (h_ : Evolves a_ s) : Evolves a_ (bufSwap s b base) := by
  unfold bufSwap
  repeat' (first
  | with_reducible assumption
  | with_reducible refine Evolves.ite ?_ ?_
  | (extract_lets +onlyGivenNames x; first
     | (refine (fun (hx : Evolves a_ x) => ?_) ?_; (on_goal 2 => subst x); (on_goal 1 => clear_value x))
     | subst x | clear_value x)
  | with_reducible refine forEach_ev (fun _ _ hs => ?_) ?_ | with_reducible refine forN_ev (fun _ _ hs => ?_) ?_
  | with_reducible first | apply cisPut_ev
  | split
  | (with_reducible refine Evolves.lit ?_ ?_; (on_goal 2 => rfl)))

theorem portSwapHalves_ev (s : State) (p : Nat) (kept : Nat → Nat) {a_ : State} (h_ : Evolves a_ s) : Evolves a_ (portSwapHalves s p kept) := by
  unfold portSwapHalves
  repeat' (first
  | with_reducible assumption
  | with_reducible refine Evolves.ite ?_ ?_
  | (extract_lets +onlyGivenNames x; first
     | (refine (fun (hx : Evolves a_ x) => ?_) ?_; (on_goal 2 => subst x); (on_goal 1 => clear_value x))
     | subst x | clear_value x)
  | with_reducible refine forEach_ev (fun _ _ hs => ?_) ?_ | with_reducible refine forN_ev (fun _ _ hs => ?_) ?_
  | with_reducible first | apply bufSwap_ev | apply mtrPort_ev
  | split
  | (with_reducible refine Evolves.lit ?_ ?_; (on_goal 2 => rfl)))

theorem portOut_ev (s : State) (p ch : Nat) {a_ : State} (h_ : Evolves a_ s) : Evolves a_ (portOut s p ch).2 := by
  unfold portOut
  repeat' (first
  | with_reducible assumption
  | with_reducible refine Evolves.ite ?_ ?_
  | (extract_lets +onlyGivenNames x; first
     | (refine (fun (hx : Evolves a_ x) => ?_) ?_; (on_goal 2 => subst x); (on_goal 1 => clear_value x))
     | (refine (fun (hx : Evolves a_ x.2) => ?_) ?_; (on_goal 2 => subst x); (on_goal 1 => clear_value x))
     | (refine (fun (hx : Evolves a_ x.1) => ?_) ?_; (on_goal 2 => subst x); (on_goal 1 => clear_value x))
     | (refine (fun (hx : Evolves a_ x.2.2) => ?_) ?_; (on_goal 2 => subst x); (on_goal 1 => clear_value x))
     | subst x | clear_value x)
  | with_reducible first | apply engRead_ev
  | split
  | (with_reducible refine Evolves.lit ?_ ?_; (on_goal 2 => rfl)))

theorem setFlow_ev (s : State) (n : Nat) (f : FlowRun) {a_ : State} (h_ : Evolves a_ s) : Evolves a_ (setFlow s n f) := by
  unfold setFlow
  repeat' (first
  | with_reducible assumption
  | (extract_lets +onlyGivenNames x; first
     | (refine (fun (hx : Evolves a_ x) => ?_) ?_; (on_goal 2 => subst x); (on_goal 1 => clear_value x))
     | subst x | clear_value x)
  | split
  | (with_reducible refine Evolves.lit ?_ ?_; (on_goal 2 => rfl)))

theorem setAesRx_ev (s : State) (i : Nat) (r : AesRx) {a_ : State} (h_ : Evolves a_ s) : Evolves a_ (setAesRx s i r) := by
  unfold setAesRx
  repeat' (first
  | with_reducible assumption
  | (extract_lets +onlyGivenNames x; first
     | (refine (fun (hx : Evolves a_ x) => ?_) ?_; (on_goal 2 => subst x); (on_goal 1 => clear_value x))
     | subst x | clear_value x)
  | split
  | (with_reducible refine Evolves.lit ?_ ?_; (on_goal 2 => rfl)))

theorem setAesTx_ev (s : State) (j : Nat) (r : AesTx) {a_ : State} (h_ : Evolves a_ s) : Evolves a_ (setAesTx s j r) := by
  unfold setAesTx
  repeat' (first
  | with_reducible assumption
  | (extract_lets +onlyGivenNames x; first
     | (refine (fun (hx : Evolves a_ x) => ?_) ?_; (on_goal 2 => subst x); (on_goal 1 => clear_value x))
     | subst x | clear_value x)
  | split
  | (with_reducible refine Evolves.lit ?_ ?_; (on_goal 2 => rfl)))

theorem setTdm_ev (s : State) (q : Nat) (r : TdmRun) {a_ : State} (h_ : Evolves a_ s) : Evolves a_ (setTdm s q r) := by
  unfold setTdm
  repeat' (first
  | with_reducible assumption
  | (extract_lets +onlyGivenNames x; first
     | (refine (fun (hx : Evolves a_ x) => ?_) ?_; (on_goal 2 => subst x); (on_goal 1 => clear_value x))
     | subst x | clear_value x)
  | split
  | (with_reducible refine Evolves.lit ?_ ?_; (on_goal 2 => rfl)))

theorem memberForce_ev (s : State) (p : Nat) {a_ : State} (h_ : Evolves a_ s) : Evolves a_ (memberForce s p) := by
  unfold memberForce
  repeat' (first
  | with_reducible assumption
  | (extract_lets +onlyGivenNames x; first
     | (refine (fun (hx : Evolves a_ x) => ?_) ?_; (on_goal 2 => subst x); (on_goal 1 => clear_value x))
     | subst x | clear_value x)
  | with_reducible first | apply setFlow_ev | apply setAesRx_ev | apply setTdm_ev
  | split
  | (with_reducible refine Evolves.lit ?_ ?_; (on_goal 2 => rfl)))

theorem algBoundary_ev (s : State) {a_ : State} (h_ : Evolves a_ s) : Evolves a_ (algBoundary s) := by
  unfold algBoundary
  repeat' (first
  | with_reducible assumption
  | with_reducible refine Evolves.ite ?_ ?_
  | (extract_lets +onlyGivenNames x; first
     | (refine (fun (hx : Evolves a_ x) => ?_) ?_; (on_goal 2 => subst x); (on_goal 1 => clear_value x))
     | (refine (fun (hx : Evolves a_ x.st) => ?_) ?_; (on_goal 2 => subst x); (on_goal 1 => clear_value x))
     | (refine (fun (hx : Evolves a_ x.1.st) => ?_) ?_; (on_goal 2 => subst x); (on_goal 1 => clear_value x))
     | (refine (fun (hx : Evolves a_ x.2) => ?_) ?_; (on_goal 2 => subst x); (on_goal 1 => clear_value x))
     | (refine (fun (hx : Evolves a_ x.1) => ?_) ?_; (on_goal 2 => subst x); (on_goal 1 => clear_value x))
     | (refine (fun (hx : Evolves a_ x.2.2) => ?_) ?_; (on_goal 2 => subst x); (on_goal 1 => clear_value x))
     | subst x | clear_value x)
  | with_reducible refine forEach_ev (fun _ _ hs => ?_) ?_ | with_reducible refine forN_ev (fun _ _ hs => ?_) ?_
  | with_reducible first | apply memberForce_ev
  | split
  | (with_reducible refine Evolves.lit ?_ ?_; (on_goal 2 => rfl)))

theorem algTimeout_ev (s : State) (g : Nat) {a_ : State} (h_ : Evolves a_ s) : Evolves a_ (algTimeout s g) := by
  unfold algTimeout
  repeat' (first
  | with_reducible assumption
  | with_reducible refine Evolves.ite ?_ ?_
  | (extract_lets +onlyGivenNames x; first
     | (refine (fun (hx : Evolves a_ x) => ?_) ?_; (on_goal 2 => subst x); (on_goal 1 => clear_value x))
     | (refine (fun (hx : Evolves a_ x.st) => ?_) ?_; (on_goal 2 => subst x); (on_goal 1 => clear_value x))
     | subst x | clear_value x)
  | split
  | (with_reducible refine Evolves.lit ?_ ?_; (on_goal 2 => rfl)))

theorem execAlignGroupTimeout_ev (g : Fin 64) (st : State) : NextEv st (execAlignGroupTimeout g st) := by
  have h_ := Evolves.refl st
  unfold execAlignGroupTimeout
  repeat' (first
  | with_reducible assumption
  | with_reducible refine next_ev ?_
  | with_reducible first | apply algTimeout_ev
  | split
  | (with_reducible refine Evolves.lit ?_ ?_; (on_goal 2 => rfl)))

end Sys2Proof.Machine
end

