-- ==== Sys2Proof/Laws/Ev/Ptp.lean ====
section
/-! SUPPORT. Each operation of Machine/Ptp.lean only evolves the state it is given. -/

set_option linter.unreachableTactic false
set_option linter.unusedTactic false
set_option linter.tactic.unusedName false

namespace Sys2Proof.Machine

theorem setPtpPort_ev (s : State) (p : Nat) (x : PtpPort) {a_ : State} (h_ : Evolves a_ s) : Evolves a_ (setPtpPort s p x) := by
  unfold setPtpPort
  repeat' (first
  | with_reducible assumption
  | (extract_lets +onlyGivenNames x; first
     | (refine (fun (hx : Evolves a_ x) => ?_) ?_; (on_goal 2 => subst x); (on_goal 1 => clear_value x))
     | subst x | clear_value x)
  | split
  | (with_reducible refine Evolves.lit ?_ ?_; (on_goal 2 => rfl)))

theorem onNet_ev (s : State) (f : NetSt → NetSt) {a_ : State} (h_ : Evolves a_ s) : Evolves a_ (onNet s f) := by
  unfold onNet
  repeat' (first
  | with_reducible assumption
  | (extract_lets +onlyGivenNames x; first
     | (refine (fun (hx : Evolves a_ x) => ?_) ?_; (on_goal 2 => subst x); (on_goal 1 => clear_value x))
     | subst x | clear_value x)
  | split
  | (with_reducible refine Evolves.lit ?_ ?_; (on_goal 2 => rfl)))

theorem setServo_ev (s : State) (v : Nat) {a_ : State} (h_ : Evolves a_ s) : Evolves a_ (setServo s v) := by
  unfold setServo
  repeat' (first
  | with_reducible assumption
  | with_reducible refine Evolves.ite ?_ ?_
  | with_reducible first | apply evRaise_ev | apply rput_ev
  | split
  | (with_reducible refine Evolves.lit ?_ ?_; (on_goal 2 => rfl)))

theorem setMapv_ev (s : State) (b : Bool) {a_ : State} (h_ : Evolves a_ s) : Evolves a_ (setMapv s b) := by
  unfold setMapv
  repeat' (first
  | with_reducible assumption
  | with_reducible refine Evolves.ite ?_ ?_
  | with_reducible first | apply netRealign_ev | apply cmtReconvert_ev | apply rputBit_ev
  | split
  | (with_reducible refine Evolves.lit ?_ ?_; (on_goal 2 => rfl)))

theorem setPtpSt_ev (s : State) (p v : Nat) {a_ : State} (h_ : Evolves a_ s) : Evolves a_ (setPtpSt s p v) := by
  unfold setPtpSt
  repeat' (first
  | with_reducible assumption
  | with_reducible refine Evolves.ite ?_ ?_
  | with_reducible first | apply rput_ev
  | split
  | (with_reducible refine Evolves.lit ?_ ?_; (on_goal 2 => rfl)))

theorem ptpLearn_ev (s : State) {a_ : State} (h_ : Evolves a_ s) : Evolves a_ (ptpLearn s) := by
  unfold ptpLearn
  repeat' (first
  | with_reducible assumption
  | with_reducible refine Evolves.ite ?_ ?_
  | with_reducible first | apply onNet_ev
  | split
  | (with_reducible refine Evolves.lit ?_ ?_; (on_goal 2 => rfl)))

theorem ptpShow_ev (s : State) {a_ : State} (h_ : Evolves a_ s) : Evolves a_ (ptpShow s) := by
  unfold ptpShow
  repeat' (first
  | with_reducible assumption
  | with_reducible refine Evolves.ite ?_ ?_
  | (extract_lets +onlyGivenNames x; first
     | (refine (fun (hx : Evolves a_ x) => ?_) ?_; (on_goal 2 => subst x); (on_goal 1 => clear_value x))
     | (refine (fun (hx : Evolves a_ x.2) => ?_) ?_; (on_goal 2 => subst x); (on_goal 1 => clear_value x))
     | (refine (fun (hx : Evolves a_ x.1) => ?_) ?_; (on_goal 2 => subst x); (on_goal 1 => clear_value x))
     | (refine (fun (hx : Evolves a_ x.2.2) => ?_) ?_; (on_goal 2 => subst x); (on_goal 1 => clear_value x))
     | subst x | clear_value x)
  | with_reducible refine forEach_ev (fun _ _ hs => ?_) ?_ | with_reducible refine forN_ev (fun _ _ hs => ?_) ?_
  | with_reducible first | apply ptpLearn_ev | apply rput_ev | apply setPtpSt_ev
  | split
  | (with_reducible refine Evolves.lit ?_ ?_; (on_goal 2 => rfl)))

theorem servoAcquire_ev (s : State) (stepped : Bool) {a_ : State} (h_ : Evolves a_ s) : Evolves a_ (servoAcquire s stepped) := by
  unfold servoAcquire
  repeat' (first
  | with_reducible assumption
  | (extract_lets +onlyGivenNames x; first
     | (refine (fun (hx : Evolves a_ x) => ?_) ?_; (on_goal 2 => subst x); (on_goal 1 => clear_value x))
     | subst x | clear_value x)
  | with_reducible first | apply setServo_ev | apply onNet_ev
  | split
  | (with_reducible refine Evolves.lit ?_ ?_; (on_goal 2 => rfl)))

theorem servoLoss_ev (s : State) {a_ : State} (h_ : Evolves a_ s) : Evolves a_ (servoLoss s) := by
  unfold servoLoss
  repeat' (first
  | with_reducible assumption
  | with_reducible refine Evolves.ite ?_ ?_
  | (extract_lets +onlyGivenNames x; first
     | (refine (fun (hx : Evolves a_ x) => ?_) ?_; (on_goal 2 => subst x); (on_goal 1 => clear_value x))
     | subst x | clear_value x)
  | with_reducible first | apply setServo_ev | apply onNet_ev | apply refLost_ev
  | split
  | (with_reducible refine Evolves.lit ?_ ?_; (on_goal 2 => rfl)))

theorem ptpSelect_ev (s : State) {a_ : State} (h_ : Evolves a_ s) : Evolves a_ (ptpSelect s) := by
  unfold ptpSelect
  repeat' (first
  | with_reducible assumption
  | with_reducible refine Evolves.ite ?_ ?_
  | (extract_lets +onlyGivenNames x; first
     | (refine (fun (hx : Evolves a_ x) => ?_) ?_; (on_goal 2 => subst x); (on_goal 1 => clear_value x))
     | (refine (fun (hx : Evolves a_ x.2) => ?_) ?_; (on_goal 2 => subst x); (on_goal 1 => clear_value x))
     | (refine (fun (hx : Evolves a_ x.1) => ?_) ?_; (on_goal 2 => subst x); (on_goal 1 => clear_value x))
     | (refine (fun (hx : Evolves a_ x.2.2) => ?_) ?_; (on_goal 2 => subst x); (on_goal 1 => clear_value x))
     | subst x | clear_value x)
  | with_reducible first | apply rset64_ev | apply ptpShow_ev | apply onNet_ev | apply servoLoss_ev | apply setPtpPort_ev | apply servoAcquire_ev
  | split
  | (with_reducible refine Evolves.lit ?_ ?_; (on_goal 2 => rfl)))

theorem ptpEnable_ev (s : State) (en : Bool) {a_ : State} (h_ : Evolves a_ s) : Evolves a_ (ptpEnable s en) := by
  unfold ptpEnable
  repeat' (first
  | with_reducible assumption
  | with_reducible refine Evolves.ite ?_ ?_
  | (extract_lets +onlyGivenNames x; first
     | (refine (fun (hx : Evolves a_ x) => ?_) ?_; (on_goal 2 => subst x); (on_goal 1 => clear_value x))
     | (refine (fun (hx : Evolves a_ x.2) => ?_) ?_; (on_goal 2 => subst x); (on_goal 1 => clear_value x))
     | (refine (fun (hx : Evolves a_ x.1) => ?_) ?_; (on_goal 2 => subst x); (on_goal 1 => clear_value x))
     | (refine (fun (hx : Evolves a_ x.2.2) => ?_) ?_; (on_goal 2 => subst x); (on_goal 1 => clear_value x))
     | subst x | clear_value x)
  | with_reducible first | apply onNet_ev | apply rsetBit_ev | apply ptpShow_ev | apply setServo_ev | apply rputBit_ev | apply setMapv_ev | apply setPtpSt_ev | apply rput_ev
  | split
  | (with_reducible refine Evolves.lit ?_ ?_; (on_goal 2 => rfl)))

theorem ptpRefChanged_ev (s : State) {a_ : State} (h_ : Evolves a_ s) : Evolves a_ (ptpRefChanged s) := by
  unfold ptpRefChanged
  repeat' (first
  | with_reducible assumption
  | with_reducible refine Evolves.ite ?_ ?_
  | (extract_lets +onlyGivenNames x; first
     | (refine (fun (hx : Evolves a_ x) => ?_) ?_; (on_goal 2 => subst x); (on_goal 1 => clear_value x))
     | subst x | clear_value x)
  | with_reducible first | apply rputBit_ev | apply setMapv_ev | apply ptpShow_ev | apply setServo_ev | apply onNet_ev
  | split
  | (with_reducible refine Evolves.lit ?_ ?_; (on_goal 2 => rfl)))

theorem setMoff_ev (s : State) (v : Nat) {a_ : State} (h_ : Evolves a_ s) : Evolves a_ (setMoff s v) := by
  unfold setMoff
  repeat' (first
  | with_reducible assumption
  | with_reducible refine Evolves.ite ?_ ?_
  | with_reducible first | apply netMoff_ev | apply evRaise_ev | apply rincMod_ev | apply rset64_ev
  | split
  | (with_reducible refine Evolves.lit ?_ ?_; (on_goal 2 => rfl)))

theorem servoSync_ev (s : State) (p : Nat) (t1 t2 : Int) (bnd : Nat) (align : Int) {a_ : State} (h_ : Evolves a_ s) : Evolves a_ (servoSync s p t1 t2 bnd align) := by
  unfold servoSync
  repeat' (first
  | with_reducible assumption
  | with_reducible refine Evolves.ite ?_ ?_
  | (extract_lets +onlyGivenNames x; first
     | (refine (fun (hx : Evolves a_ x) => ?_) ?_; (on_goal 2 => subst x); (on_goal 1 => clear_value x))
     | (refine (fun (hx : Evolves a_ x.st) => ?_) ?_; (on_goal 2 => subst x); (on_goal 1 => clear_value x))
     | subst x | clear_value x)
  | with_reducible first | apply setPtpPort_ev | apply rset_ev | apply setServo_ev | apply servoAcquire_ev | apply setMapv_ev | apply onNet_ev | apply setMoff_ev | apply ptpShow_ev
  | split
  | (with_reducible refine Evolves.lit ?_ ?_; (on_goal 2 => rfl)))

theorem ptpSync_ev (s : State) (p : Nat) (m : PtpMsg) (rx bnd : Nat) (align : Int) {a_ : State} (h_ : Evolves a_ s) : Evolves a_ (ptpSync s p m rx bnd align) := by
  unfold ptpSync
  repeat' (first
  | with_reducible assumption
  | with_reducible refine Evolves.ite ?_ ?_
  | (extract_lets +onlyGivenNames x; first
     | (refine (fun (hx : Evolves a_ x) => ?_) ?_; (on_goal 2 => subst x); (on_goal 1 => clear_value x))
     | (refine (fun (hx : Evolves a_ x.2) => ?_) ?_; (on_goal 2 => subst x); (on_goal 1 => clear_value x))
     | (refine (fun (hx : Evolves a_ x.1) => ?_) ?_; (on_goal 2 => subst x); (on_goal 1 => clear_value x))
     | (refine (fun (hx : Evolves a_ x.2.2) => ?_) ?_; (on_goal 2 => subst x); (on_goal 1 => clear_value x))
     | subst x | clear_value x)
  | with_reducible first | apply rput_ev | apply setPtpPort_ev | apply servoSync_ev
  | split
  | (with_reducible refine Evolves.lit ?_ ?_; (on_goal 2 => rfl)))

theorem ptpFollowUp_ev (s : State) (p : Nat) (m : PtpMsg) (bnd : Nat) (align : Int) {a_ : State} (h_ : Evolves a_ s) : Evolves a_ (ptpFollowUp s p m bnd align) := by
  unfold ptpFollowUp
  repeat' (first
  | with_reducible assumption
  | with_reducible refine Evolves.ite ?_ ?_
  | (extract_lets +onlyGivenNames x; first
     | (refine (fun (hx : Evolves a_ x) => ?_) ?_; (on_goal 2 => subst x); (on_goal 1 => clear_value x))
     | subst x | clear_value x)
  | with_reducible first | apply servoSync_ev
  | split
  | (with_reducible refine Evolves.lit ?_ ?_; (on_goal 2 => rfl)))

theorem ptpDelayResp_ev (s : State) (p : Nat) (m : PtpMsg) (rx : Nat) {a_ : State} (h_ : Evolves a_ s) : Evolves a_ (ptpDelayResp s p m rx) := by
  unfold ptpDelayResp
  repeat' (first
  | with_reducible assumption
  | with_reducible refine Evolves.ite ?_ ?_
  | (extract_lets +onlyGivenNames x; first
     | (refine (fun (hx : Evolves a_ x) => ?_) ?_; (on_goal 2 => subst x); (on_goal 1 => clear_value x))
     | subst x | clear_value x)
  | with_reducible first | apply setPtpPort_ev | apply rput_ev
  | split
  | (with_reducible refine Evolves.lit ?_ ?_; (on_goal 2 => rfl)))

theorem ptpAnnounce_ev (s : State) (p : Nat) (m : PtpMsg) {a_ : State} (h_ : Evolves a_ s) : Evolves a_ (ptpAnnounce s p m) := by
  unfold ptpAnnounce
  repeat' (first
  | with_reducible assumption
  | with_reducible refine Evolves.ite ?_ ?_
  | (extract_lets +onlyGivenNames x; first
     | (refine (fun (hx : Evolves a_ x) => ?_) ?_; (on_goal 2 => subst x); (on_goal 1 => clear_value x))
     | (refine (fun (hx : Evolves a_ x.2) => ?_) ?_; (on_goal 2 => subst x); (on_goal 1 => clear_value x))
     | (refine (fun (hx : Evolves a_ x.1) => ?_) ?_; (on_goal 2 => subst x); (on_goal 1 => clear_value x))
     | (refine (fun (hx : Evolves a_ x.2.2) => ?_) ?_; (on_goal 2 => subst x); (on_goal 1 => clear_value x))
     | subst x | clear_value x)
  | with_reducible first | apply setPtpPort_ev | apply ptpSelect_ev | apply rput_ev
  | split
  | (with_reducible refine Evolves.lit ?_ ?_; (on_goal 2 => rfl)))

theorem ptpMove_ev (s : State) (p : Nat) {a_ : State} (h_ : Evolves a_ s) : Evolves a_ (ptpMove s p) := by
  unfold ptpMove
  repeat' (first
  | with_reducible assumption
  | with_reducible refine Evolves.ite ?_ ?_
  | (extract_lets +onlyGivenNames x; first
     | (refine (fun (hx : Evolves a_ x) => ?_) ?_; (on_goal 2 => subst x); (on_goal 1 => clear_value x))
     | subst x | clear_value x)
  | with_reducible first | apply setPtpPort_ev | apply onNet_ev | apply ptpSelect_ev
  | split
  | (with_reducible refine Evolves.lit ?_ ?_; (on_goal 2 => rfl)))

theorem ptpTimeout_ev (s : State) (p : Nat) {a_ : State} (h_ : Evolves a_ s) : Evolves a_ (ptpTimeout s p) := by
  unfold ptpTimeout
  repeat' (first
  | with_reducible assumption
  | with_reducible refine Evolves.ite ?_ ?_
  | with_reducible first | apply ptpMove_ev
  | split
  | (with_reducible refine Evolves.lit ?_ ?_; (on_goal 2 => rfl)))

theorem netLinkDown_ev (s : State) (p cyc : Nat) {a_ : State} (h_ : Evolves a_ s) : Evolves a_ (netLinkDown s p cyc) := by
  unfold netLinkDown
  repeat' (first
  | with_reducible assumption
  | with_reducible refine Evolves.ite ?_ ?_
  | (extract_lets +onlyGivenNames x; first
     | (refine (fun (hx : Evolves a_ x) => ?_) ?_; (on_goal 2 => subst x); (on_goal 1 => clear_value x))
     | subst x | clear_value x)
  | with_reducible first | apply linkDown_ev | apply ptpMove_ev
  | split
  | (with_reducible refine Evolves.lit ?_ ?_; (on_goal 2 => rfl)))

theorem ptpSend_ev (s : State) (p : Nat) (peer : Option (List Byte)) (bytes : List Byte) {a_ : State} (h_ : Evolves a_ s) : Evolves a_ (ptpSend s p peer bytes) := by
  unfold ptpSend
  repeat' (first
  | with_reducible assumption
  | with_reducible refine Evolves.ite ?_ ?_
  | (extract_lets +onlyGivenNames x; first
     | (refine (fun (hx : Evolves a_ x) => ?_) ?_; (on_goal 2 => subst x); (on_goal 1 => clear_value x))
     | (refine (fun (hx : Evolves a_ x.2) => ?_) ?_; (on_goal 2 => subst x); (on_goal 1 => clear_value x))
     | (refine (fun (hx : Evolves a_ x.1) => ?_) ?_; (on_goal 2 => subst x); (on_goal 1 => clear_value x))
     | (refine (fun (hx : Evolves a_ x.2.2) => ?_) ?_; (on_goal 2 => subst x); (on_goal 1 => clear_value x))
     | subst x | clear_value x)
  | with_reducible first | apply emit_ev
  | split
  | (with_reducible refine Evolves.lit ?_ ?_; (on_goal 2 => rfl)))

theorem ptpDelayReq_ev (s : State) (p : Nat) (m : PtpMsg) (rx tx : Nat) {a_ : State} (h_ : Evolves a_ s) : Evolves a_ (ptpDelayReq s p m rx tx) := by
  unfold ptpDelayReq
  repeat' (first
  | with_reducible assumption
  | with_reducible refine Evolves.ite ?_ ?_
  | (extract_lets +onlyGivenNames x; first
     | (refine (fun (hx : Evolves a_ x) => ?_) ?_; (on_goal 2 => subst x); (on_goal 1 => clear_value x))
     | (refine (fun (hx : Evolves a_ x.2) => ?_) ?_; (on_goal 2 => subst x); (on_goal 1 => clear_value x))
     | (refine (fun (hx : Evolves a_ x.1) => ?_) ?_; (on_goal 2 => subst x); (on_goal 1 => clear_value x))
     | (refine (fun (hx : Evolves a_ x.2.2) => ?_) ?_; (on_goal 2 => subst x); (on_goal 1 => clear_value x))
     | subst x | clear_value x)
  | with_reducible first | apply ptpSend_ev
  | split
  | (with_reducible refine Evolves.lit ?_ ?_; (on_goal 2 => rfl)))

theorem ptpDelayTick_ev (s : State) (p tx : Nat) {a_ : State} (h_ : Evolves a_ s) : Evolves a_ (ptpDelayTick s p tx) := by
  unfold ptpDelayTick
  repeat' (first
  | with_reducible assumption
  | with_reducible refine Evolves.ite ?_ ?_
  | (extract_lets +onlyGivenNames x; first
     | (refine (fun (hx : Evolves a_ x) => ?_) ?_; (on_goal 2 => subst x); (on_goal 1 => clear_value x))
     | (refine (fun (hx : Evolves a_ x.2) => ?_) ?_; (on_goal 2 => subst x); (on_goal 1 => clear_value x))
     | (refine (fun (hx : Evolves a_ x.1) => ?_) ?_; (on_goal 2 => subst x); (on_goal 1 => clear_value x))
     | (refine (fun (hx : Evolves a_ x.2.2) => ?_) ?_; (on_goal 2 => subst x); (on_goal 1 => clear_value x))
     | subst x | clear_value x)
  | with_reducible first | apply setPtpPort_ev | apply ptpSend_ev
  | split
  | (with_reducible refine Evolves.lit ?_ ?_; (on_goal 2 => rfl)))

theorem ptpSyncTick_ev (s : State) (p tx : Nat) {a_ : State} (h_ : Evolves a_ s) : Evolves a_ (ptpSyncTick s p tx) := by
  unfold ptpSyncTick
  repeat' (first
  | with_reducible assumption
  | with_reducible refine Evolves.ite ?_ ?_
  | (extract_lets +onlyGivenNames x; first
     | (refine (fun (hx : Evolves a_ x) => ?_) ?_; (on_goal 2 => subst x); (on_goal 1 => clear_value x))
     | (refine (fun (hx : Evolves a_ x.2) => ?_) ?_; (on_goal 2 => subst x); (on_goal 1 => clear_value x))
     | (refine (fun (hx : Evolves a_ x.1) => ?_) ?_; (on_goal 2 => subst x); (on_goal 1 => clear_value x))
     | (refine (fun (hx : Evolves a_ x.2.2) => ?_) ?_; (on_goal 2 => subst x); (on_goal 1 => clear_value x))
     | subst x | clear_value x)
  | with_reducible first | apply setPtpPort_ev | apply ptpSend_ev
  | split
  | (with_reducible refine Evolves.lit ?_ ?_; (on_goal 2 => rfl)))

theorem ptpAnnounceTick_ev (s : State) (p : Nat) {a_ : State} (h_ : Evolves a_ s) : Evolves a_ (ptpAnnounceTick s p) := by
  unfold ptpAnnounceTick
  repeat' (first
  | with_reducible assumption
  | with_reducible refine Evolves.ite ?_ ?_
  | (extract_lets +onlyGivenNames x; first
     | (refine (fun (hx : Evolves a_ x) => ?_) ?_; (on_goal 2 => subst x); (on_goal 1 => clear_value x))
     | (refine (fun (hx : Evolves a_ x.2) => ?_) ?_; (on_goal 2 => subst x); (on_goal 1 => clear_value x))
     | (refine (fun (hx : Evolves a_ x.1) => ?_) ?_; (on_goal 2 => subst x); (on_goal 1 => clear_value x))
     | (refine (fun (hx : Evolves a_ x.2.2) => ?_) ?_; (on_goal 2 => subst x); (on_goal 1 => clear_value x))
     | subst x | clear_value x)
  | with_reducible first | apply setPtpPort_ev | apply ptpSend_ev
  | split
  | (with_reducible refine Evolves.lit ?_ ?_; (on_goal 2 => rfl)))

theorem execNetworkLinkDown_ev (p : Fin 2) (cyc : Fin 25600) (st : State) : NextEv st (execNetworkLinkDown p cyc st) := by
  have h_ := Evolves.refl st
  unfold execNetworkLinkDown
  repeat' (first
  | with_reducible assumption
  | with_reducible refine next_ev ?_
  | with_reducible first | apply netLinkDown_ev
  | split
  | (with_reducible refine Evolves.lit ?_ ?_; (on_goal 2 => rfl)))

theorem execPtpSync_ev (p : Fin 2) (m : PtpMsg) (rx bnd : Nat) (align : Int) (st : State) : NextEv st (execPtpSync p m rx bnd align st) := by
  have h_ := Evolves.refl st
  unfold execPtpSync
  repeat' (first
  | with_reducible assumption
  | with_reducible refine next_ev ?_
  | with_reducible first | apply ptpSync_ev
  | split
  | (with_reducible refine Evolves.lit ?_ ?_; (on_goal 2 => rfl)))

theorem execPtpFollowUp_ev (p : Fin 2) (m : PtpMsg) (bnd : Nat) (align : Int) (st : State) : NextEv st (execPtpFollowUp p m bnd align st) := by
  have h_ := Evolves.refl st
  unfold execPtpFollowUp
  repeat' (first
  | with_reducible assumption
  | with_reducible refine next_ev ?_
  | with_reducible first | apply ptpFollowUp_ev
  | split
  | (with_reducible refine Evolves.lit ?_ ?_; (on_goal 2 => rfl)))

theorem execPtpAnnounce_ev (p : Fin 2) (m : PtpMsg) (st : State) : NextEv st (execPtpAnnounce p m st) := by
  have h_ := Evolves.refl st
  unfold execPtpAnnounce
  repeat' (first
  | with_reducible assumption
  | with_reducible refine next_ev ?_
  | with_reducible first | apply ptpAnnounce_ev
  | split
  | (with_reducible refine Evolves.lit ?_ ?_; (on_goal 2 => rfl)))

theorem execAnnounceReceiptTimeout_ev (p : Fin 2) (st : State) : NextEv st (execAnnounceReceiptTimeout p st) := by
  have h_ := Evolves.refl st
  unfold execAnnounceReceiptTimeout
  repeat' (first
  | with_reducible assumption
  | with_reducible refine next_ev ?_
  | with_reducible first | apply ptpTimeout_ev
  | split
  | (with_reducible refine Evolves.lit ?_ ?_; (on_goal 2 => rfl)))

theorem execPtpDelayResp_ev (p : Fin 2) (m : PtpMsg) (rx : Nat) (st : State) : NextEv st (execPtpDelayResp p m rx st) := by
  have h_ := Evolves.refl st
  unfold execPtpDelayResp
  repeat' (first
  | with_reducible assumption
  | with_reducible refine next_ev ?_
  | with_reducible first | apply ptpDelayResp_ev
  | split
  | (with_reducible refine Evolves.lit ?_ ?_; (on_goal 2 => rfl)))

theorem execPtpDelayReq_ev (p : Fin 2) (m : PtpMsg) (rx tx : Nat) (st : State) : NextEv st (execPtpDelayReq p m rx tx st) := by
  have h_ := Evolves.refl st
  unfold execPtpDelayReq
  repeat' (first
  | with_reducible assumption
  | with_reducible refine next_ev ?_
  | with_reducible first | apply ptpDelayReq_ev
  | split
  | (with_reducible refine Evolves.lit ?_ ?_; (on_goal 2 => rfl)))

theorem execPtpDelayReqInterval_ev (p : Fin 2) (tx : Nat) (st : State) : NextEv st (execPtpDelayReqInterval p tx st) := by
  have h_ := Evolves.refl st
  unfold execPtpDelayReqInterval
  repeat' (first
  | with_reducible assumption
  | with_reducible refine next_ev ?_
  | with_reducible first | apply ptpDelayTick_ev
  | split
  | (with_reducible refine Evolves.lit ?_ ?_; (on_goal 2 => rfl)))

theorem execPtpSyncInterval_ev (p : Fin 2) (tx : Nat) (st : State) : NextEv st (execPtpSyncInterval p tx st) := by
  have h_ := Evolves.refl st
  unfold execPtpSyncInterval
  repeat' (first
  | with_reducible assumption
  | with_reducible refine next_ev ?_
  | with_reducible first | apply ptpSyncTick_ev
  | split
  | (with_reducible refine Evolves.lit ?_ ?_; (on_goal 2 => rfl)))

theorem execPtpAnnounceInterval_ev (p : Fin 2) (st : State) : NextEv st (execPtpAnnounceInterval p st) := by
  have h_ := Evolves.refl st
  unfold execPtpAnnounceInterval
  repeat' (first
  | with_reducible assumption
  | with_reducible refine next_ev ?_
  | with_reducible first | apply ptpAnnounceTick_ev
  | split
  | (with_reducible refine Evolves.lit ?_ ?_; (on_goal 2 => rfl)))

end Sys2Proof.Machine
end

