-- ==== Sys2Proof/Laws/Ev/Serial.lean ====
section
/-! SUPPORT. Each operation of Machine/Serial.lean only evolves the state it is given. -/

set_option linter.unreachableTactic false
set_option linter.unusedTactic false
set_option linter.tactic.unusedName false

namespace Sys2Proof.Machine

theorem arEv_ev (s : State) (i bit : Nat) (flag : Bool) {a_ : State} (h_ : Evolves a_ s) : Evolves a_ (arEv s i bit flag) := by
  unfold arEv
  repeat' (first
  | with_reducible assumption
  | with_reducible refine Evolves.ite ?_ ?_
  | (extract_lets +onlyGivenNames x; first
     | (refine (fun (hx : Evolves a_ x) => ?_) ?_; (on_goal 2 => subst x); (on_goal 1 => clear_value x))
     | subst x | clear_value x)
  | with_reducible first | apply rsetBit_ev | apply evRaise_ev
  | split
  | (with_reducible refine Evolves.lit ?_ ?_; (on_goal 2 => rfl)))

theorem arSet_ev (s : State) (i st : Nat) {a_ : State} (h_ : Evolves a_ s) : Evolves a_ (arSet s i st) := by
  unfold arSet
  repeat' (first
  | with_reducible assumption
  | with_reducible refine Evolves.ite ?_ ?_
  | with_reducible first | apply arEv_ev | apply rput_ev
  | split
  | (with_reducible refine Evolves.lit ?_ ?_; (on_goal 2 => rfl)))

theorem arLose_ev (s : State) (i : Nat) {a_ : State} (h_ : Evolves a_ s) : Evolves a_ (arLose s i) := by
  unfold arLose
  repeat' (first
  | with_reducible assumption
  | with_reducible refine Evolves.ite ?_ ?_
  | (extract_lets +onlyGivenNames x; first
     | (refine (fun (hx : Evolves a_ x) => ?_) ?_; (on_goal 2 => subst x); (on_goal 1 => clear_value x))
     | subst x | clear_value x)
  | with_reducible first | apply setAesRx_ev | apply arSet_ev
  | split
  | (with_reducible refine Evolves.lit ?_ ?_; (on_goal 2 => rfl)))

theorem arJudge_ev (s : State) (i : Nat) {a_ : State} (h_ : Evolves a_ s) : Evolves a_ (arJudge s i) := by
  unfold arJudge
  repeat' (first
  | with_reducible assumption
  | with_reducible refine Evolves.ite ?_ ?_
  | with_reducible first | apply arLose_ev
  | split
  | (with_reducible refine Evolves.lit ?_ ?_; (on_goal 2 => rfl)))

theorem arUnlock_ev (s : State) (i : Nat) {a_ : State} (h_ : Evolves a_ s) : Evolves a_ (arUnlock s i) := by
  unfold arUnlock
  repeat' (first
  | with_reducible assumption
  | with_reducible refine Evolves.ite ?_ ?_
  | with_reducible first | apply arJudge_ev | apply rset_ev | apply rputBit_ev
  | split
  | (with_reducible refine Evolves.lit ?_ ?_; (on_goal 2 => rfl)))

theorem arLeave_ev (s : State) (i : Nat) {a_ : State} (h_ : Evolves a_ s) : Evolves a_ (arLeave s i) := by
  unfold arLeave
  repeat' (first
  | with_reducible assumption
  | with_reducible refine Evolves.ite ?_ ?_
  | (extract_lets +onlyGivenNames x; first
     | (refine (fun (hx : Evolves a_ x) => ?_) ?_; (on_goal 2 => subst x); (on_goal 1 => clear_value x))
     | (refine (fun (hx : Evolves a_ x.2) => ?_) ?_; (on_goal 2 => subst x); (on_goal 1 => clear_value x))
     | (refine (fun (hx : Evolves a_ x.1) => ?_) ?_; (on_goal 2 => subst x); (on_goal 1 => clear_value x))
     | (refine (fun (hx : Evolves a_ x.2.2) => ?_) ?_; (on_goal 2 => subst x); (on_goal 1 => clear_value x))
     | subst x | clear_value x)
  | with_reducible first | apply setAesRx_ev | apply rput_ev | apply arEv_ev | apply rinc_ev | apply arJudge_ev | apply arUnlock_ev | apply refLost_ev
  | split
  | (with_reducible refine Evolves.lit ?_ ?_; (on_goal 2 => rfl)))

theorem arCapCs_ev (s : State) (i : Nat) (sub : Bool) (bits : List Bool) {a_ : State} (h_ : Evolves a_ s) : Evolves a_ (arCapCs s i sub bits).2 := by
  unfold arCapCs
  repeat' (first
  | with_reducible assumption
  | with_reducible refine Evolves.ite ?_ ?_
  | (extract_lets +onlyGivenNames x; first
     | (refine (fun (hx : Evolves a_ x) => ?_) ?_; (on_goal 2 => subst x); (on_goal 1 => clear_value x))
     | subst x | clear_value x)
  | with_reducible first | apply arEv_ev | apply rinc_ev | apply setAesRx_ev | apply rputBit_ev
  | split
  | (with_reducible refine Evolves.lit ?_ ?_; (on_goal 2 => rfl)))

theorem arCapture_ev (s : State) (i : Nat) {a_ : State} (h_ : Evolves a_ s) : Evolves a_ (arCapture s i) := by
  unfold arCapture
  repeat' (first
  | with_reducible assumption
  | (extract_lets +onlyGivenNames x; first
     | (refine (fun (hx : Evolves a_ x) => ?_) ?_; (on_goal 2 => subst x); (on_goal 1 => clear_value x))
     | (refine (fun (hx : Evolves a_ x.2) => ?_) ?_; (on_goal 2 => subst x); (on_goal 1 => clear_value x))
     | (refine (fun (hx : Evolves a_ x.1) => ?_) ?_; (on_goal 2 => subst x); (on_goal 1 => clear_value x))
     | (refine (fun (hx : Evolves a_ x.2.2) => ?_) ?_; (on_goal 2 => subst x); (on_goal 1 => clear_value x))
     | subst x | clear_value x)
  | with_reducible first | apply arCapCs_ev | apply setAesRx_ev
  | split
  | (with_reducible refine Evolves.lit ?_ ?_; (on_goal 2 => rfl)))

theorem arBlock_ev (s : State) (i : Nat) {a_ : State} (h_ : Evolves a_ s) : Evolves a_ (arBlock s i) := by
  unfold arBlock
  repeat' (first
  | with_reducible assumption
  | with_reducible refine Evolves.ite ?_ ?_
  | (extract_lets +onlyGivenNames x; first
     | (refine (fun (hx : Evolves a_ x) => ?_) ?_; (on_goal 2 => subst x); (on_goal 1 => clear_value x))
     | subst x | clear_value x)
  | with_reducible first | apply setAesRx_ev | apply arSet_ev
  | split
  | (with_reducible refine Evolves.lit ?_ ?_; (on_goal 2 => rfl)))

theorem arZ_ev (s : State) (i : Nat) (z : Bool) {a_ : State} (h_ : Evolves a_ s) : Evolves a_ (arZ s i z) := by
  unfold arZ
  repeat' (first
  | with_reducible assumption
  | with_reducible refine Evolves.ite ?_ ?_
  | (extract_lets +onlyGivenNames x; first
     | (refine (fun (hx : Evolves a_ x) => ?_) ?_; (on_goal 2 => subst x); (on_goal 1 => clear_value x))
     | subst x | clear_value x)
  | with_reducible first | apply setAesRx_ev | apply arBlock_ev | apply arCapture_ev | apply rinc_ev
  | split
  | (with_reducible refine Evolves.lit ?_ ?_; (on_goal 2 => rfl)))

theorem arBits_ev (s : State) (i : Nat) (a b : Subframe) {a_ : State} (h_ : Evolves a_ s) : Evolves a_ (arBits s i a b) := by
  unfold arBits
  repeat' (first
  | with_reducible assumption
  | with_reducible refine Evolves.ite ?_ ?_
  | (extract_lets +onlyGivenNames x; first
     | (refine (fun (hx : Evolves a_ x) => ?_) ?_; (on_goal 2 => subst x); (on_goal 1 => clear_value x))
     | subst x | clear_value x)
  | with_reducible first | apply setAesRx_ev
  | split
  | (with_reducible refine Evolves.lit ?_ ?_; (on_goal 2 => rfl)))

theorem arDeliver_ev (s : State) (i : Nat) (vs : List (Option Word)) {a_ : State} (h_ : Evolves a_ s) : Evolves a_ (arDeliver s i vs) := by
  unfold arDeliver
  repeat' (first
  | with_reducible assumption
  | with_reducible refine Evolves.ite ?_ ?_
  | (extract_lets +onlyGivenNames x; first
     | (refine (fun (hx : Evolves a_ x) => ?_) ?_; (on_goal 2 => subst x); (on_goal 1 => clear_value x))
     | (refine (fun (hx : Evolves a_ x.2) => ?_) ?_; (on_goal 2 => subst x); (on_goal 1 => clear_value x))
     | (refine (fun (hx : Evolves a_ x.1) => ?_) ?_; (on_goal 2 => subst x); (on_goal 1 => clear_value x))
     | (refine (fun (hx : Evolves a_ x.2.2) => ?_) ?_; (on_goal 2 => subst x); (on_goal 1 => clear_value x))
     | subst x | clear_value x)
  | with_reducible refine forEach_ev (fun _ _ hs => ?_) ?_ | with_reducible refine forN_ev (fun _ _ hs => ?_) ?_
  | with_reducible first | apply setAesRx_ev | apply portIn_ev
  | split
  | (with_reducible refine Evolves.lit ?_ ?_; (on_goal 2 => rfl)))

theorem arFeed_ev (s : State) (i : Nat) (vs : List (Option Word)) (next : Bool) {a_ : State} (h_ : Evolves a_ s) : Evolves a_ (arFeed s i vs next) := by
  unfold arFeed
  repeat' (first
  | with_reducible assumption
  | with_reducible refine Evolves.ite ?_ ?_
  | (extract_lets +onlyGivenNames x; first
     | (refine (fun (hx : Evolves a_ x) => ?_) ?_; (on_goal 2 => subst x); (on_goal 1 => clear_value x))
     | (refine (fun (hx : Evolves a_ x.2) => ?_) ?_; (on_goal 2 => subst x); (on_goal 1 => clear_value x))
     | (refine (fun (hx : Evolves a_ x.1) => ?_) ?_; (on_goal 2 => subst x); (on_goal 1 => clear_value x))
     | (refine (fun (hx : Evolves a_ x.2.2) => ?_) ?_; (on_goal 2 => subst x); (on_goal 1 => clear_value x))
     | subst x | clear_value x)
  | with_reducible first | apply next_ev | apply setAesRx_ev
  | split
  | (with_reducible refine Evolves.lit ?_ ?_; (on_goal 2 => rfl)))

theorem arLocked_ev (s : State) (i : Nat) (a b : Subframe) (valid next : Bool) {a_ : State} (h_ : Evolves a_ s) : Evolves a_ (arLocked s i a b valid next) := by
  unfold arLocked
  repeat' (first
  | with_reducible assumption
  | with_reducible refine Evolves.ite ?_ ?_
  | (extract_lets +onlyGivenNames x; first
     | (refine (fun (hx : Evolves a_ x) => ?_) ?_; (on_goal 2 => subst x); (on_goal 1 => clear_value x))
     | (refine (fun (hx : Evolves a_ x.2) => ?_) ?_; (on_goal 2 => subst x); (on_goal 1 => clear_value x))
     | (refine (fun (hx : Evolves a_ x.1) => ?_) ?_; (on_goal 2 => subst x); (on_goal 1 => clear_value x))
     | (refine (fun (hx : Evolves a_ x.2.2) => ?_) ?_; (on_goal 2 => subst x); (on_goal 1 => clear_value x))
     | subst x | clear_value x)
  | with_reducible first | apply next_ev | apply rincBy_ev | apply arZ_ev | apply arBits_ev | apply setAesRx_ev | apply arJudge_ev | apply arFeed_ev | apply rinc_ev | apply arDeliver_ev
  | split
  | (with_reducible refine Evolves.lit ?_ ?_; (on_goal 2 => rfl)))

theorem arFrame_ev (s : State) (i : Nat) (a b : Subframe) (frate : Nat) (next : Bool) {a_ : State} (h_ : Evolves a_ s) : Evolves a_ (arFrame s i a b frate next) := by
  unfold arFrame
  repeat' (first
  | with_reducible assumption
  | with_reducible refine Evolves.ite ?_ ?_
  | (extract_lets +onlyGivenNames x; first
     | (refine (fun (hx : Evolves a_ x) => ?_) ?_; (on_goal 2 => subst x); (on_goal 1 => clear_value x))
     | (refine (fun (hx : Evolves a_ x.2) => ?_) ?_; (on_goal 2 => subst x); (on_goal 1 => clear_value x))
     | (refine (fun (hx : Evolves a_ x.1) => ?_) ?_; (on_goal 2 => subst x); (on_goal 1 => clear_value x))
     | (refine (fun (hx : Evolves a_ x.2.2) => ?_) ?_; (on_goal 2 => subst x); (on_goal 1 => clear_value x))
     | subst x | clear_value x)
  | with_reducible first | apply next_ev | apply rput_ev | apply arUnlock_ev | apply setAesRx_ev | apply arLeave_ev | apply arLocked_ev
  | split
  | (with_reducible refine Evolves.lit ?_ ?_; (on_goal 2 => rfl)))

theorem arTickEnd_ev (s : State) (i : Nat) {a_ : State} (h_ : Evolves a_ s) : Evolves a_ (arTickEnd s i) := by
  unfold arTickEnd
  repeat' (first
  | with_reducible assumption
  | with_reducible refine Evolves.ite ?_ ?_
  | (extract_lets +onlyGivenNames x; first
     | (refine (fun (hx : Evolves a_ x) => ?_) ?_; (on_goal 2 => subst x); (on_goal 1 => clear_value x))
     | (refine (fun (hx : Evolves a_ x.2) => ?_) ?_; (on_goal 2 => subst x); (on_goal 1 => clear_value x))
     | (refine (fun (hx : Evolves a_ x.1) => ?_) ?_; (on_goal 2 => subst x); (on_goal 1 => clear_value x))
     | (refine (fun (hx : Evolves a_ x.2.2) => ?_) ?_; (on_goal 2 => subst x); (on_goal 1 => clear_value x))
     | subst x | clear_value x)
  | with_reducible refine forEach_ev (fun _ _ hs => ?_) ?_ | with_reducible refine forN_ev (fun _ _ hs => ?_) ?_
  | with_reducible first | apply portIn_ev | apply setAesRx_ev | apply drawn_ev | apply rinc_ev
  | split
  | (with_reducible refine Evolves.lit ?_ ?_; (on_goal 2 => rfl)))

theorem arTickStart_ev (s : State) (i : Nat) {a_ : State} (h_ : Evolves a_ s) : Evolves a_ (arTickStart s i) := by
  unfold arTickStart
  repeat' (first
  | with_reducible assumption
  | with_reducible refine Evolves.ite ?_ ?_
  | (extract_lets +onlyGivenNames x; first
     | (refine (fun (hx : Evolves a_ x) => ?_) ?_; (on_goal 2 => subst x); (on_goal 1 => clear_value x))
     | (refine (fun (hx : Evolves a_ x.2) => ?_) ?_; (on_goal 2 => subst x); (on_goal 1 => clear_value x))
     | (refine (fun (hx : Evolves a_ x.1) => ?_) ?_; (on_goal 2 => subst x); (on_goal 1 => clear_value x))
     | (refine (fun (hx : Evolves a_ x.2.2) => ?_) ?_; (on_goal 2 => subst x); (on_goal 1 => clear_value x))
     | subst x | clear_value x)
  | with_reducible first | apply arJudge_ev | apply arSet_ev | apply setAesRx_ev | apply arDeliver_ev
  | split
  | (with_reducible refine Evolves.lit ?_ ?_; (on_goal 2 => rfl)))

theorem arBound_ev (s : State) (i : Nat) (old : PortBind) {a_ : State} (h_ : Evolves a_ s) : Evolves a_ (arBound s i old) := by
  unfold arBound
  repeat' (first
  | with_reducible assumption
  | with_reducible refine Evolves.ite ?_ ?_
  | (extract_lets +onlyGivenNames x; first
     | (refine (fun (hx : Evolves a_ x) => ?_) ?_; (on_goal 2 => subst x); (on_goal 1 => clear_value x))
     | subst x | clear_value x)
  | with_reducible first | apply setAesRx_ev | apply rset_ev | apply rput_ev | apply rputBit_ev | apply arEv_ev
  | split
  | (with_reducible refine Evolves.lit ?_ ?_; (on_goal 2 => rfl)))

theorem arRatioLock_ev (s : State) (i : Nat) (ratio : W32) (gd : BitVec 24) {a_ : State} (h_ : Evolves a_ s) : Evolves a_ (arRatioLock s i ratio gd) := by
  unfold arRatioLock
  repeat' (first
  | with_reducible assumption
  | with_reducible refine Evolves.ite ?_ ?_
  | with_reducible first | apply rset_ev | apply rsetBit_ev
  | split
  | (with_reducible refine Evolves.lit ?_ ?_; (on_goal 2 => rfl)))

theorem atSet_ev (s : State) (j st : Nat) (eve : Bool) {a_ : State} (h_ : Evolves a_ s) : Evolves a_ (atSet s j st eve) := by
  unfold atSet
  repeat' (first
  | with_reducible assumption
  | with_reducible refine Evolves.ite ?_ ?_
  | (extract_lets +onlyGivenNames x; first
     | (refine (fun (hx : Evolves a_ x) => ?_) ?_; (on_goal 2 => subst x); (on_goal 1 => clear_value x))
     | subst x | clear_value x)
  | with_reducible first | apply rput_ev | apply evRaise_ev
  | split
  | (with_reducible refine Evolves.lit ?_ ?_; (on_goal 2 => rfl)))

theorem setTxChan_ev (s : State) (j ch : Nat) (c : TxChan) {a_ : State} (h_ : Evolves a_ s) : Evolves a_ (setTxChan s j ch c) := by
  unfold setTxChan
  repeat' (first
  | with_reducible assumption
  | with_reducible refine Evolves.ite ?_ ?_
  | (extract_lets +onlyGivenNames x; first
     | (refine (fun (hx : Evolves a_ x) => ?_) ?_; (on_goal 2 => subst x); (on_goal 1 => clear_value x))
     | subst x | clear_value x)
  | with_reducible first | apply setAesTx_ev | apply rputBit_ev
  | split
  | (with_reducible refine Evolves.lit ?_ ?_; (on_goal 2 => rfl)))

theorem txChange_ev (s : State) (j ch : Nat) {a_ : State} (h_ : Evolves a_ s) : Evolves a_ (txChange s j ch) := by
  unfold txChange
  repeat' (first
  | with_reducible assumption
  | with_reducible refine Evolves.ite ?_ ?_
  | (extract_lets +onlyGivenNames x; first
     | (refine (fun (hx : Evolves a_ x) => ?_) ?_; (on_goal 2 => subst x); (on_goal 1 => clear_value x))
     | subst x | clear_value x)
  | with_reducible first | apply setTxChan_ev
  | split
  | (with_reducible refine Evolves.lit ?_ ?_; (on_goal 2 => rfl)))

theorem txGain_ev (s : State) (j ch : Nat) (v : W32) {a_ : State} (h_ : Evolves a_ s) : Evolves a_ (txGain s j ch v) := by
  unfold txGain
  repeat' (first
  | with_reducible assumption
  | with_reducible first | apply txChange_ev | apply rset_ev
  | split
  | (with_reducible refine Evolves.lit ?_ ?_; (on_goal 2 => rfl)))

theorem txMute_ev (s : State) (j v : Nat) {a_ : State} (h_ : Evolves a_ s) : Evolves a_ (txMute s j v) := by
  unfold txMute
  repeat' (first
  | with_reducible assumption
  | with_reducible refine Evolves.ite ?_ ?_
  | (extract_lets +onlyGivenNames x; first
     | (refine (fun (hx : Evolves a_ x) => ?_) ?_; (on_goal 2 => subst x); (on_goal 1 => clear_value x))
     | subst x | clear_value x)
  | with_reducible refine forEach_ev (fun _ _ hs => ?_) ?_ | with_reducible refine forN_ev (fun _ _ hs => ?_) ?_
  | with_reducible first | apply rput_ev | apply txChange_ev
  | split
  | (with_reducible refine Evolves.lit ?_ ?_; (on_goal 2 => rfl)))

theorem txStep_ev (s : State) (j ch : Nat) (x : Int) {a_ : State} (h_ : Evolves a_ s) : Evolves a_ (txStep s j ch x).2 := by
  unfold txStep
  repeat' (first
  | with_reducible assumption
  | with_reducible refine Evolves.ite ?_ ?_
  | (extract_lets +onlyGivenNames x; first
     | (refine (fun (hx : Evolves a_ x) => ?_) ?_; (on_goal 2 => subst x); (on_goal 1 => clear_value x))
     | subst x | clear_value x)
  | with_reducible first | apply setTxChan_ev
  | split
  | (with_reducible refine Evolves.lit ?_ ?_; (on_goal 2 => rfl)))

theorem txTimeout_ev (s : State) (j ch : Nat) {a_ : State} (h_ : Evolves a_ s) : Evolves a_ (txTimeout s j ch) := by
  unfold txTimeout
  repeat' (first
  | with_reducible assumption
  | with_reducible refine Evolves.ite ?_ ?_
  | (extract_lets +onlyGivenNames x; first
     | (refine (fun (hx : Evolves a_ x) => ?_) ?_; (on_goal 2 => subst x); (on_goal 1 => clear_value x))
     | subst x | clear_value x)
  | with_reducible first | apply rinc_ev | apply setTxChan_ev
  | split
  | (with_reducible refine Evolves.lit ?_ ?_; (on_goal 2 => rfl)))

theorem txCommitAtZ_ev (s : State) (j : Nat) (z : Bool) {a_ : State} (h_ : Evolves a_ s) : Evolves a_ (txCommitAtZ s j z) := by
  unfold txCommitAtZ
  repeat' (first
  | with_reducible assumption
  | with_reducible refine Evolves.ite ?_ ?_
  | (extract_lets +onlyGivenNames x; first
     | (refine (fun (hx : Evolves a_ x) => ?_) ?_; (on_goal 2 => subst x); (on_goal 1 => clear_value x))
     | subst x | clear_value x)
  | with_reducible first | apply rputBit_ev | apply setAesTx_ev
  | split
  | (with_reducible refine Evolves.lit ?_ ?_; (on_goal 2 => rfl)))

theorem txFrame_ev (s : State) (j : Nat) {a_ : State} (h_ : Evolves a_ s) : Evolves a_ (txFrame s j) := by
  unfold txFrame
  repeat' (first
  | with_reducible assumption
  | with_reducible refine Evolves.ite ?_ ?_
  | (extract_lets +onlyGivenNames x; first
     | (refine (fun (hx : Evolves a_ x) => ?_) ?_; (on_goal 2 => subst x); (on_goal 1 => clear_value x))
     | (refine (fun (hx : Evolves a_ x.2) => ?_) ?_; (on_goal 2 => subst x); (on_goal 1 => clear_value x))
     | (refine (fun (hx : Evolves a_ x.1) => ?_) ?_; (on_goal 2 => subst x); (on_goal 1 => clear_value x))
     | (refine (fun (hx : Evolves a_ x.2.2) => ?_) ?_; (on_goal 2 => subst x); (on_goal 1 => clear_value x))
     | subst x | clear_value x)
  | with_reducible first | apply atSet_ev | apply portOut_ev | apply txStep_ev | apply rincBy_ev | apply txCommitAtZ_ev | apply setAesTx_ev | apply emit_ev
  | split
  | (with_reducible refine Evolves.lit ?_ ?_; (on_goal 2 => rfl)))

theorem txZeroFrame_ev (s : State) (j : Nat) {a_ : State} (h_ : Evolves a_ s) : Evolves a_ (txZeroFrame s j) := by
  unfold txZeroFrame
  repeat' (first
  | with_reducible assumption
  | with_reducible refine Evolves.ite ?_ ?_
  | (extract_lets +onlyGivenNames x; first
     | (refine (fun (hx : Evolves a_ x) => ?_) ?_; (on_goal 2 => subst x); (on_goal 1 => clear_value x))
     | subst x | clear_value x)
  | with_reducible first | apply setAesTx_ev | apply emit_ev
  | split
  | (with_reducible refine Evolves.lit ?_ ?_; (on_goal 2 => rfl)))

theorem txStart_ev (s : State) (j : Nat) {a_ : State} (h_ : Evolves a_ s) : Evolves a_ (txStart s j) := by
  unfold txStart
  repeat' (first
  | with_reducible assumption
  | with_reducible refine Evolves.ite ?_ ?_
  | with_reducible first | apply txFrame_ev | apply txZeroFrame_ev
  | split
  | (with_reducible refine Evolves.lit ?_ ?_; (on_goal 2 => rfl)))

theorem txCommit_ev (s : State) (j : Nat) {a_ : State} (h_ : Evolves a_ s) : Evolves a_ (txCommit s j) := by
  unfold txCommit
  repeat' (first
  | with_reducible assumption
  | (extract_lets +onlyGivenNames x; first
     | (refine (fun (hx : Evolves a_ x) => ?_) ?_; (on_goal 2 => subst x); (on_goal 1 => clear_value x))
     | subst x | clear_value x)
  | with_reducible first | apply rsetBit_ev | apply setAesTx_ev
  | split
  | (with_reducible refine Evolves.lit ?_ ?_; (on_goal 2 => rfl)))

theorem txBound_ev (s : State) (j : Nat) (old : PortBind) {a_ : State} (h_ : Evolves a_ s) : Evolves a_ (txBound s j old) := by
  unfold txBound
  repeat' (first
  | with_reducible assumption
  | with_reducible refine Evolves.ite ?_ ?_
  | (extract_lets +onlyGivenNames x; first
     | (refine (fun (hx : Evolves a_ x) => ?_) ?_; (on_goal 2 => subst x); (on_goal 1 => clear_value x))
     | subst x | clear_value x)
  | with_reducible refine forEach_ev (fun _ _ hs => ?_) ?_ | with_reducible refine forN_ev (fun _ _ hs => ?_) ?_
  | with_reducible first | apply evRaise_ev | apply rsetBit_ev | apply rputBit_ev | apply setTxChan_ev | apply setAesTx_ev | apply atSet_ev | apply rset_ev | apply rput_ev
  | split
  | (with_reducible refine Evolves.lit ?_ ?_; (on_goal 2 => rfl)))

theorem txGateOpen_ev (s : State) {a_ : State} (h_ : Evolves a_ s) : Evolves a_ (txGateOpen s) := by
  unfold txGateOpen
  repeat' (first
  | with_reducible assumption
  | with_reducible refine Evolves.ite ?_ ?_
  | (extract_lets +onlyGivenNames x; first
     | (refine (fun (hx : Evolves a_ x) => ?_) ?_; (on_goal 2 => subst x); (on_goal 1 => clear_value x))
     | subst x | clear_value x)
  | with_reducible refine forEach_ev (fun _ _ hs => ?_) ?_ | with_reducible refine forN_ev (fun _ _ hs => ?_) ?_
  | with_reducible first | apply setTxChan_ev
  | split
  | (with_reducible refine Evolves.lit ?_ ?_; (on_goal 2 => rfl)))

theorem tdSet_ev (s : State) (q st : Nat) {a_ : State} (h_ : Evolves a_ s) : Evolves a_ (tdSet s q st) := by
  unfold tdSet
  repeat' (first
  | with_reducible assumption
  | with_reducible first | apply rput_ev
  | split
  | (with_reducible refine Evolves.lit ?_ ?_; (on_goal 2 => rfl)))

theorem tdEv_ev (s : State) (q bit : Nat) {a_ : State} (h_ : Evolves a_ s) : Evolves a_ (tdEv s q bit) := by
  unfold tdEv
  repeat' (first
  | with_reducible assumption
  | with_reducible refine Evolves.ite ?_ ?_
  | (extract_lets +onlyGivenNames x; first
     | (refine (fun (hx : Evolves a_ x) => ?_) ?_; (on_goal 2 => subst x); (on_goal 1 => clear_value x))
     | subst x | clear_value x)
  | with_reducible first | apply rsetBit_ev | apply evRaise_ev
  | split
  | (with_reducible refine Evolves.lit ?_ ?_; (on_goal 2 => rfl)))

theorem tdMaskWrite_ev (s : State) (q : Nat) (tx : Bool) (v : W32) (late : Bool) {a_ : State} (h_ : Evolves a_ s) : Evolves a_ (tdMaskWrite s q tx v late) := by
  unfold tdMaskWrite
  repeat' (first
  | with_reducible assumption
  | with_reducible refine Evolves.ite ?_ ?_
  | (extract_lets +onlyGivenNames x; first
     | (refine (fun (hx : Evolves a_ x) => ?_) ?_; (on_goal 2 => subst x); (on_goal 1 => clear_value x))
     | subst x | clear_value x)
  | with_reducible first | apply setTdm_ev | apply rsetBit_ev
  | split
  | (with_reducible refine Evolves.lit ?_ ?_; (on_goal 2 => rfl)))

theorem tdMaskSync_ev (s : State) (q : Nat) (tx : Bool) {a_ : State} (h_ : Evolves a_ s) : Evolves a_ (tdMaskSync s q tx) := by
  unfold tdMaskSync
  repeat' (first
  | with_reducible assumption
  | with_reducible refine Evolves.ite ?_ ?_
  | (extract_lets +onlyGivenNames x; first
     | (refine (fun (hx : Evolves a_ x) => ?_) ?_; (on_goal 2 => subst x); (on_goal 1 => clear_value x))
     | subst x | clear_value x)
  | with_reducible first | apply setTdm_ev | apply rput_ev | apply rputBit_ev | apply tdEv_ev
  | split
  | (with_reducible refine Evolves.lit ?_ ?_; (on_goal 2 => rfl)))

theorem tdOut_ev (s : State) (q : Nat) {a_ : State} (h_ : Evolves a_ s) : Evolves a_ (tdOut s q) := by
  unfold tdOut
  repeat' (first
  | with_reducible assumption
  | with_reducible refine Evolves.ite ?_ ?_
  | (extract_lets +onlyGivenNames x; first
     | (refine (fun (hx : Evolves a_ x) => ?_) ?_; (on_goal 2 => subst x); (on_goal 1 => clear_value x))
     | (refine (fun (hx : Evolves a_ x.2) => ?_) ?_; (on_goal 2 => subst x); (on_goal 1 => clear_value x))
     | (refine (fun (hx : Evolves a_ x.1) => ?_) ?_; (on_goal 2 => subst x); (on_goal 1 => clear_value x))
     | (refine (fun (hx : Evolves a_ x.2.2) => ?_) ?_; (on_goal 2 => subst x); (on_goal 1 => clear_value x))
     | subst x | clear_value x)
  | with_reducible refine foldl_ev (fun _ _ hs => ?_) ?_ | with_reducible refine foldl_snd_ev (fun _ _ hs => ?_) ?_
  | with_reducible refine foldl_fst_ev (fun _ _ hs => ?_) ?_ | with_reducible refine foldl_snd2_ev (fun _ _ hs => ?_) ?_
  | with_reducible first | apply foldl_ev | apply portOut_ev | apply rincBy_ev | apply emit_ev
  | split
  | (with_reducible refine Evolves.lit ?_ ?_; (on_goal 2 => rfl)))

theorem tdSync_ev (s : State) (q : Nat) {a_ : State} (h_ : Evolves a_ s) : Evolves a_ (tdSync s q) := by
  unfold tdSync
  repeat' (first
  | with_reducible assumption
  | with_reducible refine Evolves.ite ?_ ?_
  | (extract_lets +onlyGivenNames x; first
     | (refine (fun (hx : Evolves a_ x) => ?_) ?_; (on_goal 2 => subst x); (on_goal 1 => clear_value x))
     | (refine (fun (hx : Evolves a_ x.2) => ?_) ?_; (on_goal 2 => subst x); (on_goal 1 => clear_value x))
     | (refine (fun (hx : Evolves a_ x.1) => ?_) ?_; (on_goal 2 => subst x); (on_goal 1 => clear_value x))
     | (refine (fun (hx : Evolves a_ x.2.2) => ?_) ?_; (on_goal 2 => subst x); (on_goal 1 => clear_value x))
     | subst x | clear_value x)
  | with_reducible first | apply setTdm_ev | apply rput_ev | apply rincMod_ev | apply tdOut_ev | apply tdMaskSync_ev
  | split
  | (with_reducible refine Evolves.lit ?_ ?_; (on_goal 2 => rfl)))

theorem tdStart_ev (s : State) (q : Nat) {a_ : State} (h_ : Evolves a_ s) : Evolves a_ (tdStart s q) := by
  unfold tdStart
  repeat' (first
  | with_reducible assumption
  | with_reducible refine Evolves.ite ?_ ?_
  | (extract_lets +onlyGivenNames x; first
     | (refine (fun (hx : Evolves a_ x) => ?_) ?_; (on_goal 2 => subst x); (on_goal 1 => clear_value x))
     | subst x | clear_value x)
  | with_reducible first | apply emit_ev
  | split
  | (with_reducible refine Evolves.lit ?_ ?_; (on_goal 2 => rfl)))

theorem tdPut_ev (s : State) (q : Nat) (ws : List Word) {a_ : State} (h_ : Evolves a_ s) : Evolves a_ (tdPut s q ws) := by
  unfold tdPut
  repeat' (first
  | with_reducible assumption
  | with_reducible refine Evolves.ite ?_ ?_
  | with_reducible refine forEach_ev (fun _ _ hs => ?_) ?_ | with_reducible refine forN_ev (fun _ _ hs => ?_) ?_
  | with_reducible first | apply portIn_ev
  | split
  | (with_reducible refine Evolves.lit ?_ ?_; (on_goal 2 => rfl)))

theorem tdDeliver_ev (s : State) (q : Nat) (ws : List Word) {a_ : State} (h_ : Evolves a_ s) : Evolves a_ (tdDeliver s q ws) := by
  unfold tdDeliver
  repeat' (first
  | with_reducible assumption
  | with_reducible refine Evolves.ite ?_ ?_
  | (extract_lets +onlyGivenNames x; first
     | (refine (fun (hx : Evolves a_ x) => ?_) ?_; (on_goal 2 => subst x); (on_goal 1 => clear_value x))
     | (refine (fun (hx : Evolves a_ x.2) => ?_) ?_; (on_goal 2 => subst x); (on_goal 1 => clear_value x))
     | (refine (fun (hx : Evolves a_ x.1) => ?_) ?_; (on_goal 2 => subst x); (on_goal 1 => clear_value x))
     | (refine (fun (hx : Evolves a_ x.2.2) => ?_) ?_; (on_goal 2 => subst x); (on_goal 1 => clear_value x))
     | subst x | clear_value x)
  | with_reducible first | apply tdPut_ev | apply setTdm_ev
  | split
  | (with_reducible refine Evolves.lit ?_ ?_; (on_goal 2 => rfl)))

theorem tdLose_ev (s : State) (q : Nat) {a_ : State} (h_ : Evolves a_ s) : Evolves a_ (tdLose s q) := by
  unfold tdLose
  repeat' (first
  | with_reducible assumption
  | with_reducible refine Evolves.ite ?_ ?_
  | (extract_lets +onlyGivenNames x; first
     | (refine (fun (hx : Evolves a_ x) => ?_) ?_; (on_goal 2 => subst x); (on_goal 1 => clear_value x))
     | subst x | clear_value x)
  | with_reducible first | apply setTdm_ev | apply tdEv_ev | apply tdSet_ev
  | split
  | (with_reducible refine Evolves.lit ?_ ?_; (on_goal 2 => rfl)))

theorem tdRejoin_ev (s : State) (q : Nat) {a_ : State} (h_ : Evolves a_ s) : Evolves a_ (tdRejoin s q) := by
  unfold tdRejoin
  repeat' (first
  | with_reducible assumption
  | with_reducible refine Evolves.ite ?_ ?_
  | (extract_lets +onlyGivenNames x; first
     | (refine (fun (hx : Evolves a_ x) => ?_) ?_; (on_goal 2 => subst x); (on_goal 1 => clear_value x))
     | subst x | clear_value x)
  | with_reducible first | apply setTdm_ev | apply tdSet_ev
  | split
  | (with_reducible refine Evolves.lit ?_ ?_; (on_goal 2 => rfl)))

theorem tdFrame_ev (s : State) (q : Nat) (words : List Nat) (clocks : Nat) (next : Bool) {a_ : State} (h_ : Evolves a_ s) : Evolves a_ (tdFrame s q words clocks next) := by
  unfold tdFrame
  repeat' (first
  | with_reducible assumption
  | with_reducible refine Evolves.ite ?_ ?_
  | (extract_lets +onlyGivenNames x; first
     | (refine (fun (hx : Evolves a_ x) => ?_) ?_; (on_goal 2 => subst x); (on_goal 1 => clear_value x))
     | (refine (fun (hx : Evolves a_ x.2) => ?_) ?_; (on_goal 2 => subst x); (on_goal 1 => clear_value x))
     | (refine (fun (hx : Evolves a_ x.1) => ?_) ?_; (on_goal 2 => subst x); (on_goal 1 => clear_value x))
     | (refine (fun (hx : Evolves a_ x.2.2) => ?_) ?_; (on_goal 2 => subst x); (on_goal 1 => clear_value x))
     | subst x | clear_value x)
  | with_reducible first | apply next_ev | apply tdLose_ev | apply tdEv_ev | apply rinc_ev | apply setTdm_ev | apply tdRejoin_ev | apply tdDeliver_ev
  | split
  | (with_reducible refine Evolves.lit ?_ ?_; (on_goal 2 => rfl)))

theorem tdSyncLoss_ev (s : State) (q : Nat) {a_ : State} (h_ : Evolves a_ s) : Evolves a_ (tdSyncLoss s q) := by
  unfold tdSyncLoss
  repeat' (first
  | with_reducible assumption
  | with_reducible refine Evolves.ite ?_ ?_
  | (extract_lets +onlyGivenNames x; first
     | (refine (fun (hx : Evolves a_ x) => ?_) ?_; (on_goal 2 => subst x); (on_goal 1 => clear_value x))
     | subst x | clear_value x)
  | with_reducible first | apply tdLose_ev | apply setTdm_ev
  | split
  | (with_reducible refine Evolves.lit ?_ ?_; (on_goal 2 => rfl)))

theorem tdTickEnd_ev (s : State) (q : Nat) {a_ : State} (h_ : Evolves a_ s) : Evolves a_ (tdTickEnd s q) := by
  unfold tdTickEnd
  repeat' (first
  | with_reducible assumption
  | with_reducible refine Evolves.ite ?_ ?_
  | (extract_lets +onlyGivenNames x; first
     | (refine (fun (hx : Evolves a_ x) => ?_) ?_; (on_goal 2 => subst x); (on_goal 1 => clear_value x))
     | (refine (fun (hx : Evolves a_ x.2) => ?_) ?_; (on_goal 2 => subst x); (on_goal 1 => clear_value x))
     | (refine (fun (hx : Evolves a_ x.1) => ?_) ?_; (on_goal 2 => subst x); (on_goal 1 => clear_value x))
     | (refine (fun (hx : Evolves a_ x.2.2) => ?_) ?_; (on_goal 2 => subst x); (on_goal 1 => clear_value x))
     | subst x | clear_value x)
  | with_reducible first | apply tdPut_ev | apply tdEv_ev | apply rinc_ev | apply setTdm_ev
  | split
  | (with_reducible refine Evolves.lit ?_ ?_; (on_goal 2 => rfl)))

theorem tdTickStart_ev (s : State) (q : Nat) {a_ : State} (h_ : Evolves a_ s) : Evolves a_ (tdTickStart s q) := by
  unfold tdTickStart
  repeat' (first
  | with_reducible assumption
  | with_reducible refine Evolves.ite ?_ ?_
  | (extract_lets +onlyGivenNames x; first
     | (refine (fun (hx : Evolves a_ x) => ?_) ?_; (on_goal 2 => subst x); (on_goal 1 => clear_value x))
     | (refine (fun (hx : Evolves a_ x.2) => ?_) ?_; (on_goal 2 => subst x); (on_goal 1 => clear_value x))
     | (refine (fun (hx : Evolves a_ x.1) => ?_) ?_; (on_goal 2 => subst x); (on_goal 1 => clear_value x))
     | (refine (fun (hx : Evolves a_ x.2.2) => ?_) ?_; (on_goal 2 => subst x); (on_goal 1 => clear_value x))
     | subst x | clear_value x)
  | with_reducible first | apply tdSet_ev | apply tdLose_ev | apply setTdm_ev | apply tdDeliver_ev
  | split
  | (with_reducible refine Evolves.lit ?_ ?_; (on_goal 2 => rfl)))

theorem tdBound_ev (s : State) (q : Nat) {a_ : State} (h_ : Evolves a_ s) : Evolves a_ (tdBound s q) := by
  unfold tdBound
  repeat' (first
  | with_reducible assumption
  | with_reducible refine Evolves.ite ?_ ?_
  | (extract_lets +onlyGivenNames x; first
     | (refine (fun (hx : Evolves a_ x) => ?_) ?_; (on_goal 2 => subst x); (on_goal 1 => clear_value x))
     | subst x | clear_value x)
  | with_reducible refine forEach_ev (fun _ _ hs => ?_) ?_ | with_reducible refine forN_ev (fun _ _ hs => ?_) ?_
  | with_reducible first | apply rsetBit_ev | apply rputBit_ev | apply tdSet_ev | apply setTdm_ev
  | split
  | (with_reducible refine Evolves.lit ?_ ?_; (on_goal 2 => rfl)))

theorem hopCmd_ev (s : State) {a_ : State} (h_ : Evolves a_ s) : Evolves a_ (hopCmd s) := by
  unfold hopCmd
  repeat' (first
  | with_reducible assumption
  | with_reducible refine Evolves.ite ?_ ?_
  | (extract_lets +onlyGivenNames x; first
     | (refine (fun (hx : Evolves a_ x) => ?_) ?_; (on_goal 2 => subst x); (on_goal 1 => clear_value x))
     | subst x | clear_value x)
  | with_reducible refine forEach_ev (fun _ _ hs => ?_) ?_ | with_reducible refine forN_ev (fun _ _ hs => ?_) ?_
  | with_reducible first | apply hopDo_ev | apply arUnlock_ev
  | split
  | (with_reducible refine Evolves.lit ?_ ?_; (on_goal 2 => rfl)))

theorem execHop_ev (st : State) : NextEv st (execHop st) := by
  have h_ := Evolves.refl st
  unfold execHop
  repeat' (first
  | with_reducible assumption
  | with_reducible refine next_ev ?_
  | with_reducible first | apply hopCmd_ev
  | split
  | (with_reducible refine Evolves.lit ?_ ?_; (on_goal 2 => rfl)))

theorem execAes3FrameReceived_ev (i : Fin 16) (a b : Subframe) (frate : Fin 32768) (next : Bool) (acc : List (Nat × Access)) (st : State) : NextEv st (execAes3FrameReceived i a b frate next acc st) := by
  have h_ := Evolves.refl st
  unfold execAes3FrameReceived
  repeat' (first
  | with_reducible assumption
  | with_reducible refine next_ev ?_
  | with_reducible refine Evolves.ite ?_ ?_
  | with_reducible refine withAcc_ev _ _ _ (fun _ hs => ?_) ?_
  | with_reducible first | apply next_ev | apply arFrame_ev
  | split
  | (with_reducible refine Evolves.lit ?_ ?_; (on_goal 2 => rfl)))

theorem execAes3NoSignal_ev (i : Fin 16) (st : State) : NextEv st (execAes3NoSignal i st) := by
  have h_ := Evolves.refl st
  unfold execAes3NoSignal
  repeat' (first
  | with_reducible assumption
  | with_reducible refine next_ev ?_
  | with_reducible refine Evolves.ite ?_ ?_
  | with_reducible first | apply arLeave_ev
  | split
  | (with_reducible refine Evolves.lit ?_ ?_; (on_goal 2 => rfl)))

theorem execAes3TransitionsAppear_ev (i : Fin 16) (st : State) : NextEv st (execAes3TransitionsAppear i st) := by
  have h_ := Evolves.refl st
  unfold execAes3TransitionsAppear
  repeat' (first
  | with_reducible assumption
  | with_reducible refine next_ev ?_
  | with_reducible refine Evolves.ite ?_ ?_
  | with_reducible first | apply rput_ev
  | split
  | (with_reducible refine Evolves.lit ?_ ?_; (on_goal 2 => rfl)))

theorem execAsrcRatioLock_ev (i : Fin 16) (ratio : W32) (gd : BitVec 24) (st : State) : NextEv st (execAsrcRatioLock i ratio gd st) := by
  have h_ := Evolves.refl st
  unfold execAsrcRatioLock
  repeat' (first
  | with_reducible assumption
  | with_reducible refine next_ev ?_
  | with_reducible first | apply arRatioLock_ev
  | split
  | (with_reducible refine Evolves.lit ?_ ?_; (on_goal 2 => rfl)))

theorem execAes3FrameStart_ev (j : Fin 16) (acc : List (Nat × Access)) (st : State) : NextEv st (execAes3FrameStart j acc st) := by
  have h_ := Evolves.refl st
  unfold execAes3FrameStart
  repeat' (first
  | with_reducible assumption
  | with_reducible refine next_ev ?_
  | with_reducible refine Evolves.ite ?_ ?_
  | with_reducible refine withAcc_ev _ _ _ (fun _ hs => ?_) ?_
  | with_reducible first | apply next_ev | apply txStart_ev
  | split
  | (with_reducible refine Evolves.lit ?_ ?_; (on_goal 2 => rfl)))

theorem execZeroCrossingTimeout_ev (j : Fin 16) (ch : Fin 2) (st : State) : NextEv st (execZeroCrossingTimeout j ch st) := by
  have h_ := Evolves.refl st
  unfold execZeroCrossingTimeout
  repeat' (first
  | with_reducible assumption
  | with_reducible refine next_ev ?_
  | with_reducible first | apply txTimeout_ev
  | split
  | (with_reducible refine Evolves.lit ?_ ?_; (on_goal 2 => rfl)))

theorem execAesTxGainWrite_ev (j : Fin 16) (ch : Fin 2) (v : W32) (st : State) : NextEv st (execAesTxGainWrite j ch v st) := by
  have h_ := Evolves.refl st
  unfold execAesTxGainWrite
  repeat' (first
  | with_reducible assumption
  | with_reducible refine next_ev ?_
  | with_reducible first | apply txGain_ev
  | split
  | (with_reducible refine Evolves.lit ?_ ?_; (on_goal 2 => rfl)))

theorem execAesTxMuteWrite_ev (j : Fin 16) (v : BitVec 2) (st : State) : NextEv st (execAesTxMuteWrite j v st) := by
  have h_ := Evolves.refl st
  unfold execAesTxMuteWrite
  repeat' (first
  | with_reducible assumption
  | with_reducible refine next_ev ?_
  | with_reducible first | apply txMute_ev
  | split
  | (with_reducible refine Evolves.lit ?_ ?_; (on_goal 2 => rfl)))

theorem execAesTxCsCommit_ev (j : Fin 16) (st : State) : NextEv st (execAesTxCsCommit j st) := by
  have h_ := Evolves.refl st
  unfold execAesTxCsCommit
  repeat' (first
  | with_reducible assumption
  | with_reducible refine next_ev ?_
  | with_reducible first | apply txCommit_ev
  | split
  | (with_reducible refine Evolves.lit ?_ ?_; (on_goal 2 => rfl)))

theorem arLatch_ev (s : State) (ctx : Nat) {a_ : State} (h_ : Evolves a_ s) : Evolves a_ (arLatch s ctx) := by
  unfold arLatch
  repeat' (first
  | with_reducible assumption
  | (extract_lets +onlyGivenNames x; first
     | (refine (fun (hx : Evolves a_ x) => ?_) ?_; (on_goal 2 => subst x); (on_goal 1 => clear_value x))
     | subst x | clear_value x)
  | split
  | (with_reducible refine Evolves.lit ?_ ?_; (on_goal 2 => rfl)))

theorem execAesRxCsLatch_ev (ctx : Fin 9) (st : State) : NextEv st (execAesRxCsLatch ctx st) := by
  have h_ := Evolves.refl st
  unfold execAesRxCsLatch
  repeat' (first
  | with_reducible assumption
  | with_reducible refine next_ev ?_
  | with_reducible first | apply emit_ev | apply arLatch_ev
  | split
  | (with_reducible refine Evolves.lit ?_ ?_; (on_goal 2 => rfl)))

theorem execAesRxCtlClr_ev (i : Fin 16) (st : State) : NextEv st (execAesRxCtlClr i st) := by
  have h_ := Evolves.refl st
  unfold execAesRxCtlClr
  repeat' (first
  | with_reducible assumption
  | with_reducible refine next_ev ?_
  | with_reducible first | apply rset_ev
  | split
  | (with_reducible refine Evolves.lit ?_ ?_; (on_goal 2 => rfl)))

theorem execTdmFrameStart_ev (q : Fin 8) (st : State) : NextEv st (execTdmFrameStart q st) := by
  have h_ := Evolves.refl st
  unfold execTdmFrameStart
  repeat' (first
  | with_reducible assumption
  | with_reducible refine next_ev ?_
  | with_reducible first | apply tdStart_ev
  | split
  | (with_reducible refine Evolves.lit ?_ ?_; (on_goal 2 => rfl)))

theorem execTdmFrameSync_ev (q : Fin 8) (acc : List (Nat × Access)) (st : State) : NextEv st (execTdmFrameSync q acc st) := by
  have h_ := Evolves.refl st
  unfold execTdmFrameSync
  repeat' (first
  | with_reducible assumption
  | with_reducible refine next_ev ?_
  | with_reducible refine Evolves.ite ?_ ?_
  | with_reducible refine withAcc_ev _ _ _ (fun _ hs => ?_) ?_
  | with_reducible first | apply next_ev | apply tdSync_ev
  | split
  | (with_reducible refine Evolves.lit ?_ ?_; (on_goal 2 => rfl)))

theorem execTdmFrameReceived_ev (q : Fin 8) (words : List W32) (clocks : Nat) (next : Bool) (acc : List (Nat × Access)) (st : State) : NextEv st (execTdmFrameReceived q words clocks next acc st) := by
  have h_ := Evolves.refl st
  unfold execTdmFrameReceived
  repeat' (first
  | with_reducible assumption
  | with_reducible refine next_ev ?_
  | with_reducible refine Evolves.ite ?_ ?_
  | with_reducible refine withAcc_ev _ _ _ (fun _ hs => ?_) ?_
  | with_reducible first | apply next_ev | apply tdFrame_ev
  | split
  | (with_reducible refine Evolves.lit ?_ ?_; (on_goal 2 => rfl)))

theorem execTdmSyncLoss_ev (q : Fin 8) (st : State) : NextEv st (execTdmSyncLoss q st) := by
  have h_ := Evolves.refl st
  unfold execTdmSyncLoss
  repeat' (first
  | with_reducible assumption
  | with_reducible refine next_ev ?_
  | with_reducible first | apply tdSyncLoss_ev
  | split
  | (with_reducible refine Evolves.lit ?_ ?_; (on_goal 2 => rfl)))

theorem execTdmRxmaskWrite_ev (q : Fin 8) (v : W32) (late : Bool) (st : State) : NextEv st (execTdmRxmaskWrite q v late st) := by
  have h_ := Evolves.refl st
  unfold execTdmRxmaskWrite
  repeat' (first
  | with_reducible assumption
  | with_reducible refine next_ev ?_
  | with_reducible first | apply tdMaskWrite_ev
  | split
  | (with_reducible refine Evolves.lit ?_ ?_; (on_goal 2 => rfl)))

theorem execTdmTxmaskWrite_ev (q : Fin 8) (v : W32) (late : Bool) (st : State) : NextEv st (execTdmTxmaskWrite q v late st) := by
  have h_ := Evolves.refl st
  unfold execTdmTxmaskWrite
  repeat' (first
  | with_reducible assumption
  | with_reducible refine next_ev ?_
  | with_reducible first | apply tdMaskWrite_ev
  | split
  | (with_reducible refine Evolves.lit ?_ ?_; (on_goal 2 => rfl)))

theorem execTdmCtlClr_ev (q : Fin 8) (st : State) : NextEv st (execTdmCtlClr q st) := by
  have h_ := Evolves.refl st
  unfold execTdmCtlClr
  repeat' (first
  | with_reducible assumption
  | with_reducible refine next_ev ?_
  | with_reducible first | apply rset_ev
  | split
  | (with_reducible refine Evolves.lit ?_ ?_; (on_goal 2 => rfl)))

end Sys2Proof.Machine
end

