-- ==== Sys2Proof/Laws/Ev/Stop.lean ====
section
/-! SUPPORT. Each operation of Machine/Stop.lean only evolves the state it is given. -/

set_option linter.unreachableTactic false
set_option linter.unusedTactic false
set_option linter.tactic.unusedName false

namespace Sys2Proof.Machine

theorem portHooks_ev (s : State) {a_ : State} (h_ : Evolves a_ s) : Evolves a_ (portHooks s) := by
  unfold portHooks
  repeat' (first
  | with_reducible assumption
  | (extract_lets +onlyGivenNames x; first
     | (refine (fun (hx : Evolves a_ x) => ?_) ?_; (on_goal 2 => subst x); (on_goal 1 => clear_value x))
     | (refine (fun (hx : Evolves a_ x.2) => ?_) ?_; (on_goal 2 => subst x); (on_goal 1 => clear_value x))
     | (refine (fun (hx : Evolves a_ x.1) => ?_) ?_; (on_goal 2 => subst x); (on_goal 1 => clear_value x))
     | (refine (fun (hx : Evolves a_ x.2.2) => ?_) ?_; (on_goal 2 => subst x); (on_goal 1 => clear_value x))
     | subst x | clear_value x)
  | with_reducible refine forEach_ev (fun _ _ hs => ?_) ?_ | with_reducible refine forN_ev (fun _ _ hs => ?_) ?_
  | with_reducible first | apply flowBound_ev | apply arBound_ev | apply txBound_ev | apply tdBound_ev
  | split
  | (with_reducible refine Evolves.lit ?_ ?_; (on_goal 2 => rfl)))

theorem setSpare_ev (s : State) (k : Nat) (b : Bool) {a_ : State} (h_ : Evolves a_ s) : Evolves a_ (setSpare s k b) := by
  unfold setSpare
  repeat' (first
  | with_reducible assumption
  | with_reducible first | apply rputBit_ev
  | split
  | (with_reducible refine Evolves.lit ?_ ?_; (on_goal 2 => rfl)))

theorem setRetired_ev (s : State) (k : Nat) (b : Bool) {a_ : State} (h_ : Evolves a_ s) : Evolves a_ (setRetired s k b) := by
  unfold setRetired
  repeat' (first
  | with_reducible assumption
  | with_reducible first | apply rputBit_ev
  | split
  | (with_reducible refine Evolves.lit ?_ ?_; (on_goal 2 => rfl)))

theorem wipeSlotRegs_ev (s : State) (k : Nat) {a_ : State} (h_ : Evolves a_ s) : Evolves a_ (wipeSlotRegs s k) := by
  unfold wipeSlotRegs
  repeat' (first
  | with_reducible assumption
  | (extract_lets +onlyGivenNames x; first
     | (refine (fun (hx : Evolves a_ x) => ?_) ?_; (on_goal 2 => subst x); (on_goal 1 => clear_value x))
     | subst x | clear_value x)
  | with_reducible refine forEach_ev (fun _ _ hs => ?_) ?_ | with_reducible refine forN_ev (fun _ _ hs => ?_) ?_
  | with_reducible first | apply rset_ev
  | split
  | (with_reducible refine Evolves.lit ?_ ?_; (on_goal 2 => rfl)))

theorem wipeSlot_ev (s : State) (k : Nat) {a_ : State} (h_ : Evolves a_ s) : Evolves a_ (wipeSlot s k) := by
  unfold wipeSlot
  repeat' (first
  | with_reducible assumption
  | (extract_lets +onlyGivenNames x; first
     | (refine (fun (hx : Evolves a_ x) => ?_) ?_; (on_goal 2 => subst x); (on_goal 1 => clear_value x))
     | subst x | clear_value x)
  | with_reducible first | apply wipeSlotRegs_ev
  | split
  | (with_reducible refine Evolves.lit ?_ ?_; (on_goal 2 => rfl))
  | (with_reducible refine Evolves.litMem ?_ ?_ ?_ ?_ ?_; (on_goal 2 => rfl); (on_goal 2 => first | (with_reducible first | exact id | exact mwf_mset _ _ _ _ | exact mwf_mputRange _ _ _ _ _ | exact mwf_mclearRange _ _ _ _ | exact mwf_mcopyRange _ _ _ _ _ _) | exact fun _ => rfl | exact mwf_mclearRange _ _ _ _);
     (on_goal 2 => first | (with_reducible first | exact id | exact mwf_mset _ _ _ _ | exact mwf_mputRange _ _ _ _ _ | exact mwf_mclearRange _ _ _ _ | exact mwf_mcopyRange _ _ _ _ _ _) | exact fun _ => rfl | exact mwf_mclearRange _ _ _ _);
     (on_goal 2 => first | (with_reducible first | exact id | exact mwf_mset _ _ _ _ | exact mwf_mputRange _ _ _ _ _ | exact mwf_mclearRange _ _ _ _ | exact mwf_mcopyRange _ _ _ _ _ _) | exact fun _ => rfl | exact mwf_mclearRange _ _ _ _)))

theorem fenceFlag_ev (s : State) (c : Nat) {a_ : State} (h_ : Evolves a_ s) : Evolves a_ (fenceFlag s c) := by
  unfold fenceFlag
  repeat' (first
  | with_reducible assumption
  | with_reducible refine Evolves.ite ?_ ?_
  | (extract_lets +onlyGivenNames x; first
     | (refine (fun (hx : Evolves a_ x) => ?_) ?_; (on_goal 2 => subst x); (on_goal 1 => clear_value x))
     | (refine (fun (hx : Evolves a_ x.2) => ?_) ?_; (on_goal 2 => subst x); (on_goal 1 => clear_value x))
     | (refine (fun (hx : Evolves a_ x.1) => ?_) ?_; (on_goal 2 => subst x); (on_goal 1 => clear_value x))
     | (refine (fun (hx : Evolves a_ x.2.2) => ?_) ?_; (on_goal 2 => subst x); (on_goal 1 => clear_value x))
     | subst x | clear_value x)
  | with_reducible first | apply evClusterFlags_ev | apply rputBit_ev
  | split
  | (with_reducible refine Evolves.lit ?_ ?_; (on_goal 2 => rfl)))

theorem wipeCluster_ev (s : State) (c : Nat) {a_ : State} (h_ : Evolves a_ s) : Evolves a_ (wipeCluster s c) := by
  unfold wipeCluster
  extract_lets +onlyGivenNames x y
  have h : Evolves a_ x := Evolves.litMem h_ rfl (mwf_mclearRange _ _ _ _) (mwf_mclearRange _ _ _ _) (mwf_mclearRange _ _ _ _)
  clear_value x
  have hy : Evolves a_ y := forN_ev (fun _ _ hs => wipeSlotRegs_ev _ _ hs) h
  exact fenceFlag_ev _ _ (rputBit_ev _ _ _ _ (rputBit_ev _ _ _ _ hy))

theorem slotIdle_ev (s : State) (k : Nat) {a_ : State} (h_ : Evolves a_ s) : Evolves a_ (slotIdle s k) := by
  unfold slotIdle
  repeat' (first
  | with_reducible assumption
  | (extract_lets +onlyGivenNames x; first
     | (refine (fun (hx : Evolves a_ x) => ?_) ?_; (on_goal 2 => subst x); (on_goal 1 => clear_value x))
     | subst x | clear_value x)
  | with_reducible first | apply setSlotState_ev
  | split
  | (with_reducible refine Evolves.lit ?_ ?_; (on_goal 2 => rfl)))

theorem captureLost_ev (s : State) {a_ : State} (h_ : Evolves a_ s) : Evolves a_ (captureLost s) := by
  unfold captureLost
  repeat' (first
  | with_reducible assumption
  | (extract_lets +onlyGivenNames x; first
     | (refine (fun (hx : Evolves a_ x) => ?_) ?_; (on_goal 2 => subst x); (on_goal 1 => clear_value x))
     | (refine (fun (hx : Evolves a_ x.st) => ?_) ?_; (on_goal 2 => subst x); (on_goal 1 => clear_value x))
     | subst x | clear_value x)
  | with_reducible refine forEach_ev (fun _ _ hs => ?_) ?_ | with_reducible refine forN_ev (fun _ _ hs => ?_) ?_
  | with_reducible first | apply opEnd_ev
  | split
  | (with_reducible refine Evolves.lit ?_ ?_; (on_goal 2 => rfl)))

theorem memberDiscard_ev (s : State) (m : Nat) {a_ : State} (h_ : Evolves a_ s) : Evolves a_ (memberDiscard s m) := by
  unfold memberDiscard
  repeat' (first
  | with_reducible assumption
  | with_reducible refine Evolves.ite ?_ ?_
  | (extract_lets +onlyGivenNames x; first
     | (refine (fun (hx : Evolves a_ x) => ?_) ?_; (on_goal 2 => subst x); (on_goal 1 => clear_value x))
     | (refine (fun (hx : Evolves a_ x.2) => ?_) ?_; (on_goal 2 => subst x); (on_goal 1 => clear_value x))
     | (refine (fun (hx : Evolves a_ x.1) => ?_) ?_; (on_goal 2 => subst x); (on_goal 1 => clear_value x))
     | (refine (fun (hx : Evolves a_ x.2.2) => ?_) ?_; (on_goal 2 => subst x); (on_goal 1 => clear_value x))
     | subst x | clear_value x)
  | with_reducible refine forEach_ev (fun _ _ hs => ?_) ?_ | with_reducible refine forN_ev (fun _ _ hs => ?_) ?_
  | with_reducible refine foldl_ev (fun _ _ hs => ?_) ?_ | with_reducible refine foldl_snd_ev (fun _ _ hs => ?_) ?_
  | with_reducible refine foldl_fst_ev (fun _ _ hs => ?_) ?_ | with_reducible refine foldl_snd2_ev (fun _ _ hs => ?_) ?_
  | with_reducible first | apply clearMarks_ev | apply onCmtCell_ev | apply foldl_ev
  | split
  | (with_reducible refine Evolves.lit ?_ ?_; (on_goal 2 => rfl)))

theorem cancelGroups_ev (s : State) (all : Bool) {a_ : State} (h_ : Evolves a_ s) : Evolves a_ (cancelGroups s all) := by
  unfold cancelGroups
  repeat' (first
  | with_reducible assumption
  | with_reducible refine Evolves.ite ?_ ?_
  | (extract_lets +onlyGivenNames x; first
     | (refine (fun (hx : Evolves a_ x) => ?_) ?_; (on_goal 2 => subst x); (on_goal 1 => clear_value x))
     | (refine (fun (hx : Evolves a_ x.st) => ?_) ?_; (on_goal 2 => subst x); (on_goal 1 => clear_value x))
     | (refine (fun (hx : Evolves a_ x.1.st) => ?_) ?_; (on_goal 2 => subst x); (on_goal 1 => clear_value x))
     | (refine (fun (hx : Evolves a_ x.2) => ?_) ?_; (on_goal 2 => subst x); (on_goal 1 => clear_value x))
     | (refine (fun (hx : Evolves a_ x.1) => ?_) ?_; (on_goal 2 => subst x); (on_goal 1 => clear_value x))
     | (refine (fun (hx : Evolves a_ x.2.2) => ?_) ?_; (on_goal 2 => subst x); (on_goal 1 => clear_value x))
     | subst x | clear_value x)
  | with_reducible refine forEach_ev (fun _ _ hs => ?_) ?_ | with_reducible refine forN_ev (fun _ _ hs => ?_) ?_
  | with_reducible first | apply memberDiscard_ev | apply groupResult_ev | apply pendDone_ev | apply setGroup_ev
  | split
  | (with_reducible refine Evolves.lit ?_ ?_; (on_goal 2 => rfl))
  | (with_reducible refine Evolves.litMem ?_ ?_ ?_ ?_ ?_; (on_goal 2 => rfl); (on_goal 2 => first | (with_reducible first | exact id | exact mwf_mset _ _ _ _ | exact mwf_mputRange _ _ _ _ _ | exact mwf_mclearRange _ _ _ _ | exact mwf_mcopyRange _ _ _ _ _ _) | exact fun _ => rfl | exact mwf_mclearRange _ _ _ _);
     (on_goal 2 => first | (with_reducible first | exact id | exact mwf_mset _ _ _ _ | exact mwf_mputRange _ _ _ _ _ | exact mwf_mclearRange _ _ _ _ | exact mwf_mcopyRange _ _ _ _ _ _) | exact fun _ => rfl | exact mwf_mclearRange _ _ _ _);
     (on_goal 2 => first | (with_reducible first | exact id | exact mwf_mset _ _ _ _ | exact mwf_mputRange _ _ _ _ _ | exact mwf_mclearRange _ _ _ _ | exact mwf_mcopyRange _ _ _ _ _ _) | exact fun _ => rfl | exact mwf_mclearRange _ _ _ _)))

theorem stopCells_ev (s : State) {a_ : State} (h_ : Evolves a_ s) : Evolves a_ (stopCells s) := by
  unfold stopCells
  repeat' (first
  | with_reducible assumption
  | with_reducible refine Evolves.ite ?_ ?_
  | (extract_lets +onlyGivenNames x; first
     | (refine (fun (hx : Evolves a_ x) => ?_) ?_; (on_goal 2 => subst x); (on_goal 1 => clear_value x))
     | subst x | clear_value x)
  | with_reducible refine forEach_ev (fun _ _ hs => ?_) ?_ | with_reducible refine forN_ev (fun _ _ hs => ?_) ?_
  | with_reducible first | apply slotIdle_ev | apply rputBit_ev | apply setBstate_ev
  | split
  | (with_reducible refine Evolves.lit ?_ ?_; (on_goal 2 => rfl)))

theorem stopUnits_ev (s : State) {a_ : State} (h_ : Evolves a_ s) : Evolves a_ (stopUnits s) := by
  unfold stopUnits
  exact Evolves.litMem h_ rfl id id (fun _ => rfl)

theorem stopPorts_ev (s : State) {a_ : State} (h_ : Evolves a_ s) : Evolves a_ (stopPorts s) := by
  unfold stopPorts
  repeat' (first
  | with_reducible assumption
  | with_reducible refine Evolves.ite ?_ ?_
  | (extract_lets +onlyGivenNames x; first
     | (refine (fun (hx : Evolves a_ x) => ?_) ?_; (on_goal 2 => subst x); (on_goal 1 => clear_value x))
     | (refine (fun (hx : Evolves a_ x.2) => ?_) ?_; (on_goal 2 => subst x); (on_goal 1 => clear_value x))
     | (refine (fun (hx : Evolves a_ x.1) => ?_) ?_; (on_goal 2 => subst x); (on_goal 1 => clear_value x))
     | (refine (fun (hx : Evolves a_ x.2.2) => ?_) ?_; (on_goal 2 => subst x); (on_goal 1 => clear_value x))
     | subst x | clear_value x)
  | with_reducible first | apply portHooks_ev
  | split
  | (with_reducible refine Evolves.lit ?_ ?_; (on_goal 2 => rfl)))

theorem stopWork_ev (s : State) {a_ : State} (h_ : Evolves a_ s) : Evolves a_ (stopWork s) := by
  unfold stopWork
  repeat' (first
  | with_reducible assumption
  | with_reducible refine Evolves.ite ?_ ?_
  | split
  | (with_reducible refine Evolves.lit ?_ ?_; (on_goal 2 => first | rfl | simp only [workDrop_log])))

theorem stopStructure_ev (s : State) {a_ : State} (h_ : Evolves a_ s) : Evolves a_ (stopStructure s) := by
  unfold stopStructure
  repeat' (first
  | with_reducible assumption
  | with_reducible refine Evolves.ite ?_ ?_
  | (extract_lets +onlyGivenNames x; first
     | (refine (fun (hx : Evolves a_ x) => ?_) ?_; (on_goal 2 => subst x); (on_goal 1 => clear_value x))
     | (refine (fun (hx : Evolves a_ x.2) => ?_) ?_; (on_goal 2 => subst x); (on_goal 1 => clear_value x))
     | (refine (fun (hx : Evolves a_ x.1) => ?_) ?_; (on_goal 2 => subst x); (on_goal 1 => clear_value x))
     | (refine (fun (hx : Evolves a_ x.2.2) => ?_) ?_; (on_goal 2 => subst x); (on_goal 1 => clear_value x))
     | subst x | clear_value x)
  | with_reducible refine forEach_ev (fun _ _ hs => ?_) ?_ | with_reducible refine forN_ev (fun _ _ hs => ?_) ?_
  | with_reducible first | apply stopUnits_ev | apply stopCells_ev | apply rputBit_ev | apply stopPorts_ev | apply captureLost_ev | apply stopWork_ev | apply cisSetOwner_ev | apply rsetBit_ev | apply fenceFlag_ev
  | split
  | (with_reducible refine Evolves.lit ?_ ?_; (on_goal 2 => rfl)))

end Sys2Proof.Machine
end

