-- ==== Sys2Proof/Laws/Ev/Boot.lean ====
section
/-! SUPPORT. Each operation of Machine/Boot.lean only evolves the state it is given. -/

set_option linter.unreachableTactic false
set_option linter.unusedTactic false
set_option linter.tactic.unusedName false

namespace Sys2Proof.Machine

theorem onBoot_ev (s : State) (f : BootSt → BootSt) {a_ : State} (hf : s.boot.floor ≤ (f s.boot).floor) (h_ : Evolves a_ s) :
    Evolves a_ (onBoot s f) :=
  h_.trans ⟨rfl, hf, le_refl _, List.prefix_refl _, id, id, id, id, id, id, id⟩

theorem botEv_ev (s : State) (bit : Nat) {a_ : State} (h_ : Evolves a_ s) : Evolves a_ (botEv s bit) := by
  unfold botEv
  repeat' (first
  | with_reducible assumption
  | with_reducible first | apply evRaise_ev | apply rsetBit_ev
  | split
  | (with_reducible refine Evolves.lit ?_ ?_; (on_goal 2 => rfl)))

theorem flagAppend_ev (s : State) (n act : Nat) {a_ : State} (h_ : Evolves a_ s) : Evolves a_ (flagAppend s n act) := by
  unfold flagAppend
  repeat' (first
  | with_reducible assumption
  | with_reducible refine Evolves.ite ?_ ?_
  | (extract_lets +onlyGivenNames x; first
     | (refine (fun (hx : Evolves a_ x) => ?_) ?_; (on_goal 2 => subst x); (on_goal 1 => clear_value x))
     | subst x | clear_value x)
  | with_reducible refine foldl_ev (fun _ _ hs => ?_) ?_ | with_reducible refine foldl_snd_ev (fun _ _ hs => ?_) ?_
  | with_reducible refine foldl_fst_ev (fun _ _ hs => ?_) ?_ | with_reducible refine foldl_snd2_ev (fun _ _ hs => ?_) ?_
  | with_reducible first | apply onBoot_ev
  | with_reducible exact Nat.le_refl _
  | split
  | (with_reducible refine Evolves.lit ?_ ?_; (on_goal 2 => rfl)))

theorem showSlot_ev (s : State) (n : Nat) {a_ : State} (h_ : Evolves a_ s) : Evolves a_ (showSlot s n) := by
  unfold showSlot
  repeat' (first
  | with_reducible assumption
  | (extract_lets +onlyGivenNames x; first
     | (refine (fun (hx : Evolves a_ x) => ?_) ?_; (on_goal 2 => subst x); (on_goal 1 => clear_value x))
     | subst x | clear_value x)
  | with_reducible first | apply rset64_ev | apply rset_ev
  | split
  | (with_reducible refine Evolves.lit ?_ ?_; (on_goal 2 => rfl)))

theorem resetKeep_ev (s : State) {a_ : State} (h_ : Evolves a_ s) : Evolves a_ (resetKeep s) :=
  h_.trans ⟨rfl, le_refl _, le_refl _, List.prefix_refl _, fun _ => Nat.zero_le _, fun _ => Nat.zero_le _, fun _ => Nat.zero_le _,
    fun _ => rfl, fun _ => rfl, fun _ => rfl, fun _ => rfl⟩

theorem powerOnReset_ev (s : State) {a_ : State} (h_ : Evolves a_ s) : Evolves a_ (powerOnReset s) := resetKeep_ev s h_

theorem warmReset_ev (s : State) (cause : Nat) {a_ : State} (h_ : Evolves a_ s) : Evolves a_ (warmReset s cause) := by
  unfold warmReset
  extract_lets r0 keep b tres g c o r1 r2 r3 r4 r5 r6 r7
  have h0 : Evolves a_ r0 := resetKeep_ev s h_
  have hk : ∀ r x, Evolves a_ r → Evolves a_ (keep r x) := fun r x h => rset_ev _ _ _ h
  have h1 : Evolves a_ r1 := Evolves.lit h0 rfl
  clear_value r1 r0 keep tres b
  have h2 : Evolves a_ r2 := forN_ev (fun _ _ hs => forN_ev (fun _ _ hs => hk _ _ hs) hs) h1
  clear_value r2
  have h3 : Evolves a_ r3 := forN_ev (fun _ _ hs => rput_ev _ _ _ _ _ (forN_ev (fun _ _ hs => hk _ _ hs) hs)) h2
  clear_value r3
  have h4 : Evolves a_ r4 := forN_ev (fun _ _ hs => rput_ev _ _ _ _ _ hs) h3
  clear_value r4
  have h5 : Evolves a_ r5 := rput_ev _ _ _ _ _ h4
  clear_value r5
  have h6 : Evolves a_ r6 := rset_ev _ _ _ (rset_ev _ _ _ h5)
  clear_value r6
  have h7 : Evolves a_ r7 := rinc_ev _ _ _ _ (rset_ev _ _ _ h6)
  exact rput_ev _ _ _ _ _ h7

theorem powerGood_ev (s : State) {a_ : State} (h_ : Evolves a_ s) : Evolves a_ (powerGood s) := by
  unfold powerGood
  repeat' (first
  | with_reducible assumption
  | with_reducible refine Evolves.ite ?_ ?_
  | (extract_lets +onlyGivenNames x; first
     | (refine (fun (hx : Evolves a_ x) => ?_) ?_; (on_goal 2 => subst x); (on_goal 1 => clear_value x))
     | subst x | clear_value x)
  | with_reducible first | apply rset_ev | apply onBoot_ev
  | with_reducible exact Nat.le_refl _
  | split
  | (with_reducible refine Evolves.lit ?_ ?_; (on_goal 2 => rfl)))

theorem loadFuses_ev (s : State) {a_ : State} (h_ : Evolves a_ s) : Evolves a_ (loadFuses s) := by
  unfold loadFuses
  repeat' (first
  | with_reducible assumption
  | with_reducible refine Evolves.ite ?_ ?_
  | (extract_lets +onlyGivenNames x; first
     | (refine (fun (hx : Evolves a_ x) => ?_) ?_; (on_goal 2 => subst x); (on_goal 1 => clear_value x))
     | (refine (fun (hx : Evolves a_ x.2) => ?_) ?_; (on_goal 2 => subst x); (on_goal 1 => clear_value x))
     | (refine (fun (hx : Evolves a_ x.1) => ?_) ?_; (on_goal 2 => subst x); (on_goal 1 => clear_value x))
     | (refine (fun (hx : Evolves a_ x.2.2) => ?_) ?_; (on_goal 2 => subst x); (on_goal 1 => clear_value x))
     | subst x | clear_value x)
  | with_reducible refine forEach_ev (fun _ _ hs => ?_) ?_ | with_reducible refine forN_ev (fun _ _ hs => ?_) ?_
  | with_reducible first | apply rput_ev | apply rset64_ev | apply rsetBit_ev | apply setSlotState_ev | apply rset_ev
  | split
  | (with_reducible refine Evolves.lit ?_ ?_; (on_goal 2 => rfl)))

theorem stageOne_ev (s : State) {a_ : State} (h_ : Evolves a_ s) : Evolves a_ (stageOne s) := by
  unfold stageOne
  repeat' (first
  | with_reducible assumption
  | with_reducible refine Evolves.ite ?_ ?_
  | (extract_lets +onlyGivenNames x; first
     | (refine (fun (hx : Evolves a_ x) => ?_) ?_; (on_goal 2 => subst x); (on_goal 1 => clear_value x))
     | (refine (fun (hx : Evolves a_ x.2) => ?_) ?_; (on_goal 2 => subst x); (on_goal 1 => clear_value x))
     | (refine (fun (hx : Evolves a_ x.1) => ?_) ?_; (on_goal 2 => subst x); (on_goal 1 => clear_value x))
     | (refine (fun (hx : Evolves a_ x.2.2) => ?_) ?_; (on_goal 2 => subst x); (on_goal 1 => clear_value x))
     | subst x | clear_value x)
  | with_reducible refine forEach_ev (fun _ _ hs => ?_) ?_ | with_reducible refine forN_ev (fun _ _ hs => ?_) ?_
  | with_reducible exact Nat.le_refl _
  | with_reducible first | apply hopSchedule_ev | apply powerUp_ev | apply rset_ev | apply rset64_ev | apply rput_ev | apply onBoot_ev | apply setGlcState_ev
  | split
  | (with_reducible refine Evolves.lit ?_ ?_; (on_goal 2 => rfl)))

theorem crystalStable_ev (s : State) (t0 t1 : Nat) {a_ : State} (h_ : Evolves a_ s) : Evolves a_ (crystalStable s t0 t1) := by
  unfold crystalStable
  repeat' (first
  | with_reducible assumption
  | with_reducible refine Evolves.ite ?_ ?_
  | (extract_lets +onlyGivenNames x; first
     | (refine (fun (hx : Evolves a_ x) => ?_) ?_; (on_goal 2 => subst x); (on_goal 1 => clear_value x))
     | (refine (fun (hx : Evolves a_ x.2) => ?_) ?_; (on_goal 2 => subst x); (on_goal 1 => clear_value x))
     | (refine (fun (hx : Evolves a_ x.1) => ?_) ?_; (on_goal 2 => subst x); (on_goal 1 => clear_value x))
     | (refine (fun (hx : Evolves a_ x.2.2) => ?_) ?_; (on_goal 2 => subst x); (on_goal 1 => clear_value x))
     | subst x | clear_value x)
  | with_reducible refine forEach_ev (fun _ _ hs => ?_) ?_ | with_reducible refine forN_ev (fun _ _ hs => ?_) ?_
  | with_reducible exact Nat.le_refl _
  | with_reducible first | apply rput_ev | apply loadFuses_ev | apply rputBit_ev | apply showSlot_ev | apply botEv_ev | apply rsetBit_ev | apply stageOne_ev | apply onBoot_ev | apply crcMode_ev | apply powerUp_ev
  | split
  | (with_reducible refine Evolves.lit ?_ ?_; (on_goal 2 => rfl)))

theorem verifyPass_ev (s : State) (t : Nat) {a_ : State} (h_ : Evolves a_ s) : Evolves a_ (verifyPass s t) := by
  unfold verifyPass
  repeat' (first
  | with_reducible assumption
  | with_reducible refine Evolves.ite ?_ ?_
  | (extract_lets +onlyGivenNames x; first
     | (refine (fun (hx : Evolves a_ x) => ?_) ?_; (on_goal 2 => subst x); (on_goal 1 => clear_value x))
     | subst x | clear_value x)
  | with_reducible first | apply onBoot_ev | apply rputBit_ev | apply rput_ev | apply rsetBit_ev | apply botEv_ev | apply ckoGateAll_ev
  | with_reducible exact Nat.le_refl _
  | split
  | (with_reducible refine Evolves.lit ?_ ?_; (on_goal 2 => rfl)))

theorem verifyFail_ev (s : State) {a_ : State} (h_ : Evolves a_ s) : Evolves a_ (verifyFail s) := by
  unfold verifyFail
  repeat' (first
  | with_reducible assumption
  | with_reducible refine Evolves.ite ?_ ?_
  | with_reducible first | apply warmReset_ev | apply rsetBit_ev
  | split
  | (with_reducible refine Evolves.lit ?_ ?_; (on_goal 2 => rfl)))

theorem trialPass_ev (s : State) {a_ : State} (h_ : Evolves a_ s) : Evolves a_ (trialPass s) := by
  unfold trialPass
  refine Evolves.ite h_ ?_
  extract_lets +onlyGivenNames n s1
  have h1 : Evolves a_ s1 := flagAppend_ev _ _ _ (flagAppend_ev _ _ _ h_)
  clear_value s1
  extract_lets +onlyGivenNames b up s2 s3
  have h3 : Evolves a_ s3 := by
    simp only [s3]
    split
    · rename_i hu
      refine botEv_ev _ _ (rput_ev _ _ _ _ _ (onBoot_ev _ _ ?_ h1))
      have hf : s1.boot.floor ≤ epochFloor s1 := Nat.le_max_right _ _
      exact Nat.le_of_lt (Nat.lt_of_le_of_lt hf hu.2)
    · exact h1
  clear_value s3
  extract_lets +onlyGivenNames s4
  have h4 : Evolves a_ s4 := rput_ev _ _ _ _ _ (onBoot_ev _ _ (by exact Nat.le_refl _) h3)
  clear_value s4
  exact botEv_ev _ _ (forN_ev (fun _ _ hs => showSlot_ev _ _ hs) h4)

theorem bootReady_ev (s : State) (t : Nat) {a_ : State} (h_ : Evolves a_ s) : Evolves a_ (bootReady s t) := by
  unfold bootReady
  repeat' (first
  | with_reducible assumption
  | with_reducible refine Evolves.ite ?_ ?_
  | (extract_lets +onlyGivenNames x; first
     | (refine (fun (hx : Evolves a_ x) => ?_) ?_; (on_goal 2 => subst x); (on_goal 1 => clear_value x))
     | subst x | clear_value x)
  | with_reducible first | apply trialPass_ev | apply rput_ev | apply rsetBit_ev | apply setNs_ev
  | split
  | (with_reducible refine Evolves.lit ?_ ?_; (on_goal 2 => rfl)))

theorem brownOut_ev (s : State) (aon : Bool) {a_ : State} (h_ : Evolves a_ s) : Evolves a_ (brownOut s aon) := by
  unfold brownOut
  repeat' (first
  | with_reducible assumption
  | with_reducible refine Evolves.ite ?_ ?_
  | (extract_lets +onlyGivenNames x; first
     | (refine (fun (hx : Evolves a_ x) => ?_) ?_; (on_goal 2 => subst x); (on_goal 1 => clear_value x))
     | subst x | clear_value x)
  | with_reducible first | apply powerOnReset_ev | apply rsetBit_ev
  | split
  | (with_reducible refine Evolves.lit ?_ ?_; (on_goal 2 => rfl)))

theorem thermalTrip_ev (s : State) {a_ : State} (h_ : Evolves a_ s) : Evolves a_ (thermalTrip s) := by
  unfold thermalTrip
  repeat' (first
  | with_reducible assumption
  | (extract_lets +onlyGivenNames x; first
     | (refine (fun (hx : Evolves a_ x) => ?_) ?_; (on_goal 2 => subst x); (on_goal 1 => clear_value x))
     | subst x | clear_value x)
  | with_reducible first | apply rsetBit_ev | apply onBoot_ev | apply powerOnReset_ev
  | with_reducible exact Nat.le_refl _
  | split
  | (with_reducible refine Evolves.lit ?_ ?_; (on_goal 2 => rfl)))

theorem tripRelease_ev (s : State) {a_ : State} (h_ : Evolves a_ s) : Evolves a_ (tripRelease s) := by
  unfold tripRelease
  repeat' (first
  | with_reducible assumption
  | with_reducible refine Evolves.ite ?_ ?_
  | (extract_lets +onlyGivenNames x; first
     | (refine (fun (hx : Evolves a_ x) => ?_) ?_; (on_goal 2 => subst x); (on_goal 1 => clear_value x))
     | subst x | clear_value x)
  | with_reducible first | apply rset_ev | apply rsetBit_ev | apply rputBit_ev | apply onBoot_ev
  | with_reducible exact Nat.le_refl _
  | split
  | (with_reducible refine Evolves.lit ?_ ?_; (on_goal 2 => rfl)))

theorem fwFail_ev (s : State) (o : CmdOp) (step detail : Nat) {a_ : State} (h_ : Evolves a_ s) : Evolves a_ (fwFail s o step detail) := by
  unfold fwFail
  repeat' (first
  | with_reducible assumption
  | (extract_lets +onlyGivenNames x; first
     | (refine (fun (hx : Evolves a_ x) => ?_) ?_; (on_goal 2 => subst x); (on_goal 1 => clear_value x))
     | subst x | clear_value x)
  | with_reducible first | apply rput_ev | apply rputBit_ev | apply onBoot_ev | apply step_ev | apply botEv_ev | apply opEnd_ev
  | with_reducible exact Nat.le_refl _
  | split
  | (with_reducible refine Evolves.lit ?_ ?_; (on_goal 2 => rfl)))

theorem fwUpdate_ev (s : State) (a h : Nat) (pkg : Option (List Byte)) {a_ : State} (h_ : Evolves a_ s) : Evolves a_ (fwUpdate s a h pkg) := by
  unfold fwUpdate
  repeat' (first
  | with_reducible assumption
  | with_reducible refine Evolves.ite ?_ ?_
  | (extract_lets +onlyGivenNames x; first
     | (refine (fun (hx : Evolves a_ x) => ?_) ?_; (on_goal 2 => subst x); (on_goal 1 => clear_value x))
     | (refine (fun (hx : Evolves a_ x.st) => ?_) ?_; (on_goal 2 => subst x); (on_goal 1 => clear_value x))
     | subst x | clear_value x)
  | with_reducible first | apply opStart_ev | apply rsetBit_ev | apply fwFail_ev | apply showSlot_ev | apply flagAppend_ev | apply rput_ev | apply rputBit_ev | apply onBoot_ev
  | with_reducible exact Nat.le_refl _
  | split
  | (with_reducible refine Evolves.lit ?_ ?_; (on_goal 2 => rfl)))

theorem fwDone_ev (s : State) (ok : Bool) {a_ : State} (h_ : Evolves a_ s) : Evolves a_ (fwDone s ok) := by
  unfold fwDone
  repeat' (first
  | with_reducible assumption
  | with_reducible refine Evolves.ite ?_ ?_
  | (extract_lets +onlyGivenNames x; first
     | (refine (fun (hx : Evolves a_ x) => ?_) ?_; (on_goal 2 => subst x); (on_goal 1 => clear_value x))
     | (refine (fun (hx : Evolves a_ x.st) => ?_) ?_; (on_goal 2 => subst x); (on_goal 1 => clear_value x))
     | subst x | clear_value x)
  | with_reducible first | apply fwFail_ev | apply showSlot_ev | apply onBoot_ev | apply rput_ev | apply rputBit_ev | apply rsetBit_ev | apply flagAppend_ev | apply botEv_ev | apply opEnd_ev
  | with_reducible exact Nat.le_refl _
  | split
  | (with_reducible refine Evolves.lit ?_ ?_; (on_goal 2 => rfl)))

theorem fwTrial_ev (s : State) (a h : Nat) {a_ : State} (h_ : Evolves a_ s) : Evolves a_ (fwTrial s a h) := by
  unfold fwTrial
  repeat' (first
  | with_reducible assumption
  | (extract_lets +onlyGivenNames x; first
     | (refine (fun (hx : Evolves a_ x) => ?_) ?_; (on_goal 2 => subst x); (on_goal 1 => clear_value x))
     | subst x | clear_value x)
  | with_reducible first | apply rput_ev | apply rsetBit_ev | apply opEnd_ev | apply onBoot_ev
  | with_reducible exact Nat.le_refl _
  | split
  | (with_reducible refine Evolves.lit ?_ ?_; (on_goal 2 => rfl)))

theorem devReset_ev (s : State) (a h : Nat) {a_ : State} (h_ : Evolves a_ s) : Evolves a_ (devReset s a h) := by
  unfold devReset
  repeat' (first
  | with_reducible assumption
  | (extract_lets +onlyGivenNames x; first
     | (refine (fun (hx : Evolves a_ x) => ?_) ?_; (on_goal 2 => subst x); (on_goal 1 => clear_value x))
     | subst x | clear_value x)
  | with_reducible first | apply opEnd_ev | apply onBoot_ev
  | with_reducible exact Nat.le_refl _
  | split
  | (with_reducible refine Evolves.lit ?_ ?_; (on_goal 2 => rfl)))

theorem warmDue_ev (s : State) {a_ : State} (h_ : Evolves a_ s) : Evolves a_ (warmDue s) := by
  unfold warmDue
  repeat' (first
  | with_reducible assumption
  | (extract_lets +onlyGivenNames x; first
     | (refine (fun (hx : Evolves a_ x) => ?_) ?_; (on_goal 2 => subst x); (on_goal 1 => clear_value x))
     | subst x | clear_value x)
  | with_reducible first | apply warmReset_ev
  | split
  | (with_reducible refine Evolves.lit ?_ ?_; (on_goal 2 => rfl)))

theorem dbgChallenge_ev (s : State) (a h : Nat) {a_ : State} (h_ : Evolves a_ s) : Evolves a_ (dbgChallenge s a h) := by
  unfold dbgChallenge
  repeat' (first
  | with_reducible assumption
  | (extract_lets +onlyGivenNames x; first
     | (refine (fun (hx : Evolves a_ x) => ?_) ?_; (on_goal 2 => subst x); (on_goal 1 => clear_value x))
     | subst x | clear_value x)
  | with_reducible first | apply opEnd_ev | apply onBoot_ev | apply drawn_ev
  | with_reducible exact Nat.le_refl _
  | split
  | (with_reducible refine Evolves.lit ?_ ?_; (on_goal 2 => rfl)))

theorem dbgUnlock_ev (s : State) (a h : Nat) {a_ : State} (h_ : Evolves a_ s) : Evolves a_ (dbgUnlock s a h) := by
  unfold dbgUnlock
  repeat' (first
  | with_reducible assumption
  | with_reducible refine Evolves.ite ?_ ?_
  | (extract_lets +onlyGivenNames x; first
     | (refine (fun (hx : Evolves a_ x) => ?_) ?_; (on_goal 2 => subst x); (on_goal 1 => clear_value x))
     | subst x | clear_value x)
  | with_reducible first | apply onBoot_ev | apply crcMode_ev | apply rsetBit_ev | apply botEv_ev | apply opEnd_ev
  | with_reducible exact Nat.le_refl _
  | split
  | (with_reducible refine Evolves.lit ?_ ?_; (on_goal 2 => rfl)))

theorem watchdog_ev (s : State) (k now : Nat) (ran : List (Nat × Nat)) (ptp : Bool) {a_ : State} (h_ : Evolves a_ s) : Evolves a_ (watchdog s k now ran ptp) := by
  unfold watchdog
  repeat' (first
  | with_reducible assumption
  | with_reducible refine Evolves.ite ?_ ?_
  | (extract_lets +onlyGivenNames x; first
     | (refine (fun (hx : Evolves a_ x) => ?_) ?_; (on_goal 2 => subst x); (on_goal 1 => clear_value x))
     | (refine (fun (hx : Evolves a_ x.st) => ?_) ?_; (on_goal 2 => subst x); (on_goal 1 => clear_value x))
     | (refine (fun (hx : Evolves a_ x.1.st) => ?_) ?_; (on_goal 2 => subst x); (on_goal 1 => clear_value x))
     | (refine (fun (hx : Evolves a_ x.2) => ?_) ?_; (on_goal 2 => subst x); (on_goal 1 => clear_value x))
     | (refine (fun (hx : Evolves a_ x.1) => ?_) ?_; (on_goal 2 => subst x); (on_goal 1 => clear_value x))
     | (refine (fun (hx : Evolves a_ x.2.2) => ?_) ?_; (on_goal 2 => subst x); (on_goal 1 => clear_value x))
     | subst x | clear_value x)
  | with_reducible refine forEach_ev (fun _ _ hs => ?_) ?_ | with_reducible refine forN_ev (fun _ _ hs => ?_) ?_
  | with_reducible first | apply rinc_ev | apply warmReset_ev | apply fltWork_ev | apply fltDetect_ev | apply opEnd_ev | apply servoLoss_ev
  | split
  | (with_reducible refine Evolves.lit ?_ ?_; (on_goal 2 => rfl)))

theorem coreRestarted_ev (s : State) (k : Nat) {a_ : State} (h_ : Evolves a_ s) : Evolves a_ (coreRestarted s k) := by
  unfold coreRestarted
  repeat' (first
  | with_reducible assumption
  | with_reducible refine Evolves.ite ?_ ?_
  | (extract_lets +onlyGivenNames x; first
     | (refine (fun (hx : Evolves a_ x) => ?_) ?_; (on_goal 2 => subst x); (on_goal 1 => clear_value x))
     | subst x | clear_value x)
  | with_reducible first | apply fltRecover_ev
  | split
  | (with_reducible refine Evolves.lit ?_ ?_; (on_goal 2 => rfl)))

theorem execFwUpdate_ev (a : Fin 8) (h : BitVec 16) (pkg : Option (List Byte)) (st : State) : NextEv st (execFwUpdate a h pkg st) := by
  have h_ := Evolves.refl st
  unfold execFwUpdate
  repeat' (first
  | with_reducible assumption
  | with_reducible refine next_ev ?_
  | with_reducible first | apply fwUpdate_ev
  | split
  | (with_reducible refine Evolves.lit ?_ ?_; (on_goal 2 => rfl)))

theorem execFwUpdateDone_ev (ok : Bool) (st : State) : NextEv st (execFwUpdateDone ok st) := by
  have h_ := Evolves.refl st
  unfold execFwUpdateDone
  repeat' (first
  | with_reducible assumption
  | with_reducible refine next_ev ?_
  | with_reducible first | apply fwDone_ev
  | split
  | (with_reducible refine Evolves.lit ?_ ?_; (on_goal 2 => rfl)))

theorem execFwTrial_ev (a : Fin 8) (h : BitVec 16) (st : State) : NextEv st (execFwTrial a h st) := by
  have h_ := Evolves.refl st
  unfold execFwTrial
  repeat' (first
  | with_reducible assumption
  | with_reducible refine next_ev ?_
  | with_reducible first | apply fwTrial_ev
  | split
  | (with_reducible refine Evolves.lit ?_ ?_; (on_goal 2 => rfl)))

theorem execDbgChallenge_ev (a : Fin 8) (h : BitVec 16) (st : State) : NextEv st (execDbgChallenge a h st) := by
  have h_ := Evolves.refl st
  unfold execDbgChallenge
  repeat' (first
  | with_reducible assumption
  | with_reducible refine next_ev ?_
  | with_reducible first | apply dbgChallenge_ev
  | split
  | (with_reducible refine Evolves.lit ?_ ?_; (on_goal 2 => rfl)))

theorem execDbgChallengeExpiry_ev (st : State) : NextEv st (execDbgChallengeExpiry st) := by
  have h_ := Evolves.refl st
  unfold execDbgChallengeExpiry
  repeat' (first
  | with_reducible assumption
  | with_reducible refine next_ev ?_
  | (extract_lets +onlyGivenNames x; first
     | (refine (fun (hx : Evolves st x) => ?_) ?_; (on_goal 2 => subst x); (on_goal 1 => clear_value x))
     | subst x | clear_value x)
  | with_reducible first | apply onBoot_ev
  | with_reducible exact Nat.le_refl _
  | split
  | (with_reducible refine Evolves.lit ?_ ?_; (on_goal 2 => rfl)))

theorem execDbgUnlock_ev (a : Fin 8) (h : BitVec 16) (st : State) : NextEv st (execDbgUnlock a h st) := by
  have h_ := Evolves.refl st
  unfold execDbgUnlock
  repeat' (first
  | with_reducible assumption
  | with_reducible refine next_ev ?_
  | with_reducible first | apply dbgUnlock_ev
  | split
  | (with_reducible refine Evolves.lit ?_ ?_; (on_goal 2 => rfl)))

theorem execDevReset_ev (a : Fin 8) (h : BitVec 16) (st : State) : NextEv st (execDevReset a h st) := by
  have h_ := Evolves.refl st
  unfold execDevReset
  repeat' (first
  | with_reducible assumption
  | with_reducible refine next_ev ?_
  | with_reducible first | apply devReset_ev
  | split
  | (with_reducible refine Evolves.lit ?_ ?_; (on_goal 2 => rfl)))

theorem execThermalTrip_ev (st : State) : NextEv st (execThermalTrip st) := by
  have h_ := Evolves.refl st
  unfold execThermalTrip
  repeat' (first
  | with_reducible assumption
  | with_reducible refine next_ev ?_
  | with_reducible first | apply thermalTrip_ev
  | split
  | (with_reducible refine Evolves.lit ?_ ?_; (on_goal 2 => rfl)))

theorem execThermalTripRelease_ev (st : State) : NextEv st (execThermalTripRelease st) := by
  have h_ := Evolves.refl st
  unfold execThermalTripRelease
  repeat' (first
  | with_reducible assumption
  | with_reducible refine next_ev ?_
  | with_reducible first | apply tripRelease_ev
  | split
  | (with_reducible refine Evolves.lit ?_ ?_; (on_goal 2 => rfl)))

theorem execPowerGood_ev (st : State) : NextEv st (execPowerGood st) := by
  have h_ := Evolves.refl st
  unfold execPowerGood
  repeat' (first
  | with_reducible assumption
  | with_reducible refine next_ev ?_
  | with_reducible first | apply powerGood_ev
  | split
  | (with_reducible refine Evolves.lit ?_ ?_; (on_goal 2 => rfl)))

theorem execPowerOnReset_ev (st : State) : NextEv st (execPowerOnReset st) := by
  have h_ := Evolves.refl st
  unfold execPowerOnReset
  repeat' (first
  | with_reducible assumption
  | with_reducible refine next_ev ?_
  | with_reducible first | apply powerOnReset_ev
  | split
  | (with_reducible refine Evolves.lit ?_ ?_; (on_goal 2 => rfl)))

theorem execBrownOut_ev (aon : Bool) (st : State) : NextEv st (execBrownOut aon st) := by
  have h_ := Evolves.refl st
  unfold execBrownOut
  repeat' (first
  | with_reducible assumption
  | with_reducible refine next_ev ?_
  | with_reducible first | apply brownOut_ev
  | split
  | (with_reducible refine Evolves.lit ?_ ?_; (on_goal 2 => rfl)))

theorem execWarmReset_ev (st : State) : NextEv st (execWarmReset st) := by
  have h_ := Evolves.refl st
  unfold execWarmReset
  repeat' (first
  | with_reducible assumption
  | with_reducible refine next_ev ?_
  | with_reducible first | apply warmDue_ev
  | split
  | (with_reducible refine Evolves.lit ?_ ?_; (on_goal 2 => rfl)))

theorem execVerificationPass_ev (t : BitVec 16) (st : State) : NextEv st (execVerificationPass t st) := by
  have h_ := Evolves.refl st
  unfold execVerificationPass
  repeat' (first
  | with_reducible assumption
  | with_reducible refine next_ev ?_
  | with_reducible first | apply verifyPass_ev
  | split
  | (with_reducible refine Evolves.lit ?_ ?_; (on_goal 2 => rfl)))

theorem execVerificationFail_ev (st : State) : NextEv st (execVerificationFail st) := by
  have h_ := Evolves.refl st
  unfold execVerificationFail
  repeat' (first
  | with_reducible assumption
  | with_reducible refine next_ev ?_
  | with_reducible first | apply verifyFail_ev
  | split
  | (with_reducible refine Evolves.lit ?_ ?_; (on_goal 2 => rfl)))

theorem execBootReady_ev (t : BitVec 16) (st : State) : NextEv st (execBootReady t st) := by
  have h_ := Evolves.refl st
  unfold execBootReady
  repeat' (first
  | with_reducible assumption
  | with_reducible refine next_ev ?_
  | with_reducible first | apply bootReady_ev
  | split
  | (with_reducible refine Evolves.lit ?_ ?_; (on_goal 2 => rfl)))

theorem execCrystalStable_ev (t0 t1 : BitVec 16) (st : State) : NextEv st (execCrystalStable t0 t1 st) := by
  have h_ := Evolves.refl st
  unfold execCrystalStable
  repeat' (first
  | with_reducible assumption
  | with_reducible refine next_ev ?_
  | with_reducible first | apply crystalStable_ev
  | split
  | (with_reducible refine Evolves.lit ?_ ?_; (on_goal 2 => rfl)))

theorem execWatchdogExpiry_ev (k : Fin 4) (now : Nat) (ran : List (Nat × Nat)) (ptp : Bool) (st : State) : NextEv st (execWatchdogExpiry k now ran ptp st) := by
  have h_ := Evolves.refl st
  unfold execWatchdogExpiry
  repeat' (first
  | with_reducible assumption
  | with_reducible refine next_ev ?_
  | with_reducible first | apply watchdog_ev
  | split
  | (with_reducible refine Evolves.lit ?_ ?_; (on_goal 2 => rfl)))

theorem execCoreRestartDone_ev (k : Fin 4) (st : State) : NextEv st (execCoreRestartDone k st) := by
  have h_ := Evolves.refl st
  unfold execCoreRestartDone
  repeat' (first
  | with_reducible assumption
  | with_reducible refine next_ev ?_
  | with_reducible first | apply coreRestarted_ev
  | split
  | (with_reducible refine Evolves.lit ?_ ?_; (on_goal 2 => rfl)))

end Sys2Proof.Machine
end

