-- ==== Sys2Proof/Laws/Ev/EvtCmd.lean ====
section
/-! SUPPORT. Each operation of Machine/EvtCmd.lean only evolves the state it is given. -/

set_option linter.unreachableTactic false
set_option linter.unusedTactic false
set_option linter.tactic.unusedName false

namespace Sys2Proof.Machine

theorem pinChange_ev (s : State) (p : Nat) (level : Bool) (edges : Nat) {a_ : State} (h_ : Evolves a_ s) : Evolves a_ (pinChange s p level edges) := by
  unfold pinChange
  repeat' (first
  | with_reducible assumption
  | with_reducible refine Evolves.ite ?_ ?_
  | (extract_lets +onlyGivenNames x; first
     | (refine (fun (hx : Evolves a_ x) => ?_) ?_; (on_goal 2 => subst x); (on_goal 1 => clear_value x))
     | subst x | clear_value x)
  | with_reducible first | apply rput_ev | apply rputBit_ev | apply evSignalLevel_ev
  | split
  | (with_reducible refine Evolves.lit ?_ ?_; (on_goal 2 => rfl)))

theorem evField_ev (s : State) (n lo w v : Nat) {a_ : State} (h_ : Evolves a_ s) : Evolves a_ (evField s n lo w v) := by
  unfold evField
  repeat' (first
  | with_reducible assumption
  | with_reducible first | apply evSrcWrite_ev
  | split
  | (with_reducible refine Evolves.lit ?_ ?_; (on_goal 2 => rfl)))

theorem stormWindow_ev (s : State) {a_ : State} (h_ : Evolves a_ s) : Evolves a_ (stormWindow s) := by
  unfold stormWindow
  repeat' (first
  | with_reducible assumption
  | with_reducible refine Evolves.ite ?_ ?_
  | with_reducible refine forEach_ev (fun _ _ hs => ?_) ?_ | with_reducible refine forN_ev (fun _ _ hs => ?_) ?_
  | with_reducible first | apply rput_ev
  | split
  | (with_reducible refine Evolves.lit ?_ ?_; (on_goal 2 => rfl)))

theorem mtrSnapshot_ev (s : State) (b : W64) {a_ : State} (h_ : Evolves a_ s) : Evolves a_ (mtrSnapshot s b) := by
  unfold mtrSnapshot
  repeat' (first
  | with_reducible assumption
  | with_reducible refine Evolves.ite ?_ ?_
  | (extract_lets +onlyGivenNames x; first
     | (refine (fun (hx : Evolves a_ x) => ?_) ?_; (on_goal 2 => subst x); (on_goal 1 => clear_value x))
     | (refine (fun (hx : Evolves a_ x.2) => ?_) ?_; (on_goal 2 => subst x); (on_goal 1 => clear_value x))
     | (refine (fun (hx : Evolves a_ x.1) => ?_) ?_; (on_goal 2 => subst x); (on_goal 1 => clear_value x))
     | (refine (fun (hx : Evolves a_ x.2.2) => ?_) ?_; (on_goal 2 => subst x); (on_goal 1 => clear_value x))
     | subst x | clear_value x)
  | with_reducible refine forEach_ev (fun _ _ hs => ?_) ?_ | with_reducible refine forN_ev (fun _ _ hs => ?_) ?_
  | with_reducible refine foldl_ev (fun _ _ hs => ?_) ?_ | with_reducible refine foldl_snd_ev (fun _ _ hs => ?_) ?_
  | with_reducible refine foldl_fst_ev (fun _ _ hs => ?_) ?_ | with_reducible refine foldl_snd2_ev (fun _ _ hs => ?_) ?_
  | with_reducible first | apply foldl_ev | apply rputBit_ev | apply rsetBit_ev | apply evRaise_ev | apply histFreeze_ev
  | split
  | (with_reducible refine Evolves.lit ?_ ?_; (on_goal 2 => rfl)))

theorem mtrGo_ev (s : State) (late : Bool) {a_ : State} (h_ : Evolves a_ s) : Evolves a_ (mtrGo s late) := by
  unfold mtrGo
  repeat' (first
  | with_reducible assumption
  | with_reducible refine Evolves.ite ?_ ?_
  | (extract_lets +onlyGivenNames x; first
     | (refine (fun (hx : Evolves a_ x) => ?_) ?_; (on_goal 2 => subst x); (on_goal 1 => clear_value x))
     | subst x | clear_value x)
  | with_reducible first | apply rsetBit_ev
  | split
  | (with_reducible refine Evolves.lit ?_ ?_; (on_goal 2 => rfl)))

theorem mtrIdx_ev (s : State) (ctx m : Nat) {a_ : State} (h_ : Evolves a_ s) : Evolves a_ (mtrIdx s ctx m) := by
  unfold mtrIdx
  repeat' (first
  | with_reducible assumption
  | (extract_lets +onlyGivenNames x; first
     | (refine (fun (hx : Evolves a_ x) => ?_) ?_; (on_goal 2 => subst x); (on_goal 1 => clear_value x))
     | subst x | clear_value x)
  | split
  | (with_reducible refine Evolves.lit ?_ ?_; (on_goal 2 => rfl)))

theorem hisPut_ev (s : State) (k : Nat) (h : Hist) {a_ : State} (h_ : Evolves a_ s) : Evolves a_ (hisPut s k h) := by
  unfold hisPut
  repeat' (first
  | with_reducible assumption
  | (extract_lets +onlyGivenNames x; first
     | (refine (fun (hx : Evolves a_ x) => ?_) ?_; (on_goal 2 => subst x); (on_goal 1 => clear_value x))
     | subst x | clear_value x)
  | split
  | (with_reducible refine Evolves.lit ?_ ?_; (on_goal 2 => rfl)))

theorem hisClr_ev (s : State) {a_ : State} (h_ : Evolves a_ s) : Evolves a_ (hisClr s) := by
  unfold hisClr
  repeat' (first
  | with_reducible assumption
  | (extract_lets +onlyGivenNames x; first
     | (refine (fun (hx : Evolves a_ x) => ?_) ?_; (on_goal 2 => subst x); (on_goal 1 => clear_value x))
     | subst x | clear_value x)
  | with_reducible first | apply hisPut_ev
  | split
  | (with_reducible refine Evolves.lit ?_ ?_; (on_goal 2 => rfl)))

theorem hisFrz_ev (s : State) {a_ : State} (h_ : Evolves a_ s) : Evolves a_ (hisFrz s) := by
  unfold hisFrz
  repeat' (first
  | with_reducible assumption
  | with_reducible refine Evolves.ite ?_ ?_
  | (extract_lets +onlyGivenNames x; first
     | (refine (fun (hx : Evolves a_ x) => ?_) ?_; (on_goal 2 => subst x); (on_goal 1 => clear_value x))
     | subst x | clear_value x)
  | with_reducible first | apply histFreeze_ev
  | split
  | (with_reducible refine Evolves.lit ?_ ?_; (on_goal 2 => rfl)))

theorem hisRun_ev (s : State) {a_ : State} (h_ : Evolves a_ s) : Evolves a_ (hisRun s) := by
  unfold hisRun
  repeat' (first
  | with_reducible assumption
  | (extract_lets +onlyGivenNames x; first
     | (refine (fun (hx : Evolves a_ x) => ?_) ?_; (on_goal 2 => subst x); (on_goal 1 => clear_value x))
     | subst x | clear_value x)
  | with_reducible first | apply hisPut_ev
  | split
  | (with_reducible refine Evolves.lit ?_ ?_; (on_goal 2 => rfl)))

theorem execEventPinChange_ev (p : Fin 16) (level : Bool) (edges : Nat) (st : State) : NextEv st (execEventPinChange p level edges st) := by
  have h_ := Evolves.refl st
  unfold execEventPinChange
  repeat' (first
  | with_reducible assumption
  | with_reducible refine next_ev ?_
  | with_reducible first | apply pinChange_ev
  | split
  | (with_reducible refine Evolves.lit ?_ ?_; (on_goal 2 => rfl)))

theorem execEvcClaimRead_ev (a : Fin 8) (st : State) : NextEv st (execEvcClaimRead a st) := by
  have h_ := Evolves.refl st
  unfold execEvcClaimRead
  repeat' (first
  | with_reducible assumption
  | with_reducible refine next_ev ?_
  | (extract_lets +onlyGivenNames x; first
     | (refine (fun (hx : Evolves st x) => ?_) ?_; (on_goal 2 => subst x); (on_goal 1 => clear_value x))
     | (refine (fun (hx : Evolves st x.2) => ?_) ?_; (on_goal 2 => subst x); (on_goal 1 => clear_value x))
     | (refine (fun (hx : Evolves st x.1) => ?_) ?_; (on_goal 2 => subst x); (on_goal 1 => clear_value x))
     | (refine (fun (hx : Evolves st x.2.2) => ?_) ?_; (on_goal 2 => subst x); (on_goal 1 => clear_value x))
     | subst x | clear_value x)
  | with_reducible first | apply evClaim_ev | apply emit_ev
  | split
  | (with_reducible refine Evolves.lit ?_ ?_; (on_goal 2 => rfl)))

theorem execEvcEoi_ev (a : Fin 8) (src : BitVec 10) (st : State) : NextEv st (execEvcEoi a src st) := by
  have h_ := Evolves.refl st
  unfold execEvcEoi
  repeat' (first
  | with_reducible assumption
  | with_reducible refine next_ev ?_
  | with_reducible first | apply evEoi_ev
  | split
  | (with_reducible refine Evolves.lit ?_ ?_; (on_goal 2 => rfl)))

theorem execEvcRaise_ev (src : BitVec 10) (st : State) : NextEv st (execEvcRaise src st) := by
  have h_ := Evolves.refl st
  unfold execEvcRaise
  repeat' (first
  | with_reducible assumption
  | with_reducible refine next_ev ?_
  | with_reducible refine Evolves.ite ?_ ?_
  | with_reducible first | apply evRaise_ev
  | split
  | (with_reducible refine Evolves.lit ?_ ?_; (on_goal 2 => rfl)))

theorem execEvcSrcEnWrite_ev (n : Fin 512) (en : Bool) (st : State) : NextEv st (execEvcSrcEnWrite n en st) := by
  have h_ := Evolves.refl st
  unfold execEvcSrcEnWrite
  repeat' (first
  | with_reducible assumption
  | with_reducible refine next_ev ?_
  | with_reducible first | apply evField_ev
  | split
  | (with_reducible refine Evolves.lit ?_ ?_; (on_goal 2 => rfl)))

theorem execEvcSrcMaskWrite_ev (n : Fin 512) (mask : BitVec 8) (st : State) : NextEv st (execEvcSrcMaskWrite n mask st) := by
  have h_ := Evolves.refl st
  unfold execEvcSrcMaskWrite
  repeat' (first
  | with_reducible assumption
  | with_reducible refine next_ev ?_
  | with_reducible first | apply evField_ev
  | split
  | (with_reducible refine Evolves.lit ?_ ?_; (on_goal 2 => rfl)))

theorem execEvcSrcSenseWrite_ev (n : Fin 512) (sense : Fin 8) (st : State) : NextEv st (execEvcSrcSenseWrite n sense st) := by
  have h_ := Evolves.refl st
  unfold execEvcSrcSenseWrite
  repeat' (first
  | with_reducible assumption
  | with_reducible refine next_ev ?_
  | with_reducible first | apply evField_ev
  | split
  | (with_reducible refine Evolves.lit ?_ ?_; (on_goal 2 => rfl)))

theorem execEvcStormClear_ev (n : Fin 512) (st : State) : NextEv st (execEvcStormClear n st) := by
  have h_ := Evolves.refl st
  unfold execEvcStormClear
  repeat' (first
  | with_reducible assumption
  | with_reducible refine next_ev ?_
  | with_reducible first | apply evField_ev
  | split
  | (with_reducible refine Evolves.lit ?_ ?_; (on_goal 2 => rfl)))

theorem execEvcCfgSplitWrite_ev (split : Fin 8) (st : State) : NextEv st (execEvcCfgSplitWrite split st) := by
  have h_ := Evolves.refl st
  unfold execEvcCfgSplitWrite
  repeat' (first
  | with_reducible assumption
  | with_reducible refine next_ev ?_
  | with_reducible first | apply evSettle_ev | apply rput_ev
  | split
  | (with_reducible refine Evolves.lit ?_ ?_; (on_goal 2 => rfl)))

theorem execStormWindow_ev (st : State) : NextEv st (execStormWindow st) := by
  have h_ := Evolves.refl st
  unfold execStormWindow
  repeat' (first
  | with_reducible assumption
  | with_reducible refine next_ev ?_
  | with_reducible first | apply stormWindow_ev
  | split
  | (with_reducible refine Evolves.lit ?_ ?_; (on_goal 2 => rfl)))

theorem execEvcPinClr_ev (p : Fin 16) (st : State) : NextEv st (execEvcPinClr p st) := by
  have h_ := Evolves.refl st
  unfold execEvcPinClr
  repeat' (first
  | with_reducible assumption
  | with_reducible refine next_ev ?_
  | with_reducible first | apply rput_ev
  | split
  | (with_reducible refine Evolves.lit ?_ ?_; (on_goal 2 => rfl)))

theorem execMtrSnapGo_ev (late : Bool) (st : State) : NextEv st (execMtrSnapGo late st) := by
  have h_ := Evolves.refl st
  unfold execMtrSnapGo
  repeat' (first
  | with_reducible assumption
  | with_reducible refine next_ev ?_
  | with_reducible first | apply mtrGo_ev
  | split
  | (with_reducible refine Evolves.lit ?_ ?_; (on_goal 2 => rfl)))

theorem execMtrIdxWrite_ev (ctx : Fin 9) (m : Fin 4096) (st : State) : NextEv st (execMtrIdxWrite ctx m st) := by
  have h_ := Evolves.refl st
  unfold execMtrIdxWrite
  repeat' (first
  | with_reducible assumption
  | with_reducible refine next_ev ?_
  | with_reducible first | apply mtrIdx_ev
  | split
  | (with_reducible refine Evolves.lit ?_ ?_; (on_goal 2 => rfl)))

theorem execHisClr_ev (st : State) : NextEv st (execHisClr st) := by
  have h_ := Evolves.refl st
  unfold execHisClr
  repeat' (first
  | with_reducible assumption
  | with_reducible refine next_ev ?_
  | with_reducible first | apply hisClr_ev
  | split
  | (with_reducible refine Evolves.lit ?_ ?_; (on_goal 2 => rfl)))

theorem execHisFrz_ev (st : State) : NextEv st (execHisFrz st) := by
  have h_ := Evolves.refl st
  unfold execHisFrz
  repeat' (first
  | with_reducible assumption
  | with_reducible refine next_ev ?_
  | with_reducible first | apply hisFrz_ev
  | split
  | (with_reducible refine Evolves.lit ?_ ?_; (on_goal 2 => rfl)))

theorem execHisRun_ev (st : State) : NextEv st (execHisRun st) := by
  have h_ := Evolves.refl st
  unfold execHisRun
  repeat' (first
  | with_reducible assumption
  | with_reducible refine next_ev ?_
  | with_reducible first | apply hisRun_ev
  | split
  | (with_reducible refine Evolves.lit ?_ ?_; (on_goal 2 => rfl)))

theorem execCisOwnerWrite_ev (firmware : Bool) (k : Fin 128) (v : W32) (late : Bool) (st : State) : NextEv st (execCisOwnerWrite firmware k v late st) := by
  have h_ := Evolves.refl st
  unfold execCisOwnerWrite
  repeat' (first
  | with_reducible assumption
  | with_reducible refine next_ev ?_
  | with_reducible first | apply cisOwnerWrite_ev
  | split
  | (with_reducible refine Evolves.lit ?_ ?_; (on_goal 2 => rfl)))

theorem execCisEaddrClr_ev (k : Fin 128) (st : State) : NextEv st (execCisEaddrClr k st) := by
  have h_ := Evolves.refl st
  unfold execCisEaddrClr
  repeat' (first
  | with_reducible assumption
  | with_reducible refine next_ev ?_
  | with_reducible first | apply rset_ev
  | split
  | (with_reducible refine Evolves.lit ?_ ?_; (on_goal 2 => rfl)))

end Sys2Proof.Machine
end

