-- ==== Sys2Proof/Laws/Ev/Pump.lean ====
section
/-! SUPPORT. Each operation of Machine/Pump.lean only evolves the state it is given. -/

set_option linter.unreachableTactic false
set_option linter.unusedTactic false
set_option linter.tactic.unusedName false

namespace Sys2Proof.Machine

theorem setPump_ev (s : State) (n : Nat) (p : PumpCh) {a_ : State} (h_ : Evolves a_ s) : Evolves a_ (setPump s n p) := by
  unfold setPump
  repeat' (first
  | with_reducible assumption
  | (extract_lets +onlyGivenNames x; first
     | (refine (fun (hx : Evolves a_ x) => ?_) ?_; (on_goal 2 => subst x); (on_goal 1 => clear_value x))
     | subst x | clear_value x)
  | split
  | (with_reducible refine Evolves.lit ?_ ?_; (on_goal 2 => rfl)))

theorem setPmpState_ev (s : State) (n v : Nat) {a_ : State} (h_ : Evolves a_ s) : Evolves a_ (setPmpState s n v) := by
  unfold setPmpState
  repeat' (first
  | with_reducible assumption
  | with_reducible first | apply rput_ev
  | split
  | (with_reducible refine Evolves.lit ?_ ?_; (on_goal 2 => rfl)))

theorem setPmpHead_ev (s : State) (n v : Nat) {a_ : State} (h_ : Evolves a_ s) : Evolves a_ (setPmpHead s n v) := by
  unfold setPmpHead
  repeat' (first
  | with_reducible assumption
  | with_reducible first | apply rset64_ev
  | split
  | (with_reducible refine Evolves.lit ?_ ?_; (on_goal 2 => rfl)))

theorem pmpFetch_ev (s : State) (n : Nat) {a_ : State} (h_ : Evolves a_ s) : Evolves a_ (pmpFetch s n) := by
  unfold pmpFetch
  repeat' (first
  | with_reducible assumption
  | (extract_lets +onlyGivenNames x; first
     | (refine (fun (hx : Evolves a_ x) => ?_) ?_; (on_goal 2 => subst x); (on_goal 1 => clear_value x))
     | subst x | clear_value x)
  | with_reducible first | apply emit_ev | apply setPump_ev
  | split
  | (with_reducible refine Evolves.lit ?_ ?_; (on_goal 2 => rfl)))

theorem pmpStart_ev (s : State) (n : Nat) {a_ : State} (h_ : Evolves a_ s) : Evolves a_ (pmpStart s n) := by
  unfold pmpStart
  repeat' (first
  | with_reducible assumption
  | with_reducible first | apply pmpFetch_ev | apply setPmpState_ev | apply rput_ev | apply setPump_ev
  | split
  | (with_reducible refine Evolves.lit ?_ ?_; (on_goal 2 => rfl)))

theorem pmpEnable_ev (s : State) (n : Nat) {a_ : State} (h_ : Evolves a_ s) : Evolves a_ (pmpEnable s n) := by
  unfold pmpEnable
  repeat' (first
  | with_reducible assumption
  | with_reducible refine Evolves.ite ?_ ?_
  | (extract_lets +onlyGivenNames x; first
     | (refine (fun (hx : Evolves a_ x) => ?_) ?_; (on_goal 2 => subst x); (on_goal 1 => clear_value x))
     | subst x | clear_value x)
  | with_reducible first | apply rputBit_ev | apply rsetBit_ev | apply fltRecover_ev | apply setPump_ev | apply pmpStart_ev
  | split
  | (with_reducible refine Evolves.lit ?_ ?_; (on_goal 2 => rfl)))

theorem pmpDisable_ev (s : State) (n : Nat) {a_ : State} (h_ : Evolves a_ s) : Evolves a_ (pmpDisable s n) := by
  unfold pmpDisable
  repeat' (first
  | with_reducible assumption
  | with_reducible refine Evolves.ite ?_ ?_
  | (extract_lets +onlyGivenNames x; first
     | (refine (fun (hx : Evolves a_ x) => ?_) ?_; (on_goal 2 => subst x); (on_goal 1 => clear_value x))
     | (refine (fun (hx : Evolves a_ x.2) => ?_) ?_; (on_goal 2 => subst x); (on_goal 1 => clear_value x))
     | (refine (fun (hx : Evolves a_ x.1) => ?_) ?_; (on_goal 2 => subst x); (on_goal 1 => clear_value x))
     | (refine (fun (hx : Evolves a_ x.2.2) => ?_) ?_; (on_goal 2 => subst x); (on_goal 1 => clear_value x))
     | subst x | clear_value x)
  | with_reducible first | apply rputBit_ev | apply setPump_ev | apply rput_ev | apply setPmpState_ev | apply drawn_ev | apply rset_ev
  | split
  | (with_reducible refine Evolves.lit ?_ ?_; (on_goal 2 => rfl)))

theorem pmpFlushed_ev (s : State) (n : Nat) {a_ : State} (h_ : Evolves a_ s) : Evolves a_ (pmpFlushed s n) := by
  unfold pmpFlushed
  repeat' (first
  | with_reducible assumption
  | with_reducible refine Evolves.ite ?_ ?_
  | (extract_lets +onlyGivenNames x; first
     | (refine (fun (hx : Evolves a_ x) => ?_) ?_; (on_goal 2 => subst x); (on_goal 1 => clear_value x))
     | subst x | clear_value x)
  | with_reducible first | apply rputBit_ev | apply setPump_ev | apply pmpStart_ev
  | split
  | (with_reducible refine Evolves.lit ?_ ?_; (on_goal 2 => rfl)))

theorem pmpStopped_ev (s : State) (n : Nat) {a_ : State} (h_ : Evolves a_ s) : Evolves a_ (pmpStopped s n) := by
  unfold pmpStopped
  repeat' (first
  | with_reducible assumption
  | with_reducible first | apply evRaise_ev | apply setPmpState_ev
  | split
  | (with_reducible refine Evolves.lit ?_ ?_; (on_goal 2 => rfl)))

theorem pmpStop_ev (s : State) (n : Nat) {a_ : State} (h_ : Evolves a_ s) : Evolves a_ (pmpStop s n) := by
  unfold pmpStop
  repeat' (first
  | with_reducible assumption
  | (extract_lets +onlyGivenNames x; first
     | (refine (fun (hx : Evolves a_ x) => ?_) ?_; (on_goal 2 => subst x); (on_goal 1 => clear_value x))
     | subst x | clear_value x)
  | with_reducible first | apply pmpStopped_ev | apply setPmpState_ev
  | split
  | (with_reducible refine Evolves.lit ?_ ?_; (on_goal 2 => rfl)))

theorem pmpDoorbell_ev (s : State) (n : Nat) {a_ : State} (h_ : Evolves a_ s) : Evolves a_ (pmpDoorbell s n) := by
  unfold pmpDoorbell
  repeat' (first
  | with_reducible assumption
  | with_reducible refine Evolves.ite ?_ ?_
  | (extract_lets +onlyGivenNames x; first
     | (refine (fun (hx : Evolves a_ x) => ?_) ?_; (on_goal 2 => subst x); (on_goal 1 => clear_value x))
     | subst x | clear_value x)
  | with_reducible first | apply rsetBit_ev | apply pmpFetch_ev
  | split
  | (with_reducible refine Evolves.lit ?_ ?_; (on_goal 2 => rfl)))

theorem pmpWriteBack_ev (s : State) (n : Nat) (ok : Bool) (code : Nat) (late : Bool) {a_ : State} (h_ : Evolves a_ s) : Evolves a_ (pmpWriteBack s n ok code late) := by
  unfold pmpWriteBack
  repeat' (first
  | with_reducible assumption
  | with_reducible refine Evolves.ite ?_ ?_
  | (extract_lets +onlyGivenNames x; first
     | (refine (fun (hx : Evolves a_ x) => ?_) ?_; (on_goal 2 => subst x); (on_goal 1 => clear_value x))
     | subst x | clear_value x)
  | with_reducible first | apply emit_ev
  | split
  | (with_reducible refine Evolves.lit ?_ ?_; (on_goal 2 => rfl)))

theorem pmpHalt_ev (s : State) (n cause addr : Nat) (wr fab dsc late : Bool) {a_ : State} (h_ : Evolves a_ s) : Evolves a_ (pmpHalt s n cause addr wr fab dsc late) := by
  unfold pmpHalt
  repeat' (first
  | with_reducible assumption
  | with_reducible refine Evolves.ite ?_ ?_
  | (extract_lets +onlyGivenNames x; first
     | (refine (fun (hx : Evolves a_ x) => ?_) ?_; (on_goal 2 => subst x); (on_goal 1 => clear_value x))
     | subst x | clear_value x)
  | with_reducible first | apply pmpWriteBack_ev | apply rset_ev | apply rset64_ev | apply rsetBit_ev | apply rputBit_ev | apply setPmpState_ev | apply setPump_ev | apply evRaise_ev | apply fltDetect_ev
  | split
  | (with_reducible refine Evolves.lit ?_ ?_; (on_goal 2 => rfl)))

theorem pmpComplete_ev (s : State) (n : Nat) (lat : Nat) {a_ : State} (h_ : Evolves a_ s) : Evolves a_ (pmpComplete s n lat) := by
  unfold pmpComplete
  repeat' (first
  | with_reducible assumption
  | with_reducible refine Evolves.ite ?_ ?_
  | (extract_lets +onlyGivenNames x; first
     | (refine (fun (hx : Evolves a_ x) => ?_) ?_; (on_goal 2 => subst x); (on_goal 1 => clear_value x))
     | subst x | clear_value x)
  | with_reducible first | apply pmpWriteBack_ev | apply rset_ev | apply evRaise_ev | apply histSample_ev | apply rputBit_ev | apply setPmpHead_ev | apply setPump_ev | apply pmpStopped_ev | apply pmpFetch_ev
  | split
  | (with_reducible refine Evolves.lit ?_ ?_; (on_goal 2 => rfl)))

theorem pmpFetched_ev (s : State) (n : Nat) (d : List Byte) {a_ : State} (h_ : Evolves a_ s) : Evolves a_ (pmpFetched s n d) := by
  unfold pmpFetched
  repeat' (first
  | with_reducible assumption
  | with_reducible refine Evolves.ite ?_ ?_
  | (extract_lets +onlyGivenNames x; first
     | (refine (fun (hx : Evolves a_ x) => ?_) ?_; (on_goal 2 => subst x); (on_goal 1 => clear_value x))
     | subst x | clear_value x)
  | with_reducible first | apply pmpFlushed_ev | apply setPump_ev | apply pmpStopped_ev | apply pmpFetch_ev | apply rputBit_ev | apply setPmpState_ev | apply rput_ev | apply pmpHalt_ev | apply setPmpHead_ev | apply rset_ev
  | split
  | (with_reducible refine Evolves.lit ?_ ?_; (on_goal 2 => rfl)))

theorem pmpBurst_ev (s : State) (n : Nat) {a_ : State} (h_ : Evolves a_ s) : Evolves a_ (pmpBurst s n) := by
  unfold pmpBurst
  repeat' (first
  | with_reducible assumption
  | with_reducible refine Evolves.ite ?_ ?_
  | (extract_lets +onlyGivenNames x; first
     | (refine (fun (hx : Evolves a_ x) => ?_) ?_; (on_goal 2 => subst x); (on_goal 1 => clear_value x))
     | (refine (fun (hx : Evolves a_ x.2) => ?_) ?_; (on_goal 2 => subst x); (on_goal 1 => clear_value x))
     | (refine (fun (hx : Evolves a_ x.1) => ?_) ?_; (on_goal 2 => subst x); (on_goal 1 => clear_value x))
     | (refine (fun (hx : Evolves a_ x.2.2) => ?_) ?_; (on_goal 2 => subst x); (on_goal 1 => clear_value x))
     | subst x | clear_value x)
  | with_reducible first | apply setPump_ev | apply emitAll_ev
  | split
  | (with_reducible refine Evolves.lit ?_ ?_; (on_goal 2 => rfl)))

theorem accTry_ev (n : Nat) (f : State → Meet → TRes) (s : State) (ms : List Meet) {a_ : State}
    (hf : ∀ s m, Evolves a_ s → Evolves a_ (f s m).st) (h_ : Evolves a_ s) : Evolves a_ (accTry n f s ms).st := by
  induction n generalizing s ms with
  | zero => exact hf _ _ h_
  | succ n ih =>
    rw [accTry]
    split
    · exact ih _ _ (hf _ _ h_)
    · exact hf _ _ h_

theorem pmpAccess_ev (b : Burst) (n addr : Nat) (wr last : Bool) (f : State → Ecc → Meet → TRes) {a_ : State}
    (hf : ∀ s e m, Evolves a_ s → Evolves a_ (f s e m).st) (h_ : Evolves a_ b.st) :
    Evolves a_ (pmpAccess b n addr wr last f).1.st := by
  unfold pmpAccess
  split
  · exact h_
  · have h := accTry_ev (rfld b.st (pmpA n) 24 3) (fun s m => f s (b.acc.headD {}).ecc m) b.st (b.acc.headD {}).meets
      (fun s m hs => hf s _ m hs) h_
    refine Evolves.ite ?_ h
    exact setPump_ev _ _ _ (rinc_ev _ _ _ _ h)

theorem pmpSat_ev (b : Burst) (n : Nat) (clamp : Bool) (x : Samp) {a_ : State} (h_ : Evolves a_ b.st) : Evolves a_ (pmpSat b n clamp x).st := by
  unfold pmpSat
  repeat' (first
  | with_reducible assumption
  | with_reducible refine Evolves.ite ?_ ?_
  | with_reducible first | apply setPump_ev | apply rinc_ev
  | split
  | (with_reducible refine Evolves.lit ?_ ?_; (on_goal 2 => rfl)))

theorem pmpSource_ev (b : Burst) (n : Nat) (d : List Byte) (e : Nat) (bytes : List Byte) (o0 : Nat) {a_ : State}
    (h_ : Evolves a_ b.st) : Evolves a_ (pmpSource b n d e bytes o0).1.st := by
  unfold pmpSource
  extract_lets sf
  split
  · exact h_
  · exact pmpAccess_ev _ _ _ _ _ _ (fun s e m hs => fabRead_ev _ _ _ _ hs) h_

theorem pmpStore_ev (b : Burst) (n : Nat) (d : List Byte) (e : Nat) (m w : Word) (last : Bool) {a_ : State}
    (h_ : Evolves a_ b.st) : Evolves a_ (pmpStore b n d e m w last).st := by
  unfold pmpStore
  dsimp only
  refine pmpAccess_ev _ _ _ _ _ _ (fun _ _ _ hs => fabWrite_ev _ _ _ _ _ _ _ hs) ?_
  split
  · exact freeW_ev _ h_
  · exact h_

theorem pmpElem_ev (n : Nat) (d bytes : List Byte) (o0 : Nat) (b : Burst) (e : Nat) {a_ : State} (h_ : Evolves a_ b.st) : Evolves a_ (pmpElem n d bytes o0 b e).st := by
  unfold pmpElem
  repeat' (first
  | with_reducible assumption
  | with_reducible refine Evolves.ite ?_ ?_
  | (extract_lets +onlyGivenNames x; first
     | (refine (fun (hx : Evolves a_ x) => ?_) ?_; (on_goal 2 => subst x); (on_goal 1 => clear_value x))
     | (refine (fun (hx : Evolves a_ x.2) => ?_) ?_; (on_goal 2 => subst x); (on_goal 1 => clear_value x))
     | (refine (fun (hx : Evolves a_ x.1) => ?_) ?_; (on_goal 2 => subst x); (on_goal 1 => clear_value x))
     | (refine (fun (hx : Evolves a_ x.2.2) => ?_) ?_; (on_goal 2 => subst x); (on_goal 1 => clear_value x))
     | subst x | clear_value x)
  | with_reducible first | apply pmpSource_ev | apply pmpStore_ev | apply pmpSat_ev
  | split
  | (with_reducible refine Evolves.lit ?_ ?_; (on_goal 2 => rfl)))

theorem pmpHostOut_ev (s : State) (n : Nat) (d : List Byte) (o0 : Nat) (bs : List Byte) (more : Bool) {a_ : State} (h_ : Evolves a_ s) : Evolves a_ (pmpHostOut s n d o0 bs more) := by
  unfold pmpHostOut
  repeat' (first
  | with_reducible assumption
  | with_reducible refine Evolves.ite ?_ ?_
  | (extract_lets +onlyGivenNames x; first
     | (refine (fun (hx : Evolves a_ x) => ?_) ?_; (on_goal 2 => subst x); (on_goal 1 => clear_value x))
     | (refine (fun (hx : Evolves a_ x.2) => ?_) ?_; (on_goal 2 => subst x); (on_goal 1 => clear_value x))
     | (refine (fun (hx : Evolves a_ x.1) => ?_) ?_; (on_goal 2 => subst x); (on_goal 1 => clear_value x))
     | (refine (fun (hx : Evolves a_ x.2.2) => ?_) ?_; (on_goal 2 => subst x); (on_goal 1 => clear_value x))
     | subst x | clear_value x)
  | with_reducible first | apply freeW_ev | apply setPump_ev | apply emitAll_ev
  | split
  | (with_reducible refine Evolves.lit ?_ ?_; (on_goal 2 => rfl)))

theorem pmpFold_ev (n : Nat) (d bytes : List Byte) (o0 e0 : Nat) (l : List Nat) (b : Burst) {a_ : State} (h_ : Evolves a_ b.st) :
    Evolves a_ (l.foldl (fun b i => pmpElem n d bytes o0 b (e0 + i)) b).st := by
  induction l generalizing b with
  | nil => exact h_
  | cons i r ih => exact ih _ (pmpElem_ev _ _ _ _ _ _ h_)

theorem pmpReadDone_ev (s : State) (n : Nat) (bytes : List Byte) (acc : List Access) (lat : Nat) {a_ : State} (h_ : Evolves a_ s) :
    Evolves a_ (pmpReadDone s n bytes acc lat) := by
  unfold pmpReadDone
  extract_lets +onlyGivenNames p
  refine Evolves.ite h_ (Evolves.ite (pmpFlushed_ev _ _ h_) ?_)
  extract_lets +onlyGivenNames d e0 o0 s1 b moved s2
  have h1 : Evolves a_ s1 := setPump_ev _ _ _ h_
  have hb : Evolves a_ b.st := pmpFold_ev _ _ _ _ _ _ _ h1
  have h2 : Evolves a_ s2 := Evolves.ite (pmpHostOut_ev _ _ _ _ _ _ hb) hb
  clear_value s2
  extract_lets +onlyGivenNames p2 s3
  have h3 : Evolves a_ s3 := setPump_ev _ _ _ h2
  clear_value s3
  extract_lets +onlyGivenNames s4
  have h4 : Evolves a_ s4 := rset_ev _ _ _ h3
  clear_value s4
  split
  · exact pmpHalt_ev _ _ _ _ _ _ _ _ h4
  · refine Evolves.ite h4 (Evolves.ite ?_ (pmpComplete_ev _ _ _ h4))
    exact Evolves.ite (emit_ev _ _ (rsetBit_ev _ _ _ h4)) (rsetBit_ev _ _ _ h4)

theorem pmpError_ev (s : State) (n cause part : Nat) {a_ : State} (h_ : Evolves a_ s) : Evolves a_ (pmpError s n cause part) := by
  unfold pmpError
  repeat' (first
  | with_reducible assumption
  | with_reducible refine Evolves.ite ?_ ?_
  | (extract_lets +onlyGivenNames x; first
     | (refine (fun (hx : Evolves a_ x) => ?_) ?_; (on_goal 2 => subst x); (on_goal 1 => clear_value x))
     | (refine (fun (hx : Evolves a_ x.2) => ?_) ?_; (on_goal 2 => subst x); (on_goal 1 => clear_value x))
     | (refine (fun (hx : Evolves a_ x.1) => ?_) ?_; (on_goal 2 => subst x); (on_goal 1 => clear_value x))
     | (refine (fun (hx : Evolves a_ x.2.2) => ?_) ?_; (on_goal 2 => subst x); (on_goal 1 => clear_value x))
     | subst x | clear_value x)
  | with_reducible first | apply pmpFlushed_ev | apply pmpHalt_ev
  | split
  | (with_reducible refine Evolves.lit ?_ ?_; (on_goal 2 => rfl)))

theorem execPumpEnable_ev (firmware : Bool) (n : Fin 64) (st : State) : NextEv st (execPumpEnable firmware n st) := by
  have h_ := Evolves.refl st
  unfold execPumpEnable
  repeat' (first
  | with_reducible assumption
  | with_reducible refine next_ev ?_
  | with_reducible refine Evolves.ite ?_ ?_
  | with_reducible first | apply pmpEnable_ev
  | split
  | (with_reducible refine Evolves.lit ?_ ?_; (on_goal 2 => rfl)))

theorem execPumpDisable_ev (firmware : Bool) (n : Fin 64) (st : State) : NextEv st (execPumpDisable firmware n st) := by
  have h_ := Evolves.refl st
  unfold execPumpDisable
  repeat' (first
  | with_reducible assumption
  | with_reducible refine next_ev ?_
  | with_reducible refine Evolves.ite ?_ ?_
  | with_reducible first | apply pmpDisable_ev
  | split
  | (with_reducible refine Evolves.lit ?_ ?_; (on_goal 2 => rfl)))

theorem execPumpStop_ev (firmware : Bool) (n : Fin 64) (st : State) : NextEv st (execPumpStop firmware n st) := by
  have h_ := Evolves.refl st
  unfold execPumpStop
  repeat' (first
  | with_reducible assumption
  | with_reducible refine next_ev ?_
  | with_reducible refine Evolves.ite ?_ ?_
  | with_reducible first | apply pmpStop_ev
  | split
  | (with_reducible refine Evolves.lit ?_ ?_; (on_goal 2 => rfl)))

theorem execPumpDoorbell_ev (firmware : Bool) (n : Fin 64) (st : State) : NextEv st (execPumpDoorbell firmware n st) := by
  have h_ := Evolves.refl st
  unfold execPumpDoorbell
  repeat' (first
  | with_reducible assumption
  | with_reducible refine next_ev ?_
  | with_reducible refine Evolves.ite ?_ ?_
  | with_reducible first | apply pmpDoorbell_ev
  | split
  | (with_reducible refine Evolves.lit ?_ ?_; (on_goal 2 => rfl)))

theorem execPumpPoll_ev (n : Fin 64) (st : State) : NextEv st (execPumpPoll n st) := by
  have h_ := Evolves.refl st
  unfold execPumpPoll
  repeat' (first
  | with_reducible assumption
  | with_reducible refine next_ev ?_
  | with_reducible refine Evolves.ite ?_ ?_
  | with_reducible first | apply pmpFetch_ev
  | split
  | (with_reducible refine Evolves.lit ?_ ?_; (on_goal 2 => rfl)))

theorem execPumpDescriptorFetched_ev (n : Fin 64) (d : List Byte) (st : State) : NextEv st (execPumpDescriptorFetched n d st) := by
  have h_ := Evolves.refl st
  unfold execPumpDescriptorFetched
  repeat' (first
  | with_reducible assumption
  | with_reducible refine next_ev ?_
  | with_reducible first | apply pmpFetched_ev
  | split
  | (with_reducible refine Evolves.lit ?_ ?_; (on_goal 2 => rfl)))

theorem execPumpBurst_ev (n : Fin 64) (st : State) : NextEv st (execPumpBurst n st) := by
  have h_ := Evolves.refl st
  unfold execPumpBurst
  repeat' (first
  | with_reducible assumption
  | with_reducible refine next_ev ?_
  | with_reducible first | apply pmpBurst_ev
  | split
  | (with_reducible refine Evolves.lit ?_ ?_; (on_goal 2 => rfl)))

theorem execPumpReadCompletion_ev (n : Fin 64) (bytes : List Byte) (acc : List Access) (lat : Nat) (st : State) : NextEv st (execPumpReadCompletion n bytes acc lat st) := by
  have h_ := Evolves.refl st
  unfold execPumpReadCompletion
  repeat' (first
  | with_reducible assumption
  | with_reducible refine next_ev ?_
  | with_reducible first | apply pmpReadDone_ev
  | split
  | (with_reducible refine Evolves.lit ?_ ?_; (on_goal 2 => rfl)))

theorem execPumpBusError_ev (r : BurstRead) (cause : Fin 3) (st : State) : NextEv st (execPumpBusError r cause st) := by
  have h_ := Evolves.refl st
  unfold execPumpBusError
  repeat' (first
  | with_reducible assumption
  | with_reducible refine next_ev ?_
  | with_reducible refine Evolves.ite ?_ ?_
  | with_reducible first | apply next_ev | apply pmpError_ev
  | split
  | (with_reducible refine Evolves.lit ?_ ?_; (on_goal 2 => rfl)))

theorem execPumpCompletionTimeout_ev (r : BurstRead) (st : State) : NextEv st (execPumpCompletionTimeout r st) := by
  have h_ := Evolves.refl st
  unfold execPumpCompletionTimeout
  repeat' (first
  | with_reducible assumption
  | with_reducible refine next_ev ?_
  | with_reducible refine Evolves.ite ?_ ?_
  | with_reducible first | apply next_ev | apply pmpError_ev
  | split
  | (with_reducible refine Evolves.lit ?_ ?_; (on_goal 2 => rfl)))

theorem execPumpLanding_ev (n : Fin 64) (lat : Nat) (st : State) : NextEv st (execPumpLanding n lat st) := by
  have h_ := Evolves.refl st
  unfold execPumpLanding
  repeat' (first
  | with_reducible assumption
  | with_reducible refine next_ev ?_
  | with_reducible refine Evolves.ite ?_ ?_
  | with_reducible first | apply next_ev | apply pmpFlushed_ev | apply pmpComplete_ev
  | split
  | (with_reducible refine Evolves.lit ?_ ?_; (on_goal 2 => rfl)))

end Sys2Proof.Machine
end

