-- ==== Sys2Proof/Laws/Ev/Validator.lean ====
section
/-! SUPPORT. Each operation of Machine/Validator.lean only evolves the state it is given. -/

set_option linter.unreachableTactic false
set_option linter.unusedTactic false
set_option linter.tactic.unusedName false

namespace Sys2Proof.Machine

theorem wouldBe_ev (s : State) (gs : List Nat) {a_ : State} (h_ : Evolves a_ s) : Evolves a_ (wouldBe s gs) := by
  unfold wouldBe
  repeat' (first
  | with_reducible assumption
  | with_reducible refine forEach_ev (fun _ _ hs => ?_) ?_ | with_reducible refine forN_ev (fun _ _ hs => ?_) ?_
  | with_reducible first | apply pendDoms_ev | apply cisGroupHandover_ev | apply pendOwners_ev | apply groupsSwap_ev
  | split
  | (with_reducible refine Evolves.lit ?_ ?_; (on_goal 2 => rfl)))

theorem validateGroup_ev (s : State) (g : Nat) {a_ : State} (h_ : Evolves a_ s) : Evolves a_ (validateGroup s g) := by
  unfold validateGroup
  repeat' (first
  | with_reducible assumption
  | with_reducible refine Evolves.ite ?_ ?_
  | (extract_lets +onlyGivenNames x; first
     | (refine (fun (hx : Evolves a_ x) => ?_) ?_; (on_goal 2 => subst x); (on_goal 1 => clear_value x))
     | (refine (fun (hx : Evolves a_ x.st) => ?_) ?_; (on_goal 2 => subst x); (on_goal 1 => clear_value x))
     | subst x | clear_value x)
  | with_reducible first | apply wouldBe_ev | apply cmtResolve_ev | apply setGroup_ev | apply revalidate_ev | apply groupResult_ev
  | split
  | (with_reducible refine Evolves.lit ?_ ?_; (on_goal 2 => rfl)))

theorem execCommitValidationDone_ev (g : Fin 256) (st : State) : NextEv st (execCommitValidationDone g st) := by
  have h_ := Evolves.refl st
  unfold execCommitValidationDone
  repeat' (first
  | with_reducible assumption
  | with_reducible refine next_ev ?_
  | with_reducible first | apply validateGroup_ev
  | split
  | (with_reducible refine Evolves.lit ?_ ?_; (on_goal 2 => rfl)))

end Sys2Proof.Machine
end

