-- ==== Sys2Proof/Laws/Ev/RegAccess.lean ====
section
/-! SUPPORT. Each operation of Machine/RegAccess.lean only evolves the state it is given. -/

set_option linter.unreachableTactic false
set_option linter.unusedTactic false
set_option linter.tactic.unusedName false

namespace Sys2Proof.Machine

theorem rcClear_ev (s : State) (a : Nat) {a_ : State} (h_ : Evolves a_ s) : Evolves a_ (rcClear s a) := by
  unfold rcClear
  repeat' (first
  | with_reducible assumption
  | with_reducible refine Evolves.ite ?_ ?_
  | (extract_lets +onlyGivenNames x; first
     | (refine (fun (hx : Evolves a_ x) => ?_) ?_; (on_goal 2 => subst x); (on_goal 1 => clear_value x))
     | subst x | clear_value x)
  | with_reducible first | apply setFlow_ev | apply rset_ev
  | split
  | (with_reducible refine Evolves.lit ?_ ?_; (on_goal 2 => rfl)))

theorem readLower_ev (s : State) (ctx a : Nat) {a_ : State} (h_ : Evolves a_ s) : Evolves a_ (readLower s ctx a).2 := by
  unfold readLower
  repeat' (first
  | with_reducible assumption
  | (extract_lets +onlyGivenNames x; first
     | (refine (fun (hx : Evolves a_ x) => ?_) ?_; (on_goal 2 => subst x); (on_goal 1 => clear_value x))
     | subst x | clear_value x)
  | split
  | (with_reducible refine Evolves.lit ?_ ?_; (on_goal 2 => rfl)))

theorem readUpper_ev (s : State) (ctx a : Nat) {a_ : State} (h_ : Evolves a_ s) : Evolves a_ (readUpper s ctx a).2 := by
  unfold readUpper
  repeat' (first
  | with_reducible assumption
  | with_reducible refine Evolves.ite ?_ ?_
  | (extract_lets +onlyGivenNames x; first
     | (refine (fun (hx : Evolves a_ x) => ?_) ?_; (on_goal 2 => subst x); (on_goal 1 => clear_value x))
     | subst x | clear_value x)
  | split
  | (with_reducible refine Evolves.lit ?_ ?_; (on_goal 2 => rfl)))

theorem readReg_ev (s : State) (ctx a : Nat) {a_ : State} (h_ : Evolves a_ s) : Evolves a_ (readReg s ctx a).2 := by
  unfold readReg
  repeat' (first
  | with_reducible assumption
  | with_reducible refine Evolves.ite ?_ ?_
  | (extract_lets +onlyGivenNames x; first
     | (refine (fun (hx : Evolves a_ x) => ?_) ?_; (on_goal 2 => subst x); (on_goal 1 => clear_value x))
     | (refine (fun (hx : Evolves a_ x.2) => ?_) ?_; (on_goal 2 => subst x); (on_goal 1 => clear_value x))
     | (refine (fun (hx : Evolves a_ x.1) => ?_) ?_; (on_goal 2 => subst x); (on_goal 1 => clear_value x))
     | (refine (fun (hx : Evolves a_ x.2.2) => ?_) ?_; (on_goal 2 => subst x); (on_goal 1 => clear_value x))
     | subst x | clear_value x)
  | with_reducible first | apply evClaim_ev | apply arLatch_ev | apply readLower_ev | apply readUpper_ev | apply rcClear_ev
  | split
  | (with_reducible refine Evolves.lit ?_ ?_; (on_goal 2 => rfl)))

theorem readAny_ev (s : State) (ctx a width : Nat) {a_ : State} (h_ : Evolves a_ s) : Evolves a_ (readAny s ctx a width).2 := by
  unfold readAny
  repeat' (first
  | with_reducible assumption
  | with_reducible refine Evolves.ite ?_ ?_
  | with_reducible first | apply readReg_ev
  | split
  | (with_reducible refine Evolves.lit ?_ ?_; (on_goal 2 => rfl)))

theorem putReg_ev (s : State) (a : Nat) (v : W32) {a_ : State} (h_ : Evolves a_ s) : Evolves a_ (putReg s a v) := by
  unfold putReg
  repeat' (first
  | with_reducible assumption
  | (extract_lets +onlyGivenNames x; first
     | (refine (fun (hx : Evolves a_ x) => ?_) ?_; (on_goal 2 => subst x); (on_goal 1 => clear_value x))
     | subst x | clear_value x)
  | with_reducible first | apply rset_ev
  | split
  | (with_reducible refine Evolves.lit ?_ ?_; (on_goal 2 => rfl)))

theorem writeLower_ev (s : State) (ctx a : Nat) (v : W32) {a_ : State} (h_ : Evolves a_ s) : Evolves a_ (writeLower s ctx a v) := by
  unfold writeLower
  repeat' (first
  | with_reducible assumption
  | (extract_lets +onlyGivenNames x; first
     | (refine (fun (hx : Evolves a_ x) => ?_) ?_; (on_goal 2 => subst x); (on_goal 1 => clear_value x))
     | subst x | clear_value x)
  | split
  | (with_reducible refine Evolves.lit ?_ ?_; (on_goal 2 => rfl)))

theorem writeUpper_ev (s : State) (ctx : Nat) (fw : Bool) (a : Nat) (v : W32) {a_ : State} (h_ : Evolves a_ s) : Evolves a_ (writeUpper s ctx fw a v) := by
  unfold writeUpper
  repeat' (first
  | with_reducible assumption
  | with_reducible refine Evolves.ite ?_ ?_
  | (extract_lets +onlyGivenNames x; first
     | (refine (fun (hx : Evolves a_ x) => ?_) ?_; (on_goal 2 => subst x); (on_goal 1 => clear_value x))
     | (refine (fun (hx : Evolves a_ x.2) => ?_) ?_; (on_goal 2 => subst x); (on_goal 1 => clear_value x))
     | (refine (fun (hx : Evolves a_ x.1) => ?_) ?_; (on_goal 2 => subst x); (on_goal 1 => clear_value x))
     | (refine (fun (hx : Evolves a_ x.2.2) => ?_) ?_; (on_goal 2 => subst x); (on_goal 1 => clear_value x))
     | subst x | clear_value x)
  | with_reducible first | apply putReg_ev
  | split
  | (with_reducible refine Evolves.lit ?_ ?_; (on_goal 2 => rfl)))

theorem wrCel_ev (s : State) (a o : Nat) (v : W32) {a_ : State} (h_ : Evolves a_ s) : Evolves a_ (wrCel s a o v) := by
  unfold wrCel
  repeat' (first
  | with_reducible assumption
  | with_reducible refine Evolves.ite ?_ ?_
  | (extract_lets +onlyGivenNames x; first
     | (refine (fun (hx : Evolves a_ x) => ?_) ?_; (on_goal 2 => subst x); (on_goal 1 => clear_value x))
     | subst x | clear_value x)
  | with_reducible first | apply rput_ev | apply putReg_ev
  | split
  | (with_reducible refine Evolves.lit ?_ ?_; (on_goal 2 => rfl)))

theorem wrWel_ev (s : State) (c a o : Nat) (v : W32) {a_ : State} (h_ : Evolves a_ s) : Evolves a_ (wrWel s c a o v) := by
  unfold wrWel
  repeat' (first
  | with_reducible assumption
  | with_reducible refine Evolves.ite ?_ ?_
  | (extract_lets +onlyGivenNames x; first
     | (refine (fun (hx : Evolves a_ x) => ?_) ?_; (on_goal 2 => subst x); (on_goal 1 => clear_value x))
     | subst x | clear_value x)
  | with_reducible first | apply evClusterFlags_ev | apply putReg_ev | apply welLdGo_ev | apply welEntIdx_ev | apply welRunIdx_ev | apply welLineWrite_ev
  | split
  | (with_reducible refine Evolves.lit ?_ ?_; (on_goal 2 => rfl)))

theorem wrGlc_ev (s : State) (a o : Nat) (v : W32) {a_ : State} (h_ : Evolves a_ s) : Evolves a_ (wrGlc s a o v) := by
  unfold wrGlc
  repeat' (first
  | with_reducible assumption
  | with_reducible refine Evolves.ite ?_ ?_
  | (extract_lets +onlyGivenNames x; first
     | (refine (fun (hx : Evolves a_ x) => ?_) ?_; (on_goal 2 => subst x); (on_goal 1 => clear_value x))
     | subst x | clear_value x)
  | with_reducible first | apply rset_ev | apply glcStrIdx_ev | apply putReg_ev
  | split
  | (with_reducible refine Evolves.lit ?_ ?_; (on_goal 2 => rfl)))

theorem wrCis_ev (s : State) (a o : Nat) (f : WrFacts) (v : W32) {a_ : State} (h_ : Evolves a_ s) : Evolves a_ (wrCis s a o f v) := by
  unfold wrCis
  repeat' (first
  | with_reducible assumption
  | with_reducible refine Evolves.ite ?_ ?_
  | with_reducible first | apply cisOwnerWrite_ev | apply evClusterFlags_ev | apply putReg_ev | apply rset_ev
  | split
  | (with_reducible refine Evolves.lit ?_ ?_; (on_goal 2 => rfl)))

theorem wrPmp_ev (s : State) (fw : Bool) (a o : Nat) (v : W32) {a_ : State} (h_ : Evolves a_ s) : Evolves a_ (wrPmp s fw a o v) := by
  unfold wrPmp
  repeat' (first
  | with_reducible assumption
  | with_reducible refine Evolves.ite ?_ ?_
  | (extract_lets +onlyGivenNames x; first
     | (refine (fun (hx : Evolves a_ x) => ?_) ?_; (on_goal 2 => subst x); (on_goal 1 => clear_value x))
     | (refine (fun (hx : Evolves a_ x.2) => ?_) ?_; (on_goal 2 => subst x); (on_goal 1 => clear_value x))
     | (refine (fun (hx : Evolves a_ x.1) => ?_) ?_; (on_goal 2 => subst x); (on_goal 1 => clear_value x))
     | (refine (fun (hx : Evolves a_ x.2.2) => ?_) ?_; (on_goal 2 => subst x); (on_goal 1 => clear_value x))
     | subst x | clear_value x)
  | with_reducible first | apply putReg_ev | apply rput_ev | apply rputBit_ev | apply pmpEnable_ev | apply pmpDisable_ev | apply pmpStop_ev | apply pmpDoorbell_ev
  | split
  | (with_reducible refine Evolves.lit ?_ ?_; (on_goal 2 => rfl)))

theorem wrGroup_ev (s : State) (o : Nat) (v : W32) {a_ : State} (h_ : Evolves a_ s) : Evolves a_ (wrGroup s o v) := by
  unfold wrGroup
  repeat' (first
  | with_reducible assumption
  | with_reducible refine Evolves.ite ?_ ?_
  | (extract_lets +onlyGivenNames x; first
     | (refine (fun (hx : Evolves a_ x) => ?_) ?_; (on_goal 2 => subst x); (on_goal 1 => clear_value x))
     | subst x | clear_value x)
  | with_reducible first | apply setGroup_ev | apply groupArm_ev | apply groupCancel_ev
  | split
  | (with_reducible refine Evolves.lit ?_ ?_; (on_goal 2 => rfl)))

theorem wrCmt_ev (s : State) (a o : Nat) (f : WrFacts) (v : W32) {a_ : State} (h_ : Evolves a_ s) : Evolves a_ (wrCmt s a o f v) := by
  unfold wrCmt
  repeat' (first
  | with_reducible assumption
  | with_reducible refine Evolves.ite ?_ ?_
  | (extract_lets +onlyGivenNames x; first
     | (refine (fun (hx : Evolves a_ x) => ?_) ?_; (on_goal 2 => subst x); (on_goal 1 => clear_value x))
     | subst x | clear_value x)
  | with_reducible first | apply snapTaken_ev | apply rset_ev | apply wrGroup_ev | apply putReg_ev | apply memCtl_ev | apply cellCtlWrite_ev | apply gldIdx_ev
  | with_reducible first | apply bndPop_ev | apply recPop_ev | apply logPop_ev
  | split
  | (with_reducible refine Evolves.lit ?_ ?_; (on_goal 2 => rfl)))

theorem wrHst_ev (s : State) (a o : Nat) (v : W32) {a_ : State} (h_ : Evolves a_ s) : Evolves a_ (wrHst s a o v) := by
  unfold wrHst
  repeat' (first
  | with_reducible assumption
  | with_reducible refine Evolves.ite ?_ ?_
  | (extract_lets +onlyGivenNames x; first
     | (refine (fun (hx : Evolves a_ x) => ?_) ?_; (on_goal 2 => subst x); (on_goal 1 => clear_value x))
     | subst x | clear_value x)
  | with_reducible first | apply agentDown_ev | apply agentWake_ev | apply agentSleep_ev | apply putReg_ev | apply doorbell_ev | apply headAdvance_ev | apply evEoi_ev
  | split
  | (with_reducible refine Evolves.lit ?_ ?_; (on_goal 2 => rfl)))

theorem wrEvc_ev (s : State) (a o : Nat) (v : W32) {a_ : State} (h_ : Evolves a_ s) : Evolves a_ (wrEvc s a o v) := by
  unfold wrEvc
  repeat' (first
  | with_reducible assumption
  | with_reducible refine Evolves.ite ?_ ?_
  | with_reducible first | apply evSettle_ev | apply putReg_ev | apply evRaise_ev | apply rput_ev | apply evSrcWrite_ev
  | split
  | (with_reducible refine Evolves.lit ?_ ?_; (on_goal 2 => rfl)))

theorem wrNet_ev (s : State) (a o : Nat) (v : W32) {a_ : State} (h_ : Evolves a_ s) : Evolves a_ (wrNet s a o v) := by
  unfold wrNet
  repeat' (first
  | with_reducible assumption
  | with_reducible refine Evolves.ite ?_ ?_
  | (extract_lets +onlyGivenNames x; first
     | (refine (fun (hx : Evolves a_ x) => ?_) ?_; (on_goal 2 => subst x); (on_goal 1 => clear_value x))
     | (refine (fun (hx : Evolves a_ x.2) => ?_) ?_; (on_goal 2 => subst x); (on_goal 1 => clear_value x))
     | (refine (fun (hx : Evolves a_ x.1) => ?_) ?_; (on_goal 2 => subst x); (on_goal 1 => clear_value x))
     | (refine (fun (hx : Evolves a_ x.2.2) => ?_) ?_; (on_goal 2 => subst x); (on_goal 1 => clear_value x))
     | subst x | clear_value x)
  | with_reducible first | apply putReg_ev | apply setFlow_ev | apply rput_ev | apply ptpEnable_ev
  | split
  | (with_reducible refine Evolves.lit ?_ ?_; (on_goal 2 => rfl)))

theorem wrAes_ev (s : State) (a o : Nat) (v : W32) {a_ : State} (h_ : Evolves a_ s) : Evolves a_ (wrAes s a o v) := by
  unfold wrAes
  repeat' (first
  | with_reducible assumption
  | with_reducible refine Evolves.ite ?_ ?_
  | (extract_lets +onlyGivenNames x; first
     | (refine (fun (hx : Evolves a_ x) => ?_) ?_; (on_goal 2 => subst x); (on_goal 1 => clear_value x))
     | subst x | clear_value x)
  | with_reducible first | apply putReg_ev | apply rset_ev | apply txGain_ev | apply txMute_ev | apply txCommit_ev
  | split
  | (with_reducible refine Evolves.lit ?_ ?_; (on_goal 2 => rfl)))

theorem wrTdm_ev (s : State) (a o : Nat) (late : Bool) (v : W32) {a_ : State} (h_ : Evolves a_ s) : Evolves a_ (wrTdm s a o late v) := by
  unfold wrTdm
  repeat' (first
  | with_reducible assumption
  | with_reducible refine Evolves.ite ?_ ?_
  | (extract_lets +onlyGivenNames x; first
     | (refine (fun (hx : Evolves a_ x) => ?_) ?_; (on_goal 2 => subst x); (on_goal 1 => clear_value x))
     | subst x | clear_value x)
  | with_reducible first | apply tdMaskWrite_ev | apply putReg_ev | apply rset_ev
  | split
  | (with_reducible refine Evolves.lit ?_ ?_; (on_goal 2 => rfl)))

theorem wrSyn_ev (s : State) (a o : Nat) (v : W32) {a_ : State} (h_ : Evolves a_ s) : Evolves a_ (wrSyn s a o v) := by
  unfold wrSyn
  repeat' (first
  | with_reducible assumption
  | with_reducible refine Evolves.ite ?_ ?_
  | (extract_lets +onlyGivenNames x; first
     | (refine (fun (hx : Evolves a_ x) => ?_) ?_; (on_goal 2 => subst x); (on_goal 1 => clear_value x))
     | subst x | clear_value x)
  | with_reducible first | apply putReg_ev | apply rampGo_ev | apply rampStop_ev | apply phaseAdd_ev
  | split
  | (with_reducible refine Evolves.lit ?_ ?_; (on_goal 2 => rfl)))

theorem wrMtr_ev (s : State) (ctx a o : Nat) (late : Bool) (v : W32) {a_ : State} (h_ : Evolves a_ s) : Evolves a_ (wrMtr s ctx a o late v) := by
  unfold wrMtr
  repeat' (first
  | with_reducible assumption
  | with_reducible refine Evolves.ite ?_ ?_
  | (extract_lets +onlyGivenNames x; first
     | (refine (fun (hx : Evolves a_ x) => ?_) ?_; (on_goal 2 => subst x); (on_goal 1 => clear_value x))
     | subst x | clear_value x)
  | with_reducible first | apply putReg_ev | apply mtrGo_ev | apply mtrIdx_ev
  | split
  | (with_reducible refine Evolves.lit ?_ ?_; (on_goal 2 => rfl)))

theorem wrHis_ev (s : State) (a o : Nat) (v : W32) {a_ : State} (h_ : Evolves a_ s) : Evolves a_ (wrHis s a o v) := by
  unfold wrHis
  repeat' (first
  | with_reducible assumption
  | with_reducible refine Evolves.ite ?_ ?_
  | (extract_lets +onlyGivenNames x; first
     | (refine (fun (hx : Evolves a_ x) => ?_) ?_; (on_goal 2 => subst x); (on_goal 1 => clear_value x))
     | subst x | clear_value x)
  | with_reducible first | apply hisClr_ev | apply hisFrz_ev | apply hisRun_ev | apply putReg_ev
  | split
  | (with_reducible refine Evolves.lit ?_ ?_; (on_goal 2 => rfl)))

theorem wrCrc_ev (s : State) (a o : Nat) (ate : Nat) (v : W32) {a_ : State} (h_ : Evolves a_ s) : Evolves a_ (wrCrc s a o ate v) := by
  unfold wrCrc
  repeat' (first
  | with_reducible assumption
  | with_reducible refine Evolves.ite ?_ ?_
  | (extract_lets +onlyGivenNames x; first
     | (refine (fun (hx : Evolves a_ x) => ?_) ?_; (on_goal 2 => subst x); (on_goal 1 => clear_value x))
     | subst x | clear_value x)
  | with_reducible first | apply crcEat_ev | apply crcCtlWrite_ev | apply crcDin_ev | apply putReg_ev
  | split
  | (with_reducible refine Evolves.lit ?_ ?_; (on_goal 2 => rfl)))

theorem writeReg_ev (s : State) (ctx : Nat) (f : WrFacts) (a : Nat) (v : W32) {a_ : State} (h_ : Evolves a_ s) : Evolves a_ (writeReg s ctx f a v) := by
  unfold writeReg
  repeat' (first
  | with_reducible assumption
  | with_reducible refine Evolves.ite ?_ ?_
  | (extract_lets +onlyGivenNames x; first
     | (refine (fun (hx : Evolves a_ x) => ?_) ?_; (on_goal 2 => subst x); (on_goal 1 => clear_value x))
     | (refine (fun (hx : Evolves a_ x.2) => ?_) ?_; (on_goal 2 => subst x); (on_goal 1 => clear_value x))
     | (refine (fun (hx : Evolves a_ x.1) => ?_) ?_; (on_goal 2 => subst x); (on_goal 1 => clear_value x))
     | (refine (fun (hx : Evolves a_ x.2.2) => ?_) ?_; (on_goal 2 => subst x); (on_goal 1 => clear_value x))
     | subst x | clear_value x)
  | with_reducible first | apply bndPop_ev | apply recPop_ev | apply logPop_ev
  | with_reducible first | apply writeLower_ev | apply writeUpper_ev | apply wrCel_ev | apply evClusterFlags_ev | apply putReg_ev | apply rput_ev | apply wrWel_ev | apply wrGlc_ev | apply wrCis_ev | apply wrPmp_ev | apply wrCmt_ev | apply wrHst_ev | apply wrEvc_ev | apply wrNet_ev | apply wrAes_ev | apply wrTdm_ev | apply wrSyn_ev | apply ckoCtlWrite_ev | apply wrMtr_ev | apply wrHis_ev | apply wrCrc_ev | apply rputBit_ev
  | split
  | (with_reducible refine Evolves.lit ?_ ?_; (on_goal 2 => rfl)))

theorem writeAny_ev (s : State) (ctx : Nat) (f : WrFacts) (a width : Nat) (v : W32) {a_ : State} (h_ : Evolves a_ s) : Evolves a_ (writeAny s ctx f a width v) := by
  unfold writeAny
  repeat' (first
  | with_reducible assumption
  | with_reducible refine Evolves.ite ?_ ?_
  | with_reducible first | apply writeReg_ev
  | split
  | (with_reducible refine Evolves.lit ?_ ?_; (on_goal 2 => rfl)))

theorem execReg64LowerRead_ev (ctx : Fin 9) (a : Nat) (st : State) : NextEv st (execReg64LowerRead ctx a st) := by
  have h_ := Evolves.refl st
  unfold execReg64LowerRead
  repeat' (first
  | with_reducible assumption
  | with_reducible refine next_ev ?_
  | with_reducible refine Evolves.ite ?_ ?_
  | with_reducible first | apply emit_ev | apply readLower_ev
  | split
  | (with_reducible refine Evolves.lit ?_ ?_; (on_goal 2 => rfl)))

theorem execReg64UpperRead_ev (ctx : Fin 9) (a : Nat) (st : State) : NextEv st (execReg64UpperRead ctx a st) := by
  have h_ := Evolves.refl st
  unfold execReg64UpperRead
  repeat' (first
  | with_reducible assumption
  | with_reducible refine next_ev ?_
  | with_reducible refine Evolves.ite ?_ ?_
  | with_reducible first | apply emit_ev | apply readUpper_ev
  | split
  | (with_reducible refine Evolves.lit ?_ ?_; (on_goal 2 => rfl)))

theorem execReg64LowerWrite_ev (ctx : Fin 9) (a : Nat) (v : W32) (st : State) : NextEv st (execReg64LowerWrite ctx a v st) := by
  have h_ := Evolves.refl st
  unfold execReg64LowerWrite
  repeat' (first
  | with_reducible assumption
  | with_reducible refine next_ev ?_
  | with_reducible refine Evolves.ite ?_ ?_
  | with_reducible first | apply writeAny_ev
  | split
  | (with_reducible refine Evolves.lit ?_ ?_; (on_goal 2 => rfl)))

theorem execReg64UpperWrite_ev (who : Accessor) (a : Nat) (v : W32) (st : State) : NextEv st (execReg64UpperWrite who a v st) := by
  have h_ := Evolves.refl st
  unfold execReg64UpperWrite
  repeat' (first
  | with_reducible assumption
  | with_reducible refine next_ev ?_
  | with_reducible refine Evolves.ite ?_ ?_
  | with_reducible first | apply next_ev | apply writeAny_ev
  | split
  | (with_reducible refine Evolves.lit ?_ ?_; (on_goal 2 => rfl)))

theorem execRegisterWrite_ev (ctx : Fin 9) (a width : Nat) (v : W32) (f : WrFacts) (st : State) : NextEv st (execRegisterWrite ctx a width v f st) := by
  have h_ := Evolves.refl st
  unfold execRegisterWrite
  repeat' (first
  | with_reducible assumption
  | with_reducible refine next_ev ?_
  | with_reducible first | apply writeAny_ev
  | split
  | (with_reducible refine Evolves.lit ?_ ?_; (on_goal 2 => rfl)))

theorem execRcRegisterRead_ev (ctx : Fin 9) (a width : Nat) (st : State) : NextEv st (execRcRegisterRead ctx a width st) := by
  have h_ := Evolves.refl st
  unfold execRcRegisterRead
  repeat' (first
  | with_reducible assumption
  | with_reducible refine next_ev ?_
  | with_reducible first | apply emit_ev | apply readAny_ev
  | split
  | (with_reducible refine Evolves.lit ?_ ?_; (on_goal 2 => rfl)))

end Sys2Proof.Machine
end

