-- ==== Sys2Proof/Laws/Ev/HostCat.lean ====
section
/-! SUPPORT. Each operation of Machine/HostCat.lean only evolves the state it is given. -/

set_option linter.unreachableTactic false
set_option linter.unusedTactic false
set_option linter.tactic.unusedName false

namespace Sys2Proof.Machine

theorem clearAccepted_ev (s : State) (b : Nat) {a_ : State} (h_ : Evolves a_ s) : Evolves a_ (clearAccepted s b) := by
  unfold clearAccepted
  repeat' (first
  | with_reducible assumption
  | with_reducible refine Evolves.ite ?_ ?_
  | (extract_lets +onlyGivenNames x; first
     | (refine (fun (hx : Evolves a_ x) => ?_) ?_; (on_goal 2 => subst x); (on_goal 1 => clear_value x))
     | (refine (fun (hx : Evolves a_ x.2) => ?_) ?_; (on_goal 2 => subst x); (on_goal 1 => clear_value x))
     | (refine (fun (hx : Evolves a_ x.1) => ?_) ?_; (on_goal 2 => subst x); (on_goal 1 => clear_value x))
     | (refine (fun (hx : Evolves a_ x.2.2) => ?_) ?_; (on_goal 2 => subst x); (on_goal 1 => clear_value x))
     | subst x | clear_value x)
  | with_reducible first | apply cancelGroups_ev
  | split
  | (with_reducible refine Evolves.lit ?_ ?_; (on_goal 2 => rfl)))

theorem entryTake_ev (s : State) (a : Nat) (e : List Byte) {a_ : State} (h_ : Evolves a_ s) : Evolves a_ (entryTake s a e).2 := by
  unfold entryTake
  repeat' (first
  | with_reducible assumption
  | with_reducible refine Evolves.ite ?_ ?_
  | (extract_lets +onlyGivenNames x; first
     | (refine (fun (hx : Evolves a_ x) => ?_) ?_; (on_goal 2 => subst x); (on_goal 1 => clear_value x))
     | (refine (fun (hx : Evolves a_ x.2) => ?_) ?_; (on_goal 2 => subst x); (on_goal 1 => clear_value x))
     | (refine (fun (hx : Evolves a_ x.1) => ?_) ?_; (on_goal 2 => subst x); (on_goal 1 => clear_value x))
     | (refine (fun (hx : Evolves a_ x.2.2) => ?_) ?_; (on_goal 2 => subst x); (on_goal 1 => clear_value x))
     | subst x | clear_value x)
  | with_reducible first | apply opAccept_ev | apply clearAccepted_ev
  | split
  | (with_reducible refine Evolves.lit ?_ ?_; (on_goal 2 => rfl)))

theorem entryRead_ev (s : State) (a : Nat) (e : List Byte) {a_ : State} (h_ : Evolves a_ s) : Evolves a_ (entryRead s a e) := by
  unfold entryRead
  repeat' (first
  | with_reducible assumption
  | with_reducible refine Evolves.ite ?_ ?_
  | (extract_lets +onlyGivenNames x; first
     | (refine (fun (hx : Evolves a_ x) => ?_) ?_; (on_goal 2 => subst x); (on_goal 1 => clear_value x))
     | (refine (fun (hx : Evolves a_ x.2) => ?_) ?_; (on_goal 2 => subst x); (on_goal 1 => clear_value x))
     | (refine (fun (hx : Evolves a_ x.1) => ?_) ?_; (on_goal 2 => subst x); (on_goal 1 => clear_value x))
     | (refine (fun (hx : Evolves a_ x.2.2) => ?_) ?_; (on_goal 2 => subst x); (on_goal 1 => clear_value x))
     | subst x | clear_value x)
  | with_reducible first | apply entryTake_ev | apply rput_ev | apply emitAll_ev
  | split
  | (with_reducible refine Evolves.lit ?_ ?_; (on_goal 2 => rfl)))

theorem nsEntry_ev (s : State) (a : Nat) (e : List Byte) {a_ : State} (h_ : Evolves a_ s) : Evolves a_ (nsEntry s a e).2 := by
  unfold nsEntry
  repeat' (first
  | with_reducible assumption
  | with_reducible refine Evolves.ite ?_ ?_
  | (extract_lets +onlyGivenNames x; first
     | (refine (fun (hx : Evolves a_ x) => ?_) ?_; (on_goal 2 => subst x); (on_goal 1 => clear_value x))
     | (refine (fun (hx : Evolves a_ x.2) => ?_) ?_; (on_goal 2 => subst x); (on_goal 1 => clear_value x))
     | (refine (fun (hx : Evolves a_ x.1) => ?_) ?_; (on_goal 2 => subst x); (on_goal 1 => clear_value x))
     | (refine (fun (hx : Evolves a_ x.2.2) => ?_) ?_; (on_goal 2 => subst x); (on_goal 1 => clear_value x))
     | subst x | clear_value x)
  | with_reducible first | apply entryTake_ev | apply setNs_ev
  | split
  | (with_reducible refine Evolves.lit ?_ ?_; (on_goal 2 => rfl)))

theorem nsCommand_ev (s : State) (a : Nat) (body : List Byte) {a_ : State} (h_ : Evolves a_ s) : Evolves a_ (nsCommand s a body) := by
  unfold nsCommand
  repeat' (first
  | with_reducible assumption
  | with_reducible refine Evolves.ite ?_ ?_
  | (extract_lets +onlyGivenNames x; first
     | (refine (fun (hx : Evolves a_ x) => ?_) ?_; (on_goal 2 => subst x); (on_goal 1 => clear_value x))
     | (refine (fun (hx : Evolves a_ x.2) => ?_) ?_; (on_goal 2 => subst x); (on_goal 1 => clear_value x))
     | (refine (fun (hx : Evolves a_ x.1) => ?_) ?_; (on_goal 2 => subst x); (on_goal 1 => clear_value x))
     | (refine (fun (hx : Evolves a_ x.2.2) => ?_) ?_; (on_goal 2 => subst x); (on_goal 1 => clear_value x))
     | subst x | clear_value x)
  | with_reducible refine foldl_ev (fun _ _ hs => ?_) ?_ | with_reducible refine foldl_snd_ev (fun _ _ hs => ?_) ?_
  | with_reducible refine foldl_fst_ev (fun _ _ hs => ?_) ?_ | with_reducible refine foldl_snd2_ev (fun _ _ hs => ?_) ?_
  | with_reducible first | apply nsEntry_ev | apply nsSend_ev
  | split
  | (with_reducible refine Evolves.lit ?_ ?_; (on_goal 2 => rfl)))

theorem withOp_ev (s : State) (a h opc : Nat) (f : State → CmdOp → State) {a_ : State}
    (hf : ∀ s o, Evolves a_ s → Evolves a_ (f s o)) (h_ : Evolves a_ s) : Evolves a_ (withOp s a h opc f) := by
  unfold withOp
  split
  · exact hf _ _ h_
  · exact h_

theorem clearCmd_ev (s : State) (o : CmdOp) {a_ : State} (h_ : Evolves a_ s) : Evolves a_ (clearCmd s o) := by
  unfold clearCmd
  repeat' (first
  | with_reducible assumption
  | with_reducible refine Evolves.ite ?_ ?_
  | with_reducible first | apply opStart_ev
  | split
  | (with_reducible refine Evolves.lit ?_ ?_; (on_goal 2 => rfl)))

theorem imageKey_ev (s : State) (o : CmdOp) {a_ : State} (h_ : Evolves a_ s) : Evolves a_ (imageKey s o) := by
  unfold imageKey
  repeat' (first
  | with_reducible assumption
  | (extract_lets +onlyGivenNames x; first
     | (refine (fun (hx : Evolves a_ x) => ?_) ?_; (on_goal 2 => subst x); (on_goal 1 => clear_value x))
     | subst x | clear_value x)
  | with_reducible first | apply opEnd_ev
  | split
  | (with_reducible refine Evolves.lit ?_ ?_; (on_goal 2 => rfl)))

theorem sessionKey_ev (s : State) (o : CmdOp) {a_ : State} (h_ : Evolves a_ s) : Evolves a_ (sessionKey s o) := by
  unfold sessionKey
  repeat' (first
  | with_reducible assumption
  | with_reducible refine Evolves.ite ?_ ?_
  | (extract_lets +onlyGivenNames x; first
     | (refine (fun (hx : Evolves a_ x) => ?_) ?_; (on_goal 2 => subst x); (on_goal 1 => clear_value x))
     | (refine (fun (hx : Evolves a_ x.2) => ?_) ?_; (on_goal 2 => subst x); (on_goal 1 => clear_value x))
     | (refine (fun (hx : Evolves a_ x.1) => ?_) ?_; (on_goal 2 => subst x); (on_goal 1 => clear_value x))
     | (refine (fun (hx : Evolves a_ x.2.2) => ?_) ?_; (on_goal 2 => subst x); (on_goal 1 => clear_value x))
     | subst x | clear_value x)
  | with_reducible first | apply opEnd_ev | apply agentDown_ev | apply rput_ev | apply setNs_ev
  | split
  | (with_reducible refine Evolves.lit ?_ ?_; (on_goal 2 => rfl)))

theorem sessionCfg_ev (s : State) (o : CmdOp) {a_ : State} (h_ : Evolves a_ s) : Evolves a_ (sessionCfg s o) := by
  unfold sessionCfg
  repeat' (first
  | with_reducible assumption
  | with_reducible refine Evolves.ite ?_ ?_
  | (extract_lets +onlyGivenNames x; first
     | (refine (fun (hx : Evolves a_ x) => ?_) ?_; (on_goal 2 => subst x); (on_goal 1 => clear_value x))
     | (refine (fun (hx : Evolves a_ x.2) => ?_) ?_; (on_goal 2 => subst x); (on_goal 1 => clear_value x))
     | (refine (fun (hx : Evolves a_ x.1) => ?_) ?_; (on_goal 2 => subst x); (on_goal 1 => clear_value x))
     | (refine (fun (hx : Evolves a_ x.2.2) => ?_) ?_; (on_goal 2 => subst x); (on_goal 1 => clear_value x))
     | subst x | clear_value x)
  | with_reducible first | apply setNs_ev | apply opEnd_ev | apply rput_ev
  | split
  | (with_reducible refine Evolves.lit ?_ ?_; (on_goal 2 => rfl)))

theorem commitCmd_ev (s : State) (o : CmdOp) {a_ : State} (h_ : Evolves a_ s) : Evolves a_ (commitCmd s o) := by
  unfold commitCmd
  repeat' (first
  | with_reducible assumption
  | with_reducible refine Evolves.ite ?_ ?_
  | (extract_lets +onlyGivenNames x; first
     | (refine (fun (hx : Evolves a_ x) => ?_) ?_; (on_goal 2 => subst x); (on_goal 1 => clear_value x))
     | (refine (fun (hx : Evolves a_ x.st) => ?_) ?_; (on_goal 2 => subst x); (on_goal 1 => clear_value x))
     | subst x | clear_value x)
  | with_reducible first | apply setGroup_ev | apply groupArm_ev | apply opEnd_ev | apply opStart_ev
  | split
  | (with_reducible refine Evolves.lit ?_ ?_; (on_goal 2 => rfl)))

theorem commitCancel_ev (s : State) (o : CmdOp) {a_ : State} (h_ : Evolves a_ s) : Evolves a_ (commitCancel s o) := by
  unfold commitCancel
  repeat' (first
  | with_reducible assumption
  | with_reducible refine Evolves.ite ?_ ?_
  | (extract_lets +onlyGivenNames x; first
     | (refine (fun (hx : Evolves a_ x) => ?_) ?_; (on_goal 2 => subst x); (on_goal 1 => clear_value x))
     | subst x | clear_value x)
  | with_reducible first | apply groupCancel_ev | apply opEnd_ev
  | split
  | (with_reducible refine Evolves.lit ?_ ?_; (on_goal 2 => rfl)))

theorem commitMember_ev (s : State) (o : CmdOp) {a_ : State} (h_ : Evolves a_ s) : Evolves a_ (commitMember s o) := by
  unfold commitMember
  repeat' (first
  | with_reducible assumption
  | with_reducible refine Evolves.ite ?_ ?_
  | (extract_lets +onlyGivenNames x; first
     | (refine (fun (hx : Evolves a_ x) => ?_) ?_; (on_goal 2 => subst x); (on_goal 1 => clear_value x))
     | (refine (fun (hx : Evolves a_ x.2) => ?_) ?_; (on_goal 2 => subst x); (on_goal 1 => clear_value x))
     | (refine (fun (hx : Evolves a_ x.1) => ?_) ?_; (on_goal 2 => subst x); (on_goal 1 => clear_value x))
     | (refine (fun (hx : Evolves a_ x.2.2) => ?_) ?_; (on_goal 2 => subst x); (on_goal 1 => clear_value x))
     | subst x | clear_value x)
  | with_reducible first | apply memRem_ev | apply memAdd_ev | apply opEnd_ev
  | split
  | (with_reducible refine Evolves.lit ?_ ?_; (on_goal 2 => rfl)))

theorem glacierTrain_ev (s : State) (o : CmdOp) {a_ : State} (h_ : Evolves a_ s) : Evolves a_ (glacierTrain s o) := by
  unfold glacierTrain
  repeat' (first
  | with_reducible assumption
  | with_reducible refine Evolves.ite ?_ ?_
  | (extract_lets +onlyGivenNames x; first
     | (refine (fun (hx : Evolves a_ x) => ?_) ?_; (on_goal 2 => subst x); (on_goal 1 => clear_value x))
     | (refine (fun (hx : Evolves a_ x.2) => ?_) ?_; (on_goal 2 => subst x); (on_goal 1 => clear_value x))
     | (refine (fun (hx : Evolves a_ x.1) => ?_) ?_; (on_goal 2 => subst x); (on_goal 1 => clear_value x))
     | (refine (fun (hx : Evolves a_ x.2.2) => ?_) ?_; (on_goal 2 => subst x); (on_goal 1 => clear_value x))
     | subst x | clear_value x)
  | with_reducible first | apply setGlcState_ev | apply rput_ev | apply opStart_ev
  | split
  | (with_reducible refine Evolves.lit ?_ ?_; (on_goal 2 => rfl)))

theorem glacierTrained_ev (s : State) (rate step time : Nat) (retain : Bool) {a_ : State} (h_ : Evolves a_ s) : Evolves a_ (glacierTrained s rate step time retain) := by
  unfold glacierTrained
  repeat' (first
  | with_reducible assumption
  | with_reducible refine Evolves.ite ?_ ?_
  | (extract_lets +onlyGivenNames x; first
     | (refine (fun (hx : Evolves a_ x) => ?_) ?_; (on_goal 2 => subst x); (on_goal 1 => clear_value x))
     | (refine (fun (hx : Evolves a_ x.2) => ?_) ?_; (on_goal 2 => subst x); (on_goal 1 => clear_value x))
     | (refine (fun (hx : Evolves a_ x.1) => ?_) ?_; (on_goal 2 => subst x); (on_goal 1 => clear_value x))
     | (refine (fun (hx : Evolves a_ x.2.2) => ?_) ?_; (on_goal 2 => subst x); (on_goal 1 => clear_value x))
     | subst x | clear_value x)
  | with_reducible refine forEach_ev (fun _ _ hs => ?_) ?_ | with_reducible refine forN_ev (fun _ _ hs => ?_) ?_
  | with_reducible first | apply glcTrained_ev | apply opEnd_ev
  | split
  | (with_reducible refine Evolves.lit ?_ ?_; (on_goal 2 => rfl)))

theorem captureCmd_ev (s : State) (o : CmdOp) {a_ : State} (h_ : Evolves a_ s) : Evolves a_ (captureCmd s o) := by
  unfold captureCmd
  repeat' (first
  | with_reducible assumption
  | with_reducible refine Evolves.ite ?_ ?_
  | (extract_lets +onlyGivenNames x; first
     | (refine (fun (hx : Evolves a_ x) => ?_) ?_; (on_goal 2 => subst x); (on_goal 1 => clear_value x))
     | subst x | clear_value x)
  | with_reducible first | apply opEnd_ev | apply emit_ev | apply opStart_ev
  | split
  | (with_reducible refine Evolves.lit ?_ ?_; (on_goal 2 => rfl)))

theorem selfTest_ev (s : State) (o : CmdOp) {a_ : State} (h_ : Evolves a_ s) : Evolves a_ (selfTest s o) := by
  unfold selfTest
  repeat' (first
  | with_reducible assumption
  | with_reducible refine Evolves.ite ?_ ?_
  | (extract_lets +onlyGivenNames x; first
     | (refine (fun (hx : Evolves a_ x) => ?_) ?_; (on_goal 2 => subst x); (on_goal 1 => clear_value x))
     | (refine (fun (hx : Evolves a_ x.st) => ?_) ?_; (on_goal 2 => subst x); (on_goal 1 => clear_value x))
     | subst x | clear_value x)
  | with_reducible refine forEach_ev (fun _ _ hs => ?_) ?_ | with_reducible refine forN_ev (fun _ _ hs => ?_) ?_
  | with_reducible refine foldl_ev (fun _ _ hs => ?_) ?_ | with_reducible refine foldl_snd_ev (fun _ _ hs => ?_) ?_
  | with_reducible refine foldl_fst_ev (fun _ _ hs => ?_) ?_ | with_reducible refine foldl_snd2_ev (fun _ _ hs => ?_) ?_
  | with_reducible first | apply opEnd_ev | apply opUpdate_ev | apply setSlotState_ev | apply setSpare_ev
  | split
  | (with_reducible refine Evolves.lit ?_ ?_; (on_goal 2 => rfl)))

theorem timeCmd_ev (s : State) (o : CmdOp) (cyc sec ns : Nat) {a_ : State} (h_ : Evolves a_ s) : Evolves a_ (timeCmd s o cyc sec ns) := by
  unfold timeCmd
  repeat' (first
  | with_reducible assumption
  | (extract_lets +onlyGivenNames x; first
     | (refine (fun (hx : Evolves a_ x) => ?_) ?_; (on_goal 2 => subst x); (on_goal 1 => clear_value x))
     | subst x | clear_value x)
  | with_reducible first | apply snapTaken_ev | apply opEnd_ev
  | split
  | (with_reducible refine Evolves.lit ?_ ?_; (on_goal 2 => rfl)))

theorem regRd_ev (s : State) (o : CmdOp) {a_ : State} (h_ : Evolves a_ s) : Evolves a_ (regRd s o) := by
  unfold regRd
  repeat' (first
  | with_reducible assumption
  | (extract_lets +onlyGivenNames x; first
     | (refine (fun (hx : Evolves a_ x) => ?_) ?_; (on_goal 2 => subst x); (on_goal 1 => clear_value x))
     | (refine (fun (hx : Evolves a_ x.2) => ?_) ?_; (on_goal 2 => subst x); (on_goal 1 => clear_value x))
     | (refine (fun (hx : Evolves a_ x.1) => ?_) ?_; (on_goal 2 => subst x); (on_goal 1 => clear_value x))
     | (refine (fun (hx : Evolves a_ x.2.2) => ?_) ?_; (on_goal 2 => subst x); (on_goal 1 => clear_value x))
     | subst x | clear_value x)
  | with_reducible refine foldl_ev (fun _ _ hs => ?_) ?_ | with_reducible refine foldl_snd_ev (fun _ _ hs => ?_) ?_
  | with_reducible refine foldl_fst_ev (fun _ _ hs => ?_) ?_ | with_reducible refine foldl_snd2_ev (fun _ _ hs => ?_) ?_
  | with_reducible first | apply readAny_ev | apply opEnd_ev
  | split
  | (with_reducible refine Evolves.lit ?_ ?_; (on_goal 2 => rfl)))

theorem regWr_ev (s : State) (o : CmdOp) (f : WrFacts) {a_ : State} (h_ : Evolves a_ s) : Evolves a_ (regWr s o f) := by
  unfold regWr
  repeat' (first
  | with_reducible assumption
  | with_reducible refine Evolves.ite ?_ ?_
  | (extract_lets +onlyGivenNames x; first
     | (refine (fun (hx : Evolves a_ x) => ?_) ?_; (on_goal 2 => subst x); (on_goal 1 => clear_value x))
     | (refine (fun (hx : Evolves a_ x.2) => ?_) ?_; (on_goal 2 => subst x); (on_goal 1 => clear_value x))
     | (refine (fun (hx : Evolves a_ x.1) => ?_) ?_; (on_goal 2 => subst x); (on_goal 1 => clear_value x))
     | (refine (fun (hx : Evolves a_ x.2.2) => ?_) ?_; (on_goal 2 => subst x); (on_goal 1 => clear_value x))
     | subst x | clear_value x)
  | with_reducible refine forEach_ev (fun _ _ hs => ?_) ?_ | with_reducible refine forN_ev (fun _ _ hs => ?_) ?_
  | with_reducible first | apply writeAny_ev | apply opEnd_ev
  | split
  | (with_reducible refine Evolves.lit ?_ ?_; (on_goal 2 => rfl)))

theorem clockRef_ev (s : State) (o : CmdOp) {a_ : State} (h_ : Evolves a_ s) : Evolves a_ (clockRef s o) := by
  unfold clockRef
  repeat' (first
  | with_reducible assumption
  | with_reducible refine Evolves.ite ?_ ?_
  | (extract_lets +onlyGivenNames x; first
     | (refine (fun (hx : Evolves a_ x) => ?_) ?_; (on_goal 2 => subst x); (on_goal 1 => clear_value x))
     | (refine (fun (hx : Evolves a_ x.st) => ?_) ?_; (on_goal 2 => subst x); (on_goal 1 => clear_value x))
     | subst x | clear_value x)
  | with_reducible first | apply netRealign_ev | apply ptpRefChanged_ev | apply refSelect_ev | apply opStart_ev | apply opEnd_ev
  | split
  | (with_reducible refine Evolves.lit ?_ ?_; (on_goal 2 => rfl)))

theorem clockHop_ev (s : State) (o : CmdOp) {a_ : State} (h_ : Evolves a_ s) : Evolves a_ (clockHop s o) := by
  unfold clockHop
  repeat' (first
  | with_reducible assumption
  | with_reducible refine Evolves.ite ?_ ?_
  | with_reducible first | apply opEnd_ev | apply hopSchedule_ev | apply opStart_ev
  | split
  | (with_reducible refine Evolves.lit ?_ ?_; (on_goal 2 => rfl)))

theorem netJoin_ev (s : State) (o : CmdOp) {a_ : State} (h_ : Evolves a_ s) : Evolves a_ (netJoin s o) := by
  unfold netJoin
  repeat' (first
  | with_reducible assumption
  | with_reducible refine Evolves.ite ?_ ?_
  | (extract_lets +onlyGivenNames x; first
     | (refine (fun (hx : Evolves a_ x) => ?_) ?_; (on_goal 2 => subst x); (on_goal 1 => clear_value x))
     | subst x | clear_value x)
  | with_reducible first | apply opEnd_ev | apply drawn_ev
  | split
  | (with_reducible refine Evolves.lit ?_ ?_; (on_goal 2 => rfl)))

theorem pcieDown_ev (s : State) {a_ : State} (h_ : Evolves a_ s) : Evolves a_ (pcieDown s) := by
  unfold pcieDown
  repeat' (first
  | with_reducible assumption
  | with_reducible refine forEach_ev (fun _ _ hs => ?_) ?_ | with_reducible refine forN_ev (fun _ _ hs => ?_) ?_
  | with_reducible first | apply rputBit_ev | apply agentDown_ev
  | split
  | (with_reducible refine Evolves.lit ?_ ?_; (on_goal 2 => rfl)))

theorem pcieUp_ev (s : State) (gen width : Nat) (pme : Bool) (mask : BitVec 64) {a_ : State} (h_ : Evolves a_ s) : Evolves a_ (pcieUp s gen width pme mask) := by
  unfold pcieUp
  repeat' (first
  | with_reducible assumption
  | with_reducible refine Evolves.ite ?_ ?_
  | with_reducible first | apply msixMasks_ev | apply rset_ev
  | split
  | (with_reducible refine Evolves.lit ?_ ?_; (on_goal 2 => rfl)))

theorem execNop_ev (a : Fin 8) (h : BitVec 16) (st : State) : NextEv st (execNop a h st) := by
  have h_ := Evolves.refl st
  unfold execNop
  repeat' (first
  | with_reducible assumption
  | with_reducible refine next_ev ?_
  | with_reducible first | apply withOp_ev | apply opEnd_ev
  | (intro _ _ hs; beta_reduce)
  | split
  | (with_reducible refine Evolves.lit ?_ ?_; (on_goal 2 => rfl)))

theorem execClear_ev (a : Fin 8) (h : BitVec 16) (st : State) : NextEv st (execClear a h st) := by
  have h_ := Evolves.refl st
  unfold execClear
  repeat' (first
  | with_reducible assumption
  | with_reducible refine next_ev ?_
  | with_reducible first | apply withOp_ev | apply clearCmd_ev
  | (intro _ _ hs; beta_reduce)
  | split
  | (with_reducible refine Evolves.lit ?_ ?_; (on_goal 2 => rfl)))

theorem execImageKey_ev (a : Fin 8) (h : BitVec 16) (st : State) : NextEv st (execImageKey a h st) := by
  have h_ := Evolves.refl st
  unfold execImageKey
  repeat' (first
  | with_reducible assumption
  | with_reducible refine next_ev ?_
  | with_reducible first | apply withOp_ev | apply imageKey_ev
  | (intro _ _ hs; beta_reduce)
  | split
  | (with_reducible refine Evolves.lit ?_ ?_; (on_goal 2 => rfl)))

theorem execSessionKey_ev (a : Fin 8) (h : BitVec 16) (st : State) : NextEv st (execSessionKey a h st) := by
  have h_ := Evolves.refl st
  unfold execSessionKey
  repeat' (first
  | with_reducible assumption
  | with_reducible refine next_ev ?_
  | with_reducible first | apply withOp_ev | apply sessionKey_ev
  | (intro _ _ hs; beta_reduce)
  | split
  | (with_reducible refine Evolves.lit ?_ ?_; (on_goal 2 => rfl)))

theorem execSessionCfg_ev (a : Fin 8) (h : BitVec 16) (st : State) : NextEv st (execSessionCfg a h st) := by
  have h_ := Evolves.refl st
  unfold execSessionCfg
  repeat' (first
  | with_reducible assumption
  | with_reducible refine next_ev ?_
  | with_reducible first | apply withOp_ev | apply sessionCfg_ev
  | (intro _ _ hs; beta_reduce)
  | split
  | (with_reducible refine Evolves.lit ?_ ?_; (on_goal 2 => rfl)))

theorem execCommit_ev (a : Fin 8) (h : BitVec 16) (st : State) : NextEv st (execCommit a h st) := by
  have h_ := Evolves.refl st
  unfold execCommit
  repeat' (first
  | with_reducible assumption
  | with_reducible refine next_ev ?_
  | with_reducible first | apply withOp_ev | apply commitCmd_ev
  | (intro _ _ hs; beta_reduce)
  | split
  | (with_reducible refine Evolves.lit ?_ ?_; (on_goal 2 => rfl)))

theorem execCommitCancel_ev (a : Fin 8) (h : BitVec 16) (st : State) : NextEv st (execCommitCancel a h st) := by
  have h_ := Evolves.refl st
  unfold execCommitCancel
  repeat' (first
  | with_reducible assumption
  | with_reducible refine next_ev ?_
  | with_reducible first | apply withOp_ev | apply commitCancel_ev
  | (intro _ _ hs; beta_reduce)
  | split
  | (with_reducible refine Evolves.lit ?_ ?_; (on_goal 2 => rfl)))

theorem execCommitMember_ev (a : Fin 8) (h : BitVec 16) (st : State) : NextEv st (execCommitMember a h st) := by
  have h_ := Evolves.refl st
  unfold execCommitMember
  repeat' (first
  | with_reducible assumption
  | with_reducible refine next_ev ?_
  | with_reducible first | apply withOp_ev | apply commitMember_ev
  | (intro _ _ hs; beta_reduce)
  | split
  | (with_reducible refine Evolves.lit ?_ ?_; (on_goal 2 => rfl)))

theorem execGlacierTrain_ev (a : Fin 8) (h : BitVec 16) (st : State) : NextEv st (execGlacierTrain a h st) := by
  have h_ := Evolves.refl st
  unfold execGlacierTrain
  repeat' (first
  | with_reducible assumption
  | with_reducible refine next_ev ?_
  | with_reducible first | apply withOp_ev | apply glacierTrain_ev
  | (intro _ _ hs; beta_reduce)
  | split
  | (with_reducible refine Evolves.lit ?_ ?_; (on_goal 2 => rfl)))

theorem execCapture_ev (a : Fin 8) (h : BitVec 16) (st : State) : NextEv st (execCapture a h st) := by
  have h_ := Evolves.refl st
  unfold execCapture
  repeat' (first
  | with_reducible assumption
  | with_reducible refine next_ev ?_
  | with_reducible first | apply withOp_ev | apply captureCmd_ev
  | (intro _ _ hs; beta_reduce)
  | split
  | (with_reducible refine Evolves.lit ?_ ?_; (on_goal 2 => rfl)))

theorem execSelfTest_ev (a : Fin 8) (h : BitVec 16) (st : State) : NextEv st (execSelfTest a h st) := by
  have h_ := Evolves.refl st
  unfold execSelfTest
  repeat' (first
  | with_reducible assumption
  | with_reducible refine next_ev ?_
  | with_reducible first | apply withOp_ev | apply selfTest_ev
  | (intro _ _ hs; beta_reduce)
  | split
  | (with_reducible refine Evolves.lit ?_ ?_; (on_goal 2 => rfl)))

theorem execTime_ev (a : Fin 8) (h : BitVec 16) (cyc : Fin 25600) (sec : BitVec 48) (ns : Fin 1000000000) (st : State) : NextEv st (execTime a h cyc sec ns st) := by
  have h_ := Evolves.refl st
  unfold execTime
  repeat' (first
  | with_reducible assumption
  | with_reducible refine next_ev ?_
  | with_reducible first | apply withOp_ev | apply timeCmd_ev
  | (intro _ _ hs; beta_reduce)
  | split
  | (with_reducible refine Evolves.lit ?_ ?_; (on_goal 2 => rfl)))

theorem execRegRd_ev (a : Fin 8) (h : BitVec 16) (st : State) : NextEv st (execRegRd a h st) := by
  have h_ := Evolves.refl st
  unfold execRegRd
  repeat' (first
  | with_reducible assumption
  | with_reducible refine next_ev ?_
  | with_reducible first | apply withOp_ev | apply regRd_ev
  | (intro _ _ hs; beta_reduce)
  | split
  | (with_reducible refine Evolves.lit ?_ ?_; (on_goal 2 => rfl)))

theorem execRegWr_ev (a : Fin 8) (h : BitVec 16) (f : WrFacts) (st : State) : NextEv st (execRegWr a h f st) := by
  have h_ := Evolves.refl st
  unfold execRegWr
  repeat' (first
  | with_reducible assumption
  | with_reducible refine next_ev ?_
  | with_reducible first | apply withOp_ev | apply regWr_ev
  | (intro _ _ hs; beta_reduce)
  | split
  | (with_reducible refine Evolves.lit ?_ ?_; (on_goal 2 => rfl)))

theorem execClockRef_ev (a : Fin 8) (h : BitVec 16) (st : State) : NextEv st (execClockRef a h st) := by
  have h_ := Evolves.refl st
  unfold execClockRef
  repeat' (first
  | with_reducible assumption
  | with_reducible refine next_ev ?_
  | with_reducible first | apply withOp_ev | apply clockRef_ev
  | (intro _ _ hs; beta_reduce)
  | split
  | (with_reducible refine Evolves.lit ?_ ?_; (on_goal 2 => rfl)))

theorem execClockHop_ev (a : Fin 8) (h : BitVec 16) (st : State) : NextEv st (execClockHop a h st) := by
  have h_ := Evolves.refl st
  unfold execClockHop
  repeat' (first
  | with_reducible assumption
  | with_reducible refine next_ev ?_
  | with_reducible first | apply withOp_ev | apply clockHop_ev
  | (intro _ _ hs; beta_reduce)
  | split
  | (with_reducible refine Evolves.lit ?_ ?_; (on_goal 2 => rfl)))

theorem execNetJoin_ev (a : Fin 8) (h : BitVec 16) (st : State) : NextEv st (execNetJoin a h st) := by
  have h_ := Evolves.refl st
  unfold execNetJoin
  repeat' (first
  | with_reducible assumption
  | with_reducible refine next_ev ?_
  | with_reducible first | apply withOp_ev | apply netJoin_ev
  | (intro _ _ hs; beta_reduce)
  | split
  | (with_reducible refine Evolves.lit ?_ ?_; (on_goal 2 => rfl)))

theorem execCommandEntryRead_ev (a : Fin 4) (e : List Byte) (st : State) : NextEv st (execCommandEntryRead a e st) := by
  have h_ := Evolves.refl st
  unfold execCommandEntryRead
  repeat' (first
  | with_reducible assumption
  | with_reducible refine next_ev ?_
  | with_reducible first | apply entryRead_ev
  | split
  | (with_reducible refine Evolves.lit ?_ ?_; (on_goal 2 => rfl)))

theorem execNsCommand_ev (n : Fin 4) (p : Peer) (bytes : List Byte) (st : State) : NextEv st (execNsCommand n p bytes st) := by
  have h_ := Evolves.refl st
  unfold execNsCommand
  repeat' (first
  | with_reducible assumption
  | with_reducible refine next_ev ?_
  | (extract_lets +onlyGivenNames x; first
     | (refine (fun (hx : Evolves st x) => ?_) ?_; (on_goal 2 => subst x); (on_goal 1 => clear_value x))
     | (refine (fun (hx : Evolves st x.2) => ?_) ?_; (on_goal 2 => subst x); (on_goal 1 => clear_value x))
     | (refine (fun (hx : Evolves st x.1) => ?_) ?_; (on_goal 2 => subst x); (on_goal 1 => clear_value x))
     | (refine (fun (hx : Evolves st x.2.2) => ?_) ?_; (on_goal 2 => subst x); (on_goal 1 => clear_value x))
     | subst x | clear_value x)
  | with_reducible first | apply nsReceive_ev | apply nsCommand_ev
  | split
  | (with_reducible refine Evolves.lit ?_ ?_; (on_goal 2 => rfl)))

theorem execPerst_ev (st : State) : NextEv st (execPerst st) := by
  have h_ := Evolves.refl st
  unfold execPerst
  repeat' (first
  | with_reducible assumption
  | with_reducible refine next_ev ?_
  | with_reducible refine Evolves.ite ?_ ?_
  | with_reducible first | apply next_ev | apply pcieDown_ev
  | split
  | (with_reducible refine Evolves.lit ?_ ?_; (on_goal 2 => rfl)))

theorem execPcieLinkDown_ev (st : State) : NextEv st (execPcieLinkDown st) := by
  have h_ := Evolves.refl st
  unfold execPcieLinkDown
  repeat' (first
  | with_reducible assumption
  | with_reducible refine next_ev ?_
  | with_reducible first | apply pcieDown_ev
  | split
  | (with_reducible refine Evolves.lit ?_ ?_; (on_goal 2 => rfl)))

theorem execPcieLinkUp_ev (gen : Fin 16) (width : Fin 32) (set : PcieSettings) (st : State) : NextEv st (execPcieLinkUp gen width set st) := by
  have h_ := Evolves.refl st
  unfold execPcieLinkUp
  repeat' (first
  | with_reducible assumption
  | with_reducible refine next_ev ?_
  | with_reducible refine Evolves.ite ?_ ?_
  | with_reducible first | apply next_ev | apply pcieUp_ev
  | split
  | (with_reducible refine Evolves.lit ?_ ?_; (on_goal 2 => rfl)))

theorem execGlacierTrainingDone_ev (rate : Fin 7) (step : Fin 16) (time : BitVec 16) (retain : Bool) (st : State) : NextEv st (execGlacierTrainingDone rate step time retain st) := by
  have h_ := Evolves.refl st
  unfold execGlacierTrainingDone
  repeat' (first
  | with_reducible assumption
  | with_reducible refine next_ev ?_
  | with_reducible first | apply glacierTrained_ev | apply step_ev
  | split
  | (with_reducible refine Evolves.lit ?_ ?_; (on_goal 2 => rfl)))

end Sys2Proof.Machine
end

