-- ==== Sys2Proof/Laws/Events.lean ====
section
/-! SUPPORT. What the event controller's and the fault manager's shared operations can do: one lemma for each. -/

namespace Sys2Proof.Machine

theorem Settles.refl (s : State) : Settles s s := ⟨rfl, List.prefix_refl _, fun _ _ => rfl, fun _ _ => rfl⟩

theorem Settles.trans {a b c : State} (h : Settles a b) (k : Settles b c) : Settles a c :=
  ⟨k.rest.trans h.rest, h.out.trans k.out, fun x hx => (k.regs x hx).trans (h.regs x hx), fun i hi => (k.wake i hi).trans (h.wake i hi)⟩

/-- Writing a register of the controller's own. -/
theorem Settles.rset {a s : State} (h : Settles a s) (x : Nat) (v : W32) (hx : 0x321000 ≤ x ∧ x < 0x322000) :
    Settles a (rset s x v) := by
  refine h.trans ⟨rfl, List.prefix_refl _, fun y hy => ?_, fun i _ => ?_⟩
  · rw [rget_rset, if_neg]; rintro rfl; exact hy (.inl hx)
  · simp only [rbit, rget_rset]; rw [if_neg]; omega
theorem Settles.rput {a s : State} (h : Settles a s) (x lo w v : Nat) (hx : 0x321000 ≤ x ∧ x < 0x322000) :
    Settles a (rput s x lo w v) := h.rset _ _ hx
theorem Settles.rputBit {a s : State} (h : Settles a s) (x i : Nat) (b : Bool) (hx : 0x321000 ≤ x ∧ x < 0x322000) :
    Settles a (rputBit s x i b) := h.rset _ _ hx
theorem Settles.rsetBit {a s : State} (h : Settles a s) (x i : Nat) (hx : 0x321000 ≤ x ∧ x < 0x322000) :
    Settles a (rsetBit s x i) := h.rset _ _ hx
theorem Settles.rinc {a s : State} (h : Settles a s) (x lo w : Nat) (hx : 0x321000 ≤ x ∧ x < 0x322000) :
    Settles a (rinc s x lo w) := h.rset _ _ hx
theorem Settles.ev {a s : State} (h : Settles a s) (e : EventSt) : Settles a { s with ev := e } :=
  h.trans ⟨rfl, List.prefix_refl _, fun _ _ => rfl, fun _ _ => rfl⟩
theorem Settles.emit {a s : State} (h : Settles a s) (o : Out) : Settles a (emit s o) :=
  h.trans ⟨rfl, List.prefix_append _ _, fun _ _ => rfl, fun _ _ => rfl⟩
theorem Settles.ite {a s t : State} {c : Prop} [Decidable c] (h : Settles a s) (k : Settles a t) : Settles a (if c then s else t) := by
  split <;> assumption
theorem Settles.setNs_ {a s : State} (h : Settles a s) (n : Nat) (x : NsSession) : Settles a (setNs s n x) :=
  h.trans ⟨rfl, List.prefix_refl _, fun _ _ => rfl, fun _ _ => rfl⟩
theorem Settles.msixSend {a s : State} (h : Settles a s) (v : Nat) : Settles a (msixSend s v) := by
  unfold Machine.msixSend
  exact Settles.ite (h.trans ⟨rfl, List.prefix_refl _, fun _ _ => rfl, fun _ _ => rfl⟩) (h.emit _)
theorem Settles.nsSend {a s : State} (h : Settles a s) (n typ : Nat) (b : List Byte) : Settles a (nsSend s n typ b) := by
  unfold Machine.nsSend
  refine Settles.ite h (Settles.emit (s := setNs _ _ _) ?_ _)
  exact h.trans ⟨rfl, List.prefix_refl _, fun _ _ => rfl, fun _ _ => rfl⟩
theorem Settles.foldl {α : Type} {a : State} {f : State → α → State} {l : List α} {s : State} (hs : Settles a s)
    (h : ∀ s x, x ∈ l → Settles a s → Settles a (f s x)) : Settles a (l.foldl f s) := by
  induction l generalizing s with
  | nil => exact hs
  | cons x r ih => exact ih (h _ _ (by simp) hs) (fun s y hy => h s y (by simp [hy]))

theorem evSrcA_in {n : Nat} (h : n < 512) : 0x321000 ≤ evSrcA n ∧ evSrcA n < 0x322000 := by unfold evSrcA; omega
theorem evLimA_in {n : Nat} (h : n < 512) : 0x321000 ≤ evLimA n ∧ evLimA n < 0x322000 := by unfold evLimA; omega

theorem evPending_lt (s : State) : ∀ n ∈ evPending s, n < 512 := by
  intro n h
  simp only [evPending, List.mem_filterMap] at h
  obtain ⟨e, -, he⟩ := h
  split at he <;> simp at he; omega

theorem evLatch_settles {a s : State} (h : Settles a s) (n : Nat) (hn : n < 512) : Settles a (evLatch s n) := by
  unfold evLatch
  exact Settles.ite (h.rsetBit _ _ (evSrcA_in hn)) h

theorem setDelivered_settles {a s : State} (h : Settles a s) (n : Nat) (b : Bool) : Settles a (setDelivered s n b) := h.ev _

theorem evDeliver_settles {a s : State} (h : Settles a s) (n : Nat) (hn : n < 512) : Settles a (evDeliver s n) := by
  have h1 := evSrcA_in hn
  have h2 := evLimA_in hn
  unfold evDeliver
  refine Settles.ite h (Settles.ite ?_ h)
  dsimp only
  exact Settles.ite (evLatch_settles ((h.rsetBit _ _ h1).rputBit _ _ _ h1) _ (by omega)) (setDelivered_settles (h.rinc _ _ _ h2) _ _)

theorem callAgent_settles {a s : State} (h : Settles a s) (n : Nat) : Settles a (callAgent s n) := by
  unfold callAgent
  exact Settles.ite (Settles.ite (h.emit _) h) (h.nsSend _ _ _)

theorem evtSend_settles {a s : State} (h : Settles a s) (n : Nat) : Settles a (evtSend s n) := by
  unfold evtSend
  dsimp only
  exact Settles.ite (h.setNs_ _ _) ((h.setNs_ _ _).nsSend _ _ _)

theorem evHold_settles {a s : State} (h : Settles a s) : Settles a (evHold s) := by
  unfold evHold
  have lt : ∀ n ∈ s.ctl.filterMap (fun e => if 0x321000 ≤ e.1 ∧ e.1 < 0x321800 ∧ bitOf e.2 24 then some ((e.1 - 0x321000) / 4) else none), n < 512 := by
    intro n h
    simp only [List.mem_filterMap] at h
    obtain ⟨e, -, he⟩ := h
    split at he <;> simp at he; omega
  refine Settles.trans (b := forEach _ _ _) ?_ ⟨rfl, List.prefix_refl _, ?_, ?_⟩
  · refine Settles.foldl (Settles.foldl h ?_) ?_
    · intro s n hn hs
      exact (hs.rputBit _ _ _ (evSrcA_in (lt n (List.mem_filter.1 hn).1))).ev _
    · intro s' n hn hs
      have hn' := evPending_lt s n (List.mem_filter.1 hn).1
      refine Settles.foldl ((hs.rsetBit _ _ (evSrcA_in hn')).ev _) ?_
      intro s a ha hs
      exact callAgent_settles hs _
  · intro x hx
    exact rget_rputBit_other _ _ _ _ _ (fun e => hx (.inr e))
  · intro i hi
    rw [rbit_rputBit _ _ _ _ _ _ (by omega), if_neg (by omega)]

theorem evSignal_settles {a s : State} (h : Settles a s) (n : Nat) : Settles a (evSignal s n) := by
  unfold evSignal
  exact Settles.ite (Settles.ite ((h.ev _).msixSend _) (evtSend_settles (h.ev _) _)) (h.ev _)

theorem evSettle_settles {a s : State} (h : Settles a s) : Settles a (evSettle s) := by
  unfold evSettle
  refine Settles.foldl (evHold_settles (Settles.foldl (Settles.foldl h ?_) ?_)) (fun s n _ hs => evSignal_settles hs n)
  · exact fun s' n hn hs => evDeliver_settles hs n (evPending_lt _ n hn)
  · exact fun s' n hn hs => evDeliver_settles hs n (evPending_lt _ n hn)

/-- A pulse source's occurrence. -/
theorem evRaise_settles {a s : State} (h : Settles a s) (n : Nat) (hn : n < 512) : Settles a (evRaise s n) :=
  evSettle_settles (evLatch_settles h n hn)

/-- A level source's signal. -/
theorem evSignalLevel_settles {a s : State} (h : Settles a s) (n : Nat) (b : Bool) (hn : n < 512) :
    Settles a (evSignalLevel s n b) := by
  unfold evSignalLevel
  exact Settles.ite (evRaise_settles (h.ev _) n hn) (h.ev _)

/-- A cluster's flags. -/
theorem evClusterFlags_settles {a s : State} (h : Settles a s) (c : Nat) (hc : c < 16) : Settles a (evClusterFlags s c) := by
  unfold evClusterFlags
  exact Settles.ite h (evSignalLevel_settles h _ _ (by omega))

/-- A change of the parts the controller does not look at commutes with what it does, as far as `Settles` says. -/
theorem Settles.over {s t : State} (h : Settles s t) (f : State → State) (g : State → State)
    (hf : ∀ s, (f s).ctl = s.ctl ∧ (f s).out = s.out) (hg : ∀ s, offEv (f s) = g (offEv s)) : Settles (f s) (f t) := by
  refine ⟨by rw [hg, hg, h.rest], by rw [(hf s).2, (hf t).2]; exact h.out, fun x hx => ?_, fun i hi => ?_⟩
  · simp only [rget, (hf _).1]; exact h.regs x hx
  · simp only [rbit, rget, (hf _).1]; exact h.wake i hi

theorem logs_of_settles {s u t : State} {kind : Nat} {f : FltInfo} (k : Settles u t) (h1 : s.flt.log.length < 32)
    (hu : u = { drawn s with flt := { s.flt with log := s.flt.log ++ [fltWords kind { f with cyc := some (f.cyc.getD (Config.freeNat s.freeCtr % 25600)) }] } }) :
    Logs s t kind f s.flt.openf := by
  have k' := k.rest
  have e : ∀ x, rget u x = rget s x := fun x => by rw [hu]; rfl
  refine ⟨?_, ?_, ?_, ?_, fun x hx _ => (k.regs x hx).trans (e x), ?_⟩
  · refine (congrArg (fun u : State => { u with flt := s.flt, freeCtr := s.freeCtr }) k').trans ?_
    rw [hu]; rfl
  · have := k.out; rw [hu] at this; exact this
  · refine (congrArg State.freeCtr k').trans ?_
    rw [hu]; rfl
  · rw [if_pos h1]; refine (congrArg State.flt k').trans ?_
    rw [hu]; rfl
  · rw [if_pos h1]; refine (k.regs _ ?_).trans (e _); unfold evReg; omega

/-- An entry of the fault log. -/
theorem fltLog_logs (s : State) (kind : Nat) (f : FltInfo) : Logs s (fltLog s kind f) kind f s.flt.openf := by
  unfold fltLog
  have hf : (if f.cyc.isSome then f else { f with cyc := some (Config.freeNat s.freeCtr % 25600) }) =
      { f with cyc := some (f.cyc.getD (Config.freeNat s.freeCtr % 25600)) } := by
    obtain ⟨a1, a2, a3, a4, a5, a6, a7, a8, a9, a10⟩ := f
    cases a8 <;> rfl
  simp only [hf, flt_drawn, ge_iff_le]
  split
  · rename_i h
    refine ⟨rfl, List.prefix_refl _, rfl, ?_, ?_, ?_⟩
    · rw [if_neg (by omega)]; rfl
    · intro x _ hx
      rw [rget_rinc_other _ _ _ _ _ hx, rget_rsetBit_other _ _ _ _ hx]; rfl
    · rw [if_neg (by omega)]
      rfl
  · rename_i h
    exact logs_of_settles (evRaise_settles (Settles.refl _) 99 (by omega)) (by omega) rfl

/-- A detected fault. -/
theorem fltDetect_detects (s : State) (f : FltInfo) : Detects s (fltDetect s f) f := by
  have h := fltLog_logs s 1 f
  unfold fltDetect Detects
  have ht : fltTracked f.cls = true ↔ ¬ (f.cls = 4 ∨ f.cls = 5 ∨ f.cls = 6) := by simp [fltTracked, and_assoc]
  by_cases c : f.cls = 4 ∨ f.cls = 5 ∨ f.cls = 6
  · rw [if_neg (by rw [ht]; exact fun n => n c), if_pos c]; exact h
  · rw [if_pos (by rw [ht]; exact c), if_neg c]
    refine ⟨h.rest, h.out, h.free, ?_, h.regs, h.lost⟩
    simp [setOpen, h.log]

end Sys2Proof.Machine
end

