-- ==== Sys2Proof/WellFormed.lean ====
section
/-! DEFINITION. Which operands a command can carry: field values the manual calls reserved or out of range (R81, R84–R95, R106),
the lengths of what the buses deliver, and the ranges of the plain numbers. A meaning is total on ill-formed operands too. -/

namespace Sys2Proof

/-- MODE of a MAC field: 6 and 7 are reserved (R81). -/
def macOk (mode : Fin 8) : Bool := decide (mode.val ≤ 5)
/-- An addressing mode: 6 and 7 are reserved (R83, R84). -/
def amOk (am : Fin 8) : Bool := decide (am.val ≤ 5)
/-- A class and index of MOVS (R88). -/
def movsOk (cls : Fin 8) (idx : Fin 16) : Bool :=
  decide (cls.val ≤ 2) || (cls.val == 3 && decide (idx.val < 4)) || ((cls.val == 4 || cls.val == 5) && idx.val == 0)
/-- A class of SETP and an immediate it holds: Z has 6 bits (R84, R93). -/
def setpOk (cls : Fin 4) (imm : BitVec 20) : Bool := decide (cls.val ≤ 1) || (cls.val == 2 && decide (imm.toNat < 64))
/-- A shift field (R87): the bounds of a saturate, zero for an absolute value. -/
def shfOk (sh : BitVec 7) (fn : Fin 4) : Bool :=
  match fn.val with
  | 0 => true
  | 1 => true
  | 2 => decide (-63 ≤ sh.toInt) && decide (sh.toInt ≤ 6)
  | _ => sh.toInt == 0
/-- The fields of a store-path move (R90–R93): a source that exists and suits the format, a destination operand, an extension word
exactly where the move takes one. -/
def storeOk (dst fmt : Fin 4) (src : Fin 64) (dop : BitVec 9) (ext : Option (BitVec 20)) : Bool :=
  let x := (ext.getD 0).toNat
  let pair := decide (44 ≤ src.val)
  (decide (src.val < 32) || (decide (src.val < 48) && (pair == decide (fmt.val = 3)))) &&
  (match dst.val with
   | 2 => fmt.val == 0 || fmt.val == 3
   | 3 => dop.toNat / 2 % 4 == 0
   | _ => decide (dop.toNat / 4 % 8 ≤ 5)) &&
  (ext.isSome == dop.getLsbD 0) && x % 512 == 0 && (x / 512 % 2 == 0 || dst.val == 2) &&
  (decide (x / 1024 % 8 < 4) || (dst.val == 1 && fmt.val == 0))
/-- A BAR2 request of `n` bytes stays in its 4 MB window and its 4,096-byte limit (R283). -/
def bar2Ok (off : BitVec 22) (n : Nat) : Bool := decide (n ≤ 4096) && decide (off.toNat + n ≤ 0x400000)
/-- A datagram's source: a port of the device, a 16-byte address, UDP ports of 16 bits (R296). -/
def peerOk (p : Peer) : Bool := decide (p.port < 2) && p.addr.length == 16 && decide (p.udp < 65536) && decide (p.dst < 65536)
/-- A received frame: its VID and its UDP ports (R331). -/
def frameOk (f : MediaFrame) : Bool := decide (f.vid.getD 0 < 4096) && decide (f.dport < 65536) && decide (f.sport < 65536)
/-- A PTP message: domain, sequence number and priorities in their fields (R339). -/
def ptpOk (m : PtpMsg) : Bool :=
  decide (m.domain < 256) && decide (m.seq < 65536) && decide (m.p1 < 256) && decide (m.cls < 256) && decide (m.acc < 256) &&
  decide (m.var < 65536) && decide (m.p2 < 256) && decide (m.steps < 65536)
/-- A subframe's preamble code (R343). -/
def subOk (f : Subframe) : Bool := decide (f.pre ≤ 3)
/-- The word a scrub read meets: its memory holds it (R441). -/
def scrubOk (mem : Fin 3) (unit word : Nat) : Bool :=
  match mem.val with
  | 0 => decide (unit < 1088) && decide (word < 0x3000)
  | 1 => decide (unit < 128) && decide (word < 0x10000)
  | _ => decide (unit < 16)
/-- An address in the 32 MiB of control space (R7, R282). -/
def ctlOk (a : Nat) : Bool := decide (a < 0x2000000)
/-- The address of a half of a 64-bit register (R14). -/
def halfOk (a : Nat) : Bool := ctlOk a && a % 4 == 0
/-- A cycle of the base tick and nanoseconds below a second (R35). -/
def factsOk (f : WrFacts) : Bool := decide (f.cyc < 25600) && decide (f.ns < 1000000000)

/-- The command's operands are ones the device's buses, fields and units can carry. -/
def Instr.wf (i : Instr) : Bool :=
  match i with
  | .tickBoundary _ f => decide (f.wdraw.Nodup)
  | .commitDeadline _ => true
  | .sampleProgramStart _ _ _ _ => true
  | .crossfadeProgramStart _ _ _ _ => true
  | .wellheadClose _ => true
  | .wellheadTap _ _ _ _ win => decide (win.ecc.length ≤ 4) && decide (win.coll.length ≤ 4)
  | .wellheadWriteSlot _ _ _ => true
  | .wellheadLaneDrive _ _ _ => true
  | .yieldRedirection _ _ _ => true
  | .yieldOverrun _ _ => true
  | .blockResume _ _ => true
  | .chainAdd _ _ _ _ _ => true
  | .bridgeOutput _ _ _ => true
  | .mpy _ _ _ mode _ _ _ _ _ _ => macOk mode
  | .mac _ _ _ mode _ _ _ _ _ _ => macOk mode
  | .msu _ _ _ mode _ _ _ _ _ _ => macOk mode
  | .cellNop _ _ _ _ => true
  | .lds _ _ _ _ _ am _ => amOk am
  | .ldsH _ _ _ _ _ am _ => amOk am
  | .ldsL _ _ _ _ _ am _ => amOk am
  | .ldk _ _ _ _ _ am _ => amOk am
  | .ldkH _ _ _ _ _ am _ => amOk am
  | .ldkL _ _ _ _ _ am _ => amOk am
  | .ldc _ _ _ _ _ am _ _ _ => amOk am
  | .ldcH _ _ _ _ _ am _ _ _ => amOk am
  | .ldcL _ _ _ _ _ am _ _ _ => amOk am
  | .mov _ _ _ _ _ => true
  | .swaph _ _ _ _ _ => true
  | .cmp _ _ _ _ _ _ _ => true
  | .cmovT _ _ _ _ _ _ => true
  | .cmovF _ _ _ _ _ _ => true
  | .shf _ _ _ _ sh fn => shfOk sh fn
  | .clra _ _ _ _ => true
  | .mva _ _ _ _ _ => true
  | .mvah _ _ _ _ _ => true
  | .mval _ _ _ _ _ => true
  | .xrd _ _ _ _ _ => true
  | .xra _ _ _ _ _ => true
  | .xred _ _ _ _ _ _ => true
  | .movs _ _ _ _ cls idx _ => movsOk cls idx
  | .setp _ _ _ cls _ imm => setpOk cls imm
  | .padd _ _ _ _ _ => true
  | .pmod _ _ _ _ am => am.val == 1 || am.val == 3 || am.val == 4
  | .ldpt _ _ _ _ _ => true
  | .stpt _ _ _ _ => true
  | .storePathMove _ _ _ dst fmt src dop ext _ _ _ _ _ => storeOk dst fmt src dop ext
  | .cellEnd _ _ _ => true
  | .rep _ _ _ _ _ _ => true
  | .bxclr _ _ _ => true
  | .stset _ _ _ mask => !mask.getLsbD 3
  | .stclr _ _ _ mask => !mask.getLsbD 3
  | .bwait _ _ _ => true
  | .yend _ _ _ => true
  | .br _ _ _ _ => true
  | .brt _ _ _ _ _ => true
  | .brf _ _ _ _ _ => true
  | .jmp _ _ _ _ => true
  | .jmpp _ _ _ _ => true
  | .nop _ _ => true
  | .imageLoad _ _ => true
  | .imageHeaderCheck _ => true
  | .imageSectionCheck _ => true
  | .imageTrailerCheck _ => true
  | .imageFeedStall => true
  | .clear _ _ => true
  | .imageKey _ _ => true
  | .sessionKey _ _ => true
  | .sessionCfg _ _ => true
  | .commit _ _ => true
  | .commitCancel _ _ => true
  | .commitMember _ _ => true
  | .glacierTrain _ _ => true
  | .capture _ _ => true
  | .selfTest _ _ => true
  | .time _ _ _ _ _ => true
  | .regRd _ _ => true
  | .regWr _ _ f => factsOk f
  | .clockRef _ _ => true
  | .referenceMeasured _ _ _ => true
  | .referenceLocked => true
  | .referenceLoss => true
  | .referenceReturn => true
  | .clockHop _ _ => true
  | .hopCancelCheck => true
  | .hop => true
  | .netJoin _ _ => true
  | .fwUpdate _ _ _ => true
  | .fwUpdateDone _ => true
  | .fwTrial _ _ => true
  | .dbgChallenge _ _ => true
  | .dbgChallengeExpiry => true
  | .dbgUnlock _ _ => true
  | .devReset _ _ => true
  | .commandDoorbell _ _ => true
  | .commandEntryRead _ e => e.length == 64
  | .commandFetchError _ => true
  | .completionWrite _ => true
  | .completionHeadAdvance _ _ => true
  | .moderationTimer _ => true
  | .agentAwake _ => true
  | .agentSleep _ => true
  | .agentDown _ => true
  | .sleepWakeTimer _ => true
  | .bar2Read _ off len _ => bar2Ok off len.val
  | .bar2ReadTimeout _ _ => true
  | .bar2Write _ off bytes _ => bar2Ok off bytes.length
  | .perst => true
  | .pcieLinkDown => true
  | .pcieLinkUp _ _ _ => true
  | .nsCommand _ p _ => peerOk p
  | .credit _ p _ => peerOk p
  | .state _ p _ => peerOk p
  | .imageData _ p _ => peerOk p
  | .completionResendTimer _ => true
  | .wakeRepeatTimer _ => true
  | .eventRepeatTimer _ => true
  | .cmtGCtlArm => true
  | .cmtGCtlCancel => true
  | .commitValidationDone _ => true
  | .cmtMemCtlAdd _ _ _ => true
  | .cmtMemCtlRem _ _ _ => true
  | .cmtGldIdxWr _ _ => true
  | .cmtGldIdxRd _ _ _ => true
  | .resyncDone _ => true
  | .cmtRecPop => true
  | .cmtBndPop => true
  | .cmtSnap _ _ _ => true
  | .cmtClStallClr _ => true
  | .cisOwnerWrite _ _ _ _ => true
  | .cisEaddrClr _ => true
  | .clusterIsolationLift _ => true
  | .clusterClearingDone _ => true
  | .pumpEnable _ _ => true
  | .pumpDisable _ _ => true
  | .pumpStop _ _ => true
  | .pumpDoorbell _ _ => true
  | .pumpPoll _ => true
  | .pumpDescriptorFetched _ d => d.length == 32
  | .pumpBurst _ => true
  | .pumpReadCompletion _ _ _ _ => true
  | .pumpBusError _ _ => true
  | .pumpCompletionTimeout _ => true
  | .pumpLanding _ _ => true
  | .welEntWr _ _ => true
  | .welEntRd _ _ => true
  | .welLineWrite _ _ _ => true
  | .welLdGo _ => true
  | .welLoadDone _ _ => true
  | .welRunCapture _ _ => true
  | .glacierGrainWrite w => decide (w.acc.length ≤ 12)
  | .glacierWriteMiss _ => true
  | .glacierGrainRead _ f => decide (f.ecc.length ≤ 6) && decide (f.meets.length ≤ 12)
  | .glacierHeadLate _ => true
  | .glacierLineCopy _ _ => true
  | .glacierTrainingDone _ _ _ _ => true
  | .glacierTrackingFailure => true
  | .glacierRetrainDone _ => true
  | .glacierRefreshReport => true
  | .glcStrWr _ => true
  | .glcStrRd _ => true
  | .glcStrCap _ => true
  | .glcEaddrClr => true
  | .eventPinChange _ _ _ => true
  | .evcClaimRead _ => true
  | .evcEoi _ _ => true
  | .evcRaise _ => true
  | .evcSrcEnWrite _ _ => true
  | .evcSrcMaskWrite _ _ => true
  | .evcSrcSenseWrite _ _ => true
  | .evcStormClear _ => true
  | .evcCfgSplitWrite _ => true
  | .stormWindow => true
  | .evcPinClr _ => true
  | .mediaPacketReceived _ f _ _ => frameOk f
  | .controlFrameReceived _ _ _ _ _ => true
  | .networkLinkDown _ _ => true
  | .networkLinkUp _ _ => true
  | .alignGroupTimeout _ => true
  | .ptpSync _ m _ _ _ => ptpOk m
  | .ptpAnnounce _ m => ptpOk m
  | .announceReceiptTimeout _ => true
  | .aes3FrameReceived _ a b _ _ _ => subOk a && subOk b
  | .aes3NoSignal _ => true
  | .asrcRatioLock _ _ _ => true
  | .aes3FrameStart _ _ => true
  | .zeroCrossingTimeout _ _ => true
  | .aesTxGainWrite _ _ _ => true
  | .aesTxMuteWrite _ _ => true
  | .aesTxCsCommit _ => true
  | .aesRxCsLatch _ => true
  | .aesRxCtlClr _ => true
  | .tdmFrameStart _ => true
  | .tdmFrameSync _ _ => true
  | .tdmFrameReceived _ words clocks _ _ => decide (words.length * 32 ≤ clocks)
  | .tdmSyncLoss _ => true
  | .tdmRxmaskWrite _ _ _ => true
  | .tdmTxmaskWrite _ _ _ => true
  | .tdmCtlClr _ => true
  | .synthLock _ _ => true
  | .synthLockLoss _ _ _ => true
  | .bandSearchDone _ _ => true
  | .synRampGo _ => true
  | .synRampStop => true
  | .synPhaseAdd _ => true
  | .alignerLock _ => true
  | .alignerLoss _ => true
  | .mtrSnapGo _ => true
  | .mtrIdxWrite _ _ => true
  | .hisClr => true
  | .hisFrz => true
  | .hisRun => true
  | .temperatureSample sens _ _ => sens.length == 17
  | .thermRelease => true
  | .thermalTrip => true
  | .pwrTempClr => true
  | .crcStart _ _ => true
  | .crcFin _ _ => true
  | .crcDin8 _ _ _ => true
  | .crcDin16 _ _ _ => true
  | .crcDin32 _ _ _ => true
  | .crcFeedWrite _ _ _ => true
  | .crcDone _ => true
  | .powerGood => true
  | .powerOnReset => true
  | .brownOut _ => true
  | .warmReset => true
  | .verificationPass _ => true
  | .verificationFail => true
  | .bootReady _ => true
  | .watchdogExpiry _ _ _ _ => true
  | .takeoverCopyDone _ _ => true
  | .slotSelfTestDone _ _ _ => true
  | .scrubRead mem unit word _ _ _ => scrubOk mem unit word
  | .fltLogPop => true
  | .reg64LowerRead _ a => halfOk a
  | .reg64UpperRead _ a => halfOk a
  | .reg64LowerWrite _ a _ => halfOk a
  | .reg64UpperWrite _ a _ => halfOk a
  | .registerWrite _ a _ _ f => factsOk f && ctlOk a
  | .rcRegisterRead _ a _ => ctlOk a
  | .aes3TransitionsAppear _ => true
  | .ptpFollowUp _ m _ _ => ptpOk m
  | .ptpDelayResp _ m _ => ptpOk m
  | .ptpDelayReq _ m _ _ => ptpOk m
  | .ptpDelayReqInterval _ _ => true
  | .ptpSyncInterval _ _ => true
  | .ptpAnnounceInterval _ => true
  | .referenceLockTimeout => true
  | .crystalStable _ _ => true
  | .coreRestartDone _ => true
  | .slotClearingDone _ _ => true
  | .thermalTripRelease => true

end Sys2Proof
end

