-- ==== Sys2Proof/Tests/Slice0.lean ====
section
/-! SUPPORT. Tests: operands the well-formedness check refuses, values the spec works out, and for each statement with hypotheses a
state and operands that meet them. -/

namespace Sys2Proof.Tests

open Sys2Proof.Machine

/-- Registers set to values. -/
def setRegs (s : State) (l : List (Nat × Nat)) : State := l.foldl (fun s e => rset s e.1 (BitVec.ofNat 32 e.2)) s
/-- Out of power-on reset. -/
def up : State := { State.reset with boot := { held := false } }
/-- Slot 0 runs logical cell 0 in the base-rate domain; its sample program has the cell. -/
def sampling : State := setRegs
  { up with cells := [(0, { sample := true, cyc := 100 })], mem := { page := [(0, { present := true, phase := 100, len := 50 })] } }
  [(0x100200, 1), (0x20000C, 0xFFFFFFFC), (0x100000, 0x80000000)]
/-- The same slot with its block task running, before φ. -/
def blocking : State := setRegs
  { up with cells := [(0, { cyc := 30 })], mem := { page := [(0, { present := true, phase := 100, len := 50 })] } }
  [(0x100200, 1), (0x20000C, 0xFFFFFFFC), (0x100000, 0x80000000), (0x100C00, 1)]
/-- An open lane table of cluster 0: lane 0 local, driven by logical index 0; lane 1 by index 1; lane 2 launches one word into chain 5;
lane 3 is a bridge lane, lane 4 a Wellhead lane of one word. -/
def table : SlotTable := { desc := [(0, 0x1000000000000000), (1, 0x1020000000000000), (2, 0x4000000000000001), (3, 0x6000000000000000),
  (4, 0x7000000000000001)], chain := [(0, 5)], bridge := [(0, 0x80030000)] }
/-- The cell of `s` in slot 0, replaced. -/
def withCell (s : State) (c : Cell) : State := { s with cells := [(0, c)] }
/-- A state whose running cell uses the lane table. -/
def wired : State := { sampling with ex := { live := [(0, some table)], chains := [(5, 0x0000200000000000)] } }
/-- An outstanding command of agent 0 with handle 0x0100. -/
def cmd (opc arg flags : Nat) (started : Bool) : CmdOp := { agent := 0, handle := 0x0100, opc := opc, arg := arg, flags := flags, started := started }
/-- The state with one outstanding command. -/
def asked (s : State) (o : CmdOp) : State := { s with host := { s.host with ops := [o] } }

/-! ### Ill-formed operands are refused by the check -/

theorem test_wf_mac_mode : (Instr.mpy 0 0 1 6 0 0 false 0 .ok false).wf = false ∧ (Instr.mac 0 0 1 7 0 0 false 0 .ok false).wf = false ∧
    (Instr.msu 0 0 1 6 0 0 false 0 .ok false).wf = false ∧ (Instr.mac 0 0 1 5 0 0 false 0 .ok false).wf = true := by decide
theorem test_wf_addressing_mode : (Instr.lds 0 0 1 0 0 6 .ok).wf = false ∧ (Instr.ldsH 0 0 1 0 0 7 .ok).wf = false ∧
    (Instr.ldsL 0 0 1 0 0 6 .ok).wf = false ∧ (Instr.ldk 0 0 1 0 0 6 .ok).wf = false ∧ (Instr.ldkH 0 0 1 0 0 6 .ok).wf = false ∧
    (Instr.ldkL 0 0 1 0 0 6 .ok).wf = false ∧ (Instr.ldc 0 0 1 0 0 6 0 .ok false).wf = false ∧ (Instr.ldcH 0 0 1 0 0 6 0 .ok false).wf = false ∧
    (Instr.ldcL 0 0 1 0 0 7 0 .ok false).wf = false ∧ (Instr.pmod 0 0 1 0 0).wf = false ∧ (Instr.pmod 0 0 1 0 4).wf = true := by decide
theorem test_wf_register_moves : (Instr.movs 0 0 1 false 3 4 0).wf = false ∧ (Instr.movs 0 0 1 true 6 0 0).wf = false ∧
    (Instr.setp 0 0 1 3 0 0).wf = false ∧ (Instr.setp 0 0 1 2 0 64).wf = false ∧ (Instr.setp 0 0 1 2 0 63).wf = true := by decide
theorem test_wf_shift : (Instr.shf 0 0 1 0 (-64) 2).wf = false ∧ (Instr.shf 0 0 1 0 7 2).wf = false ∧ (Instr.shf 0 0 1 0 1 3).wf = false ∧
    (Instr.shf 0 0 1 0 (-64) 0).wf = true := by decide
/-- A source that does not exist, a pair in a half-word format, a reserved register-destination bit, a mode 6, an extension word that
does not belong. -/
theorem test_wf_store : storeOk 0 0 48 0 none = false ∧ storeOk 0 0 44 0 none = false ∧ storeOk 3 0 0 2 none = false ∧ storeOk 0 0 0 24 none = false ∧
    storeOk 0 0 0 0 (some 0) = false ∧ storeOk 0 0 32 0x044 none = true := by decide
theorem test_wf_flag_masks : (Instr.stset 0 0 1 8).wf = false ∧ (Instr.stclr 0 0 1 8).wf = false ∧ (Instr.stset 0 0 1 4).wf = true := by decide
theorem test_wf_lists : (Instr.tickBoundary 0 ⟨[3, 3], []⟩).wf = false ∧ (Instr.wellheadTap 0 0 false .ok ⟨[.ok, .ok, .ok, .ok, .ok], []⟩).wf = false ∧
    (Instr.wellheadTap 0 0 false .ok ⟨[], List.replicate 5 false⟩).wf = false ∧ (Instr.glacierGrainWrite ⟨0, List.replicate 13 {}⟩).wf = false ∧
    (Instr.glacierGrainRead 0 ⟨List.replicate 7 .ok, []⟩).wf = false ∧ (Instr.glacierGrainRead 0 ⟨[], List.replicate 13 .none⟩).wf = false ∧
    (Instr.commandEntryRead 0 []).wf = false ∧ (Instr.pumpDescriptorFetched 0 []).wf = false ∧ (Instr.temperatureSample [] 0 0).wf = false ∧
    (Instr.tdmFrameReceived 0 [0] 31 false []).wf = false := by decide
theorem test_wf_bar2 : bar2Ok 0x3FFFFF 2 = false ∧ bar2Ok 0 4097 = false ∧ bar2Ok 0x3FF000 4096 = true := by decide
theorem test_wf_network : peerOk {} = false ∧ peerOk { port := 2, addr := List.replicate 16 0 } = false ∧ frameOk { vid := some 4096 } = false ∧
    frameOk { dport := 65536 } = false ∧ ptpOk { domain := 256 } = false ∧ subOk { pre := 4 } = false ∧ frameOk { vid := some 4095 } = true := by decide
theorem test_wf_register_access : halfOk 2 = false ∧ halfOk 0x2000000 = false ∧ ctlOk 0x2000000 = false ∧ factsOk { cyc := 25600 } = false ∧
    (Instr.registerWrite 8 0x2000000 4 0 {}).wf = false ∧ (Instr.rcRegisterRead 8 0x2000000 4).wf = false ∧ (Instr.regWr 0 0 { ns := 1000000000 }).wf = false ∧
    halfOk 0x1FFFFFC = true := by decide
theorem test_wf_scrub : scrubOk 0 1088 0 = false ∧ scrubOk 0 0 0x3000 = false ∧ scrubOk 1 128 0 = false ∧ scrubOk 2 16 0 = false ∧
    scrubOk 0 1087 0x2FFF = true := by decide

/-! ### Values the spec works out -/

/-- No row of the table has bits, so no word spells a command. -/
theorem test_no_word_spells_a_command : decodeTableWord 0 0 = none ∧ decodeTableWord 72 0x826C7901C210110000 = none := by decide
/-- The instruction that chapter 4 encodes field by field. -/
theorem test_encoding_of_the_biquad_word : decodeWord 0x826C7901C210110000 =
    some [.mac 2 0 1 6 true 17, .store 3 0 32 0x070 none, .store 0 0 32 0x044 none, .nop] := by decide
/-- A computation of the fixed set (R398) over the bytes. -/
def crcOver (sel : Nat) (bs : List Byte) : Option Nat :=
  (crcFixed sel).map (fun (w, poly, init, rf, x) =>
    crcResult (bs.foldl crcByte { width := w, poly := poly, acc := init, refin := rf, refout := rf, xorout := x }))
/-- The ASCII string "123456789". -/
def nines : List Byte := [0x31, 0x32, 0x33, 0x34, 0x35, 0x36, 0x37, 0x38, 0x39]
/-- The check values of R398. -/
theorem test_crc_check_values : (List.range 5).map (fun k => crcOver k nines) =
    [some 0x97, some 0x29B1, some 0xCBF43926, some 0xE3069283, some 0x6C40DF5F0B497347] := by decide +kernel
/-- The image CRC (R196) is CRC-32C: its check value is that of R398's code 3. -/
theorem test_image_crc_check_value : crc32c nines = 0xE3069283 := by decide +kernel
/-- A word sent by cluster 15 to cluster 0 makes one hop, and to cluster 7 eight (R19, R129). -/
theorem test_ring_hops : ringHops 15 0 = 1 ∧ ringHops 15 7 = 8 ∧ ringHops 0 9 = 7 := by decide

/-- The opera house of chapter 14: SPLIT = 5, AG0 and AG1 awake; `p`: what is pending. -/
def opera (p : Nat → Nat) : State :=
  { State.reset with ctl := [(0x300000, 1), (0x301000, 1), (0x320000, 5), (evSrcA 3, BitVec.ofNat 32 (0x80016002 + p 3)),
    (evSrcA 71, BitVec.ofNat 32 (0x80014002 + p 71)), (evSrcA 81, BitVec.ofNat 32 (0x80016102 + p 81)), (evSrcA 98, BitVec.ofNat 32 (0x80034102 + p 98))] }
/-- PEND of the sources of a list. -/
def pendOf (l : List Nat) (n : Nat) : Nat := if l.contains n then 2 ^ 29 else 0
/-- Steps 1 to 4 and the remark under the table: AG0 claims 3 and is then barred from 81 by group 3; AG1 claims 98; of 71 and 98 AG0
claims 71. -/
theorem test_event_claims_of_the_opera_house :
    (evClaim (opera (pendOf [3, 81])) 0).1 = 3 ∧ (evClaim (evClaim (opera (pendOf [3, 81])) 0).2 0).1 = 0x3FF ∧
    (evClaim (opera (pendOf [81, 98])) 1).1 = 98 ∧ (evClaim (opera (pendOf [71, 81, 98])) 0).1 = 71 := by decide +kernel
/-- The example of chapter 19: two words and a byte, then the result of code 2. -/
theorem test_crc_example_of_a_unit :
    let s := crcStart (setRegs up [(0x420080, 0x08000000), (0x420088, 9)]) 2
    let s := crcDin (crcEat 4 (crcDin (crcEat 4 (crcDin s 2 (leBytes 4 0x34333231)) 2) 2 (leBytes 4 0x38373635)) 2) 2 (leBytes 1 0x39)
    (rget s 0x42008C).toNat = 8 ∧ (rget (crcDone s 2) 0x42009C).toNat = 0xCBF43926 ∧ rfld (crcDone s 2) 0x420084 30 2 = 1 := by decide +kernel

/-! ### Witnesses: a state and operands that meet the hypotheses of each statement -/

/-- Slot 0 is open, and issues an operation of each kind that a sample program and a block task may. -/
theorem witness_open : sampling.open_ (slotKey 0 0) 1 ∧ blocking.open_ (slotKey 0 0) 1 := by unfold State.open_; decide
theorem witness_fits : ([.mov 0 1, .swaph 0 1, .clra 0, .mva 0 1, .mvah 0 1, .mval 0 1, .cmp 0 1 2 3, .cmov 0 1 3 true, .cmov 0 1 3 false, .shf 0 1 0, .mac 1 5 3 31 true 31, .mac 2 0 0 0 false 0,
    .mac 3 0 0 0 false 0, .load 0 0 0 0 0, .load 0 1 0 0 0, .load 0 2 0 0 0, .load 1 0 0 0 0, .load 1 1 0 0 0, .load 1 2 0 0 0, .load 2 0 0 0 0, .load 2 1 0 0 0,
    .load 2 2 0 0 0, .setp 0 0 0, .padd 0 0, .pmod 0 3, .movs true 5 0 0, .movs false 5 0 0, .ldpt 0, .stpt 0, .stset 7, .stclr 7, .bxclr, .rep 0 1 3, .xrd 0 0, .xra 0 0] :
    List CellOp).all (opFits (cellNow sampling 0 1)) = true ∧ ([.yend, .bwait, .br 1, .brt 0 1, .brf 0 1, .jmp 5, .jmpp 0] : List CellOp).all (opFits (cellNow blocking 0 1)) = true ∧
    ([.xrd 0 0, .end_] : List CellOp).all (fun o => !opFits (cellNow blocking 0 1) o) = true := by decide
/-- The last cycles in which a sample program and a block task can issue (R42, R107). -/
theorem witness_open_last : (withCell sampling { sample := true, cyc := 25534 }).open_ (slotKey 0 0) 1 ∧
    (withCell blocking { cyc := 74 }).open_ (slotKey 0 0) 1 ∧ ¬ (withCell blocking { cyc := 75 }).open_ (slotKey 0 0) 1 := by unfold State.open_; decide
theorem witness_CellLoadsFly : Ecc.single ≠ .double ∧ sampling.open_ (slotKey 0 0) 1 ∧ amAddr 0 (0 : BitVec 6) 7 0 = some (7, none) := by unfold State.open_; decide
/-- An instruction that reads D0 twice over the same field is not legal: the second operation voids it. -/
theorem witness_CellStatusLoopsAndNop : sampling.open_ (slotKey 0 0) 1 ∧ opFits (cellNow sampling 0 1) .yend = false ∧ (cellNow sampling 0 1).stale = [] ∧
    sampling.mem.stale = [] := by unfold State.open_; decide
/-- Cistern 0 belongs to the fabric. -/
def owned : State := setRegs sampling [(cisOwnerA 0, 0)]
theorem witness_CellCisternLoadsFly : owned.open_ (slotKey 0 0) 1 ∧ amAddr 0 (0 : BitVec 6) 7 0 = some (7, none) ∧ cisOwner owned 0 ≤ 4 ∧
    (cellNow owned 0 1).sample = true ∧ opFits (cellNow owned 0 1) (.load 2 0 0 0 0) = true := by
  unfold State.open_; decide
/-- A block task's last cycle before φ − 24, where its load still wins, and one cycle lost withdraws it (R108). -/
theorem witness_CellCisternLoadsFly_withdrawn : let s := withCell (setRegs blocking [(cisOwnerA 0, 0)]) { cyc := 74 }
    s.open_ (slotKey 0 0) 1 ∧ (cellNow s 0 1).sample = false ∧ (cellNow s 0 1).half ≠ 1 ∧
    grantCycle s 0 false ((cellNow s 0 1).cyc + 1) ≤ withdrawAfter (onCell s 0 (tickCell 1)) 0 ∧
    withdrawAfter (onCell s 0 (tickCell 1)) 0 < grantCycle s 0 false ((cellNow s 0 1).cyc + 1 + 1) ∧ cisOwner s 0 ≤ 4 ∧
    opFits (cellNow s 0 1) (.load 2 0 0 0 0) = true ∧ (cellNow s 0 1).stale = [] ∧ s.mem.stale = [] := by unfold State.open_; decide
theorem witness_CellPointersFly : sampling.open_ (slotKey 0 0) 1 ∧ (cellNow sampling 0 1).stale = [] := by unfold State.open_; decide
theorem witness_ShiftFunctionValues : (-63 : Int) ≤ -63 ∧ (-63 : Int) ≤ 6 ∧ (6 : Int) ≤ 6 := by decide
theorem witness_ResultsLand : ({} : Cell).flight = [] ∧ 1 ≤ 1 := by decide
theorem witness_CellContributesToChain : wired.issues (slotKey 0 0) 1 (.xred 0 2) ∧ wired.issues (slotKey 0 0) 1 (.xred 0 1) ∧ (cellNow wired 0 1).cyc + 6 ≤ chHadd (chainDesc wired 5) ∧ xfRuns wired 0 = false ∧
    ldKind (laneDesc wired 0 2) = 4 ∧ ldDrv (laneDesc wired 0 2) = 0 ∧ (laneAt wired 0 2).sent < ldCnt (laneDesc wired 0 2) ∧
    chainPlace (chainDesc wired 5) 0 = some (0, 0) ∧ domOf wired (chHome (chainDesc wired 5)) = domOf wired 0 ∧
    mget false wired.ex.added (5 * 16 + 0) = false ∧ ¬ (ldKind (laneDesc wired 0 1) = 4 ∧ ldDrv (laneDesc wired 0 1) = 0) := by
  unfold State.issues State.open_; decide
/-- A store of D0, whole, to D1, to the state word of P0, to the cistern word of P0, and to lanes 0 and 1. -/
theorem witness_CellStores : sampling.issues (slotKey 0 0) 1 (.store 3 0 0 0x010 none) ∧ sampling.issues (slotKey 0 0) 1 (.store 0 0 0 0x000 none) ∧
    owned.issues (slotKey 0 0) 1 (.store 1 0 0 0x000 none) ∧ wired.issues (slotKey 0 0) 1 (.store 2 0 0 0x000 none) ∧
    wired.issues (slotKey 0 0) 1 (.store 2 0 0 0x002 none) ∧ storeSource (cellNow sampling 0 1) 0 0 = some ([0], 64) := by
  unfold State.issues State.open_; decide
theorem witness_CellLaneReadsFly : wired.open_ (slotKey 0 0) 1 ∧ opFits (cellNow wired 0 1) (.xrd 0 0) = true ∧ opFits (cellNow wired 0 1) (.xra 0 0) = true := by
  unfold State.open_; decide
theorem witness_CellStoresToState : (0x000 : BitVec 9).getLsbD 0 = false ∧ amAddr 0 (0 : BitVec 6) 0 0 = some (0, none) := by decide
theorem witness_CellStoresToCistern : xfRuns sampling 0 = false ∧ cisOwner owned 0 ≤ 4 ∧ 4 < cisOwner sampling 0 ∧
    (cellNow owned 0 1).sample = true ∧ xfRuns owned 0 = false ∧ owned.mem.stale = [] := by decide
theorem witness_CellSendsOnLane : xfRuns wired 0 = false ∧ wired.mtr.mtr = [] ∧
    ldKind (laneDesc wired 0 0) = 1 ∧ ldDrv (laneDesc wired 0 0) = logicalOf wired 0 % 64 ∧ ldDrv (laneDesc wired 0 1) ≠ logicalOf wired 0 % 64 := by decide
theorem witness_CellControlFlow : blocking.open_ (slotKey 0 0) 1 ∧ sampling.issues (slotKey 0 0) 1 .end_ ∧ xfRuns sampling 0 = false ∧
    (cellNow blocking 0 1).bst.getLsbD 4 = false ∧ (cellNow (withCell blocking { cyc := 30, bst := 0x10 }) 0 1).bst.getLsbD 4 = true := by
  unfold State.issues State.open_; decide
theorem witness_CellTaskWaitsAndYields : blocking.open_ (slotKey 0 0) 1 ∧
    (withCell blocking { cyc := 80, half := 1 }).issues (slotKey 0 0) 1 .yend ∧ (withCell blocking { cyc := 200, half := 2, done := true }).issues (slotKey 0 0) 1 .yend := by
  unfold State.issues State.open_; decide
/-- The slot before φ, and after the old program of a crossfade. -/
def crossing : State :=
  { withCell sampling { done := true } with
    cmt := { cells := [(0, { xj := 1 })] }
    mem := { page := [(0, { present := true, phase := 300 }), (1, { present := true, phase := 100, len := 50 })] } }
theorem witness_SampleProgramsBegin : slotState sampling 0 = 1 ∧ domOf sampling 0 ≠ 0 ∧ (mget {} sampling.mem.page (0 + ppage sampling 0)).present = true ∧
    (cellAt (withCell sampling {}) 0).sample = false ∧ (cellAt (withCell sampling {}) 0).done = false ∧ (cellAt (withCell sampling {}) 0).quench = 0 ∧ xfRuns sampling 0 = false ∧
    slotState crossing 0 = 1 ∧ domOf crossing 0 ≠ 0 ∧ (mget {} crossing.mem.page (0 + ppage crossing 0)).present = true ∧
    (cellAt crossing 0).sample = false ∧ (cellAt crossing 0).done = true ∧ (cellAt crossing 0).quench = 0 ∧ xfOld crossing 0 = true := by decide
theorem witness_YieldPoints : xfRuns blocking 0 = false ∧ bstate blocking 0 = 1 ∧ bstate (setRegs blocking [(0x100C00, 2)]) 0 = 2 ∧
    bstate (setRegs blocking [(0x100C00, 4)]) 0 = 4 ∧ bstate sampling 0 = 0 ∧ (cellAt (withCell blocking { half := 1 }) (slotKey 0 0)).half = 1 := by decide
/-- A yielded task after its slot, at the last cycle that leaves it its resume half. -/
def yielded : State := setRegs (withCell sampling { done := true, slotEnd := 25535 }) [(0x100C00, 3)]
theorem witness_BlockTaskResumes : bstate yielded 0 = 3 ∧ (cellAt yielded 0).sample = false ∧ xfRuns yielded 0 = false ∧ slotState yielded 0 = 1 ∧
    (cellAt yielded 0).quench = 0 ∧ (cellAt yielded 0).slotEnd + 64 < cellC yielded 0 := by decide
theorem witness_CellUncorrectableQuenches : sampling.issues (slotKey 0 0) 1 (.load 0 0 0 0 0) ∧ (cellNow sampling 0 1).lender = none ∧ rbit sampling (celErrA 0) 16 = false ∧
    (cellNow sampling 0 1).quench = 0 ∧ (cellNow sampling 0 1).done = false ∧ (cellNow sampling 0 1).cyc + 64 < cellC sampling 0 := by
  unfold State.issues State.open_; decide
/-- The device ticks: nothing bound, cluster 0 at the base rate. -/
def idle : State := { up with quarter := 3 }
theorem witness_TickBoundaries : (up.boot.held = false ∧ (1 : Fin 4) ≠ 0 ∧ up.quarter + 1 = 1 ∧ (∀ c, c < 16 → domOf up c < 4) ∧ up.port.chg = [] ∧
    fltOpen up 9 0x6000 = false ∧ fltOpen up 9 0x6001 = false) ∧ State.reset.boot.held = true ∧
    (idle.quarter = 3 ∧ (∀ c, c < 16 → domOf idle c = 0) ∧ latchedGroups idle = [] ∧ idle.cmt.start = none ∧ idle.cmt.clearAt = none ∧ idle.ex.live = [] ∧
    idle.port.live = [] ∧ idle.net.flow = [] ∧ idle.net.alg = [] ∧ snapshotDue idle (idle.btc + 1) = false ∧ idle.clk.recs = [] ∧ idle.clk.hop = none ∧
    idle.clk.gate = none ∧ idle.clk.trk = none ∧ idle.clk.moving = false ∧ rbit idle 0x3A0114 29 = false ∧ idle.pwr.down = [] ∧ idle.port.chg = [] ∧ idle.bnd = [] ∧ fltOpen idle 9 0x6000 = false ∧
     fltOpen idle 9 0x6001 = false) ∧ (mget 0 { idle with pwr := { step := [(15, 3)] } }.pwr.step 15 = 3) := by decide
/-- Group 0 holds no member and asks for each trigger; group 1 is armed for base tick 5, due at its deadline at 3. -/
def grouped (g : Group) : State := { up with btc := 3, cmt := { groups := [(0, g)], live := true } }
theorem witness_GroupArmAnswers : (groupOf (grouped { trig := 1, ta := 6 }) 0).state = 0 ∧ (grouped {}).cmt.clearAt = none ∧
    (grouped {}).host.ops.all (fun o => o.opc != 0x11) = true ∧ (groupOf (grouped { trig := 3 }) 0).trig = 3 ∧
    groupBusy (grouped { trig := 1 }) 0 = false ∧ ¬ (groupOf (grouped { state := 1 }) 0).state = 0 ∧ mapValid (grouped { trig := 2 }) = false ∧
    groupBusy (setRegs (grouped { mem := [0x30000] }) [(welLdA 0 + 8, 2 ^ 30)]) 0 = true := by decide
theorem witness_GroupValidatesAndEnds : (grouped {}).host.ops = [] ∧ (groupOf (grouped { state := 1, trig := 1, rbtc := 5 }) 0).state = 1 ∧
    (grouped { rbtc := 5 }).btc.toNat + 2 = 5 ∧ (groupOf (grouped { state := 2, rbtc := 5 }) 0).state = 2 ∧
    (claims (grouped { state := 2, rbtc := 5 }) 0).all (memberReady (grouped { state := 2, rbtc := 5 })) = true ∧ rfld (grouped {}) 0x200100 0 8 = 0 ∧
    (grouped {}).cmt.recs.length < 32 := by decide
theorem witness_MemberListsChange : (groupOf (grouped {}) 0).state = 0 ∧ memberValid (grouped {}) 0x1_0000 = false ∧ memberValid sampling 0x1_0000 = true ∧
    (groupOf (grouped { mem := [7] }) 0).mem.contains 7 = true := by decide
/-- Logical cell 0 on slot 0 with its coefficient page being resynchronised. -/
def syncing : State := { sampling with cmt := { cells := [(0, { rsK := true })], live := true } }
theorem witness_GlidesAndResync : memberRefused sampling (memCell 0) (fun _ => false) = none ∧ (cmtCell syncing 0).rsK = true ∧ (cmtCell syncing 0).rsP = false ∧
    (cellAt syncing (mapSlot syncing 0)).lender = none ∧ kpage syncing (mapSlot syncing 0) ≤ 1 ∧ (0x7FF : Nat) < 0x800 := by decide
theorem witness_GlidesAndResync_wf : syncing.memWf := by unfold State.memWf; decide
/-- Chain 5 at home stop 0 with one hop on its up arm; lane 0 of cluster 0 delivers it. All clusters at the base rate. -/
def chained : State := { setRegs up [(0x20000C, 0)] with ex := { chains := [(5, 0x0100010000000000)],
                                                                 live := [(0, some { desc := [(0, 0x5000000000000001)], chain := [(0, 5)] })] } }
theorem witness_ChainStopsAdd : chainPlace (chainDesc chained 5) 15 = some (0, 1) ∧ chainPlace (chainDesc chained 5) 0 = some (0, 0) ∧
    domOf chained (chHome (chainDesc chained 5)) = domOf chained 15 ∧ sfits 144 (0 + (stopAdds chained 5 15).toInt) = true ∧
    sfits 144 ((mget 0 chained.ex.part 10).toInt + (mget 0 chained.ex.part 11).toInt) = true ∧ deliveryLanes chained 0 5 = [0] ∧
    chained.mtr.mtr = [] := by decide
theorem witness_BridgeDrivesLane : wired.mtr.mtr = [] ∧ bitOf (bridgeEntry wired 0 0) 31 = true ∧
    ldKind (laneDesc wired 0 (fld (bridgeEntry wired 0 0) 16 8)) = 6 ∧ bitOf (bridgeEntry wired 0 1) 31 = false := by decide
/-- A Wellhead with one line of 16 words, one write of it outstanding, and taps at the least and the greatest delay on it. -/
def welled : State :=
  { setRegs up [(0x20000C, 0xFFFFFFFC), (welStatA 0, 1), (cisOwnerA 0, 1)] with
    wel := { ent := [(0, ⟨0x10000, BitVec.ofNat 72 (2 ^ 71)⟩), (1, ⟨0xD0000, BitVec.ofNat 72 (2 ^ 71)⟩)], line := [(0, 0x84000000)], wcc := [(0, 512)],
             inlet := [(0, 7)], inletWait := [(0, true)] } }
theorem witness_TapAddsToSumLane : welLive welled 0 = true ∧ domOf welled 0 ≠ 0 ∧ (∀ e, e < 2 → teEn (entOf welled 0 e) = true ∧
    teInterp (entOf welled 0 e) = 0 ∧ (tapAdvance {} (entOf welled 0 e)).xf = false ∧ entSlot welled.wel.ent 0 e ≤ wccOf welled 0) ∧
    (tapAdvance {} (entOf welled 0 0)).delay / 2 ^ 40 = 1 ∧ (tapAdvance {} (entOf welled 0 1)).delay / 2 ^ 40 = 2 ^ lnK (lineOf welled 0 0) - 3 ∧
    cisOwner welled (clusterCis 0 (lineWordA (lineOf welled 0 0) (-1))) = 1 ∧ mget false welled.wel.cap 0 = false ∧
    (∀ i ∈ ([0, -1, -2, -3] : List Int).filter (fun i => decide (i < 0)), cisOwner welled (clusterCis 0 (lineWordA (lineOf welled 0 0) i)) = 1) := by decide
theorem witness_WellheadClosesDrivesWrites : welLive welled 0 = true ∧ welled.mtr.mtr = [] ∧ mwf 0 welled.wel.acc = true ∧
    ldKind (laneDesc wired 0 4) = 7 ∧ 0 < ldCnt (laneDesc wired 0 4) ∧ sfits 72 (0 : BitVec 80).toInt = true ∧
    (welled.wel.line.filterMap (fun x => if x.1 / 1024 = 0 ∧ lnEn x.2 ∧ lnWrt x.2 = false ∧ lnBase x.2 = lnBase (lineOf welled 0 0) ∧
      lnK x.2 = lnK (lineOf welled 0 0) then some (x.1, x.2) else none)) = [(0, lineOf welled 0 0)] ∧
    lnEn (lineOf welled 0 0) = true ∧ lnWrt (lineOf welled 0 0) = false ∧ mget false welled.wel.inletWait 0 = true := by decide
/-- The load engine of Wellhead 0 has one entry to copy from two words that cross a cistern's end; both cisterns are powered and PUMP's. -/
def loading : State := setRegs { welled with wel := { welled.wel with ld := [(0, (0xFFFF, 0, 1))] } } [(welLdA 0, 0xFFFF), (welLdA 0 + 4, 0x10000), (welLdA 0 + 8, 2 ^ 30), (cisStatA 0, 2 ^ 30), (cisStatA 1, 2 ^ 30),
  (cisOwnerA 0, 4), (cisOwnerA 1, 6)]
theorem witness_WellheadTablesAccessed : memberRefused loading (memWel 0) (lockEnt 0) = none ∧ memberRefused loading (memWel 0) (lockLine 1023) = none ∧ rbit loading (welLdA 0 + 8) 30 = true ∧
    mget (0, 0, 0) loading.wel.ld 0 = (0xFFFF, 0, 1) ∧ cisDown loading 0 = false ∧ cisDown loading 1 = false ∧
    4 ≤ cisOwner loading 0 ∧ cisOwner loading 1 ≤ 6 ∧ rbit welled (welLdA 0 + 8) 30 = false ∧
    rfld (setRegs welled [(welLdA 0 + 4, 0)]) (welLdA 0 + 4) 16 16 = 0 ∧
    32768 < rfld (setRegs welled [(welLdA 0 + 4, 0x1_7FFF + 0x10000)]) (welLdA 0 + 4) 0 15 + 2 := by decide
theorem witness_HostCommandsFinish : (agSt up 0 ≠ 2 ∧ histTakers up 3 0 = []) ∧ (∀ opc ∈ [0x00, 0x12, 0x13, 0x14, 0x40, 0x71, 0x72, 0x7F], opOf (asked up (cmd opc 4 0 false)) 0 0x0100 opc = some (cmd opc 4 0 false)) ∧
    nbit (cmd 0x12 0 0 false).flags 1 = false ∧ ¬ nbit (cmd 0x12 0 2 false).flags 1 = false := by decide
/-- A key that is wrapped unwraps to a key or to none, so the clauses on wrapped keys cover every command that carries one. -/
theorem witness_HostCommandsFinish_wrapped (kek w : List Byte) : aesUnwrap kek w = none ∨ ∃ k, aesUnwrap kek w = some k := by
  cases aesUnwrap kek w <;> simp
/-- An accepted COMMIT, COMMIT_CANCEL and COMMIT_MEMBER at the states that decide between their clauses. -/
def groupCmd (g : Group) (opc flags : Nat) (started : Bool) : State := asked (grouped g) (cmd opc 0 flags started)
theorem witness_HostCommandsAct : (agSt (grouped {}) 0 ≠ 2 ∧ histTakers (grouped {}) 3 0 = []) ∧ opOf (groupCmd { trig := 1 } 0x20 5 false) 0 0x0100 0x20 = some (cmd 0x20 0 5 false) ∧
    (groupOf (groupArm (setGroup (grouped {}) 0 { trig := 1, ta := 0 }) 0) 0).armr = 2 ∧ (groupOf (groupArm (grouped {}) 0) 0).armr = 0 ∧
    nbit 5 2 = true ∧ nbit 1 2 = false ∧ (groupCmd { state := 2 } 0x21 0 false).host.ops = [cmd 0x21 0 0 false] ∧
    (grouped { state := 3 }).net.joins.length < 2048 ∧ agSt (readsUp 0 1 0x200000 up).2 0 ≠ 2 ∧
    histTakers (readsUp 0 1 0x200000 up).2 3 0 = [] ∧ agSt (writesUp 0 {} [1] 0x321800 (asked up (cmd 0x42 1 0 false))) 0 ≠ 2 ∧
    histTakers (writesUp 0 {} [1] 0x321800 (asked up (cmd 0x42 1 0 false))) 3 0 = [] ∧
    (writesUp 0 {} [1] 0x321800 (asked up (cmd 0x42 1 0 false))).host.ops.contains (cmd 0x42 1 0 false) = true := by decide
/-- An enabled capture stream, and the same with its capture done. -/
def captured (done : Bool) : State := { up with glc := { str := [(0, ⟨0xC0000000, 0, 1, 0, 0⟩)], run := [(0, { done := done })] } }
theorem witness_HostCommandsBegin : (agSt up 0 ≠ 2 ∧ histTakers up 3 0 = []) ∧ (cmd 0x11 0 0 false).started = false ∧ up.cmt.groups = [] ∧ up.load.run = none ∧ up.clk.hop = none ∧
    up.port.live = [] ∧ (cmd 0x50 5 0 false).arg ≤ 5 ∧ (cmd 0x32 (2 ^ 14 + 1087) 0 false).arg = 2 ^ 14 + 1087 ∧
    slotGood (setRegs up [(celGoodA (15 * 68 + 67), 8)]) (15 * 68 + 67) = true ∧
    (runOf (captured false) 0).done = false ∧ sdEn (strOf (captured false) 0) = true ∧ (runOf (captured true) 0).done = true ∧ sdEn (strOf up 0) = false := by
  decide
/-- READY, and agent 0 in a state with rings of 16 entries; one entry is not yet read. -/
def served (v : Nat) : State := setRegs up [(0x440000, 2 ^ 26 + 2 ^ 31), (pageA 0, v), (pageA 0 + 0x18, 4), (pageA 0 + 0x1C, 1), (pageA 0 + 0x30, 4)]
/-- Each command of the catalogue is outstanding, not lost and, where it must be, not started; a stream is DONE, or enabled. -/
theorem witness_HostCommandsComplete : (∀ opc ∈ [0x00, 0x10, 0x11, 0x12, 0x13, 0x14, 0x30, 0x31, 0x32, 0x40, 0x50, 0x51, 0x70, 0x71, 0x72, 0x73, 0x7F],
      opOf (asked up (cmd opc 4 0 false)) 0 0x0100 opc = some (cmd opc 4 0 false)) ∧ (cmd 0x13 4 0 false).lost = false ∧
    nbit (cmd 0x13 4 0 false).flags 1 = false ∧ (4 : Nat) ≠ 0 ∧ (runOf (captured true) 0).done = true ∧ (runOf (captured false) 0).done = false ∧
    sdEn (strOf (captured false) 0) = true ∧ (cmd 0x32 (2 ^ 14 + 1087) 0 false).arg = 2 ^ 14 + 1087 ∧ up.load.run = none ∧ up.clk.hop = none ∧
    (cmd 0x50 4 0 false).arg < 5 ∧ (cmd 0x50 5 0 false).arg = 5 := by decide
/-- A response of 32 bytes to a challenge can be given: the right one is some list of bytes. -/
theorem witness_HostCommandsComplete_response : ∃ r : List Byte, r = hmacSha256 kDbg (up.boot.chal.getD [] ++ leBytes 8 Config.fuseSerial.toNat) := ⟨_, rfl⟩
theorem witness_RegistersAccessed : regHalf 0x200014 = 1 ∧ regServed { up with ctl := [] } 8 0x440060 4 true = true ∧ regHalf 0x440060 = 1 ∧
    regHalf (0x440060 + 4) = 2 ∧ regServed up 0 0x200014 4 true = true ∧ (regRow? (pageA 0 + 0x10)).map (fun r => r.w1c) = some 0 ∧
      (regRow? (pageA 0 + 0x14)).map (fun r => (r.half, r.rw == 0)) = some (2, false) ∧ regServed (served 1) 0 (pageA 0 + 0x10 + 4) 4 false = true ∧
    pairOpen (served 1) false (pageA 0 + 0x10 + 4) = false ∧ pairOpen (served 0) false (pageA 0 + 0x10 + 4) = true ∧ (∀ e, mget none up.latch 0 = some e → e.1 + 4 ≠ 0x200018) ∧
    (regRow? 0x160024).isSome = true ∧ regServed up 0 0x160024 4 false = true ∧ (regRow? 0x160034).isSome = true ∧ (regRow? 0x321FFC).isSome = true ∧
    (regRow? (0x140030 + 0x2000 * 15)).isSome = true ∧ regRow? 0x1FFFFFC = none ∧ pageOf? 0x200000 = none := by decide
/-- A delay stream of one block on cluster 0 with a grain to write and one to read, at base tick `b`. -/
def streaming (b : Nat) : State :=
  { setRegs up [(0x20000C, 0xFFFFFFFC), (0x160000, 3 * 2 ^ 13), (cisStatA 0, 2 ^ 30), (cisOwnerA 0, 1)] with
    btc := BitVec.ofNat 64 b
    glc := { str := [(0, ⟨0xA0000000, 0, 1, 0, 0⟩)], run := [(0, { good := [(0, true)] })], dram := [(0, some { words := List.replicate 6 0 })] } }
theorem witness_GlacierGrainsMove (h : glcChans ≠ 0) : glcState (streaming 12) = 3 ∧ glcState (streaming 35) = 3 ∧
    (sdEn (strOf (streaming 12) 0) = true ∧ sdKind (strOf (streaming 12) 0) = 1 ∧ (runOf (streaming 12) 0).done = false ∧
     domTick (streaming 12) 1 = 12 ∧ domTick (streaming 35) 1 = 35 ∧ sdRbase (strOf (streaming 12) 0) = 0 ∧ (blockOf (streaming 12) 0).blk = 0 ∧
     (blockOf (streaming 12) 0).lap = 0 / sdNb (strOf (streaming 12) 0) % 16 ∧ sdLinev (strOf (streaming 12) 0) = false ∧
     (runOf (streaming 12) 0).t0 + 12 * (runOf (streaming 12) 0).gw + 12 ≤ 12 ∧ 35 ≤ (runOf (streaming 35) 0).t0 + 12 * (runOf (streaming 35) 0).gw + 35 ∧
     (∀ k, k < 12 → cisDown (streaming 12) (clusterCis 0 (sdWbuf (strOf (streaming 12) 0) + k)) = false ∧
       cisTMay (streaming 12) (clusterCis 0 (sdWbuf (strOf (streaming 12) 0) + k)) 7 = true ∧
       cisDown (streaming 12) (clusterCis 0 (sdHbuf (strOf (streaming 12) 0) + k)) = false ∧
       cisTMay (streaming 12) (clusterCis 0 (sdHbuf (strOf (streaming 12) 0) + k)) 7 = true) ∧
     (runOf (streaming 12) 0).hl ≤ (runOf (streaming 12) 0).gr ∧
     mget false (runOf (streaming 0) 0).good 0 = true ∧ sdB (strOf (streaming 0) 0) ≤ (runOf (streaming 0) 0).ix) := by
  refine ⟨?_, ?_, by decide⟩ <;> (unfold glcState; rw [if_neg h]; decide)
/-- The Glacier controller in a state of GLC_STAT. -/
def trained (v : Nat) : State := setRegs up [(0x160000, v * 2 ^ 13)]
theorem witness_GlacierControllerActs (h : glcChans ≠ 0) : (∀ v : Fin 6, glcState (trained v.val) = v.val) ∧ (∀ o ∈ up.host.ops, o.opc ≠ 0x30) ∧
    up.flt.cur = none ∧ up.flt.queue = [] ∧ up.flt.susp = [] ∧ (∀ e ∈ up.flt.openf, e.1 / 65536 = 7 → e.2 = false) ∧
    memberRefused (rput up 0x160020 0 12 0) (memWel 0) (lockStr 0) = none ∧ up.pwr.seen = false ∧
    ({ reuse := true, stored := 6 } : GlcSt).stored ≠ 0 := by
  refine ⟨fun v => ?_, by decide, by decide, by decide, by decide, by decide, by decide, by decide, by decide⟩
  unfold glcState; rw [if_neg h]; revert v; decide
/-- A partial image of 640 bytes for group 0: its header, an ownership section that gives every cistern to CTL, its trailer. -/
def header (full : Bool) : List Byte := [0x46, 0x52, 0x4C, 0x54] ++ leBytes 2 0x0100 ++ leBytes 2 64 ++ leBytes 4 640 ++ leBytes 4 1 ++
  leBytes 4 (if full then 0 else 1) ++ leBytes 4 0x9740 ++ leBytes 8 0 ++ leBytes 8 0 ++ List.replicate 24 0
def section2 (c : Nat) : List Byte :=
  [2, 0, 0, 0] ++ leBytes 4 512 ++ leBytes 4 0 ++ leBytes 4 c ++ (List.range 128).flatMap (fun _ => leBytes 4 5)
/-- A load run of agent 0 in a phase, with what it has taken. -/
def runAt (phase secs : Nat) (full : Bool) (taken : List Byte) : LoadRun :=
  { agent := 0, handle := 0x0100, len := 640, stag := 127, phase := phase, bytes := taken, full := full, nsec := 1, secs := secs, hadDom := true, hadOwn := true }
def loadingImage (r : LoadRun) : State :=
  { asked (setRegs up [(cisStatA 127, 2 ^ 30)]) (cmd 0x10 127 0 true) with load := { run := some r }, cmt := { live := !r.full } }
theorem witness_ImageChecksAnswer_header : let s := loadingImage (runAt 0 0 false [])
    s.load.run = some (runAt 0 0 false []) ∧ opOf s 0 0x0100 0x10 = some (cmd 0x10 127 0 true) ∧ agSt s 0 ≠ 2 ∧ histTakers s 3 0 = [] ∧ (runAt 0 0 false []).undo = {} ∧
    (runAt 0 0 false []).written = [] ∧
    slice (header false) 0 4 = [0x46, 0x52, 0x4C, 0x54] ∧ leAt (header false) 8 4 = 640 ∧ nbit (leAt (header false) 0x10 4) 0 = true ∧
    cisDown s 127 = false ∧ cisOwner s 127 = 5 ∧ s.cmt.live = true ∧ (groupOf s 0).state = 0 ∧ slice (header false) 0x2A 22 = List.replicate 22 0 := by decide
theorem witness_ImageChecksAnswer_section : (section2 0).length = 528 ∧ leAt (section2 0) 4 4 = 512 ∧ leAt (section2 0) 0 1 = 2 ∧
    powerWaits (loadingImage (runAt 1 0 true (header true))) (runAt 1 0 true (header true)) = false ∧
    stageRefused (loadingImage (runAt 1 0 true (header true))) (runAt 1 0 true (header true)) = false ∧
    64 + 528 ≤ trailerAt (runAt 1 0 true (header true)) := by decide +kernel
theorem witness_ImageChecksAnswer_owners : ∀ k, k < 128 → leAt (section2 0) (17 + 4 * k) 3 = 0 ∧ leAt (section2 0) (16 + 4 * k) 1 ≤ 6 := by
  decide +kernel
/-- The CRC stays in 32 bits, so a section and a trailer can carry the one of any bytes. -/
theorem crcBitR_lt (n r : Nat) (h : r < 2 ^ 32) : crcBitR 0x82F63B78 n r < 2 ^ 32 := by
  induction n generalizing r with
  | zero => exact h
  | succ n ih =>
    unfold crcBitR
    apply ih
    split
    · exact Nat.xor_lt_two_pow (by omega) (by norm_num)
    · omega
theorem crc32c_lt (bs : List Byte) : crc32c bs < 2 ^ 32 := by
  unfold crc32c
  refine Nat.xor_lt_two_pow ?_ (by norm_num)
  generalize hr : (0xFFFFFFFF : Nat) = r
  have h : r < 2 ^ 32 := by omega
  clear hr
  induction bs generalizing r with
  | nil => exact h
  | cons b t ih =>
    refine ih _ (crcBitR_lt _ _ (Nat.xor_lt_two_pow h ?_))
    have := b.isLt
    omega
theorem leAt_leBytes (c : Nat) (h : c < 2 ^ 32) : leAt (leBytes 4 c) 0 4 = c := by
  simp [leAt, leNat, leBytes, slice]
  omega
theorem witness_ImageChecksAnswer_crc (c : Nat) : (section2 c).take 12 ++ (section2 c).drop 16 = (section2 0).take 12 ++ (section2 0).drop 16 ∧
    leAt (section2 c) 12 4 = leAt (leBytes 4 c) 0 4 := ⟨rfl, rfl⟩
theorem witness_CisternsOwnedAndCleared : rbit (setRegs up [(0x180A00, 1)]) 0x180A00 0 = true ∧ rbit (setRegs up [(0x180A00, 0)]) 0x180A00 0 = false ∧ fld (7 : W32) 0 4 > 6 ∧
    rbit up (cisStatA 0) 30 = false ∧ cisOwner up 0 = 5 ∧ bitOf (2 : W32) 23 = false ∧ (∀ v ∈ [1, 2], pwrStep { up with pwr := { step := [(15, v)], queue := [15] } } 15 = v) ∧
    ({ up with pwr := { step := [(15, 1)], queue := [15] } } : State).pwr.queue.head? = some 15 ∧
    slotState (setRegs up [(celSlotA 1087, 4)]) 1087 = 4 ∧ slotState up 1087 ≠ 4 := by decide
/-- Descriptors of one element: host memory at `addr` to cistern word `y`; a link to `addr`; one not owned. -/
def desc (addr y land : Nat) : List Byte := leBytes 8 addr ++ leBytes 8 (2 ^ 60 + y) ++ leBytes 4 1 ++ leBytes 4 (9 + land * 2 ^ 11) ++ leBytes 4 0 ++ leBytes 4 (2 ^ 31)
def linkTo (addr : Nat) : List Byte := leBytes 8 addr ++ List.replicate 20 0 ++ leBytes 4 (2 ^ 31 + 2 ^ 30)
/-- Pump channel `n` in a state, with its work. -/
def pumping (n v : Nat) (p : PumpCh) : State :=
  { setRegs up [(pmpA n + 4, v * 2 ^ 29), (cisOwnerA 0, 4), (cisStatA 0, 2 ^ 30)] with pump := [(n, p)] }
theorem witness_PumpsWork : (∀ v : Fin 6, pmpState (pumping 0 v.val {}) 0 = v.val) ∧ rbit (pumping 0 0 {}) (pmpA 0 + 4) 28 = false ∧
    fltOpen (pumping 0 0 {}) 10 0x7000 = false ∧ (pumpOf (pumping 0 1 { fetch := true }) 0).fetch = true ∧ rbit (setRegs up [(pmpA 0, 2 ^ 29)]) (pmpA 0) 29 = true ∧
    rbit up (pmpA 0) 29 = false ∧ nbit (leAt (List.replicate 32 0) 28 4) 31 = false ∧ (desc 64 7 0).length = 32 ∧ nbit (leAt (desc 64 7 0) 28 4) 31 = true ∧
    nbit (leAt (desc 64 7 0) 28 4) 30 = false ∧ dsValid (desc 64 7 0) = true ∧ nbit (leAt (linkTo 32) 28 4) 30 = true ∧ dsSp (linkTo 32) 0 = 0 ∧
    dsAddr (linkTo 32) 0 % 32 = 0 ∧ leAt (linkTo 32) 8 20 = 0 ∧ rfld (pumping 0 1 {}) (pmpA 0 + 4) 20 5 < 16 ∧
    (∀ m, m < 64 → pmpReady (pumping 0 2 { desc := desc 64 7 0 }) m = true → m = 0) ∧ pmpReady (pumping 0 2 { desc := desc 64 7 0 }) 0 = true ∧
    (pumpOf (pumping 0 0 { fl := true }) 0).fl = true ∧ (pumpOf (pumping 0 0 { fl := true }) 0).enWait = false := by decide
theorem witness_PumpsWork_data : dsSp (desc 64 7 1) 0 = 0 ∧ dsSp (desc 64 7 1) 8 = 1 ∧ dsSfmt (desc 64 7 1) = 9 ∧ dsDfmt (desc 64 7 1) = 0 ∧ dsCount (desc 64 7 1) = 1 ∧
    dsHcirc (desc 64 7 1) = 0 ∧ dsSwp (desc 64 7 1) = 0 ∧ dsAddr (desc 64 7 1) 0 % 8 = 0 ∧ dsAddr (desc 64 7 1) 8 = 7 ∧ dsLand (desc 64 7 1) = true ∧
    dsLand (desc 64 7 0) = false ∧ dsIrq (desc 64 7 1) = false ∧ cisDown (pumping 0 2 {}) 0 = false ∧ cisOwner (pumping 0 2 {}) 0 = 4 ∧ up.mtr.hist = [] ∧
    dsAddr (desc 64 0x7FFFFF 0) 8 = 0x7FFFFF ∧ cisOwner (setRegs (pumping 63 2 {}) [(cisOwnerA 0, 5)]) 0 = 5 ∧ rbit (setRegs up [(pmpA 0 + 4, 2 ^ 25)]) (pmpA 0 + 4) 25 = true := by decide
theorem witness_ImageChecksAnswer_trailer : (runAt 2 1 true (header true)).secs = (runAt 2 1 true (header true)).nsec ∧
    (runAt 2 1 true (header true)).hadDom = true ∧ leAt (slice (List.replicate 8 0) 0 8) 4 4 = 0 ∧ crc32c (header true) ≠ leAt (List.replicate 8 0) 0 4 ∧
    ({ runAt 0 0 false [] with net := true } : LoadRun).net = true := by decide +kernel
/-- A NOP and an unknown opcode as command entries. -/
def entry (opc : Nat) : List Byte := leBytes 8 opc ++ List.replicate 56 0
theorem witness_AgentRingsWork : (∀ v : Fin 4, pageOpen (served v.val) 0 = true ∧ agSt (served v.val) 0 = v.val) ∧
    (3 : BitVec 12).toNat ≠ rfld (served 1) (pageA 0 + 0x20) 0 12 ∧ 2 ^ rfld (served 1) (pageA 0 + 0x18) 0 4 = 16 ∧ (16 ≤ (16 : BitVec 12).toNat) ∧
    rfld (served 1) (pageA 0 + 0x1C) 0 12 ≠ rfld (served 1) (pageA 0 + 0x20) 0 12 ∧ (entry 0).length = 64 ∧ accCode (served 1) 0 (entry 0) = 0 ∧
    accCode (served 1) 0 (entry 0xFE) ≠ 0 ∧ leAt (entry 0) 0 1 ≠ 0x10 ∧ (served 1).host.ops = [] ∧
    ({ served 1 with host := { fin := [{}] } } : State).host.fin.find? (fun c => c.agent == 0) = some {} ∧ ringHeld (served 1) 0 < 15 ∧
    0 < mget 0 ({ served 1 with host := { unsig := [(0, 1)] } } : State).host.unsig 0 ∧ (served 0).host.fin.find? (fun c => c.agent == 0) = none ∧
    ¬ 4 ≤ rfld (setRegs (served 0) [(pageA 0 + 0x18, 3)]) (pageA 0 + 0x18) 0 4 ∧ evStack (served 1) 0 = [] ∧
    mget false ({ served 2 with host := { wakeDue := [(0, true)] } } : State).host.wakeDue 0 = true ∧
    (served 1).host.msixMask.getLsbD 0 = true ∧ ({ msixMask := 0 } : HostSt).msixMask.getLsbD 0 = false ∧ modCount (served 1) 0 ≤ 1 := by decide
/-- READY, with cistern 0 powered; its owner is BAR2, or CTL. -/
def windowed (own : Nat) : State := setRegs (served 1) [(cisStatA 0, 2 ^ 30), (cisOwnerA 0, own)]
theorem witness_WindowsAndLink : rbit (windowed 6) 0x440000 26 = true ∧ rfld (windowed 6) 0x440000 30 2 ≠ 3 ∧ rfld (windowed 6) (pageA 0 + 0x40) 18 14 = 0 ∧
    cisDown (windowed 6) 0 = false ∧ cisOwner (windowed 6) 0 = 6 ∧ cisOwner (windowed 5) 0 ≠ 6 ∧ cisDown (served 1) 0 = true ∧
    ¬ rbit up 0x440000 26 = true ∧ (windowed 6).host.msixMask = BitVec.allOnes 64 := by decide
/-- A session of agent 4 without a key, its peer, and a datagram of a type with its MAC. -/
def session (s : NsSession) : State :=
  { setRegs (served 1) [(0x440000, 2 ^ 26 + 2 ^ 29 + 2 ^ 31), (netA 0, 2 ^ 31), (netA 0 + 4, 2 ^ 31), (nsA 4, 2 ^ 30 + 2 ^ 28 + 2 ^ 26 + 49740)] with
    host := { ns := [(4, s)] } }
def caller : Peer := { port := 0, addr := List.replicate 16 0, udp := 5, dst := 49740 }
def datagram (typ : Nat) (body : List Byte) : List Byte := nsPayload 4 typ 1 [] body
theorem witness_SessionsWork_command : nsAdmit (session {}) 4 caller (datagram 1 (entry 0)) = true := by decide +kernel
theorem witness_SessionsWork_credit : nsAdmit (session {}) 4 caller (datagram 4 (leBytes 8 (2 ^ 32))) = true := by decide +kernel
theorem witness_SessionsWork_state : nsAdmit (session {}) 4 caller (datagram 5 [2]) = true := by decide +kernel
theorem witness_SessionsWork_data : nsAdmit (session {}) 4 caller (datagram 9 (List.replicate 9 0)) = true := by decide +kernel
theorem witness_SessionsWork : leAt (datagram 1 (entry 0)) 3 1 = 1 ∧ agSt (session {}) 4 = 1 ∧ leAt (entry 0) 48 4 = 0 ∧
    (({ cids := [(0, [])] } : NsSession).cids.find? (fun x => x.1 == 0) = some (0, [])) ∧ leAt (leBytes 8 (2 ^ 32)) 4 4 = 1 ∧ leAt (leBytes 8 (256 * 2 ^ 32)) 4 4 = 256 ∧
    leAt (entry 0 |>.set 48 1) 48 4 = 1 ∧ accCode (session {}) 4 (entry 0 |>.set 48 1) = 0 ∧ accCode (session {}) 4 (entry 0xFE) ≠ 0 ∧
    rfld up (nsA 4) 30 2 = 0 ∧ ¬ rfld (session {}) (nsA 4) 30 2 = 0 ∧ rbit (setRegs (session {}) [(0x308008, 16)]) 0x308008 4 = true ∧
    agSt (setRegs (session {}) [(nsA 4, 2 ^ 30 + 2 ^ 29)]) 4 = 2 ∧
    netUp (session {}) 0 = true ∧ netUp (session {}) 1 = false ∧ nsOpen (session { peerAddr := caller.addr, peerUdp := 5 }) 4 = true ∧
    ({ served 1 with btc := 60 } : State).btc.toNat < 9 + evtGap ∧ ¬ ({ served 1 with btc := 60 } : State).btc.toNat < 8 + evtGap ∧
    caller.dst = rfld (session {}) (nsA 4) 0 16 ∧ ({ caller with dst := 0 } : Peer).dst ≠ rfld (session {}) (nsA 4) 0 16 := by decide +kernel
/-- An event that agent 4 can claim is pending: EVENT is sent again, or waits. -/
theorem witness_SessionsWork_event : let s := setRegs (session {}) [(evSrcA 448, 2 ^ 31 + 2 ^ 29 + 2 ^ 20 + 256)]
    (evPending s).any (evClaimable s 4) = true := by decide +kernel
/-- Source 448 is enabled, unmasked for agent 0 and pending, source 449 less urgent; or agent 0 holds 448 in service. -/
def raised : State := setRegs (served 1) [(evSrcA 448, 2 ^ 31 + 2 ^ 29 + 2 ^ 16 + 256), (evSrcA 449, 2 ^ 31 + 2 ^ 29 + 2 ^ 16 + 512), (evLimA 448, 0)]
/-- The same source, free and unmasked for an awake agent whose vectors the host does not mask. -/
theorem witness_EventControllerWorks_signal : let s := { setRegs (served 1) [(evSrcA 448, 2 ^ 31 + 2 ^ 16 + 256), (evLimA 448, 0)] with host := { msixMask := 0 } }
    s.host.msixMask.getLsbD 1 = false ∧ rbit s (evSrcA 448) 31 = true ∧ rbit s (evSrcA 448) 30 = false ∧ rfld s (evLimA 448) 0 16 = 0 ∧ agSt s 0 = 1 ∧
    nbit (evMask s 448) 0 = true ∧ evStack s 0 = [] ∧ evInsvc s 448 = false ∧ 448 ∉ mget [] s.ev.claimable 0 := by decide
theorem witness_EventControllerWorks : evPend raised 448 = true ∧ evPend up 448 = false ∧ (448 ≤ (448 : BitVec 10).toNat ∧ (511 : BitVec 10).toNat ≤ 511) ∧
    ((447 : BitVec 10).toNat < 448) ∧ ((512 : BitVec 10).toNat > 511) ∧ rbit up (0x320100 + 4 * 15) 16 = false ∧ rfld up (evSrcA 79) 0 3 = 2 ∧
    (448 ∈ evStack ({ served 1 with ev := { stack := [(0, [448])] } } : State) 0) ∧ 448 ∉ evStack up 0 ∧ rbit raised (evSrcA 448) 31 = true ∧
    rbit raised (evSrcA 448) 30 = false ∧ rfld raised (evLimA 448) 0 16 = 0 ∧ evInsvc raised 448 = false ∧ nbit (evMask raised 448) 0 = true ∧
    448 ∉ mget [] raised.ev.claimable 0 := by decide
theorem witness_EventControllerWorks_claim : evClaimable raised 0 448 = true ∧ evClaimable raised 0 449 = true ∧ evPri raised 448 < evPri raised 449 ∧
    evClaimable up 0 448 = false := by decide
/-- A network port that is enabled and has its link, with PTP enabled in domain 0 and the servo in a state. -/
def linked (servo : Nat) (n : NetSt) : State :=
  { setRegs up [(netA 0, 2 ^ 31), (netA 0 + 4, 2 ^ 31), (0x340500, 2 ^ 31), (0x340504, servo * 2 ^ 28)] with net := n }
/-- Flow 0 receives one channel of one L24 sample a packet for cluster 0, into a buffer of 64 samples. -/
def flowRaw : List Byte := [0, 1, 1, 1, 97] ++ List.replicate 19 0 ++ leBytes 4 10 ++ List.replicate 72 0 ++ [6] ++ List.replicate 59 0
def flowing : State :=
  { setRegs (linked 0 {}) (((0x20000C, 0xFFFFFFFC)) :: (List.range 128).flatMap (fun k => [(cisStatA k, 2 ^ 30), (cisOwnerA k, 2)])) with
    port := { live := [(0x1000, { en := true, nch := 1, raw := flowRaw })] }
    net := { flow := [(0, { state := 2 })] } }
/-- A frame for it whose packet has a timestamp, and a body. -/
def packet (ts : Nat) (body : List Byte) : MediaFrame :=
  { dst := List.replicate 16 0, src := List.replicate 16 0, payload := [0x80, 97, 0, 0] ++ beBytes 4 ts ++ [0, 0, 0, 0] ++ body }
theorem witness_NetworkFramesAndLinks_packet : (∀ x ∈ [packet 0 [1, 2, 3], packet 54 [1, 2, 3], packet 0 [1, 2]],
      frameFits flowing 0 (udpFrameLen x.dst x.payload) = true ∧ ∃ r, rtpOf x.payload = some r ∧
      flowing.port.live.filterMap (fun e => if e.1 / 4096 = 1 ∧ flowTakes e.2 0 x r then some (e.1 % 4096) else none) = [0]) ∧
    frameFits flowing 0 (udpFrameLen [] (List.replicate 1500 0)) = false ∧ flowD flowing 0 = -10 ∧
    (let b := portOf flowing 0x1000
     fcPs b = 1 ∧ encBytes (fcEnc b) = 3 ∧ fcJbk b = 6 ∧ rtpIndex b 0 (-10) = 0 ∧ rtpIndex b 54 (-10) = -10 + 64 ∧ fcJbuf b + b.nch * 64 ≤ 0x800000) ∧
    (flowOf flowing 0).state = 2 ∧ (flowOf flowing 0).late + 1 ≤ 65535 := by decide +kernel
theorem witness_NetworkFramesAndLinks_owners : ∀ k, k < 128 → cisDown flowing k = false ∧ cisOwner flowing k = 2 := by decide +kernel
/-- A frame that asks for the address of a port, and one that does not. -/
theorem witness_NetworkFramesAndLinks_control : let s := setRegs (linked 0 {}) [(netA 0 + 0x10, 1)]
    ctlAsks s 0 (List.replicate 6 0xFF ++ List.replicate 6 0 ++ [8, 6] ++ [0, 1, 8, 0, 6, 4, 0, 1] ++ List.replicate 16 0 ++ [0, 0, 0, 1]) = true ∧
    ctlAsks s 0 [] = false ∧ frameFits s 0 46 = true := by decide
theorem witness_NetworkFramesAndLinks : fltOpen (linked 0 {}) 9 0x6000 = false ∧ fltOpen (linked 0 {}) 9 0x6001 = false ∧
    rbit (linked 0 {}) (netA 0) 31 = true ∧ rbit (linked 0 {}) (netA 0 + 4) 31 = true ∧ ¬ rbit up (netA 0) 31 = true ∧
    ({ fcs := false } : MediaFrame).fcs = false ∧ rtpOf [] = none ∧ (rtpOf (0x80 :: List.replicate 15 0)).isSome = true ∧ rbit up 0x340500 31 = false ∧
    rbit (setRegs up [(netA 0, 2 ^ 31)]) (netA 0 + 4) 31 = false := by decide
theorem witness_PrecisionTimeServo : let s := linked 3 { master := some (0, 7), ptp := [(0, { sync := some (1, 7, 0, 0), req := some (1, 0), delay := some 0 })] }
    rbit s 0x340500 31 = true ∧ rbit s (netA 0) 31 = true ∧ rbit s (netA 0 + 4) 31 = true ∧ rfld s 0x340500 16 8 = 0 ∧
    isMapped (mapped4 1) = !rbit s 0x340500 27 ∧ (-7 ≤ (1 : Int) ∧ (1 : Int) ≤ 1) ∧ (-3 ≤ (3 : Int) ∧ (3 : Int) ≤ 3) ∧ s.net.master = some (0, 7) ∧ servo s = 3 ∧
    (mget {} s.net.ptp 0).sync = some (1, 7, 0, 0) ∧ (mget {} s.net.ptp 0).delay ≠ none ∧ s.net.bad < 3 := by decide
theorem witness_PrecisionTimeServo_states : (∀ v : Fin 5, servo (linked v.val {}) = v.val) ∧ (linked 1 { learned := some (0, {}) }).net.learned ≠ none ∧ (linked 1 {}).net.learned = none ∧ (linked 2 {}).net.stepped = false ∧
    ({ good := 15 } : NetSt).good = 15 ∧ refSel (setRegs up [(0x3A0100, 0)]) = 0 ∧ ({} : NetSt).moffSet = false ∧ (mget {} ({ ptp := [(0, { foreign := [{ src := 7, count := 1 }] })] } : NetSt).ptp 0).foreign
      = [{ src := 7, count := 1 }] ∧ rbit (linked 1 {}) 0x340500 30 = false ∧ (linked 1 {}).net.cur = 0 ∧ (linked 1 {}).net.master = none ∧
    ¬ rbit up 0x340500 31 = true ∧ rbit (setRegs up [(0x340500, 2 ^ 28)]) 0x340500 28 = true ∧
    (∀ v : Fin 6, rfld (setRegs up [(0x340504, v.val * 2 ^ 20)]) 0x340504 20 3 = v.val) ∧ rbit (setRegs up [(0x440000, 2 ^ 29)]) 0x440000 29 = true := by decide
/-- AES3 receiver 0 bound on cluster 0 in SYNC mode, in a line state and a port state, its buffers in cistern 0 for the transfer ports. -/
def receiving (line : Nat) (b : PortBind) (r : AesRx) : State :=
  { setRegs up [(0x20000C, 0), (arA 0 + 4, line * 2 ^ 27), (cisStatA 0, 2 ^ 30), (cisOwnerA 0, 3)] with port := { live := [(arP 0, b)] }, ser := { rx := [(0, r)] } }
theorem witness_AesReceiversWork : (portOf (receiving 2 { en := true, nch := 2 } {}) (arP 0)).en = true ∧ (portOf up (arP 0)).en = false ∧
    (∀ v : Fin 3, rfld (receiving v.val { en := true } {}) (arA 0 + 4) 27 2 = v.val) ∧ rbit (receiving 1 { en := true } {}) (arA 0 + 4) 26 = false ∧
    ({ pre := 2, cells := true } : Subframe).pre = 2 ∧ (aesRxOf (receiving 1 { en := true } { good := 7 }) 0).good = 7 ∧ refSel up ≠ 4 ∧
    (aesRxOf (receiving 2 { en := true } { bad := 1 }) 0).bad = 1 := by decide
/-- Receiver 0 live and locked, at the rate of its domain. -/
def hearing : State := setRegs (receiving 2 { en := true, nch := 2, raw := List.replicate 20 0 } {}) [(arA 0 + 4, 2 * 2 ^ 27 + 2 * 2 ^ 29)]
theorem witness_AesReceiversWork_frame : arState hearing 0 = 2 ∧ rfld hearing (arA 0 + 4) 27 2 = 2 ∧ domOf hearing (portOf hearing (arP 0)).cl = 1 ∧
    fbOf hearing = 48000 ∧ hearing.clk.p = 0 ∧ ((4800 * 10 * 256000000000 : Int) - 48000 * 256000000000).natAbs * 1000 ≤ 48000 * 256000000000 ∧
    arAsrc hearing 0 = false ∧ arRaw hearing 0 = false ∧ arConc hearing 0 ≠ 2 ∧ (aesRxOf hearing 0).frames = 0 ∧ (aesRxOf hearing 0).blk = none ∧
    hearing.mtr.mtr = [] ∧ bufHas (portOf hearing (arP 0)).bufin = true ∧
    (∀ ch, ch < 2 → cisDown hearing (bufAddr (portOf hearing (arP 0)) 0 (2 + ch) / 65536) = false ∧
      cisOwner hearing (bufAddr (portOf hearing (arP 0)) 0 (2 + ch) / 65536) = 3) := by decide
/-- The same receiver with the converter. -/
theorem witness_AesReceiversWork_asrc : let s := setRegs (receiving 2 { en := true, raw := [1] } {}) [(arA 0 + 4, 2 * 2 ^ 27 + 2 ^ 26 + 4800)]
    arAsrc s 0 = true ∧ rfld s (arA 0 + 4) 27 2 = 2 ∧ rbit s (arA 0 + 4) 26 = true ∧ (4800 : Int) = rfld s (arA 0 + 4) 0 15 ∧ arRaw s 0 = false ∧
    (aesRxOf s 0).blk = none := by decide
/-- AES3 transmitter 0 bound and running, the gate open. -/
def sending (raw : List Byte) (x : AesTx) : State :=
  { setRegs up [(0x20000C, 0), (0x200008, 0), (0x440000, 2 ^ 29), (atA 0 + 0xC, 2 * 2 ^ 29), (cisStatA 0, 2 ^ 30)] with
    port := { live := [(atP 0, { en := true, nch := 2, raw := raw })] }
    ser := { tx := [(0, x)] } }
theorem witness_AesTransmittersWork : let s := sending [0, 24, 1, 0, 255, 255] {}
    (portOf s (atP 0)).en = true ∧ atRaw (portOf s (atP 0)) = false ∧ safeGated s = false ∧ algOpen s (atP 0) = true ∧ rfld s (atA 0 + 0xC) 29 3 = 2 ∧
    rbit s (atA 0 + 0x14) 30 = false ∧ rbit s 0x440000 29 = true ∧ bufHas (portOf s (atP 0)).bufout = true ∧ (aesTxOf s 0).a.mode = 0 ∧ (portOf up (atP 0)).en = false ∧
    (aesTxOf (sending [0, 24, 1, 0, 255, 255] { a := { mode := 1, n := 0 } }) 0).a.mode = 1 ∧ leAt [0, 24, 1, (0 : Byte), 255, 255] 2 2 ≤ 0 + 1 ∧
    nbit (0 : BitVec 2).toNat 0 ≠ rbit up (atA 0 + 8) 0 ∧
    (∀ k, k < 2 → cisDown s (bufAddr (portOf s (atP 0)) (portOf s (atP 0)).bufout (2 + k) / 65536) = false) := by decide
/-- TDM port 0 bound as a master or a slave of `n` slots of 24 bits, live. -/
def framing (master n : Byte) (x : TdmRun) : State :=
  { setRegs up [(0x20000C, 0), (0x200008, 0), (0x440000, 2 ^ 29), (tdA 0 + 0x10, 2 * 2 ^ 29), (cisStatA 0, 2 ^ 30), (cisOwnerA 0, 3)] with
    port := { live := [(tdP 0, { en := true, nch := n.toNat, raw := [master, n, 24, 0, 255, 255] ++ List.replicate 26 0 })] }
    ser := { tdm := [(0, x)] } }
theorem witness_TdmPortsWork : let s := framing 1 32 { load := true }
    let v := framing 0 2 { lost := true }
    (portOf s (tdP 0)).en = true ∧ rb (portOf s (tdP 0)) 0 = 1 ∧ rb (portOf s (tdP 0)) 1 ≤ 32 ∧ tdConc (portOf s (tdP 0)) ≠ 2 ∧ tdState s 0 = 2 ∧ s.mtr.mtr = [] ∧
    algOpen s (tdP 0) = true ∧ safeGated s = false ∧ bufHas (portOf s (tdP 0)).bufin = true ∧ (tdmOf s 0).load = true ∧ rbit s (tdA 0 + 8) 31 = false ∧
    (∀ k, k < 32 → cisDown s (bufAddr (portOf s (tdP 0)) 0 (32 + k) / 65536) = false ∧ cisOwner s (bufAddr (portOf s (tdP 0)) 0 (32 + k) / 65536) = 3) ∧
    ¬ rb (portOf v (tdP 0)) 0 = 1 ∧ (tdmOf v 0).lost = true ∧ (tdmOf (framing 0 2 {}) 0).lost = false ∧ 63 ≠ rb (portOf v (tdP 0)) 1 * 32 ∧
    (∀ k, k < 32 → cisDown s (bufAddr (portOf s (tdP 0)) (portOf s (tdP 0)).bufout (32 + k) / 65536) = false) ∧ bufHas (portOf s (tdP 0)).bufout = true ∧
    rbit (setRegs v [(tdA 0 + 0xC, 2 ^ 31)]) (tdA 0 + 0xC) 31 = true ∧ ({ txLate := true } : TdmRun).txLate = true := by decide
/-- Synthesizer 0 the root in a state, synthesizer 1 the standby, the reference in a state and of a kind. -/
def clocked (s0 s1 role1 ref rst : Nat) : State :=
  setRegs up [(synA 0, s0 * 2 ^ 29 + 2 ^ 27), (synA 1, s1 * 2 ^ 29 + role1 * 2 ^ 27), (0x200008, 0), (0x3A0100, ref * 2 ^ 29 + rst * 2 ^ 26)]
theorem witness_ClocksAreSynthesized : (∀ v : Fin 5, rfld (clocked v.val 3 2 5 0) (synA 0) 29 3 = v.val) ∧ fltOpen up 8 0x8000 = false ∧ up.bnd.length < 16 ∧
    synRole (clocked 3 3 2 5 0) 0 = 1 ∧ synRole (clocked 3 3 2 5 0) 1 = 2 ∧ synState (clocked 3 3 2 5 0) 1 = 3 ∧ up.clk.hop = none ∧ synRole (clocked 3 3 3 5 0) 1 = 3 ∧
    rootSrc (clocked 3 3 2 5 0) = 0 ∧ synRole (clocked 3 2 2 5 0) 1 = 2 ∧ synState (clocked 3 2 2 5 0) 1 ≠ 3 ∧ (∀ i, i < 16 → (portOf up (arP i)).en = false) ∧
    (up.btc.toNat + 1 < 2) ∧ refSel (clocked 3 3 2 5 0) = 5 ∧ (∀ r : Fin 5, refState (clocked 3 3 2 0 r.val) = r.val) ∧ (45000001 : Int).natAbs > 45000000 ∧
    (-45000000 : Int).natAbs ≤ 45000000 ∧ (5000000 * 256 - up.clk.p).natAbs ≤ 5000000 * 256 ∧ rbit (clocked 3 3 2 0 2) 0x200008 2 = false ∧
    ¬ (refSel (clocked 3 3 2 5 1) = 0 ∨ refSel (clocked 3 3 2 5 1) = 1 ∨ refSel (clocked 3 3 2 5 1) = 4) ∧ refSel (clocked 3 3 2 2 1) = 2 ∧
    agSt (asked up (cmd 0x50 0 0 true)) 0 ≠ 2 ∧ histTakers (asked up (cmd 0x50 0 0 true)) 3 0 = [] ∧ (cmd 0x50 0 0 true).lost = false ∧
    rootSrc (setRegs (clocked 3 3 2 0 1) [(0x200008, 2)]) = 2 ∧ (1 : BitVec 16).toInt.natAbs ≤ max 1 (rfld up 0x3A0108 0 8) ∧
    ¬ (32767 : BitVec 16).toInt.natAbs ≤ max 1 (rfld up 0x3A0108 0 8) ∧ rbit (setRegs up [(ckoA 3 + 8, 2 ^ 31)]) (ckoA 3 + 8) 31 = true ∧ rbit up (ckoA 3 + 8) 31 = false ∧
    rbit (setRegs up [(ckoA 3, 2 ^ 22)]) (ckoA 3) 22 = true := by decide
/-- Clocked with the boundary of a hop due now and its synthesizer locked, or not. -/
theorem witness_ClocksAreSynthesized_hop : let s := { clocked 3 3 3 0 2 with clk := { hop := some { syn := 1 } } }
    synRole s 1 = 3 ∧ (∀ i, i < 16 → (portOf s (arP i)).en = false) ∧
    s.clk.hop = some { syn := 1 } ∧ ({ syn := 1 } : Hop).syn < 2 ∧ s.host.ops = [] ∧ ({ syn := 1 } : Hop).btc ≤ s.btc.toNat ∧ synState s 1 = 3 ∧
    synState (clocked 3 2 3 0 2) 1 ≠ 3 := by decide
/-- CRC unit 0 of a code, with an open computation and queued entries; no engine eats. -/
def summing (code : Nat) (feed : Bool) (c : CrcUnit) : State := { setRegs up [(crcA 0, code * 2 ^ 26 + b2n feed * 2 ^ 29)] with crc := [(0, c)] }
theorem witness_MeasuresAndCrcs : rbit up 0x3E0000 30 = false ∧ rbit (setRegs up [(0x3E0000, 2 ^ 30)]) 0x3E0000 30 = true ∧
    (mget {} up.mtr.hist (rfld up 0x400000 0 8)).frozen = false ∧ ({ frozen := true } : Hist).frozen = true ∧
    (∀ code : Fin 8, rfld (crcEat 0 (summing code.val false {}) 0) (crcA 0) 26 3 = code.val) ∧ rbit (crcEat 0 (summing 2 true {}) 0) (crcA 0) 29 = true ∧
    rbit (crcEat 0 (summing 2 false {}) 0) (crcA 0) 29 = false ∧ (crcOf (crcEat 0 (summing 2 false { open_ := true }) 0) 0).open_ = true ∧
    (crcOf (crcEat 0 (summing 2 false { open_ := true }) 0) 0).ended = false ∧
    (crcOf (crcEat 0 (summing 2 false { open_ := true, queue := List.replicate 7 [1] }) 0) 0).queue.length = 7 ∧
    8 ≤ (crcOf (crcEat 0 (summing 2 false { open_ := true, queue := List.replicate 8 [1] }) 0) 0).queue.length ∧
    ¬ ((crcOf (crcEat 0 (summing 2 false {}) 0) 0).open_ = true ∧ (crcOf (crcEat 0 (summing 2 false {}) 0) 0).ended = false) ∧
    rget (crcEat 0 (summing 2 false { open_ := true }) 0) (crcA 0 + 8) = 0 ∧ (crcOf (summing 2 false { open_ := true, fin := some 0 }) 0).fin = some 0 ∧
    rbit (summing 2 false {}) (crcA 0) 25 = false := by decide
theorem witness_BootAndFirmware : State.reset.boot.held = true ∧ State.reset.boot.trip = false ∧ up.boot.held = false ∧ rfld up 0x440000 30 2 = 0 ∧
    rbit up 0x440000 27 = false ∧ up.boot.due = none ∧ ({ due := some 2 } : BootSt).due = some 2 ∧ up.boot.hash = false ∧ ({ hash := true } : BootSt).hash = true ∧
    2 ≤ rfld (setRegs up [(0x440000, 2 ^ 31)]) 0x440000 30 2 ∧ rbit (setRegs up [(0x440000, 2 ^ 31)]) 0x440000 26 = false ∧ up.boot.trial = false ∧
    opOf up 0 0x0100 0x70 = none ∧ opOf (asked up (cmd 0x70 0 0 false)) 0 0x0100 0x70 = some (cmd 0x70 0 0 false) ∧
    opFind (asked up (cmd 0x70 0 0 true)) (fun x => x.opc == 0x70 && x.started) = some (cmd 0x70 0 0 true) ∧ ({ upd := [1] } : BootSt).upd ≠ [] ∧
    (∀ x ∈ (asked up (cmd 0x73 0 0 false)).host.ops, x.lost = false) ∧
    agSt (asked up (cmd 0x73 0 0 false)) 0 ≠ 2 ∧ histTakers (asked up (cmd 0x73 0 0 false)) 3 0 = [] := by decide
/-- Both slots marked failed: stage 0 chooses none. -/
def spent : State := setRegs up [(0x440004, 3 * 2 ^ 28)]
theorem witness_BootAndFirmware_recovery : chooseSlot spent = none := by
  have t : rbit spent 0x440004 31 = false := by decide
  have u0 : slotUsable spent 0 = false := by decide
  have u1 : slotUsable spent 1 = false := by decide
  have r : List.range 2 = [0, 1] := rfl
  simp [chooseSlot, t, u0, u1, r]
/-- A slot A whose header keeps the table, of the highest epoch; slot B marked failed; no flag record. -/
def imaged : State :=
  { setRegs up [(0x440004, 2 ^ 28)] with boot := { held := false, flags := some [], slots := [(0, some ([0x57, 0x53, 0x4C, 0x54, 1, 0, 0, 0] ++ leBytes 4 256 ++ leBytes 4 0
      ++ leBytes 8 1 ++ leBytes 8 64 ++ List.replicate 224 0))] } }
theorem witness_BootAndFirmware_slot : chooseSlot imaged = some (0, false) := by
  have f : epochFloor imaged ≤ 64 := by unfold epochFloor; have : imaged.boot.floor = 0 := rfl; omega
  have v : slotValid imaged 0 = true := by
    unfold slotValid
    have a : headerOk (slotRaw imaged 0) = true := by decide +kernel
    have b : shEpoch (slotRaw imaged 0) = 64 := by decide
    simp [a, b, f]
  have u0 : slotUsable imaged 0 = true := by
    unfold slotUsable; rw [v]; decide
  have u1 : slotUsable imaged 1 = false := by decide
  have t : rbit imaged 0x440004 31 = false := by decide
  have a0 : slotActive imaged 0 = true := by decide
  have r : List.range 2 = [0, 1] := rfl
  simp [chooseSlot, t, u0, u1, a0, r]
/-- Slot 0 runs logical cell 0 on memories that slot 67 lends. -/
def lending : State := setRegs { sampling with cells := [(0, { lender := some 67 })] } [(celSlotA 67, 6)]
theorem witness_TakeoverTestAndScrub : slotOf up 0 = none ∧ slotOf lending 0 = some 0 ∧ (cellAt lending 0).lender = some 67 ∧ 67 ≠ 0 ∧ (cellAt lending 0).copied = false ∧
    (cellAt sampling 0).lender = none ∧ slotState (setRegs up [(celSlotA 67, 4)]) 67 = 4 ∧ slotGood (setRegs up [(celGoodA 67, 8)]) 67 = true ∧ slotGood up 67 = false ∧
    up.host.ops = [] ∧ rbit (setRegs up [(0x460020, 2 ^ 31)]) 0x460020 31 = true ∧
    rbit (setRegs up [(0x460020, 0)]) 0x460020 31 = false ∧ clusterDown (setRegs up [(cisStatA 120, 2 ^ 30)]) (1087 / 68) = false ∧
    cisDown (setRegs up [(cisStatA 127, 2 ^ 30)]) 127 = false ∧ rbit up (celErrA 0) 16 = false := by decide
/-- Its copy is the handler's next in cluster 0, or not yet. -/
theorem witness_TakeoverTestAndScrub_copy : copySlot { lending with flt := { cur := some { cls := 1, sev := 1, unit := 0x1000 } } } 0 = some 0 ∧
    copySlot lending 0 ≠ some 0 := by decide
theorem witness_TakeoverTestAndScrub_inv : lending.Inv := by unfold State.Inv State.memWf State.fifoOk; decide
theorem witness_HeatAndControlCores : up.pwr.warn = false ∧ ({ warn := true } : PwrSt).warn = true ∧ rbit up 0x480000 27 = false ∧ up.boot.trip = false ∧
    ({ trip := true } : BootSt).trip = true ∧ up.flt.lastExp = none ∧ ({ lastExp := some 5 } : FaultSt).lastExp = some 5 ∧ (10005 ≤ 5 + 10000) ∧ ¬ (10006 ≤ 5 + 10000) ∧
    servo (linked 3 {}) = 3 ∧ opFind (asked up (cmd 0x70 0 0 true)) (fun x => x.agent == 0 && x.handle == 0x0100 && x.started) = some (cmd 0x70 0 0 true) ∧
    mget false ({ restarting := [(0, true)] } : FaultSt).restarting 0 = true ∧ fltOpen { up with flt := { openf := [(openKey 0xD 0x9000, true)] } } 0xD 0x9000 = true ∧
    agSt (asked up (cmd 0x70 0 0 true)) 0 ≠ 2 ∧ histTakers (asked up (cmd 0x70 0 0 true)) 3 0 = [] ∧ (cmd 0x70 0 0 true).lost = false := by
  decide
theorem witness_StepRunsFrontCommand : ({ up with pending := [.stormWindow] } : State).pending = [.stormWindow] ∧ up.pending = [] := by decide
theorem witness_EveryStepKeepsInvariant : State.reset.Inv ∧ sampling.Inv := by unfold State.Inv State.memWf State.fifoOk; decide
theorem witness_EpochFloorNeverFalls : step { up with pending := [.cmtBndPop] } = .next { up with bnd := [] } := rfl

end Sys2Proof.Tests
end

section
/-! Proofs: accesses to control registers (R11, R13, R14). -/

namespace Sys2Proof.Machine

/-! ### The shared operations, once per case -/

theorem regHalf_of_row {a : Nat} {r : RegRow} (hr : regRow? a = some r) : regHalf a = r.half := by
  simp [regHalf, hr]

/-- A register's content once `v` is written over `old` (R11): RW bits take the value, W1C bits written 1 clear. -/
def regWritten (r : RegRow) (old v : W32) : W32 :=
  ((old &&& ~~~(BitVec.ofNat 32 r.rw)) ||| (v &&& BitVec.ofNat 32 r.rw)) &&& ~~~(v &&& BitVec.ofNat 32 r.w1c)

theorem putReg_of_row {a : Nat} {r : RegRow} (hr : regRow? a = some r) (s : State) (v : W32) :
    putReg s a v = rset s a (regWritten r (rget s a) v) := by
  simp [putReg, hr, regWritten]

theorem rget_putReg {a : Nat} {r : RegRow} (hr : regRow? a = some r) (s : State) (v : W32) (x : Nat) :
    rget (putReg s a v) x = if x = a then regWritten r (rget s x) v else rget s x := by
  rw [putReg_of_row hr, rget_rset]
  split
  · next h => rw [h]
  · rfl

theorem rcClear_of_row {a : Nat} {r : RegRow} (hr : regRow? a = some r) (late : a ≠ 0x340208) (early : a ≠ 0x34020C) (s : State) :
    rcClear s a = if r.rc = 0 then s else rset s a (rget s a &&& ~~~(BitVec.ofNat 32 r.rc)) := by
  unfold rcClear
  split
  · contradiction
  · contradiction
  · simp [hr]

theorem rget_rcClear {a : Nat} {r : RegRow} (hr : regRow? a = some r) (late : a ≠ 0x340208) (early : a ≠ 0x34020C) (s : State)
    (x : Nat) : rget (rcClear s a) x = if x = a then rget s x &&& ~~~(BitVec.ofNat 32 r.rc) else rget s x := by
  rw [rcClear_of_row hr late early]
  split
  · next norc => simp only [norc, BitVec.not_zero, BitVec.and_allOnes, ite_self]
  · rw [rget_rset]
    split
    · next h => rw [h]
    · rfl

theorem readUpper_of_latched {s : State} {ctx a : Nat} {w : W32} (h : mget none s.latch ctx = some (a, w)) :
    readUpper s ctx (a + 4) = (w, { s with latch := mset none s.latch ctx none }) := by
  simp [readUpper, h]

theorem readUpper_of_not_latched {s : State} {ctx a : Nat} (h : ∀ e, mget none s.latch ctx = some e → e.1 + 4 ≠ a) :
    readUpper s ctx a = (regView s ctx a, s) := by
  unfold readUpper
  split
  · next b w e => rw [if_neg (h (b, w) e)]
  · rfl

/-- The lower half a write of the upper half at `a + 4` takes along: the held one, else the present one (R14). -/
def lowerFor (s : State) (ctx a : Nat) : W32 :=
  match mget none s.holder ctx with
  | some e => if e.1 = a then e.2 else rget s a
  | none => rget s a

theorem writeUpper_eq (s : State) (ctx : Nat) (fw : Bool) (a : Nat) (v : W32) :
    writeUpper s ctx fw (a + 4) v = if pairOpen s fw (a + 4)
      then putReg (putReg { s with holder := mset none s.holder ctx none } a (lowerFor s ctx a)) (a + 4) v
      else { s with holder := mset none s.holder ctx none } := by
  have lower : (match mget none s.holder ctx with
      | some (b, w) => if b + 4 = a + 4 then w else rget s (a + 4 - 4)
      | none => rget s (a + 4 - 4)) = lowerFor s ctx a := by
    unfold lowerFor
    cases mget none s.holder ctx <;> simp
  rw [← lower]
  rfl

/-! ### What an access does, served or not -/

theorem regServed_false_of_misaligned {ctx a w : Nat} (h : w ≠ 4 ∨ a % 4 ≠ 0 ∨ 0x2000000 ≤ a) (s : State) (read : Bool) :
    regServed s ctx a w read = false := by
  rcases h with h | h | h
  · simp [regServed, h]
  · simp [regServed, h]
  · simp [regServed, Nat.not_lt.mpr h]

theorem writeAny_of_served {s : State} {ctx a w : Nat} (h : regServed s ctx a w false = true) (f : WrFacts) (v : W32) :
    writeAny s ctx f a w v = writeReg s ctx f a v := if_pos h

theorem writeAny_of_not_served {s : State} {ctx a w : Nat} (h : regServed s ctx a w false = false) (f : WrFacts) (v : W32) :
    writeAny s ctx f a w v = s := if_neg (by simp [h])

theorem writeAny_of_unassigned {a : Nat} (hr : regRow? a = none) (s : State) (ctx : Nat) (f : WrFacts) (w : Nat) (v : W32) :
    writeAny s ctx f a w v = s := by
  simp [writeAny, writeReg, hr]

theorem readAny_of_not_served {s : State} {ctx a w : Nat} (h : regServed s ctx a w true = false) : readAny s ctx a w = (0, s) :=
  if_neg (by simp [h])

theorem readAny_of_unassigned {a : Nat} (hr : regRow? a = none) (s : State) (ctx w : Nat) : readAny s ctx a w = (0, s) := by
  simp [readAny, readReg, hr]

/-- A served read of a 32-bit register that no special rule covers: its data, and its RC bits clear (R11). -/
theorem readAny_of_unpaired {s : State} {ctx a : Nat} {r : RegRow} (hr : regRow? a = some r) (unpaired : r.half = 0)
    (served : regServed s ctx a 4 true = true) (page : pageOf? a = none) (notLatch : a ≠ 0x360C10) :
    readAny s ctx a 4 = (regView s ctx a, rcClear s a) := by
  simp [readAny, served, readReg, hr, unpaired, page, notLatch]

theorem writeReg_lower {a : Nat} {r : RegRow} (hr : regRow? a = some r) (lower : r.half = 1) (s : State) (ctx : Nat) (f : WrFacts)
    (v : W32) : writeReg s ctx f a v = if r.rw = 0 then s else writeLower s ctx a v := by
  simp [writeReg, hr, lower]

theorem writeReg_upper {a : Nat} {r : RegRow} (hr : regRow? a = some r) (upper : r.half = 2) (writable : r.rw ≠ 0) (s : State) (ctx : Nat)
    (f : WrFacts) (v : W32) : writeReg s ctx f a v = writeUpper s ctx f.fw a v := by
  simp [writeReg, hr, upper, writable]

/-! ### Registers whose write has no effect but on their own bits -/

/-- GLC_STR_D, GLC_TRAIN, GLC_ERR (R189), EVC_LIM (R321), PMP_CFG (R281) and the words D0 to D3 of WEL_ENT_D (R170). -/
def PlainReg (a : Nat) : Prop :=
  (∃ k, k < 5 ∧ a = 0x160024 + 4 * k) ∨ a = 0x160004 ∨ a = 0x160008 ∨ (∃ n, n < 512 ∧ a = 0x321800 + 4 * n) ∨ a = 0x1A1000 ∨
    (∃ c k, c < 16 ∧ k < 4 ∧ a = 0x140024 + 0x2000 * c + 4 * k)

theorem wrGlc_plain {o : Nat} (stat : o ≠ 0x14) (idx : o ≠ 0x20) (s : State) (a : Nat) (v : W32) : wrGlc s a o v = putReg s a v := by
  unfold wrGlc
  split
  · contradiction
  · contradiction
  · rfl

theorem wrWel_window {o : Nat} (lo : 0x24 ≤ o) (hi : o < 0x40) (s : State) (c a : Nat) (v : W32) :
    wrWel s c a o v = putReg s a v := by
  unfold wrWel
  split
  · omega
  · omega
  · omega
  · omega
  · rw [if_neg (by omega)]

theorem wrEvc_limit {o : Nat} (h : 0x1800 ≤ o) (s : State) (a : Nat) (v : W32) : wrEvc s a o v = putReg s a v := by
  unfold wrEvc
  rw [if_neg (by omega), if_neg (by omega), if_neg (by omega), if_neg (by omega)]

theorem wrPmp_cfg {o : Nat} (h : 0x1000 ≤ o) (s : State) (fw : Bool) (a : Nat) (v : W32) : wrPmp s fw a o v = putReg s a v :=
  if_pos h

section
variable {a : Nat} {r : RegRow} (hr : regRow? a = some r) (unpaired : r.half = 0) (s : State) (ctx : Nat) (f : WrFacts) (v : W32)
include hr unpaired

theorem writeReg_wel (block : a / 0x20000 = 10) :
    writeReg s ctx f a v = wrWel s (a % 0x20000 / 0x2000) a (a % 0x20000 % 0x2000) v := by
  simp [writeReg, hr, unpaired, block]

theorem writeReg_glc (block : a / 0x20000 = 11) : writeReg s ctx f a v = wrGlc s a (a % 0x20000) v := by
  simp [writeReg, hr, unpaired, block]

theorem writeReg_pmp (block : a / 0x20000 = 13) : writeReg s ctx f a v = wrPmp s f.fw a (a % 0x20000) v := by
  simp [writeReg, hr, unpaired, block]

theorem writeReg_evc (block : a / 0x20000 = 25) : writeReg s ctx f a v = wrEvc s a (a % 0x20000) v := by
  simp [writeReg, hr, unpaired, block]

theorem writeReg_plain (plain : PlainReg a) : writeReg s ctx f a v = putReg s a v := by
  rcases plain with ⟨k, hk, ha⟩ | ha | ha | ⟨n, hn, ha⟩ | ha | ⟨c, k, hc, hk, ha⟩
  · rw [writeReg_glc hr unpaired s ctx f v (by omega), wrGlc_plain (by omega) (by omega)]
  · rw [writeReg_glc hr unpaired s ctx f v (by omega), wrGlc_plain (by omega) (by omega)]
  · rw [writeReg_glc hr unpaired s ctx f v (by omega), wrGlc_plain (by omega) (by omega)]
  · rw [writeReg_evc hr unpaired s ctx f v (by omega), wrEvc_limit (by omega)]
  · rw [writeReg_pmp hr unpaired s ctx f v (by omega), wrPmp_cfg (by omega)]
  · rw [writeReg_wel hr unpaired s ctx f v (by omega), wrWel_window (by omega) (by omega)]

end

/-! ### The commands -/

theorem exec_reg64LowerRead_of_served {st : State} {ctx : Fin 9} {a : Nat} (lower : regHalf a = 1)
    (served : regServed st ctx.val a 4 true = true) : exec (.reg64LowerRead ctx a) st =
      .next (emit (readLower st ctx.val a).2 (.regData (readLower st ctx.val a).1)) :=
  congrArg Host.Outcome.next (if_pos ⟨lower, served⟩)

theorem exec_reg64UpperRead_of_served {st : State} {ctx : Fin 9} {a : Nat} (upper : regHalf a = 2)
    (served : regServed st ctx.val a 4 true = true) : exec (.reg64UpperRead ctx a) st =
      .next (emit (readUpper st ctx.val a).2 (.regData (readUpper st ctx.val a).1)) :=
  congrArg Host.Outcome.next (if_pos ⟨upper, served⟩)

theorem exec_reg64LowerWrite_of_served {st : State} {ctx : Fin 9} {a : Nat} {r : RegRow} (hr : regRow? a = some r)
    (lower : r.half = 1) (served : regServed st ctx.val a 4 false = true) (v : W32) : exec (.reg64LowerWrite ctx a v) st =
      .next (if r.rw = 0 then st else writeLower st ctx.val a v) := by
  have run : exec (.reg64LowerWrite ctx a v) st = .next (if regHalf a = 1 then writeAny st ctx.val {} a 4 v else st) := rfl
  rw [run, if_pos ((regHalf_of_row hr).trans lower), writeAny_of_served served, writeReg_lower hr lower]

theorem exec_reg64UpperWrite_of_served {st : State} {ctx : Fin 9} {a : Nat} {r : RegRow} (hr : regRow? a = some r)
    (upper : r.half = 2) (writable : r.rw ≠ 0) (served : regServed st ctx.val a 4 false = true) (fw : Bool) (v : W32) :
    exec (.reg64UpperWrite ⟨fw, ctx⟩ a v) st = .next (writeUpper st ctx.val fw a v) := by
  have run : exec (.reg64UpperWrite ⟨fw, ctx⟩ a v) st =
      .next (if regHalf a = 2 then writeAny st ctx.val { fw := fw } a 4 v else st) := rfl
  rw [run, if_pos ((regHalf_of_row hr).trans upper), writeAny_of_served served, writeReg_upper hr upper writable]

theorem exec_registerWrite (st : State) (ctx : Fin 9) (a w : Nat) (v : W32) (f : WrFacts) :
    exec (.registerWrite ctx a w v f) st = .next (writeAny st ctx.val f a w v) := rfl

theorem exec_rcRegisterRead (st : State) (ctx : Fin 9) (a w : Nat) : exec (.rcRegisterRead ctx a w) st =
    .next (emit (readAny st ctx.val a w).2 (.regData (readAny st ctx.val a w).1)) := rfl

/-- A write of the upper half that the register's state admits sets both halves and empties the holder, and nothing else (R14). -/
theorem writeUpper_sets_pair {st : State} {ctx a : Nat} {fw : Bool} {r0 r1 : RegRow} (hr0 : regRow? a = some r0)
    (hr1 : regRow? (a + 4) = some r1) (isOpen : pairOpen st fw (a + 4) = true) (v : W32) :
    let t := writeUpper st ctx fw (a + 4) v
    { t with ctl := st.ctl, holder := st.holder } = st ∧ t.holder = mset none st.holder ctx none ∧
      ∀ x, rget t x = if x = a + 4 then regWritten r1 (rget st x) v
        else if x = a then regWritten r0 (rget st x) (lowerFor st ctx a) else rget st x := by
  intro t
  have eq : t = putReg (putReg { st with holder := mset none st.holder ctx none } a (lowerFor st ctx a)) (a + 4) v :=
    (writeUpper_eq st ctx fw a v).trans (if_pos isOpen)
  refine ⟨?_, ?_, fun x => ?_⟩
  · rw [eq, putReg_of_row hr1, putReg_of_row hr0]
    rfl
  · rw [eq, putReg_of_row hr1, putReg_of_row hr0]
    rfl
  · have unheld : rget { st with holder := mset none st.holder ctx none } x = rget st x := rfl
    rw [eq, rget_putReg hr1, rget_putReg hr0, unheld]
    by_cases h : x = a + 4
    · have : x ≠ a := by omega
      simp [h]
    · simp [h]

/-- Settles O37: each access is served by the case of R11, R13 or R14 that its register's row selects. -/
theorem registersAccessed : Obligations.RegistersAccessed := by
  unfold Obligations.RegistersAccessed
  intro st ctx a v f data view rd wr written
  refine ⟨?lowerRead, ?upperReadLatched, ?upperReadLive, ?lowerWrite, ?upperWrite, ?read, ?write, ?misaligned, ?unassigned⟩
  case lowerRead =>
    intro lower served
    exact exec_reg64LowerRead_of_served lower served
  case upperReadLatched =>
    intro w upper served latched
    rw [exec_reg64UpperRead_of_served upper served, readUpper_of_latched latched]
    rfl
  case upperReadLive =>
    intro upper served unlatched
    rw [exec_reg64UpperRead_of_served upper served, readUpper_of_not_latched unlatched]
    rfl
  case lowerWrite =>
    intro r hr lower served
    exact exec_reg64LowerWrite_of_served hr lower served v
  case upperWrite =>
    intro r0 r1 hr0 hr1 upper writable _ served fw
    rw [exec_reg64UpperWrite_of_served hr1 upper writable served]
    refine ⟨fun closed => ?_, fun isOpen => ?_⟩
    · rw [writeUpper_eq, if_neg (by simp [closed])]
    · obtain ⟨rest, holder, regs⟩ := writeUpper_sets_pair (ctx := ctx.val) hr0 hr1 isOpen v
      refine ⟨_, rfl, rest, fun c => ?_, fun x => (regs x).trans ?_⟩
      · rw [holder, mget_mset]
      · unfold lowerFor
        cases mget none st.holder ctx.val with
        | none => rfl
        | some e => by_cases h : e.1 = a <;> simp only [h, if_true, if_false] <;> rfl
  case read =>
    intro r hr unpaired served page notLatch late early
    refine ⟨_, exec_rcRegisterRead st ctx a 4, ?_, fun x => ?_⟩
    · rw [readAny_of_unpaired hr unpaired served page notLatch, rcClear_of_row hr late early]
      split <;> rfl
    · rw [rget_emit, readAny_of_unpaired hr unpaired served page notLatch, rget_rcClear hr late early]
  case write =>
    intro r hr unpaired served plain
    refine ⟨_, exec_registerWrite st ctx a 4 v f, ?_, fun x => ?_⟩
    · rw [writeAny_of_served served, writeReg_plain hr unpaired st ctx.val f v plain, putReg_of_row hr]
      rfl
    · rw [writeAny_of_served served, writeReg_plain hr unpaired st ctx.val f v plain, rget_putReg hr]
      rfl
  case misaligned =>
    intro w outside
    rw [exec_registerWrite, exec_rcRegisterRead, writeAny_of_not_served (regServed_false_of_misaligned outside st false),
      readAny_of_not_served (regServed_false_of_misaligned outside st true)]
    exact ⟨rfl, rfl⟩
  case unassigned =>
    intro hr
    rw [exec_registerWrite, exec_rcRegisterRead, writeAny_of_unassigned hr, readAny_of_unassigned hr]
    exact ⟨rfl, rfl⟩

/-! ### The reset state -/

theorem reset_memWf : State.reset.memWf := ⟨rfl, rfl, rfl, rfl⟩

theorem reset_fifoOk : State.reset.fifoOk := ⟨Nat.zero_le _, Nat.zero_le _, Nat.zero_le _⟩

/-- Settles O59: at reset every table is empty, so canonical, and every queue is empty, so within its capacity. -/
theorem resetMeetsInvariant : Obligations.ResetMeetsInvariant := ⟨reset_memWf, reset_fifoOk⟩

end Sys2Proof.Machine
end

section
/-! Proofs: what every step of the device keeps (R53, R242, R428). -/

namespace Sys2Proof.Machine

/-- Every command answers a next state and only evolves the state it runs on: the commands' own laws, gathered over the dispatch. -/
theorem exec_ev (i : Instr) (s : State) : NextEv s (exec i s) :=
  match i with
  | .tickBoundary q f => execTickBoundary_ev q f s
  | .commitDeadline g => execCommitDeadline_ev g s
  | .sampleProgramStart c sl stalls f => execSampleProgramStart_ev c sl stalls f s
  | .crossfadeProgramStart c sl stalls f => execCrossfadeProgramStart_ev c sl stalls f s
  | .wellheadClose c => execWellheadClose_ev c s
  | .wellheadTap c e second tbl win => execWellheadTap_ev c e second tbl win s
  | .wellheadWriteSlot c line ecc => execWellheadWriteSlot_ev c line ecc s
  | .wellheadLaneDrive c lane bad => execWellheadLaneDrive_ev c lane bad s
  | .yieldRedirection c sl withdrawn => execYieldRedirection_ev c sl withdrawn s
  | .yieldOverrun c sl => execYieldOverrun_ev c sl s
  | .blockResume c sl => execBlockResume_ev c sl s
  | .chainAdd ch c badUp badDn bad => execChainAdd_ev ch c badUp badDn bad s
  | .bridgeOutput c k bad => execBridgeOutput_ev c k bad s
  | .mpy c sl g mode an xr ysrc yop ecc mism => execMpy_ev c sl g mode an xr ysrc yop ecc mism s
  | .mac c sl g mode an xr ysrc yop ecc mism => execMac_ev c sl g mode an xr ysrc yop ecc mism s
  | .msu c sl g mode an xr ysrc yop ecc mism => execMsu_ev c sl g mode an xr ysrc yop ecc mism s
  | .cellNop c sl g ecc => execCellNop_ev c sl g ecc s
  | .lds c sl g d p am ecc => execLds_ev c sl g d p am ecc s
  | .ldsH c sl g d p am ecc => execLdsH_ev c sl g d p am ecc s
  | .ldsL c sl g d p am ecc => execLdsL_ev c sl g d p am ecc s
  | .ldk c sl g d p am ecc => execLdk_ev c sl g d p am ecc s
  | .ldkH c sl g d p am ecc => execLdkH_ev c sl g d p am ecc s
  | .ldkL c sl g d p am ecc => execLdkL_ev c sl g d p am ecc s
  | .ldc c sl g d p am stalls ecc coll => execLdc_ev c sl g d p am stalls ecc coll s
  | .ldcH c sl g d p am stalls ecc coll => execLdcH_ev c sl g d p am stalls ecc coll s
  | .ldcL c sl g d p am stalls ecc coll => execLdcL_ev c sl g d p am stalls ecc coll s
  | .mov c sl g d n => execMov_ev c sl g d n s
  | .swaph c sl g d n => execSwaph_ev c sl g d n s
  | .cmp c sl g n m rel k => execCmp_ev c sl g n m rel k s
  | .cmovT c sl g d n k => execCmovT_ev c sl g d n k s
  | .cmovF c sl g d n k => execCmovF_ev c sl g d n k s
  | .shf c sl g d sh fn => execShf_ev c sl g d sh fn s
  | .clra c sl g a => execClra_ev c sl g a s
  | .mva c sl g a n => execMva_ev c sl g a n s
  | .mvah c sl g a n => execMvah_ev c sl g a n s
  | .mval c sl g a n => execMval_ev c sl g a n s
  | .xrd c sl g d lane => execXrd_ev c sl g d lane s
  | .xra c sl g a lane => execXra_ev c sl g a lane s
  | .xred c sl g a lane badPoint => execXred_ev c sl g a lane badPoint s
  | .movs c sl g wr cls idx n => execMovs_ev c sl g wr cls idx n s
  | .setp c sl g cls n imm => execSetp_ev c sl g cls n imm s
  | .padd c sl g p imm => execPadd_ev c sl g p imm s
  | .pmod c sl g p am => execPmod_ev c sl g p am s
  | .ldpt c sl g n ecc => execLdpt_ev c sl g n ecc s
  | .stpt c sl g n => execStpt_ev c sl g n s
  | .storePathMove c sl g dst fmt src dop ext stalls ecc badHere badThere badPoint => execStorePathMove_ev c sl g dst fmt src dop ext stalls ecc badHere badThere badPoint s
  | .cellEnd c sl g => execCellEnd_ev c sl g s
  | .rep c sl g lp len count => execRep_ev c sl g lp len count s
  | .bxclr c sl g => execBxclr_ev c sl g s
  | .stset c sl g mask => execStset_ev c sl g mask s
  | .stclr c sl g mask => execStclr_ev c sl g mask s
  | .bwait c sl g => execBwait_ev c sl g s
  | .yend c sl g => execYend_ev c sl g s
  | .br c sl g off => execBr_ev c sl g off s
  | .brt c sl g k off => execBrt_ev c sl g k off s
  | .brf c sl g k off => execBrf_ev c sl g k off s
  | .jmp c sl g t => execJmp_ev c sl g t s
  | .jmpp c sl g p => execJmpp_ev c sl g p s
  | .nop a h => execNop_ev a h s
  | .imageLoad a h => execImageLoad_ev a h s
  | .imageHeaderCheck bytes => execImageHeaderCheck_ev bytes s
  | .imageSectionCheck bytes => execImageSectionCheck_ev bytes s
  | .imageTrailerCheck bytes => execImageTrailerCheck_ev bytes s
  | .imageFeedStall => execImageFeedStall_ev s
  | .clear a h => execClear_ev a h s
  | .imageKey a h => execImageKey_ev a h s
  | .sessionKey a h => execSessionKey_ev a h s
  | .sessionCfg a h => execSessionCfg_ev a h s
  | .commit a h => execCommit_ev a h s
  | .commitCancel a h => execCommitCancel_ev a h s
  | .commitMember a h => execCommitMember_ev a h s
  | .glacierTrain a h => execGlacierTrain_ev a h s
  | .capture a h => execCapture_ev a h s
  | .selfTest a h => execSelfTest_ev a h s
  | .time a h cyc sec ns => execTime_ev a h cyc sec ns s
  | .regRd a h => execRegRd_ev a h s
  | .regWr a h f => execRegWr_ev a h f s
  | .clockRef a h => execClockRef_ev a h s
  | .referenceMeasured fam mult p => execReferenceMeasured_ev fam mult p s
  | .referenceLocked => execReferenceLocked_ev s
  | .referenceLoss => execReferenceLoss_ev s
  | .referenceReturn => execReferenceReturn_ev s
  | .clockHop a h => execClockHop_ev a h s
  | .hopCancelCheck => execHopCancelCheck_ev s
  | .hop => execHop_ev s
  | .netJoin a h => execNetJoin_ev a h s
  | .fwUpdate a h pkg => execFwUpdate_ev a h pkg s
  | .fwUpdateDone ok => execFwUpdateDone_ev ok s
  | .fwTrial a h => execFwTrial_ev a h s
  | .dbgChallenge a h => execDbgChallenge_ev a h s
  | .dbgChallengeExpiry => execDbgChallengeExpiry_ev s
  | .dbgUnlock a h => execDbgUnlock_ev a h s
  | .devReset a h => execDevReset_ev a h s
  | .commandDoorbell a tail => execCommandDoorbell_ev a tail s
  | .commandEntryRead a e => execCommandEntryRead_ev a e s
  | .commandFetchError a => execCommandFetchError_ev a s
  | .completionWrite a => execCompletionWrite_ev a s
  | .completionHeadAdvance a head => execCompletionHeadAdvance_ev a head s
  | .moderationTimer a => execModerationTimer_ev a s
  | .agentAwake a => execAgentAwake_ev a s
  | .agentSleep a => execAgentSleep_ev a s
  | .agentDown a => execAgentDown_ev a s
  | .sleepWakeTimer a => execSleepWakeTimer_ev a s
  | .bar2Read a off len acc => execBar2Read_ev a off len acc s
  | .bar2ReadTimeout a len => execBar2ReadTimeout_ev a len s
  | .bar2Write a off bytes acc => execBar2Write_ev a off bytes acc s
  | .perst => execPerst_ev s
  | .pcieLinkDown => execPcieLinkDown_ev s
  | .pcieLinkUp gen width set => execPcieLinkUp_ev gen width set s
  | .nsCommand n p bytes => execNsCommand_ev n p bytes s
  | .credit n p bytes => execCredit_ev n p bytes s
  | .state n p bytes => execState_ev n p bytes s
  | .imageData n p bytes => execImageData_ev n p bytes s
  | .completionResendTimer n => execCompletionResendTimer_ev n s
  | .wakeRepeatTimer n => execWakeRepeatTimer_ev n s
  | .eventRepeatTimer n => execEventRepeatTimer_ev n s
  | .cmtGCtlArm => execCmtGCtlArm_ev s
  | .cmtGCtlCancel => execCmtGCtlCancel_ev s
  | .commitValidationDone g => execCommitValidationDone_ev g s
  | .cmtMemCtlAdd kind g id => execCmtMemCtlAdd_ev kind g id s
  | .cmtMemCtlRem kind g id => execCmtMemCtlRem_ev kind g id s
  | .cmtGldIdxWr cell slot => execCmtGldIdxWr_ev cell slot s
  | .cmtGldIdxRd cell slot live => execCmtGldIdxRd_ev cell slot live s
  | .resyncDone cell => execResyncDone_ev cell s
  | .cmtRecPop => execCmtRecPop_ev s
  | .cmtBndPop => execCmtBndPop_ev s
  | .cmtSnap cyc sec ns => execCmtSnap_ev cyc sec ns s
  | .cmtClStallClr c => execCmtClStallClr_ev c s
  | .cisOwnerWrite firmware k v late => execCisOwnerWrite_ev firmware k v late s
  | .cisEaddrClr k => execCisEaddrClr_ev k s
  | .clusterIsolationLift c => execClusterIsolationLift_ev c s
  | .clusterClearingDone c => execClusterClearingDone_ev c s
  | .pumpEnable firmware n => execPumpEnable_ev firmware n s
  | .pumpDisable firmware n => execPumpDisable_ev firmware n s
  | .pumpStop firmware n => execPumpStop_ev firmware n s
  | .pumpDoorbell firmware n => execPumpDoorbell_ev firmware n s
  | .pumpPoll n => execPumpPoll_ev n s
  | .pumpDescriptorFetched n d => execPumpDescriptorFetched_ev n d s
  | .pumpBurst n => execPumpBurst_ev n s
  | .pumpReadCompletion n bytes acc lat => execPumpReadCompletion_ev n bytes acc lat s
  | .pumpBusError r cause => execPumpBusError_ev r cause s
  | .pumpCompletionTimeout r => execPumpCompletionTimeout_ev r s
  | .pumpLanding n lat => execPumpLanding_ev n lat s
  | .welEntWr c e => execWelEntWr_ev c e s
  | .welEntRd c e => execWelEntRd_ev c e s
  | .welLineWrite c k v => execWelLineWrite_ev c k v s
  | .welLdGo c => execWelLdGo_ev c s
  | .welLoadDone c bad => execWelLoadDone_ev c bad s
  | .welRunCapture c e => execWelRunCapture_ev c e s
  | .glacierGrainWrite w => execGlacierGrainWrite_ev w s
  | .glacierWriteMiss g => execGlacierWriteMiss_ev g s
  | .glacierGrainRead g f => execGlacierGrainRead_ev g f s
  | .glacierHeadLate g => execGlacierHeadLate_ev g s
  | .glacierLineCopy g f => execGlacierLineCopy_ev g f s
  | .glacierTrainingDone rate step time retain => execGlacierTrainingDone_ev rate step time retain s
  | .glacierTrackingFailure => execGlacierTrackingFailure_ev s
  | .glacierRetrainDone r => execGlacierRetrainDone_ev r s
  | .glacierRefreshReport => execGlacierRefreshReport_ev s
  | .glcStrWr g => execGlcStrWr_ev g s
  | .glcStrRd g => execGlcStrRd_ev g s
  | .glcStrCap g => execGlcStrCap_ev g s
  | .glcEaddrClr => execGlcEaddrClr_ev s
  | .eventPinChange p level edges => execEventPinChange_ev p level edges s
  | .evcClaimRead a => execEvcClaimRead_ev a s
  | .evcEoi a src => execEvcEoi_ev a src s
  | .evcRaise src => execEvcRaise_ev src s
  | .evcSrcEnWrite n en => execEvcSrcEnWrite_ev n en s
  | .evcSrcMaskWrite n mask => execEvcSrcMaskWrite_ev n mask s
  | .evcSrcSenseWrite n sense => execEvcSrcSenseWrite_ev n sense s
  | .evcStormClear n => execEvcStormClear_ev n s
  | .evcCfgSplitWrite split => execEvcCfgSplitWrite_ev split s
  | .stormWindow => execStormWindow_ev s
  | .evcPinClr p => execEvcPinClr_ev p s
  | .mediaPacketReceived p f cyc acc => execMediaPacketReceived_ev p f cyc acc s
  | .controlFrameReceived p fcs excess head body => execControlFrameReceived_ev p fcs excess head body s
  | .networkLinkDown p cyc => execNetworkLinkDown_ev p cyc s
  | .networkLinkUp p speed => execNetworkLinkUp_ev p speed s
  | .alignGroupTimeout g => execAlignGroupTimeout_ev g s
  | .ptpSync p m rx bnd align => execPtpSync_ev p m rx bnd align s
  | .ptpAnnounce p m => execPtpAnnounce_ev p m s
  | .announceReceiptTimeout p => execAnnounceReceiptTimeout_ev p s
  | .aes3FrameReceived rx a b frate next acc => execAes3FrameReceived_ev rx a b frate next acc s
  | .aes3NoSignal rx => execAes3NoSignal_ev rx s
  | .asrcRatioLock rx ratio gd => execAsrcRatioLock_ev rx ratio gd s
  | .aes3FrameStart j acc => execAes3FrameStart_ev j acc s
  | .zeroCrossingTimeout j ch => execZeroCrossingTimeout_ev j ch s
  | .aesTxGainWrite j ch v => execAesTxGainWrite_ev j ch v s
  | .aesTxMuteWrite j v => execAesTxMuteWrite_ev j v s
  | .aesTxCsCommit j => execAesTxCsCommit_ev j s
  | .aesRxCsLatch ctx => execAesRxCsLatch_ev ctx s
  | .aesRxCtlClr rx => execAesRxCtlClr_ev rx s
  | .tdmFrameStart q => execTdmFrameStart_ev q s
  | .tdmFrameSync q acc => execTdmFrameSync_ev q acc s
  | .tdmFrameReceived q words clocks next acc => execTdmFrameReceived_ev q words clocks next acc s
  | .tdmSyncLoss q => execTdmSyncLoss_ev q s
  | .tdmRxmaskWrite q v late => execTdmRxmaskWrite_ev q v late s
  | .tdmTxmaskWrite q v late => execTdmTxmaskWrite_ev q v late s
  | .tdmCtlClr q => execTdmCtlClr_ev q s
  | .synthLock x err => execSynthLock_ev x err s
  | .synthLockLoss x err cyc => execSynthLockLoss_ev x err cyc s
  | .bandSearchDone x band => execBandSearchDone_ev x band s
  | .synRampGo nseg => execSynRampGo_ev nseg s
  | .synRampStop => execSynRampStop_ev s
  | .synPhaseAdd n => execSynPhaseAdd_ev n s
  | .alignerLock o => execAlignerLock_ev o s
  | .alignerLoss o => execAlignerLoss_ev o s
  | .mtrSnapGo late => execMtrSnapGo_ev late s
  | .mtrIdxWrite ctx m => execMtrIdxWrite_ev ctx m s
  | .hisClr => execHisClr_ev s
  | .hisFrz => execHisFrz_ev s
  | .hisRun => execHisRun_ev s
  | .temperatureSample sens vdd vddm => execTemperatureSample_ev sens vdd vddm s
  | .thermRelease => execThermRelease_ev s
  | .thermalTrip => execThermalTrip_ev s
  | .pwrTempClr => execPwrTempClr_ev s
  | .crcStart u ate => execCrcStart_ev u ate s
  | .crcFin u ate => execCrcFin_ev u ate s
  | .crcDin8 u ate d => execCrcDin8_ev u ate d s
  | .crcDin16 u ate d => execCrcDin16_ev u ate d s
  | .crcDin32 u ate d => execCrcDin32_ev u ate d s
  | .crcFeedWrite u ate w => execCrcFeedWrite_ev u ate w s
  | .crcDone u => execCrcDone_ev u s
  | .powerGood => execPowerGood_ev s
  | .powerOnReset => execPowerOnReset_ev s
  | .brownOut aon => execBrownOut_ev aon s
  | .warmReset => execWarmReset_ev s
  | .verificationPass t => execVerificationPass_ev t s
  | .verificationFail => execVerificationFail_ev s
  | .bootReady t => execBootReady_ev t s
  | .watchdogExpiry k now ran ptp => execWatchdogExpiry_ev k now ran ptp s
  | .takeoverCopyDone l bad => execTakeoverCopyDone_ev l bad s
  | .slotSelfTestDone c sl pass => execSlotSelfTestDone_ev c sl pass s
  | .scrubRead mem unit word ecc abandoned last => execScrubRead_ev mem unit word ecc abandoned last s
  | .fltLogPop => execFltLogPop_ev s
  | .reg64LowerRead ctx a => execReg64LowerRead_ev ctx a s
  | .reg64UpperRead ctx a => execReg64UpperRead_ev ctx a s
  | .reg64LowerWrite ctx a v => execReg64LowerWrite_ev ctx a v s
  | .reg64UpperWrite who a v => execReg64UpperWrite_ev who a v s
  | .registerWrite ctx a width v f => execRegisterWrite_ev ctx a width v f s
  | .rcRegisterRead ctx a width => execRcRegisterRead_ev ctx a width s
  | .aes3TransitionsAppear rx => execAes3TransitionsAppear_ev rx s
  | .ptpFollowUp p m bnd align => execPtpFollowUp_ev p m bnd align s
  | .ptpDelayResp p m rx => execPtpDelayResp_ev p m rx s
  | .ptpDelayReq p m rx tx => execPtpDelayReq_ev p m rx tx s
  | .ptpDelayReqInterval p tx => execPtpDelayReqInterval_ev p tx s
  | .ptpSyncInterval p tx => execPtpSyncInterval_ev p tx s
  | .ptpAnnounceInterval p => execPtpAnnounceInterval_ev p s
  | .referenceLockTimeout => execReferenceLockTimeout_ev s
  | .crystalStable t0 t1 => execCrystalStable_ev t0 t1 s
  | .coreRestartDone k => execCoreRestartDone_ev k s
  | .slotClearingDone c sl => execSlotClearingDone_ev c sl s
  | .thermalTripRelease => execThermalTripRelease_ev s

/-- A step answers a next state into which the state without its front command evolves; an idle step takes no command (log entry 1). -/
theorem step_ev (s : State) : NextEv { s with pending := s.pending.tail } (step s) := by
  obtain ⟨pending⟩ := s
  cases pending with
  | nil => exact next_ev (Evolves.refl _)
  | cons i rest => exact exec_ev i _

/-- Settles O58: a step evolves the state that its front command leaves the queue in, and what evolves keeps the invariant. -/
theorem everyStepKeepsInvariant : Obligations.EveryStepKeepsInvariant := by
  intro s inv
  obtain ⟨t, next, evolves⟩ := step_ev s
  exact ⟨t, next, evolves.inv inv, evolves.pending, evolves.out⟩

end Sys2Proof.Machine
end

section
/-! Proofs: the record rings, the snapshot of the clocks and the stall figure (R35, R40, R53, R242). -/

namespace Sys2Proof.Machine

/-! ### 64-bit register pairs -/

theorem rget_rset64 (s : State) (a b : Nat) (v : W64) :
    rget (rset64 s a v) b = if b = a + 4 then v.extractLsb' 32 32 else if b = a then v.extractLsb' 0 32 else rget s b := by
  rw [rset64, rget_rset, rget_rset]

/-- The two halves of a pair, put together again. -/
theorem extractLsb'_append_halves (v : W64) : v.extractLsb' 32 32 ++ v.extractLsb' 0 32 = v := by
  rw [BitVec.extractLsb'_append_extractLsb'_eq_extractLsb' (by omega)]
  exact BitVec.extractLsb'_eq_self

@[simp] theorem rget64_rset64_same (s : State) (a : Nat) (v : W64) : rget64 (rset64 s a v) a = v := by
  rw [rget64, rget_rset64, rget_rset64, if_pos rfl, if_neg (by omega), if_pos rfl]
  exact extractLsb'_append_halves v

/-- A pair reads the same in two states whose registers agree on its halves. -/
theorem rget64_congr {s t : State} {a : Nat} (lower : rget s a = rget t a) (upper : rget s (a + 4) = rget t (a + 4)) :
    rget64 s a = rget64 t a := by
  rw [rget64, rget64, lower, upper]

/-! ### The snapshot -/

/-- The registers after CMT_SNAP, each from the capture of R35. -/
theorem rget_snapTaken (s : State) (cyc sec ns x : Nat) (notFlag : x ≠ 0x200010) : rget (snapTaken s cyc sec ns) x =
    rget (rset64 (rput (rset (rset64 s 0x200014 s.btc) 0x20001C (BitVec.ofNat 32 (cyc % 25600))) 0x200020 0 30 (ns / 2 * 2))
      0x200024 (BitVec.ofNat 64 (sec % 2 ^ 48))) x := rget_rsetBit_other _ _ _ _ notFlag

section
variable (s : State) (cyc sec ns : Nat)

theorem snapTaken_btc : rget64 (snapTaken s cyc sec ns) 0x200014 = s.btc := by
  refine (rget64_congr ?_ ?_).trans (rget64_rset64_same s 0x200014 s.btc) <;>
    simp [rget_snapTaken, rget_rset64, rget_rput, rget_rset]

theorem snapTaken_cycle : rget (snapTaken s cyc sec ns) 0x20001C = BitVec.ofNat 32 (cyc % 25600) := by
  simp [rget_snapTaken, rget_rset64, rget_rput]

theorem snapTaken_ns : rfld (snapTaken s cyc sec ns) 0x200020 0 30 = ns / 2 * 2 % 2 ^ 30 := by
  simp [rfld, rget_snapTaken, rget_rset64, rget_rput, fld_fput]

theorem snapTaken_seconds : rget64 (snapTaken s cyc sec ns) 0x200024 = BitVec.ofNat 64 (sec % 2 ^ 48) := by
  refine (rget64_congr ?_ ?_).trans (rget64_rset64_same s 0x200024 _) <;> simp [rget_snapTaken, rget_rset64]

theorem snapTaken_done : rbit (snapTaken s cyc sec ns) 0x200010 1 = true := by
  rw [snapTaken, rbit_rsetBit _ _ _ _ _ (by omega), if_pos ⟨rfl, rfl⟩]

theorem snapTaken_other {x : Nat} (outside : x < 0x200010 ∨ 0x20002C ≤ x) : rget (snapTaken s cyc sec ns) x = rget s x := by
  rw [rget_snapTaken _ _ _ _ _ (by omega), rget_rset64, if_neg (by omega), if_neg (by omega), rget_rput_other _ _ _ _ _ _ (by omega),
    rget_rset_other _ _ _ _ (by omega), rget_rset64, if_neg (by omega), if_neg (by omega)]

theorem snapTaken_rest : { snapTaken s cyc sec ns with ctl := s.ctl } = s := by simp [snapTaken]
end

/-- Settles O27: each of the four commands writes its own ring or registers, the snapshot by the reads of `snapTaken`. -/
theorem recordsPopAndSnapshot : Obligations.RecordsPopAndSnapshot := by
  intro st cyc sec ns c
  have snapped : ∃ t, exec (.cmtSnap cyc sec ns) st = .next t ∧ rget64 t 0x200014 = st.btc ∧ (rget t 0x20001C).toNat = cyc.val ∧
      rfld t 0x200020 0 30 = ns.val / 2 * 2 ∧ (rget64 t 0x200024).toNat = sec.toNat ∧ rbit t 0x200010 1 = true ∧
      (∀ a, a < 0x200010 ∨ 0x20002C ≤ a → rget t a = rget st a) ∧ { t with ctl := st.ctl } = st := by
    refine ⟨snapTaken st cyc.val sec.toNat ns.val, rfl, snapTaken_btc .., ?cycle, ?ns, ?seconds, snapTaken_done ..,
      fun _ outside => snapTaken_other _ _ _ _ outside, snapTaken_rest ..⟩
    case cycle => rw [snapTaken_cycle, BitVec.toNat_ofNat]; omega
    case ns => rw [snapTaken_ns]; omega
    case seconds =>
      have small := sec.isLt
      rw [snapTaken_seconds, BitVec.toNat_ofNat]; omega
  exact ⟨rfl, rfl, snapped, rfl⟩

end Sys2Proof.Machine
end

section
/-! Proofs: the sample program of a slot begins (R37, R105, R112, R238). -/

namespace Sys2Proof.Machine

/-! ### What the last landing of a slot's results leaves alone -/

@[simp] theorem landOne_flight (c : Cell) (l : Landing) : (landOne c l).flight = c.flight := by
  cases h : l.dst <;> simp only [landOne, h, putD, putA, stPut] <;> (repeat' split) <;> rfl

/-- Once every result has landed, none is in flight (R112). -/
@[simp] theorem landAll_flight (c : Cell) : (landAll c).flight = [] := by
  have kept : ∀ (ls : List Landing) (x : Cell), (ls.foldl landOne x).flight = x.flight := by
    intro ls
    induction ls with
    | nil => exact fun _ => rfl
    | cons l ls ih => exact fun x => (ih _).trans (landOne_flight x l)
  exact kept _ _

@[simp] theorem stBlk_false_blk (c : Cell) : (stBlk c false).st.getLsbD 8 = false := by
  simp only [stBlk, Bool.false_eq_true, if_false]
  rw [BitVec.getLsbD_append]
  simp

/-! ### The page whose program issues -/

theorem slotKey_div (c : Fin 16) (s : Fin 68) : slotKey c s / 68 = c.val := by
  unfold slotKey; omega

theorem xfOld_of_not_xfRuns {s : State} {k : Nat} (settled : xfRuns s k = false) : xfOld s k = false := by
  simp only [xfRuns, decide_eq_false_iff_not] at settled
  simp [xfOld, settled]

/-- The state in which a crossfade's new program has been entered. -/
def crossEntered (s : State) (k : Nat) : State := onCmt s k (fun z => { z with xnew := true })

/-- Once the new program of a crossfade has been entered, the old one is no longer the one that issues (R238). -/
theorem xfOld_of_entered (s : State) (k : Nat) : xfOld (crossEntered s k) k = false := by
  have entered : (mget {} (crossEntered s k).cmt.cells (logicalOf (crossEntered s k) k)).xnew = true :=
    congrArg CellCmt.xnew (mget_mset_same ..)
  simp only [xfOld, entered, Bool.not_true, Bool.and_false]

theorem pageOf_active {s : State} {k : Nat} (h : xfOld s k = false) :
    pageOf s k = mget {} s.mem.page ((cellAt s k).lender.getD k * 2 + ppage s k) := by
  simp [pageOf, curPage, h, memSlot]

theorem pageOf_old {s : State} {k : Nat} (h : xfOld s k = true) :
    pageOf s k = mget {} s.mem.page ((cellAt s k).lender.getD k * 2 + (1 - ppage s k)) := by
  simp [pageOf, curPage, h, memSlot]

/-! ### The cell as the slot opens -/

/-- The cell whose sample slot opens at cycle φ on the page `pg` (R37, R105, R112). -/
def sampleOpened (c : Cell) (pg : PageInfo) : Cell :=
  stBlk { landAll c with cyc := pg.phase, atZero := false, pc := pg.entry, npc := none, dead := 0, iss := [], void := false, frz := 0,
                         sample := true, loops := [], stalls := 0, retire := pg.phase } false

/-- The cell whose sample slot opens again at cycle `fx` of a crossfade tick, on the new page (R238). -/
def crossOpened (c : Cell) (pg : PageInfo) (fx : Nat) : Cell :=
  stBlk { landAll c with cyc := fx, atZero := false, pc := pg.entry, npc := none, dead := 0, iss := [], void := false, frz := 0,
                         sample := true, done := false, loops := [], retire := fx } false

theorem sampleStart_opens {s : State} {k : Nat} (running : slotState s k = 1) (ticks : domOf s (k / 68) ≠ 0)
    (present : (pageOf s k).present = true) (closed : (cellAt s k).sample = false) (before : (cellAt s k).done = false)
    (unquenched : (cellAt s k).quench = 0) (n : Nat) (e : Ecc) (facts : List OpFacts) :
    sampleStart s k n e facts = issueWord (setCell s k (sampleOpened (cellAt s k) (pageOf s k))) k n e facts := by
  unfold sampleStart
  exact if_neg (by simp [running, ticks, present, closed, before, unquenched])

theorem crossStart_opens {s : State} {k : Nat} (running : slotState s k = 1) (ticks : domOf s (k / 68) ≠ 0) (crossing : xfOld s k = true)
    (present : (pageOf (crossEntered s k) k).present = true) (closed : (cellAt s k).sample = false) (after : (cellAt s k).done = true)
    (unquenched : (cellAt s k).quench = 0) (n : Nat) (e : Ecc) (facts : List OpFacts) :
    crossStart s k n e facts = issueWord (setCell (crossEntered s k) k (crossOpened (cellAt s k) (pageOf (crossEntered s k) k)
      ((pageOf s k).phase + (pageOf s k).len + (pageOf s k).w + 4))) k n e facts := by
  unfold crossStart
  refine (if_neg (by simp [running, ticks, crossing, closed, after, unquenched])).trans ?_
  exact if_neg (by change ¬ (pageOf (crossEntered s k) k).present = false; simp [present])

/-- Settles O18: outside a crossfade the active page's program begins, in a crossfade tick that of the page the crossfade enters. -/
theorem sampleProgramsBegin : Obligations.SampleProgramsBegin := by
  refine ⟨?sample, ?crossfade⟩
  case sample =>
    intro st c s n f k x pg running ticks present closed before unquenched settled
    have page : pageOf st k = pg := pageOf_active (xfOld_of_not_xfRuns settled)
    refine ⟨sampleOpened x pg, ?_, rfl, rfl, rfl, rfl, rfl, rfl, rfl, landAll_flight x, stBlk_false_blk _, rfl⟩
    rw [← page] at present ⊢
    exact congrArg _ (sampleStart_opens running ((slotKey_div c s).symm ▸ ticks) present closed before unquenched n f.ecc f.ops)
  case crossfade =>
    intro st c s n f k x m old new running ticks present closed after unquenched crossing
    have oldPage : pageOf st k = old := pageOf_old crossing
    have newPage : pageOf (crossEntered st k) k = new := pageOf_active (xfOld_of_entered st k)
    refine ⟨crossOpened x new (old.phase + old.len + old.w + 4), ?_, rfl, rfl, rfl, rfl, rfl, landAll_flight x, stBlk_false_blk _⟩
    rw [← newPage] at present ⊢
    rw [← oldPage]
    exact congrArg _ (crossStart_opens running ((slotKey_div c s).symm ▸ ticks) crossing present closed after unquenched n f.ecc f.ops)

end Sys2Proof.Machine
end

section
/-! Proofs: the boundaries of an idle structure (R30–R34, R43, R53, R405, R467). -/

namespace Sys2Proof.Machine

/-! ### Rounds over a list -/

theorem forEach_unchanged {α : Type} (l : List α) (s : State) : forEach l s (fun s _ => s) = s := List.foldl_fixed l

@[simp] theorem forEach_nil {α : Type} (s : State) (f : State → α → State) : forEach [] s f = s := rfl

/-- What holds at first and is carried over each of the `n` rounds holds after them. -/
theorem forN_induction {P : State → Nat → Prop} {s : State} (f : State → Nat → State) (n : Nat) (first : P s 0)
    (round : ∀ t i, i < n → P t i → P (f t i) (i + 1)) : P (forN n s f) n := by
  induction n with
  | zero => exact first
  | succ n ih =>
    have last : forN (n + 1) s f = f (forN n s f) n := by simp [forN, List.range_succ]
    rw [last]
    exact round _ n (by omega) (ih (fun t i hi => round t i (by omega)))

/-! ### A boundary at which no cluster's tick ends -/

/-- The clusters whose tick ends at position `q` of the base tick (R31). -/
def dueClusters (s : State) (q : Nat) : List Nat :=
  (List.range 16).filter (fun c => decide (domOf s c ≥ if q = 0 then 1 else if q = 2 then 2 else 4))

theorem dueClusters_eq_nil {s : State} {q : Nat} (below : ∀ c, c < 16 → domOf s c < if q = 0 then 1 else if q = 2 then 2 else 4) :
    dueClusters s q = [] := by
  rw [dueClusters, List.filter_eq_nil_iff]
  intro c hc
  simpa using below c (List.mem_range.mp hc)

theorem duePorts_none_due (s : State) : duePorts s (fun _ => false) = [] := by
  simp [duePorts]

theorem zeroFlows_none_due (s : State) : zeroFlows s (fun _ => false) = [] := by
  simp [zeroFlows]

theorem bridgesStep_none_due (s : State) : bridgesStep s (fun _ => false) false = s := by
  simp [bridgesStep, forEach_unchanged]

theorem boundary_minor_of_none_due {s : State} {q : Nat} (noneDue : dueClusters s q = []) (minor : q ≠ 0) :
    boundary s q = linkRecovered (portHooks { s with quarter := q }) := by
  unfold boundary
  extract_lets +onlyGivenNames base m0 dom cs due
  have idle : cs = [] := noneDue
  have notDue : due = fun _ => false := by simp only [due, idle]; rfl
  have notBase : base = false := decide_eq_false minor
  clear_value due cs base
  subst idle notDue notBase
  simp [duePorts_none_due, zeroFlows_none_due, bridgesStep_none_due, handoverStep]

theorem boundary_base_of_none_due {s : State} (noneDue : dueClusters s 0 = []) (unlatched : latchedGroups s = [])
    (unbridged : liveBridges s = []) :
    boundary s 0 = linkRecovered (algBoundary (portHooks (baseStep (swapStep s [] (s.btc + 1)) [] (s.btc + 1)))) := by
  unfold boundary
  extract_lets +onlyGivenNames base m0 dom cs due
  have idle : cs = [] := noneDue
  have notDue : due = fun _ => false := by simp only [due, idle]; rfl
  have isBase : base = true := rfl
  clear_value due cs base
  subst idle notDue isBase
  simp [duePorts_none_due, zeroFlows_none_due, bridgesStep, unbridged, unlatched, handoverStep]

/-! ### The steps of a boundary of which nothing is due -/

theorem portHooks_of_no_change {s : State} (unchanged : s.port.chg = []) : portHooks s = s := by
  have same : { s.port with chg := [] } = s.port := by rw [← unchanged]
  simp [portHooks, unchanged, same]

theorem linkRecovered_of_closed {s : State} (closed0 : fltOpen s 9 0x6000 = false) (closed1 : fltOpen s 9 0x6001 = false) :
    linkRecovered s = s := by
  simp [linkRecovered, forN, List.range_succ, closed0, closed1]

theorem algBoundary_of_none {s : State} (unbound : s.port.live = []) (noGroup : s.net.alg = []) : algBoundary s = s := by
  simp [algBoundary, unbound, noGroup]

theorem swapStep_of_none {s : State} (noImage : s.cmt.start = none) (noClear : s.cmt.clearAt = none) (b : W64) : swapStep s [] b = s := by
  simp [swapStep, startImage, clearImage, noImage, noClear]

theorem liveBridges_of_none {s : State} (noTable : s.ex.live = []) : liveBridges s = [] := by
  simp [liveBridges, liveTable, noTable, mget, mgetD]

/-- A boundary that only starts the next tick moves the position in the base tick (R34). -/
theorem boundary_minor {s : State} {q : Nat} (minor : q ≠ 0) (below : ∀ c, c < 16 → domOf s c < if q = 2 then 2 else 4)
    (unchanged : s.port.chg = []) (closed0 : fltOpen s 9 0x6000 = false) (closed1 : fltOpen s 9 0x6001 = false) :
    boundary s q = { s with quarter := q } := by
  rw [boundary_minor_of_none_due (dueClusters_eq_nil (by simpa [minor] using below)) minor,
    portHooks_of_no_change (s := { s with quarter := q }) unchanged]
  exact linkRecovered_of_closed closed0 closed1

/-! ### The clocks at rest -/

/-- The registers a base boundary writes with the clocks at rest, but for CMT_STAT: the phase counters and the clock outputs. -/
def ClockReg (x : Nat) : Prop := x = 0x20002C ∨ x = 0x3A0118 ∨ (0x3C0000 ≤ x ∧ x < 0x3C0040)

/-- From `s` to `t` only registers of the clocks change, and the flag of CMT_STAT that a ramp moves. -/
structure ClockRegs (s t : State) : Prop where
  rest : { t with ctl := s.ctl } = s
  regs : ∀ x, ¬ ClockReg x → x ≠ 0x200008 → rget t x = rget s x
  flags : ∀ i, i ≠ 4 → rbit t 0x200008 i = rbit s 0x200008 i

theorem ClockRegs.refl (s : State) : ClockRegs s s := ⟨rfl, fun _ _ _ => rfl, fun _ _ => rfl⟩

theorem ClockRegs.trans {a b c : State} (h : ClockRegs a b) (k : ClockRegs b c) : ClockRegs a c :=
  ⟨(congrArg (fun u : State => { u with ctl := a.ctl }) k.rest).trans h.rest, fun x hx stat => (k.regs x hx stat).trans (h.regs x hx stat),
   fun i hi => (k.flags i hi).trans (h.flags i hi)⟩

theorem ClockRegs.clk {s t : State} (h : ClockRegs s t) : t.clk = s.clk := (congrArg State.clk h.rest :)

theorem ClockRegs.pwr {s t : State} (h : ClockRegs s t) : t.pwr = s.pwr := (congrArg State.pwr h.rest :)

theorem ClockRegs.bnd {s t : State} (h : ClockRegs s t) : t.bnd = s.bnd := (congrArg State.bnd h.rest :)

theorem ClockRegs.btc {s t : State} (h : ClockRegs s t) : t.btc = s.btc := (congrArg State.btc h.rest :)

theorem ClockRegs.dom {s t : State} (h : ClockRegs s t) (lo w : Nat) : rfld t 0x20000C lo w = rfld s 0x20000C lo w :=
  congrArg (fld · lo w) (h.regs 0x20000C (by simp [ClockReg]) (by decide))

theorem ClockRegs.withClk {s t : State} (h : ClockRegs s t) (c : ClkSt) : ClockRegs { s with clk := c } { t with clk := c } :=
  ⟨congrArg (fun u : State => { u with clk := c }) h.rest, h.regs, h.flags⟩

section
variable {a s : State} (h : ClockRegs a s)
include h

theorem ClockRegs.rput {x : Nat} (clock : ClockReg x) (lo w v : Nat) : ClockRegs a (rput s x lo w v) := by
  have notStat : 0x200008 ≠ x := by rintro rfl; simp [ClockReg] at clock
  refine ⟨h.rest, fun y notClock stat => ?_, fun i hi => ?_⟩
  · rw [rget_rput_other _ _ _ _ _ _ (by rintro rfl; exact notClock clock), h.regs y notClock stat]
  · rw [rbit, rget_rput_other _ _ _ _ _ _ notStat]
    exact h.flags i hi

theorem ClockRegs.moves (b : Bool) : ClockRegs a (rputBit s 0x200008 4 b) := by
  refine ⟨h.rest, fun y notClock stat => ?_, fun i hi => ?_⟩
  · rw [rget_rputBit_other _ _ _ _ _ stat, h.regs y notClock stat]
  · rw [rbit_rputBit _ _ _ _ _ _ (by omega), if_neg (by simp [hi]), h.flags i hi]

theorem ClockRegs.ite {t : State} {c : Prop} [Decidable c] (k : ClockRegs a t) : ClockRegs a (if c then s else t) := by
  split <;> assumption

theorem phaseStep_clockRegs : ClockRegs a (phaseStep s) := by
  have counted : ∀ lo w v, ClockRegs a (Machine.rput s 0x3A0118 lo w v) := fun lo w v => h.rput (.inr (.inl rfl)) lo w v
  have stepped : ∀ {u : State}, ClockRegs a u → ∀ lo, ClockRegs a (rinc u 0x20002C lo 16) := fun k lo => k.rput (.inl rfl) _ _ _
  unfold phaseStep
  refine h.ite ?_
  extract_lets n u d
  have hu : ClockRegs a u := (counted _ _ _).ite ((counted _ _ _).ite h)
  exact (stepped hu _).ite ((stepped hu _).ite hu)

theorem ckoGate_clockRegs {o : Nat} (ho : o < 4) (bit : Nat) (closed : Bool) : ClockRegs a (ckoGate s o bit closed) := by
  have output : ClockReg (ckoA o + 8) := .inr (.inr (by unfold ckoA; omega))
  exact (h.rput output _ _ _).rput output _ _ _

theorem ckoGateAll_clockRegs (bit : Nat) (closed : Bool) : ClockRegs a (ckoGateAll s bit closed) :=
  forN_induction (P := fun u _ => ClockRegs a u) _ 4 h (fun _ _ ho k => ckoGate_clockRegs k ho bit closed)

theorem ckoSlew_clockRegs {o : Nat} (ho : o < 4) : ClockRegs a (ckoSlew s o) :=
  h.rput (.inr (.inr (by unfold ckoA; omega))) _ _ _
end

/-- The clocks are at rest: no record waits, no hop, no gate, no target of the tracker, no ramp (R46, R50, R370). -/
structure ClockAtRest (s : State) : Prop where
  noRec : s.clk.recs = []
  noHop : s.clk.hop = none
  noGate : s.clk.gate = none
  noTarget : s.clk.trk = none
  still : s.clk.moving = false
  noRamp : rbit s 0x3A0114 29 = false

theorem rampStep_of_rest {s : State} (noRamp : rbit s 0x3A0114 29 = false) (noTarget : s.clk.trk = none) : rampStep s false = s := by
  simp [rampStep, noRamp, noTarget]

/-- A base boundary of clocks at rest: no record, no gate, and of the registers only those of the clocks. -/
theorem clkBoundary_of_rest {s : State} (rest : ClockAtRest s) : ∃ c, ClockRegs { s with clk := c } (clkBoundary s) := by
  obtain ⟨noRec, noHop, noGate, noTarget, still, noRamp⟩ := rest
  unfold clkBoundary
  extract_lets hopHere s1 s2 p0 s3 moves src s4 s5 n s6 s7 s8
  have s1_eq : s1 = onClk s (fun c => { c with recs := [] }) := by simp only [s1, noRec, forEach_nil]
  have stepped : ClockRegs s1 s2 := phaseStep_clockRegs (.refl _)
  have s3_eq : s3 = s2 := by
    have noHopHere : hopHere = false := by simp only [hopHere, noHop]
    have noRamp2 : rbit s2 0x3A0114 29 = false := by
      rw [rbit, stepped.regs _ (by simp [ClockReg]) (by decide), s1_eq]; exact noRamp
    simp only [s3, noHopHere]
    exact rampStep_of_rest noRamp2 (by rw [stepped.clk, s1_eq]; exact noTarget)
  have rests : moves = false := by simp only [moves, p0, s3_eq, ne_eq, not_true, decide_false]
  have s4_eq : s4 = s3 := by
    have still3 : s3.clk.moving = false := by rw [s3_eq, stepped.clk, s1_eq]; exact still
    simp only [s4, rests, still3]
    rfl
  have moved : ClockRegs s1 s5 := by
    simp only [s5, s4_eq, s3_eq]
    exact stepped.moves _
  have gated : ClockRegs s6 s8 := by
    have closed : ClockRegs s6 s7 := ckoGateAll_clockRegs (ckoGateAll_clockRegs (.refl _) _ _) _ _
    exact forN_induction (P := fun u _ => ClockRegs s6 u) _ 4 closed (fun u o ho k => ckoSlew_clockRegs ((ckoGate_clockRegs k ho _ _).ite k) ho)
  have gate8 : s8.clk.gate = none := by
    rw [gated.clk]; simp only [s6, clk_onClk, moved.clk, s1_eq]; exact noGate
  have shown : ClockRegs { s with clk := s6.clk } s6 := by
    have h := moved.withClk s6.clk
    rw [s1_eq] at h
    exact h
  rw [gate8]
  exact ⟨s6.clk, shown.trans gated⟩

/-! ### Boundary records -/

/-- The event controller does not look at the record ring. -/
theorem offEv_withBnd (s : State) (l : List BndRec) : offEv { s with bnd := l } = { offEv s with bnd := l } := rfl

/-- What a boundary record leaves alone: all but the record ring and what the event controller does of itself (R53). -/
theorem bndRecord_rest (s : State) (b : W64) (typ detail : Nat) : offEv { bndRecord s b typ detail with bnd := s.bnd } = offEv s := by
  unfold bndRecord
  split
  · simp [offEv]
  · rw [offEv_withBnd, (evRaise_settles (Settles.refl _) 80 (by omega)).rest]
    rfl

theorem bndRecord_regs (s : State) (b : W64) (typ detail : Nat) {x : Nat} (notEv : ¬ evReg x) (notLost : x ≠ 0x200030) :
    rget (bndRecord s b typ detail) x = rget s x := by
  unfold bndRecord
  split
  · rw [rget_rinc_other _ _ _ _ _ notLost, rget_rsetBit_other _ _ _ _ notLost]
  · exact (evRaise_settles (Settles.refl _) 80 (by omega)).regs x notEv

theorem Settles.bnd {s t : State} (h : Settles s t) : t.bnd = s.bnd := (congrArg State.bnd h.rest :)

theorem bndRecord_bnd {s : State} (room : s.bnd.length < 16) (b : W64) (typ detail : Nat) :
    (bndRecord s b typ detail).bnd = s.bnd ++ [⟨b, typ, detail⟩] := by
  rw [bndRecord, if_neg (by omega), (evRaise_settles (Settles.refl _) 80 (by omega)).bnd]

/-! ### Clusters start to tick -/

/-- The boundary record of a cluster that starts to tick in its domain at this boundary (R53, R467). -/
def startRecord (s : State) (c : Nat) : Option BndRec :=
  if pwrStep s c = 3 ∧ rfld s 0x20000C (2 * c) 2 ≠ mget 0 s.pwr.dom c then some ⟨s.btc, 9, c * 256 + mget 0 s.pwr.dom c * 4096⟩ else none

/-- From `s` to `t` the first `n` clusters, where powered and cleared, start to tick in the domain that waits for them (R32, R467). -/
structure Starts (s t : State) (n : Nat) : Prop where
  rest : offEv { t with bnd := s.bnd } = offEv s
  bnd : s.bnd = [] → t.bnd = (List.range n).filterMap (startRecord s)
  dom : ∀ c, c < 16 → rfld t 0x20000C (2 * c) 2 =
    if c < n ∧ pwrStep s c = 3 then mget 0 s.pwr.dom c % 4 else rfld s 0x20000C (2 * c) 2

theorem Starts.refl (s : State) : Starts s s 0 := ⟨rfl, id, fun _ _ => by simp⟩

theorem domOf_congr {s t : State} {c : Nat} (same : rfld t 0x20000C (2 * c) 2 = rfld s 0x20000C (2 * c) 2) : domOf t c = domOf s c := by
  simp only [domOf, same]

/-- Of domain fields the one of a cluster alone changes (R32). -/
theorem rfld_setDom (s : State) {c : Nat} (hc : c < 16) (d v : Nat) :
    rfld (setDom s c v) 0x20000C (2 * d) 2 = if d = c then v % 4 else rfld s 0x20000C (2 * d) 2 := by
  unfold setDom
  split
  · next same => rw [same]; exact rfld_rput_same _ _ _ _ _ (by omega)
  · exact rfld_rput_other _ _ _ _ _ _ _ _ (by omega) (by omega)

theorem domChange_dom (s : State) {c : Nat} (hc : c < 16) (d v : Nat) :
    rfld (domChange s c v) 0x20000C (2 * d) 2 = if d = c then v % 4 else rfld s 0x20000C (2 * d) 2 := by
  unfold domChange
  split
  · next same =>
    split
    · next isC => subst isC same; exact (Nat.mod_eq_of_lt (Nat.mod_lt _ (by omega))).symm
    · rfl
  · rw [rfld, bndRecord_regs _ _ _ _ (by simp [evReg]) (by decide)]
    exact rfld_setDom s hc d v

theorem domChange_rest (s : State) (c v : Nat) : offEv { domChange s c v with bnd := s.bnd } = offEv s := by
  unfold domChange
  split
  · rfl
  · exact bndRecord_rest (setDom s c v) _ _ _

theorem domChange_bnd {s : State} (room : s.bnd.length < 16) (c v : Nat) : (domChange s c v).bnd =
    s.bnd ++ if rfld s 0x20000C (2 * c) 2 = v then [] else [⟨s.btc, 9, c * 256 + v * 4096⟩] := by
  unfold domChange
  split
  · simp
  · exact bndRecord_bnd (s := setDom s c v) room _ _ _

theorem startRecords_length (s : State) (n : Nat) : ((List.range n).filterMap (startRecord s)).length ≤ n :=
  (List.length_filterMap_le _ _).trans (by simp)

theorem startRecords_succ (s : State) (n : Nat) : (List.range (n + 1)).filterMap (startRecord s) =
    (List.range n).filterMap (startRecord s) ++ (startRecord s n).toList := by
  rw [List.range_succ, List.filterMap_append]
  cases h : startRecord s n <;> simp [h]

/-- A cluster that is not powered and cleared does not start. -/
theorem Starts.skip {s t : State} {n : Nat} (h : Starts s t n) (off : pwrStep s n ≠ 3) : Starts s t (n + 1) := by
  refine ⟨h.rest, fun empty => ?_, fun c hc => ?_⟩
  · rw [startRecords_succ, h.bnd empty]
    simp [startRecord, off]
  · rw [h.dom c hc]
    by_cases isN : c = n
    · subst isN; simp [off]
    · simp [show c < n + 1 ↔ c < n by omega]

/-- The next cluster starts in its domain. -/
theorem Starts.start {s t : State} {n : Nat} (h : Starts s t n) (hn : n < 16) (on : pwrStep s n = 3) :
    Starts s (domChange t n (mget 0 s.pwr.dom n)) (n + 1) := by
  have unstarted : rfld t 0x20000C (2 * n) 2 = rfld s 0x20000C (2 * n) 2 := by rw [h.dom n hn, if_neg (by omega)]
  have sameBtc : t.btc = s.btc := (congrArg State.btc h.rest :)
  refine ⟨?_, fun empty => ?_, fun c hc => ?_⟩
  · exact (congrArg (fun u : State => { u with bnd := s.bnd }) (domChange_rest t n _)).trans h.rest
  · have room : t.bnd.length < 16 := by rw [h.bnd empty]; exact lt_of_le_of_lt (startRecords_length s n) hn
    rw [domChange_bnd room, startRecords_succ, h.bnd empty, unstarted, sameBtc, startRecord]
    by_cases same : rfld s 0x20000C (2 * n) 2 = mget 0 s.pwr.dom n
    · simp [same]
    · simp [same, on]
  · rw [domChange_dom t hn, h.dom c hc]
    by_cases isN : c = n
    · subst isN; simp [on]
    · simp [isN, show c < n + 1 ↔ c < n by omega]

/-- With no cluster ticking and none on its way down, every powered and cleared cluster starts (R467). -/
theorem powerBoundary_starts {s : State} (idle : ∀ c, c < 16 → domOf s c = 0) (noneDown : s.pwr.down = []) :
    Starts s (powerBoundary s) 16 := by
  refine forN_induction (P := Starts s) _ 16 (Starts.refl s) (fun t n hn h => ?_)
  have samePwr : t.pwr = s.pwr := (congrArg State.pwr h.rest :)
  have notDown : mget false t.pwr.down n = false := by rw [samePwr, noneDown]; rfl
  have unstarted : domOf t n = 0 := (domOf_congr (by rw [h.dom n hn, if_neg (by omega)])).trans (idle n hn)
  rw [notDown, unstarted, samePwr, pwrStep, samePwr]
  by_cases on : pwrStep s n = 3
  · rw [if_neg (by simpa [pwrStep] using on), if_neg (by simp), if_pos rfl]
    exact h.start hn on
  · rw [if_pos (by simpa [pwrStep] using on)]
    exact h.skip on

theorem evtFlush_settles (s : State) : Settles s (evtFlush s) := by
  refine Settles.foldl (.refl s) (fun u i _ h => ?_)
  extract_lets n
  exact Settles.ite h (Settles.ite (evtSend_settles h _) (h.setNs_ _ _))

/-! ### The base boundary -/

/-- A state but for the record ring, the clocks, the meters, and what the event controller changes of itself. -/
def offBoundary (s : State) : State := { offEv s with bnd := [], clk := {}, mtr := {} }

theorem offBoundary_withBnd (s : State) (l : List BndRec) : offBoundary { s with bnd := l } = offBoundary s := rfl
theorem offBoundary_withCtl (s : State) (m : SMap W32) : offBoundary { s with ctl := m } = offBoundary s := rfl
theorem offBoundary_withClk (s : State) (c : ClkSt) : offBoundary { s with clk := c } = offBoundary s := rfl
theorem offBoundary_congr {s t : State} (h : offEv s = offEv t) : offBoundary s = offBoundary t :=
  congrArg (fun u : State => { u with bnd := [], clk := {}, mtr := {} }) h

theorem Settles.offBoundary {s t : State} (h : Settles s t) : offBoundary t = offBoundary s := offBoundary_congr h.rest

theorem Starts.offBoundary {s t : State} {n : Nat} (h : Starts s t n) : offBoundary t = offBoundary s :=
  (offBoundary_withBnd t s.bnd).symm.trans (offBoundary_congr h.rest)

theorem ClockRegs.offBoundary {s t : State} {c : ClkSt} (h : ClockRegs { s with clk := c } t) : offBoundary t = offBoundary s :=
  ((offBoundary_withCtl t s.ctl).symm.trans (congrArg _ h.rest)).trans (offBoundary_withClk s c)

/-- From `s` to `t` the base tick of BTC `b` starts at its position 0, and every powered and cleared cluster starts to tick in it
(R32–R34, R467). -/
structure BaseStarts (s t : State) (b : W64) : Prop where
  rest : offBoundary t = offBoundary { s with btc := b, quarter := 0 }
  bnd : s.bnd = [] → t.bnd = (List.range 16).filterMap (startRecord { s with btc := b })
  dom : ∀ c, c < 16 → rfld t 0x20000C (2 * c) 2 = if pwrStep s c = 3 then mget 0 s.pwr.dom c % 4 else rfld s 0x20000C (2 * c) 2

theorem baseStep_of_rest {s : State} {b : W64} (rest : ClockAtRest s) (noSnapshot : snapshotDue s b = false)
    (idle : ∀ c, c < 16 → domOf s c = 0) (noneDown : s.pwr.down = []) : BaseStarts s (baseStep s [] b) b := by
  unfold baseStep
  extract_lets s1 mtr s2 s3 gated s4 s5
  have s3_eq : s3 = { s with mtr := { s.mtr with late := false }, btc := b, quarter := 0 } := by
    have s1_eq : s1 = s := if_neg (by simp [noSnapshot])
    simp only [s3, s2, mtr, s1_eq, groupsDone, forEach_nil]
  obtain ⟨c, clocks⟩ : ∃ c, ClockRegs { s3 with clk := c } s4 := by
    refine clkBoundary_of_rest ?_
    rw [s3_eq]
    exact ⟨rest.noRec, rest.noHop, rest.noGate, rest.noTarget, rest.still, rest.noRamp⟩
  have s5_eq : s5 = s4 := by
    have sameGate : rbit s4 0x200008 3 = gated := clocks.flags 3 (by decide)
    simp only [s5, sameGate, Bool.and_not_self]
    rfl
  have dom4 : ∀ d, rfld s4 0x20000C (2 * d) 2 = rfld s 0x20000C (2 * d) 2 := fun d => by rw [clocks.dom, s3_eq]; rfl
  have pwr4 : s4.pwr = s.pwr := by rw [clocks.pwr, s3_eq]
  have bnd4 : s4.bnd = s.bnd := by rw [clocks.bnd, s3_eq]
  have btc4 : s4.btc = b := by rw [clocks.btc, s3_eq]
  have starts : Starts s4 (powerBoundary s4) 16 :=
    powerBoundary_starts (fun d hd => (domOf_congr (dom4 d)).trans (idle d hd)) (by rw [pwr4, noneDown])
  have flushed := evtFlush_settles (powerBoundary s4)
  rw [s5_eq]
  refine ⟨?rest, fun empty => ?bnd, fun d hd => ?dom⟩
  case rest =>
    rw [flushed.offBoundary, starts.offBoundary, clocks.offBoundary, s3_eq]
    rfl
  case bnd =>
    have sameRecord : startRecord s4 = startRecord { s with btc := b } := by
      funext d
      simp only [startRecord, pwrStep, dom4, pwr4, btc4]
      rfl
    rw [flushed.bnd, starts.bnd (bnd4.trans empty), sameRecord]
  case dom =>
    rw [rfld, flushed.regs _ (by simp [evReg])]
    refine (starts.dom d hd).trans ?_
    rw [dom4, pwr4]
    exact if_congr (by simp [hd, pwrStep, pwr4]) rfl rfl

/-- The structure is idle before a base boundary: no cluster ticks or is on its way down, no group, image start, CLEAR or snapshot of
the meters is due, no lane table is live, no port is bound and no network link is to recover. -/
structure IdleStructure (s : State) : Prop where
  noneTicks : ∀ c, c < 16 → domOf s c = 0
  noneDown : s.pwr.down = []
  unlatched : latchedGroups s = []
  noImage : s.cmt.start = none
  noClear : s.cmt.clearAt = none
  noSnapshot : snapshotDue s (s.btc + 1) = false
  noTable : s.ex.live = []
  unbound : s.port.live = []
  unchanged : s.port.chg = []
  noAlign : s.net.alg = []
  closed0 : fltOpen s 9 0x6000 = false
  closed1 : fltOpen s 9 0x6001 = false

/-- A base boundary at which nothing is due but the clusters that wait for their first tick. -/
theorem boundary_base {s : State} (idle : IdleStructure s) (clocks : ClockAtRest s) : BaseStarts s (boundary s 0) (s.btc + 1) := by
  have h := baseStep_of_rest clocks idle.noSnapshot idle.noneTicks idle.noneDown
  have noneDue : dueClusters s 0 = [] := dueClusters_eq_nil (fun c hc => by simp [idle.noneTicks c hc])
  rw [boundary_base_of_none_due noneDue idle.unlatched (liveBridges_of_none idle.noTable), swapStep_of_none idle.noImage idle.noClear]
  generalize baseStep s [] (s.btc + 1) = t at h
  have port : t.port = s.port := (congrArg State.port h.rest :)
  have net : t.net = s.net := (congrArg State.net h.rest :)
  have flt : t.flt = s.flt := (congrArg State.flt h.rest :)
  rw [portHooks_of_no_change (port ▸ idle.unchanged), algBoundary_of_none (port ▸ idle.unbound) (net ▸ idle.noAlign),
    linkRecovered_of_closed (by rw [fltOpen, flt]; exact idle.closed0) (by rw [fltOpen, flt]; exact idle.closed1)]
  exact h

/-! ### The command -/

theorem exec_tickBoundary_of_reset {s : State} (held : s.boot.held = true) (q : Fin 4) (f : BoundaryFacts) :
    exec (.tickBoundary q f) s = .next s := by
  change execTickBoundary q f s = _
  rw [execTickBoundary, if_pos held]

/-- The state in which no access of a port is given to the boundary. -/
def withoutAcc (s : State) : State := { s with port := { s.port with acc := [] } }

/-- The state after the boundary, with the accesses of `s` that stood aside. -/
def accBack (s t : State) : State := { t with port := { t.port with acc := s.port.acc } }

/-- TICK_BOUNDARY naming the very next boundary, with no access withdrawn and none of a port (R31, R43). -/
theorem exec_tickBoundary_next {s : State} {q : Fin 4} (up : s.boot.held = false) (next : (s.quarter + 1) % 4 = q.val) :
    exec (.tickBoundary q {}) s = .next (accBack s (boundary (withoutAcc s) q.val)) := by
  have one : boundariesTo s q.val = 1 := by unfold boundariesTo; omega
  have run : boundaries 1 (withoutAcc s) = boundary (withoutAcc s) q.val := by rw [← next]; rfl
  change execTickBoundary q {} s = _
  rw [execTickBoundary, if_neg (by simp [up])]
  simp only [List.map_nil, forEach_nil, one]
  exact congrArg (fun t => Host.Outcome.next (accBack s t)) run

/-- Settles O22: no boundary in power-on reset, a position moved at a minor one, and at a base boundary the waiting clusters' first tick. -/
theorem tickBoundaries : Obligations.TickBoundaries := by
  refine ⟨fun st q => ⟨?minor, fun held f => exec_tickBoundary_of_reset held q f⟩, ?base⟩
  case minor =>
    intro up notBase next below unchanged closed0 closed1
    have minor : q.val ≠ 0 := fun h => notBase (Fin.ext h)
    have below' : ∀ c, c < 16 → domOf st c < if q.val = 2 then 2 else 4 := by simpa [Fin.ext_iff] using below
    rw [exec_tickBoundary_next up (by omega), boundary_minor (s := withoutAcc st) minor below' unchanged closed0 closed1]
    rfl
  case base =>
    intro st up last noneTicks unlatched noImage noClear noTable unbound unchanged _ noAlign noSnapshot noRec noHop noGate noTarget still
      noRamp noneDown closed0 closed1
    have idle : IdleStructure (withoutAcc st) :=
      ⟨noneTicks, noneDown, unlatched, noImage, noClear, noSnapshot, noTable, unbound, unchanged, noAlign, closed0, closed1⟩
    have h : BaseStarts (withoutAcc st) (boundary (withoutAcc st) 0) (st.btc + 1) :=
      boundary_base idle ⟨noRec, noHop, noGate, noTarget, still, noRamp⟩
    refine ⟨_, exec_tickBoundary_next (q := 0) up (by rw [last]; rfl), ?_⟩
    rw [Fin.val_zero]
    generalize boundary (withoutAcc st) 0 = t at h
    have port : (accBack st t).port = st.port := (congrArg (fun u : State => (accBack st u).port) h.rest :)
    exact ⟨(congrArg State.btc h.rest :), (congrArg State.quarter h.rest :), (congrArg State.cells h.rest :), (congrArg State.mem h.rest :),
      (congrArg State.cmt h.rest :), port, h.bnd, h.dom⟩

end Sys2Proof.Machine
end

section
/-! Proofs: what a cell's operation reads and puts in flight, by the cell once its issue cycles have passed (R55, R75, R100). -/

namespace Sys2Proof.Machine

/-! ### What stands while results are put in flight -/

section
variable {s t : State} {k g : Nat} {rs : List Flown} (h : Flies s t k g rs)
include h

theorem Flies.d : (cellAt t k).d = (cellNow s k g).d := h.same (·.d) fun _ _ _ _ _ _ => rfl
theorem Flies.a : (cellAt t k).a = (cellNow s k g).a := h.same (·.a) fun _ _ _ _ _ _ => rfl
theorem Flies.af : (cellAt t k).af = (cellNow s k g).af := h.same (·.af) fun _ _ _ _ _ _ => rfl
theorem Flies.p : (cellAt t k).p = (cellNow s k g).p := h.same (·.p) fun _ _ _ _ _ _ => rfl
theorem Flies.i : (cellAt t k).i = (cellNow s k g).i := h.same (·.i) fun _ _ _ _ _ _ => rfl
theorem Flies.z : (cellAt t k).z = (cellNow s k g).z := h.same (·.z) fun _ _ _ _ _ _ => rfl
theorem Flies.lp : (cellAt t k).lp = (cellNow s k g).lp := h.same (·.lp) fun _ _ _ _ _ _ => rfl
theorem Flies.bx : (cellAt t k).bx = (cellNow s k g).bx := h.same (·.bx) fun _ _ _ _ _ _ => rfl
theorem Flies.st : (cellAt t k).st = (cellNow s k g).st := h.same (·.st) fun _ _ _ _ _ _ => rfl
theorem Flies.lender : (cellAt t k).lender = (cellNow s k g).lender := h.same (·.lender) fun _ _ _ _ _ _ => rfl
theorem Flies.mem : t.mem = s.mem := (congrArg State.mem h.rest :)
theorem Flies.ctl : t.ctl = s.ctl := (congrArg State.ctl h.rest :)
theorem Flies.kpage : kpage t k = kpage s k := by unfold Machine.kpage rfld rget; rw [h.ctl]
theorem Flies.cellWord (m off : Nat) : cellWord t m off = cellWord s m off := by unfold Machine.cellWord; rw [h.mem]

/-- A result that is put in flight only where a condition holds. -/
theorem Flies.flyIf (b : Bool) (lat : Nat) (d : Dst) (v : Acc) :
    Flies s (if b then flyTo t k lat d v else t) k g (rs ++ if b then [(lat, d, v)] else []) := by
  cases b
  · simpa using h
  · exact h.fly lat d v
end

/-- The fields of an operation that fits its instruction are legal (R106). -/
theorem opFields_of_fits {c : Cell} {op : CellOp} (h : opFits c op = true) : opFields op = true := by
  simp only [opFits, opLegal, Bool.and_eq_true] at h
  exact h.1.1.1.1

/-! ### The multiply field -/

/-- Every mode up to 5 has a product (R81). -/
theorem macProduct_isSome {mode : Nat} (h : mode ≤ 5) (x y : Word) : ∃ p, macProduct mode x y = some p := by
  interval_cases mode <;> exact ⟨_, rfl⟩

/-- The operand Y of the cell `c` of slot `k` (R81). -/
def macOperand (s : State) (k : Nat) (c : Cell) (ysrc : Bool) (yop : Nat) : Word :=
  if ysrc then cellWord s (c.lender.getD k) (0x1000 + 0x800 * kpage s k + (mget 0 c.p (yop / 2)).toNat % 2048) else mget 0 c.d yop

/-- The results of a multiply operation: the pointer's update, both views of the accumulator, ST.AOV (R62, R81, R100). -/
def macResults (c : Cell) (op an : Nat) (ysrc : Bool) (yop : Nat) (p : Product) : List Flown :=
  (if ysrc && decide (yop % 2 = 1) then
    [(1, .p (yop / 2), (ptrUpdate (mget 0 c.z (yop / 2)) (mget 0 c.p (yop / 2)) (mget 0 c.i (yop / 2))).zeroExtend 144)] else [])
  ++ [(1, .acc an true true true, (macApply op (mget 0 c.af an) p).1), (4, .acc an false true true, (macApply op (mget 0 c.af an) p).1)]
  ++ (if (macApply op (mget 0 c.af an) p).2 then [(4, .stOr (!c.sample), 2)] else [])

/-- A coefficient read with clean check bits delivers the active page's word and changes nothing (R70, R73). -/
theorem coefRead_clean (s : State) (k off : Nat) :
    coefRead s k off .ok = (cellWord s ((cellAt s k).lender.getD k) (0x1000 + 0x800 * kpage s k + off % 2048), s) := by
  simp [coefRead, memSlot, cellEcc]

theorem macOperand_clean (s : State) (k : Nat) (ysrc : Bool) (yop : Nat) :
    (if ysrc then coefRead s k (mget 0 (cellAt s k).p (yop / 2)).toNat .ok else (mget 0 (cellAt s k).d yop, s))
      = (macOperand s k (cellAt s k) ysrc yop, s) := by
  cases ysrc
  · rfl
  · exact coefRead_clean s k _

/-- The operand Y stands while results are put in flight. -/
theorem Flies.macOperand {st s : State} {k g : Nat} {rs : List Flown} (h : Flies st s k g rs) (ysrc : Bool) (yop : Nat) :
    macOperand s k (cellAt s k) ysrc yop = macOperand st k (cellNow st k g) ysrc yop := by
  unfold Machine.macOperand
  rw [h.lender, h.kpage, h.cellWord, h.p, h.d]

/-- The multiply field with clean check bits and residues puts its results in flight (R62, R81). -/
theorem doMac_flies {st s : State} {k g : Nat} (h : Flies st s k g []) {mode xr : Nat} {ysrc : Bool} {yop : Nat} {p : Product}
    (hp : macProduct mode (mget 0 (cellNow st k g).d xr) (macOperand st k (cellNow st k g) ysrc yop) = some p) (op an : Nat) :
    Flies st (doMac s k (!(cellNow st k g).sample) op mode an xr ysrc yop {}) k g (macResults (cellNow st k g) op an ysrc yop p) := by
  have pointer := h.flyIf (ysrc && decide (yop % 2 = 1)) 1 (.p (yop / 2))
    ((ptrUpdate (mget 0 (cellNow st k g).z (yop / 2)) (mget 0 (cellNow st k g).p (yop / 2))
      (mget 0 (cellNow st k g).i (yop / 2))).zeroExtend 144)
  have run := (pointer.flyAcc 1 4 an true true (macApply op (mget 0 (cellNow st k g).af an) p).1).flyIf
    (macApply op (mget 0 (cellNow st k g).af an) p).2 4 (.stOr (!(cellNow st k g).sample)) 2
  unfold doMac
  simp only [macOperand_clean, Bool.false_eq_true, if_false]
  simp only [h.macOperand, h.d, h.p, h.i, h.z, h.af, hp]
  exact run

/-- A multiply instruction that issues. -/
theorem macRun_flies {st : State} {k g op mode an xr : Nat} {ysrc : Bool} {yop : Nat} (h : st.issues k g (.mac op mode an xr ysrc yop)) :
    ∃ p, macProduct mode (mget 0 (cellNow st k g).d xr) (macOperand st k (cellNow st k g) ysrc yop) = some p ∧
      Flies st (cellRun st k g (.mac op mode an xr ysrc yop) {}) k g (macResults (cellNow st k g) op an ysrc yop p) := by
  have legal : mode ≤ 5 := by simpa [opFields] using opFields_of_fits h.2
  obtain ⟨p, hp⟩ := macProduct_isSome legal (mget 0 (cellNow st k g).d xr) (macOperand st k (cellNow st k g) ysrc yop)
  exact ⟨p, hp, Flies.of_run h (doMac_flies (issuedState_flies st k g _) hp op an)⟩

/-- Settles O4: the product of the mode, which is legal, is applied to the accumulator as `macApply` says. -/
theorem cellMultipliesFly : Obligations.CellMultipliesFly := by
  intro st c s g mode an xr ysrc yop opens k x fits pm ptr y xx a upd res comb out
  have flies : ∀ op, fits op → Flies st (cellRun st k g (.mac op mode.val an.val xr.val ysrc yop.val) {}) k g (out op) := by
    intro op legal
    obtain ⟨p, hp, run⟩ := macRun_flies ⟨opens, legal⟩
    have results : out op = macResults x op an.val ysrc yop.val p := by
      change (match macProduct mode.val xx y with | none => [] | some (.full v) => _ | some (.pair h l) => _) = _
      rw [show macProduct mode.val xx y = some p from hp]
      cases p <;> rfl
    rw [results]; exact run
  exact ⟨fun legal => ⟨_, rfl, flies 1 legal⟩, fun legal => ⟨_, rfl, flies 2 legal⟩, fun legal => ⟨_, rfl, flies 3 legal⟩⟩

end Sys2Proof.Machine
end

section
/-! Proofs: the pointer and special-register operations (R58, R59, R84, R88, R89, R100). -/

namespace Sys2Proof.Machine

/-! ### State memory -/

section
variable {s t : State} {k g : Nat} {rs : List Flown} (h : Flies s t k g rs)
include h

theorem Flies.stale : (cellAt t k).stale = (cellNow s k g).stale := h.same (·.stale) fun _ _ _ _ _ _ => rfl
theorem Flies.bst : (cellAt t k).bst = (cellNow s k g).bst := h.same (·.bst) fun _ _ _ _ _ _ => rfl
theorem Flies.ownState : (cellAt t k).ownState = (cellNow s k g).ownState := h.same (·.ownState) fun _ _ _ _ _ _ => rfl
theorem Flies.stateSlot : stateSlot t k = if (cellNow s k g).ownState then k else (cellNow s k g).lender.getD k := by
  unfold Machine.stateSlot memSlot; rw [h.ownState, h.lender]
theorem Flies.stOf (blk : Bool) : stOf (cellAt t k) blk = stOf (cellNow s k g) blk := by unfold Machine.stOf; rw [h.bst, h.st]
end

/-- With no word of the cell's own under way, a load sees what stands in the memory (R100). -/
theorem stateSeen_of_none_stale {s : State} {k : Nat} (none : (cellAt s k).stale = []) (off : Nat) :
    stateSeen s k off = cellWord s (stateSlot s k) (0x2000 + off) := by
  unfold stateSeen; rw [none]; rfl

/-- From `s` to `t` slot `k` stores the word `w` at offset `off` of its state memory, and of the slot that runs its cell (R83, R434). -/
structure StoresState (s t : State) (k off : Nat) (w : Word) : Prop where
  rest : { t with cells := s.cells, mem := { t.mem with cell := s.mem.cell } } = s
  others : ∀ j, j ≠ k → cellAt t j = cellAt s j
  flight : (cellAt t k).flight = (cellAt s k).flight
  d : (cellAt t k).d = (cellAt s k).d
  word : ∀ n, mget 0 t.mem.cell n =
    if n = stateSlot s k * 0x4000 + (0x2000 + off) ∨ n = k * 0x4000 + (0x2000 + off) then w else mget 0 s.mem.cell n

/-- A word of a cell's memories after a write. -/
theorem mget_cellPut (s : State) (m off : Nat) (w : Word) (n : Nat) :
    mget 0 (cellPut s m off w).mem.cell n = if n = m * 0x4000 + off then w else mget 0 s.mem.cell n := mget_mset _ _ _ _ _

/-- A write to a cell's memories changes nothing else. -/
theorem cellPut_rest (s : State) (m off : Nat) (w : Word) (cs : SMap Cell) (ws : SMap Word) :
    { cellPut s m off w with cells := cs, mem := { (cellPut s m off w).mem with cell := ws } }
      = { s with cells := cs, mem := { s.mem with cell := ws } } := rfl

theorem stateStore_stores (s : State) (k off : Nat) (w : Word) (lat : Nat) : StoresState s (stateStore s k off w lat) k off w := by
  unfold stateStore
  extract_lets old marked written
  have slot : stateSlot marked k = stateSlot s k := by simp [marked, stateSlot, memSlot]
  have others : ∀ j, j ≠ k → cellAt marked j = cellAt s j := fun j hj => by simp [marked, cellAt_onCell, hj]
  have flight : (cellAt marked k).flight = (cellAt s k).flight := by simp [marked]
  have d : (cellAt marked k).d = (cellAt s k).d := by simp [marked]
  have word : ∀ n, mget 0 written.mem.cell n = if n = stateSlot s k * 0x4000 + (0x2000 + off) then w else mget 0 s.mem.cell n :=
    fun n => by rw [mget_cellPut, slot]; rfl
  have rest : { written with cells := s.cells, mem := { written.mem with cell := s.mem.cell } } = s := cellPut_rest _ _ _ _ _ _
  rw [show stateSlot written k = stateSlot s k from slot]
  split
  case isTrue own => exact ⟨rest, others, flight, d, fun n => by rw [word, own]; simp only [or_self]⟩
  case isFalse lent =>
    refine ⟨(cellPut_rest _ _ _ _ _ _).trans rest, others, flight, d, fun n => ?_⟩
    rw [mget_cellPut, word, ← ite_or]
    exact if_congr or_comm rfl rfl

/-- A store behind results put in flight (R75, R83). -/
theorem Flies.storesState {st s t : State} {k g off : Nat} {rs : List Flown} {w : Word} (h : Flies st s k g rs) (stored : StoresState s t k off w) :
    { t with cells := st.cells, mem := { t.mem with cell := st.mem.cell } } = st ∧ (∀ j, j ≠ k → cellAt t j = cellAt st j) ∧
    (cellAt t k).flight = flown (cellNow st k g) rs ∧ (cellAt t k).d = (cellNow st k g).d ∧
    ∀ n, mget 0 t.mem.cell n = if n = (if (cellNow st k g).ownState then k else (cellNow st k g).lender.getD k) * 0x4000 + (0x2000 + off)
      ∨ n = k * 0x4000 + (0x2000 + off) then w else mget 0 st.mem.cell n := by
  obtain ⟨rest, others, flight, d, word⟩ := stored
  refine ⟨?_, fun j hj => (others j hj).trans (h.others j hj), flight.trans h.flight, d.trans h.d, fun n => ?_⟩
  · rw [← h.mem]
    exact (congrArg (fun u : State => { u with cells := st.cells }) rest).trans h.rest
  · rw [word, h.stateSlot, h.mem]

/-! ### The fields of the operations -/

/-- The register MOVS writes (R88). -/
def movsTarget (blk : Bool) (cls idx : Nat) : Dst :=
  match cls with
  | 0 => .p idx
  | 1 => .i idx
  | 2 => .z idx
  | 3 => .lp idx
  | 4 => .bx
  | _ => .st blk 0xF7

/-- What MOVS reads of a special register (R88). -/
def movsSource (c : Cell) (blk : Bool) (cls idx : Nat) : Word :=
  match cls with
  | 0 => (mget 0 c.p idx).zeroExtend 72
  | 1 => (mget 0 c.i idx).signExtend 72
  | 2 => (mget 0 c.z idx).zeroExtend 72
  | 3 => (mget 0 c.lp idx).zeroExtend 72
  | 4 => c.bx.zeroExtend 72
  | _ => (c.st.extractLsb' 8 8 ++ stOf c blk).zeroExtend 72

theorem movsDst_of_legal {cls idx : Nat} (legal : (movsDst false cls idx).isSome = true) (blk : Bool) :
    movsDst blk cls idx = some (movsTarget blk cls idx) := by
  unfold movsDst at *
  unfold movsTarget
  split <;> simp_all

theorem movsRead_of_legal {cls idx : Nat} (legal : (movsDst false cls idx).isSome = true) (c : Cell) (blk : Bool) :
    movsRead c blk cls idx = some (movsSource c blk cls idx) := by
  unfold movsDst at legal
  unfold movsRead movsSource
  split <;> simp_all

/-- What the cell's registers give MOVS stands while results are put in flight. -/
theorem Flies.movsSource {s t : State} {k g : Nat} {rs : List Flown} (h : Flies s t k g rs) (blk : Bool) (cls idx : Nat) :
    movsSource (cellAt t k) blk cls idx = movsSource (cellNow s k g) blk cls idx := by
  unfold Machine.movsSource
  rw [h.p, h.i, h.z, h.lp, h.bx, h.st, h.stOf]

/-! ### The operations -/

section
variable {st s : State} {k g : Nat} (h : Flies st s k g []) (blk : Bool) (e : OpEnv)
include h

theorem setp_flies {cls n : Nat} {imm : BitVec 20} (legal : opFields (.setp cls n imm) = true) :
    Flies st (cellOp s k blk (.setp cls n imm) e) k g
      [(2, if cls = 0 then .p n else if cls = 1 then .i n else .z n, imm.zeroExtend 144)] := by
  simp only [opFields, Bool.and_eq_true, decide_eq_true_eq, Bool.or_eq_true] at legal
  obtain ⟨known, short⟩ := legal
  match cls with
  | 0 => exact h.fly 2 (.p n) _
  | 1 => exact h.fly 2 (.i n) _
  | 2 =>
    have run : cellOp s k blk (.setp 2 n imm) e = flyTo s k 2 (.z n) (imm.zeroExtend 144) := if_pos (short.resolve_left (by simp))
    rw [run]; exact h.fly 2 (.z n) _

theorem padd_flies (p : Nat) (imm : BitVec 10) : Flies st (cellOp s k blk (.padd p imm) e) k g
    [(1, .p p, (ptrUpdate (mget 0 (cellNow st k g).z p) (mget 0 (cellNow st k g).p p) (imm.signExtend 20)).zeroExtend 144)] := by
  rw [← h.z, ← h.p]; exact h.fly 1 (.p p) _

theorem pmod_flies (p : Nat) {am : Nat} (legal : opFields (.pmod p am) = true) : Flies st (cellOp s k blk (.pmod p am) e) k g
    [(1, .p p, (ptrUpdate (mget 0 (cellNow st k g).z p) (mget 0 (cellNow st k g).p p)
      (if am = 1 then mget 0 (cellNow st k g).i p else if am = 3 then 1 else -1)).zeroExtend 144)] := by
  have known : (am = 1 ∨ am = 3) ∨ am = 4 := by simpa [opFields] using legal
  rw [← h.z, ← h.p, ← h.i]
  rcases known with (rfl | rfl) | rfl <;> exact h.fly 1 (.p p) _

theorem movsTo_flies {cls idx n : Nat} (legal : opFields (.movs true cls idx n) = true) : Flies st (cellOp s k blk (.movs true cls idx n) e) k g
    [(2, movsTarget blk cls idx, z72 (mget 0 (cellNow st k g).d n))] := by
  have run : cellOp s k blk (.movs true cls idx n) e
      = flyTo (if cls = 4 then bxWritten s k else s) k 2 (movsTarget blk cls idx) (z72 (mget 0 (cellAt s k).d n)) := by
    simp only [cellOp, if_true, movsDst_of_legal legal]
  rw [run, h.d]
  split
  · exact h.bxw.fly 2 _ _
  · exact h.fly 2 _ _

theorem movsFrom_flies {cls idx n : Nat} (legal : opFields (.movs false cls idx n) = true) :
    Flies st (cellOp s k blk (.movs false cls idx n) e) k g [(1, .d n true true, z72 (movsSource (cellNow st k g) blk cls idx))] := by
  have run : cellOp s k blk (.movs false cls idx n) e = flyTo s k 1 (.d n true true) (z72 (movsSource (cellAt s k) blk cls idx)) := by
    simp only [cellOp, Bool.false_eq_true, if_false, movsRead_of_legal legal]
  rw [run, h.movsSource]; exact h.fly 1 _ _

theorem ldpt_flies (fresh : (cellNow st k g).stale = []) (n : Nat) :
    let w := cellWord st (if (cellNow st k g).ownState then k else (cellNow st k g).lender.getD k) (0x2FF0 + n)
    Flies st (cellOp s k blk (.ldpt n) {}) k g [(3, .p n, z72 w), (3, .i n, z72 (w >>> 20)), (3, .z n, z72 (w >>> 40))] := by
  have word : stateSeen s k (0xFF0 + n) = cellWord st (if (cellNow st k g).ownState then k else (cellNow st k g).lender.getD k) (0x2FF0 + n) := by
    rw [stateSeen_of_none_stale (h.stale.trans fresh), h.stateSlot, h.cellWord, ← Nat.add_assoc]
  rw [← word]
  exact ((h.fly 3 (.p n) _).fly 3 (.i n) _).fly 3 (.z n) _
end

/-- Settles O7: each operation that fits its instruction puts in flight what its fields name; STPT stores the pointer's context word. -/
theorem cellPointersFly : Obligations.CellPointersFly := by
  intro st c s g opens k x blk fits z20 ptr
  have flies : ∀ {op : CellOp} {e : OpEnv} {rs : List Flown}, fits op →
      (opFields op = true → Flies st (cellOp (issuedState st k g op) k blk op e) k g rs) → Flies st (cellRun st k g op e) k g rs :=
    fun legal run => Flies.of_run ⟨opens, legal⟩ (run (opFields_of_fits legal))
  refine ⟨fun cls n imm legal => ⟨_, rfl, flies legal (setp_flies (issuedState_flies _ _ _ _) blk _)⟩,
    fun p imm legal => ⟨_, rfl, flies legal fun _ => padd_flies (issuedState_flies _ _ _ _) blk _ _ _⟩,
    fun p am legal => ⟨_, rfl, flies legal (pmod_flies (issuedState_flies _ _ _ _) blk _ _)⟩,
    fun cls idx n legal => ⟨_, rfl, flies legal (movsTo_flies (issuedState_flies _ _ _ _) blk _)⟩,
    fun cls idx n legal => ⟨_, rfl, flies legal (movsFrom_flies (issuedState_flies _ _ _ _) blk _)⟩,
    fun n legal fresh => ⟨_, rfl, flies legal fun _ => ldpt_flies (issuedState_flies _ _ _ _) blk fresh n.val⟩, fun n legal => ?stpt⟩
  case stpt =>
    have h : Flies st (issuedState st k g (.stpt n.val)) k g [] := issuedState_flies _ _ _ _
    have run : cellRun st k g (.stpt n.val) {} = stateStore (issuedState st k g (.stpt n.val)) k (0xFF0 + n.val)
        (ptrContext (mget 0 x.p n.val) (mget 0 x.i n.val) (mget 0 x.z n.val)) 2 := by
      rw [cellRun_issues _ _ _ _ _ ⟨opens, legal⟩, ← h.p, ← h.i, ← h.z]; rfl
    refine ⟨_, rfl, ?_⟩
    rw [show cellRun st (c.val * 68 + s.val) g (.stpt n.val) {} = _ from run]
    obtain ⟨rest, others, flight, d, word⟩ := h.storesState (stateStore_stores _ k _ _ 2)
    refine ⟨rest, others, flight.trans (List.append_nil _), d, fun y => ?_⟩
    have off : ∀ m : Nat, m * 0x4000 + (0x2000 + (0xFF0 + n.val)) = m * 0x4000 + 0x2FF0 + n.val := by omega
    rw [word, off, off]; rfl

end Sys2Proof.Machine
end

section
/-! Proofs: when results in flight land (R75–R77). -/

namespace Sys2Proof.Machine

/-! ### The address of the next issue -/

theorem setLoops_same {α : Type} (f : Cell → α) (hf : ∀ c l b h, f { c with loops := l, bloops := b, hloops := h } = f c)
    (c : Cell) (ls : List LoopRec) : f (setLoops c ls) = f c := by
  unfold setLoops
  split
  · exact hf c ls c.bloops c.hloops
  · split
    · exact hf c c.loops ls c.hloops
    · exact hf c c.loops c.bloops ls

/-- What the loops' decision leaves alone (R97). -/
theorem nextPc_same {α : Type} (f : Cell → α)
    (hf : ∀ c n lp l b h, f { c with npc := n, lp := lp, loops := l, bloops := b, hloops := h } = f c) (c : Cell) : f (nextPc c).2 = f c := by
  unfold nextPc
  split
  · exact hf c none c.lp c.loops c.bloops c.hloops
  · exact (setLoops_same f (fun c => hf c c.npc c.lp) _ _).trans (hf c c.npc _ c.loops c.bloops c.hloops)

/-- What a cell holds in an issue cycle before the results due in it land. -/
theorem tickOne_lands (c : Cell) :
    ∃ c', tickOne c = landDue c' ∧ c'.flight = c.flight ∧ c'.clk = c.clk + 1 ∧ c'.d = c.d ∧ c'.p = c.p := by
  have next : ((nextPc c).2.flight, (nextPc c).2.clk, (nextPc c).2.d, (nextPc c).2.p) = (c.flight, c.clk, c.d, c.p) :=
    nextPc_same (fun c => (c.flight, c.clk, c.d, c.p)) (fun _ _ _ _ _ _ => rfl) c
  simp only [Prod.mk.injEq] at next
  obtain ⟨flight, clk, d, p⟩ := next
  unfold tickOne
  split
  · exact ⟨_, rfl, flight, congrArg (· + 1) clk, d, p⟩
  · exact ⟨_, rfl, rfl, rfl, rfl, rfl⟩

/-! ### Results that are due together -/

theorem insDue_of_not_later (l : Landing) (ls : List Landing) (h : ∀ x ∈ ls, x.due ≤ l.due) : insDue l ls = ls ++ [l] := by
  induction ls with
  | nil => rfl
  | cons x r ih =>
    rw [insDue, if_neg (Nat.not_lt.2 (h x (by simp))), ih fun y hy => h y (by simp [hy])]; rfl

/-- Results due in one cycle keep the order of their issue (R76). -/
theorem byDue_of_same_due {n : Nat} (ls : List Landing) (h : ∀ l ∈ ls, l.due = n) : byDue ls = ls := by
  have fold : ∀ acc : List Landing, (∀ l ∈ acc, l.due = n) → ls.foldl (fun a l => insDue l a) acc = acc ++ ls := by
    induction ls with
    | nil => exact fun acc _ => (List.append_nil acc).symm
    | cons x r ih =>
      intro acc hacc
      have hx : x.due = n := h x (by simp)
      have first : insDue x acc = acc ++ [x] := insDue_of_not_later x acc fun y hy => by rw [hacc y hy, hx]
      rw [List.foldl_cons, first, ih (fun l hl => h l (by simp [hl])) _ (by simpa [or_imp, forall_and, hx] using hacc), List.append_assoc]
      rfl
  exact fold [] (by simp)

theorem landDue_of_all_due {c : Cell} (due : ∀ l ∈ c.flight, l.due = c.clk) : landDue c = c.flight.foldl landOne { c with flight := [] } := by
  have now : c.flight.partition (fun l => decide (l.due ≤ c.clk)) = (c.flight, []) := by
    rw [List.partition_eq_filter_filter, Prod.mk.injEq, List.filter_eq_self, List.filter_eq_nil_iff]
    exact ⟨fun l hl => by simp [due l hl], fun l hl => by simp [due l hl]⟩
  unfold landDue
  rw [now]
  exact congrArg (List.foldl landOne { c with flight := [] }) (byDue_of_same_due c.flight due)

theorem landDue_of_none_due {c : Cell} (later : ∀ l ∈ c.flight, c.clk < l.due) : landDue c = c := by
  have now : c.flight.partition (fun l => decide (l.due ≤ c.clk)) = ([], c.flight) := by
    rw [List.partition_eq_filter_filter, Prod.mk.injEq, List.filter_eq_nil_iff, List.filter_eq_self]
    exact ⟨fun l hl => by simpa using later l hl, fun l hl => by simpa using later l hl⟩
  unfold landDue
  rw [now]; rfl

/-! ### Issue cycles -/

theorem tickCell_succ (n : Nat) (c : Cell) : tickCell (n + 1) c = tickOne (tickCell n c) := by
  induction n generalizing c with
  | zero => rfl
  | succ n ih => exact ih (tickOne c)

/-- Nothing lands before it is due (R77). -/
theorem tickCell_waits {n : Nat} {c : Cell} (later : ∀ l ∈ c.flight, c.clk + n < l.due) : (tickCell n c).flight = c.flight ∧
    (tickCell n c).clk = c.clk + n ∧ (tickCell n c).d = c.d ∧ (tickCell n c).p = c.p := by
  induction n with
  | zero => exact ⟨rfl, rfl, rfl, rfl⟩
  | succ n ih =>
    obtain ⟨flight, clk, d, p⟩ := ih fun l hl => by have := later l hl; omega
    obtain ⟨c', ticked, flight', clk', d', p'⟩ := tickOne_lands (tickCell n c)
    have waits : landDue c' = c' := landDue_of_none_due (by
      rw [flight', flight, clk', clk]; exact fun l hl => later l hl)
    rw [tickCell_succ, ticked, waits]
    exact ⟨flight'.trans flight, by rw [clk', clk, Nat.add_assoc], d'.trans d, p'.trans p⟩

/-- What is in flight is all due `n + 1` cycles on: then it lands, in the order of its issue (R75, R76). -/
theorem tickCell_lands {n : Nat} {c : Cell} (due : ∀ l ∈ c.flight, l.due = c.clk + (n + 1)) :
    ∃ c', tickCell (n + 1) c = c.flight.foldl landOne c' ∧ c'.d = c.d ∧ c'.p = c.p := by
  obtain ⟨flight, clk, d, p⟩ := tickCell_waits (n := n) fun l hl => by rw [due l hl]; omega
  obtain ⟨c', ticked, flight', clk', d', p'⟩ := tickOne_lands (tickCell n c)
  have now : ∀ l ∈ c'.flight, l.due = c'.clk := by
    rw [flight', flight, clk', clk]; exact due
  refine ⟨{ c' with flight := [] }, ?_, d'.trans d, p'.trans p⟩
  rw [tickCell_succ, ticked, landDue_of_all_due now, flight', flight]

/-- A result of a cell with no other in flight lands exactly its latency after its issue (R75, R77). -/
theorem tickCell_fly {c : Cell} (alone : c.flight = []) {lat : Nat} (later : 1 ≤ lat) (dst : Dst) (v : Acc) :
    (∃ c', tickCell lat (fly c lat dst v) = landOne c' ⟨c.clk, c.clk + lat, dst, v⟩ ∧ c'.d = c.d ∧ c'.p = c.p) ∧
    ∀ j, j < lat → (tickCell j (fly c lat dst v)).d = c.d ∧ (tickCell j (fly c lat dst v)).p = c.p := by
  have flight : (fly c lat dst v).flight = [⟨c.clk, c.clk + lat, dst, v⟩] := by simp [fly, alone]
  refine ⟨?_, fun j hj => ?_⟩
  · obtain ⟨n, rfl⟩ := Nat.exists_eq_add_of_le' later
    obtain ⟨c', lands, d, p⟩ := tickCell_lands (n := n) (c := fly c (n + 1) dst v) (by rw [flight]; simp [fly])
    rw [flight] at lands
    exact ⟨c', lands, d, p⟩
  · obtain ⟨-, -, d, p⟩ := tickCell_waits (n := j) (c := fly c lat dst v) (by rw [flight]; simpa [fly] using hj)
    exact ⟨d, p⟩

theorem pack_hi_lo (w : Word) : Word.pack w.hi w.lo = w := by
  unfold Word.pack Word.hi Word.lo
  rw [BitVec.extractLsb'_append_extractLsb'_eq_extractLsb' (by omega)]
  exact BitVec.extractLsb'_eq_self

theorem landOne_word (c : Cell) (l : Landing) (n : Nat) (whole : l.dst = .d n true true) :
    landOne c l = { c with d := mset 0 c.d n (l.val.extractLsb' 0 72) } := by
  unfold landOne
  rw [whole]
  simp only [putD, if_true, pack_hi_lo]

/-- Settles O9: a result alone in flight lands in the cycle it is due in; of two that are due together the one issued last is kept. -/
theorem resultsLand : Obligations.ResultsLand := by
  refine ⟨fun x lat n v alone later => ?_, fun x lat n u v alone later => ?_⟩
  · obtain ⟨⟨c', landsD, d, -⟩, beforeD⟩ := tickCell_fly alone later (.d n true true) v
    obtain ⟨⟨c'', landsP, -, p⟩, beforeP⟩ := tickCell_fly alone later (.p n) v
    refine ⟨?_, fun j hj => (beforeD j hj).1, ?_, fun j hj => (beforeP j hj).2⟩
    · rw [landsD, landOne_word _ _ n rfl, d]
    · rw [landsP, ← p]; rfl
  · have first : ∀ l ∈ (fly x (lat + 1) (.d n true true) u).flight, (fly x (lat + 1) (.d n true true) u).clk + 1 < l.due := by
      simp only [fly, alone]; simpa using Nat.lt_of_succ_le later
    obtain ⟨flight, clk, -, -⟩ := tickCell_waits first
    rw [show tickCell 1 _ = tickOne _ from rfl] at flight clk
    obtain ⟨m, rfl⟩ := Nat.exists_eq_add_of_le' later
    generalize tickOne (fly x (m + 1 + 1) (.d n true true) u) = y at flight clk
    have both : (fly y (m + 1) (.d n true true) v).flight =
        [⟨x.clk, x.clk + (m + 1 + 1), .d n true true, u⟩, ⟨y.clk, y.clk + (m + 1), .d n true true, v⟩] := by
      simp only [fly, flight, alone, List.nil_append, List.singleton_append]
    obtain ⟨c', lands, -, -⟩ := tickCell_lands (n := m) (c := fly y (m + 1) (.d n true true) v) (by
      rw [both]; simp only [fly] at clk ⊢; simp [clk]; omega)
    rw [lands, both, List.foldl_cons, List.foldl_cons, List.foldl_nil, landOne_word _ _ n rfl]
    exact mget_mset_same _ _ _ _

end Sys2Proof.Machine
end

section
/-! Proofs: a cell's accesses to its cluster's cisterns: the cycle its port grants, loads, withdrawals (R38, R71, R108, R249). -/

namespace Sys2Proof.Machine

/-! ### The cycle that is granted -/

/-- The F port of cistern `j` can take an access in cycle `y`, of two cycles where `two` says so (R249). -/
def portFits (s : State) (j : Nat) (two : Bool) (y : Nat) : Bool := bankFree s j y && (!two || bankFree s j (y + 1))

theorem bankFree_of_portFits {s : State} {j y : Nat} {two : Bool} (h : portFits s j two y = true) :
    bankFree s j y = true ∧ (two = true → bankFree s j (y + 1) = true) := by
  cases two <;> simpa [portFits] using h

theorem portFits_word (s : State) (j y : Nat) : portFits s j false y = bankFree s j y := by simp [portFits]

theorem grantFrom_succ (s : State) (j : Nat) (two : Bool) (n y : Nat) :
    grantFrom s j two (n + 1) y = if portFits s j two y then y else grantFrom s j two n (y + 1) := rfl

theorem le_grantFrom (s : State) (j : Nat) (two : Bool) (n y : Nat) : y ≤ grantFrom s j two n y := by
  induction n generalizing y with
  | zero => exact le_refl y
  | succ n ih =>
    rw [grantFrom_succ]
    split
    · exact le_refl y
    · exact (Nat.le_succ y).trans (ih (y + 1))

theorem not_portFits_before_grant (s : State) (j : Nat) (two : Bool) (n : Nat) {y z : Nat} (from_ : y ≤ z)
    (before : z < grantFrom s j two n y) : portFits s j two z = false := by
  induction n generalizing y with
  | zero => exact absurd before (Nat.not_lt.2 from_)
  | succ n ih =>
    rw [grantFrom_succ] at before
    split at before
    case isTrue => exact absurd before (Nat.not_lt.2 from_)
    case isFalse taken =>
      rcases Nat.eq_or_lt_of_le from_ with rfl | later
      · exact Bool.eq_false_iff.2 taken
      · exact ih later before

theorem portFits_grantFrom (s : State) (j : Nat) (two : Bool) {n y z : Nat} (from_ : y ≤ z) (within : z < y + n)
    (fits : portFits s j two z = true) : portFits s j two (grantFrom s j two n y) = true := by
  induction n generalizing y with
  | zero => omega
  | succ n ih =>
    rw [grantFrom_succ]
    split
    case isTrue now => exact now
    case isFalse taken =>
      have later : y < z := Nat.lt_of_le_of_ne from_ fun e => taken (e ▸ fits)
      exact ih later (by omega)

/-- The cycle among `y + 2 i` and the one behind it that keeps an access from taking both. -/
def blocker (busy : List Nat) (y i : Nat) : Nat := if busy.contains (y + 2 * i) then y + 2 * i else y + 2 * i + 1

/-- Of one pair of cycles more than the port has taken, one pair is free: the search of `grantCycle` ends (R249). -/
theorem exists_portFits (s : State) (j : Nat) (two : Bool) (y : Nat) :
    ∃ z, y ≤ z ∧ z < y + (2 * (mget [] s.mem.busy j).length + 1) ∧ portFits s j two z = true := by
  by_contra none
  push Not at none
  generalize hb : mget [] s.mem.busy j = busy at none
  have taken : ∀ i ∈ Finset.range (busy.length + 1), blocker busy y i ∈ busy.toFinset := by
    intro i hi
    have hi' := Finset.mem_range.1 hi
    have unfit := none (y + 2 * i) (by omega) (by omega)
    simp only [portFits, bankFree, hb] at unfit
    unfold blocker
    split
    case isTrue here => simpa using here
    case isFalse free =>
      simp only [Bool.not_eq_true] at free
      simp only [free] at unfit
      exact (by simpa using unfit : two = true ∧ y + 2 * i + 1 ∈ busy).2 |> List.mem_toFinset.2
  have distinct : Set.InjOn (blocker busy y) (Finset.range (busy.length + 1)) := by
    intro i _ i' _ same
    unfold blocker at same
    split at same <;> split at same <;> omega
  have count := Finset.card_le_card_of_injOn _ taken distinct
  have := busy.toFinset_card_le
  rw [Finset.card_range] at count
  omega

/-- The granted cycle is the first one in which the port can take the access (R249). -/
theorem grantCycle_first (s : State) (j : Nat) (two : Bool) (y : Nat) : y ≤ grantCycle s j two y ∧
    portFits s j two (grantCycle s j two y) = true ∧ ∀ z, y ≤ z → z < grantCycle s j two y → portFits s j two z = false := by
  obtain ⟨z, from_, within, fits⟩ := exists_portFits s j two y
  exact ⟨le_grantFrom _ _ _ _ _, portFits_grantFrom _ _ _ from_ within fits, fun z hz hg => not_portFits_before_grant _ _ _ _ hz hg⟩

/-- The granted cycle depends on the cycles the port has taken alone. -/
theorem grantCycle_congr {s t : State} (same : t.mem.busy = s.mem.busy) (j : Nat) (two : Bool) (y : Nat) :
    grantCycle t j two y = grantCycle s j two y := by
  have step : ∀ n y, grantFrom t j two n y = grantFrom s j two n y := by
    intro n
    induction n with
    | zero => exact fun _ => rfl
    | succ n ih => intro y; rw [grantFrom_succ, grantFrom_succ, ih, portFits, bankFree, bankFree, same]; rfl
  unfold grantCycle
  rw [same, step]

/-! ### Arbitration -/

/-- From `s` to `t` an access of slot `k` takes the cycles `ys` of cistern `j`'s port, `lost` cycles late: the cell freezes, and what has
been stored shows as much later (R38, R71, R249). -/
structure Granted (s t : State) (k : Nat) (blk : Bool) (j : Nat) (ys : List Nat) (lost : Nat) : Prop where
  rest : { t with cells := s.cells, mem := { t.mem with busy := s.mem.busy, stale := s.mem.stale } } = s
  others : ∀ i, i ≠ k → cellAt t i = cellAt s i
  cell : cellAt t k = cellStall (cellAt s k) lost blk
  busy : mget [] t.mem.busy j = mget [] s.mem.busy j ++ ys
  fresh : s.mem.stale = [] → t.mem.stale = []

/-- A change of a cell, of the cycles that ports have taken and of what shows late changes nothing else. -/
theorem onCell_access_rest (s : State) (k : Nat) (f : Cell → Cell) (busy : SMap (List Nat)) (stale : List StaleWord) :
    (let t := onCell { s with mem := { s.mem with busy := busy, stale := stale } } k f
     { t with cells := s.cells, mem := { t.mem with busy := s.mem.busy, stale := s.mem.stale } }) = s := rfl

section
variable {s : State} {k j n : Nat} {blk two : Bool}

theorem cisArbitrate_granted {y : Nat} (cycle : grantCycle s j two ((cellAt s k).cyc + 1 + n) = y)
    (won : blk = false ∨ (cellAt s k).half = 1 ∨ y ≤ withdrawAfter s k) :
    ∃ t, cisArbitrate s k blk j two n = (some (y - ((cellAt s k).cyc + 1)), t) ∧
      Granted s t k blk j (if two then [y, y + 1] else [y]) (y - ((cellAt s k).cyc + 1)) := by
  have stays : (blk && (cellAt s k).half != 1 && decide (withdrawAfter s k < y)) = false := by
    rcases won with rfl | h | h
    · rfl
    · simp [h]
    · simp [Nat.not_lt.2 h]
  unfold cisArbitrate
  simp only [cycle, stays, Bool.false_eq_true, if_false]
  refine ⟨_, rfl, onCell_access_rest s k _ _ _, fun i hi => ?_, ?_, mget_mset_same _ _ _ _, fun none => ?_⟩
  · rw [cellAt_onCell, if_neg hi]; rfl
  · rw [cellAt_onCell_same]; rfl
  · change List.map _ s.mem.stale = []
    rw [none]; rfl

theorem onlyCell_setCell (s : State) (k : Nat) (c : Cell) : OnlyCell s (setCell s k c) k :=
  ⟨rfl, fun _ hi => cellAt_setCell_other _ _ _ _ hi⟩

theorem OnlyCell.onCell {t : State} (h : OnlyCell s t k) (f : Cell → Cell) : OnlyCell s (onCell t k f) k :=
  ⟨h.1, fun i hi => (cellAt_setCell_other t k i (f (cellAt t k)) hi).trans (h.2 i hi)⟩

theorem undoStores_of_fresh (own : (cellAt s k).stale = []) (shared : s.mem.stale = []) :
    undoStores s k = setCell s k { cellAt s k with stale := [] } := by
  have mem : ({ s.mem with stale := [] } : MemSt) = s.mem := by rw [← shared]
  unfold undoStores
  simp only [own, List.filter_nil, List.reverse_nil, forEach_nil, mem_setCell, shared, onCell]
  exact congrArg (fun m : MemSt => { setCell s k { cellAt s k with stale := [] } with mem := m }) mem

/-- With nothing stored of late, dropping an instruction drops what it has put in flight (R106, R108). -/
theorem dropInstr_of_fresh (own : (cellAt s k).stale = []) (shared : s.mem.stale = []) : OnlyCell s (dropInstr s k) k ∧
    cellAt (dropInstr s k) k = { cellAt s k with flight := (cellAt s k).flight.filter (fun l => l.issued != (cellAt s k).clk),
                                                 frz := 0, void := true, stale := [] } := by
  unfold dropInstr
  rw [undoStores_of_fresh own shared]
  refine ⟨(onlyCell_setCell s k _).onCell _, ?_⟩
  rw [cellAt_onCell_same, cellAt_setCell_same]

/-- A block instruction whose access has not won by its last cycle: WDRAW counts, and it issues again (R108). -/
theorem cisArbitrate_withdrawn (block : blk = true) (handler : (cellAt s k).half ≠ 1)
    (late : withdrawAfter s k < grantCycle s j two ((cellAt s k).cyc + 1 + n)) : cisArbitrate s k blk j two n =
      (none, onCell (dropInstr (rinc s (celBtaskA k) 8 8) k) k
        (fun c => { c with npc := some c.pc, cyc := max c.cyc (withdrawAfter s k) })) := by
  unfold cisArbitrate
  simp only [block, late, handler, Bool.true_and, bne_iff_ne, ne_eq, not_false_eq_true, decide_true, Bool.and_true, if_true]

end

/-! ### While results are put in flight -/

/-- What the last cycle of a block instruction's cistern access depends on (R108). -/
theorem withdrawAfter_congr {s t : State} {k : Nat} (rest : { t with cells := s.cells } = s) (lender : (cellAt t k).lender = (cellAt s k).lender)
    (done : (cellAt t k).done = (cellAt s k).done) (cyc : (cellAt t k).cyc = (cellAt s k).cyc) : withdrawAfter t k = withdrawAfter s k := by
  have cur : curPage t k = curPage s k := (congrArg (fun u : State => curPage u k) rest :)
  have mem : t.mem = s.mem := (congrArg State.mem rest :)
  have cycles : cellC t k = cellC s k := (congrArg (fun u : State => cellC u k) rest :)
  unfold withdrawAfter pageOf memSlot
  simp only [lender, done, cyc, cur, mem, cycles]

section
variable {s t : State} {k g : Nat} {rs : List Flown} (h : Flies s t k g rs)
include h

theorem Flies.cyc : (cellAt t k).cyc = (cellNow s k g).cyc := h.same (·.cyc) fun _ _ _ _ _ _ => rfl
theorem Flies.clk : (cellAt t k).clk = (cellNow s k g).clk := h.same (·.clk) fun _ _ _ _ _ _ => rfl
theorem Flies.half : (cellAt t k).half = (cellNow s k g).half := h.same (·.half) fun _ _ _ _ _ _ => rfl
theorem Flies.done : (cellAt t k).done = (cellNow s k g).done := h.same (·.done) fun _ _ _ _ _ _ => rfl
theorem Flies.pc : (cellAt t k).pc = (cellNow s k g).pc := h.same (·.pc) fun _ _ _ _ _ _ => rfl
theorem Flies.frz : (cellAt t k).frz = (cellNow s k g).frz := h.same (·.frz) fun _ _ _ _ _ _ => rfl
theorem Flies.stalls : (cellAt t k).stalls = (cellNow s k g).stalls := h.same (·.stalls) fun _ _ _ _ _ _ => rfl
theorem Flies.cisOwner (j : Nat) : cisOwner t j = cisOwner s j := by unfold Machine.cisOwner rfld rget; rw [h.ctl]
theorem Flies.baseCycle (m cyc : Nat) : baseCycle t m cyc = baseCycle s m cyc := (congrArg (fun u : State => Machine.baseCycle u m cyc) h.rest :)
theorem Flies.domOf (c : Nat) : domOf t c = domOf s c := (congrArg (fun u : State => Machine.domOf u c) h.rest :)

/-- The last cycle of a block instruction's cistern access stands too. -/
theorem Flies.withdrawAfter : withdrawAfter t k = withdrawAfter (onCell s k (tickCell g)) k :=
  withdrawAfter_congr (s := onCell s k (tickCell g)) (congrArg (fun u : State => { u with cells := (onCell s k (tickCell g)).cells }) h.rest)
    (by rw [h.lender, cellAt_onCell_same]; rfl) (by rw [h.done, cellAt_onCell_same]; rfl) (by rw [h.cyc, cellAt_onCell_same]; rfl)

end

end Sys2Proof.Machine
end

section
/-! Proofs: cistern loads (R38, R71, R84, R85, R108, R244). -/

namespace Sys2Proof.Machine

/-! ### The pointer's update -/

/-- The pointer's update of an addressing mode goes in flight (R83). -/
def flyPointer (s : State) (k p : Nat) (np : Option (BitVec 20)) : State :=
  match np with
  | some v => flyTo s k 1 (.p p) (v.zeroExtend 144)
  | none => s

/-- What it puts in flight. -/
def pointerResult (p : Nat) (np : Option (BitVec 20)) : List Flown :=
  match np with
  | some v => [(1, .p p, v.zeroExtend 144)]
  | none => []

theorem Flies.flyPointer {s t : State} {k g : Nat} {rs : List Flown} (h : Flies s t k g rs) (p : Nat) (np : Option (BitVec 20)) :
    Flies s (flyPointer t k p np) k g (rs ++ pointerResult p np) := by
  cases np with
  | none => rw [pointerResult, List.append_nil]; exact h
  | some v => exact h.fly 1 (.p p) _

/-- An address stands while results are put in flight (R83). -/
theorem Flies.amAddr {s t : State} {k g : Nat} {rs : List Flown} (h : Flies s t k g rs) (am p : Nat) :
    amAddr am (mget 0 (cellAt t k).z p) (mget 0 (cellAt t k).p p) (mget 0 (cellAt t k).i p) =
      amAddr am (mget 0 (cellNow s k g).z p) (mget 0 (cellNow s k g).p p) (mget 0 (cellNow s k g).i p) := by
  rw [h.z, h.p, h.i]

theorem Flies.refl (s : State) (k : Nat) : Flies s s k 0 [] := ⟨rfl, fun _ _ => rfl, rfl, (List.append_nil _).symm⟩

/-! ### An access behind results in flight -/

theorem cellCis_slotKey (c : Fin 16) (s : Fin 68) (a : BitVec 20) : cellCis (slotKey c s) a = 8 * c.val + nbits a.toNat 16 3 := by
  rw [cellCis, slotKey_div]

/-- What the access itself, after results `rs`, and the results `rs'` behind it make of the slot's cell and the rest. -/
structure Accessed (st t : State) (k g : Nat) (blk : Bool) (j : Nat) (ys : List Nat) (lost : Nat) (rs : List Flown) : Prop where
  rest : { t with cells := st.cells, mem := { t.mem with busy := st.mem.busy, stale := st.mem.stale } } = st
  others : ∀ i, i ≠ k → cellAt t i = cellAt st i
  busy : mget [] t.mem.busy j = mget [] st.mem.busy j ++ ys
  flight : (cellAt t k).flight = flown (cellNow st k g) rs
  frz : (cellAt t k).frz = (cellNow st k g).frz + lost
  stalls : (cellAt t k).stalls = (cellNow st k g).stalls + (if blk then 0 else lost)
  d : (cellAt t k).d = (cellNow st k g).d
  fresh : st.mem.stale = [] → t.mem.stale = []

theorem Flies.accessed {st s u t : State} {k g j lost : Nat} {blk : Bool} {ys : List Nat} {rs rs' : List Flown} (h : Flies st s k g rs)
    (granted : Granted s u k blk j ys lost) (h' : Flies u t k 0 rs') : Accessed st t k g blk j ys lost (rs ++ rs') := by
  obtain ⟨rest, others, cell, busy, fresh⟩ := granted
  have now : cellNow u k 0 = cellStall (cellAt s k) lost blk := cell
  refine ⟨?_, fun i hi => ?_, ?_, ?_, ?_, ?_, ?_, fun none => ?_⟩
  · have back := (congrArg (fun v : State => { v with cells := st.cells, mem := { v.mem with busy := s.mem.busy, stale := s.mem.stale } }) h'.rest)
    rw [← h.mem]
    exact (back.trans (congrArg (fun v : State => { v with cells := st.cells }) rest)).trans h.rest
  · rw [h'.others i hi, others i hi, h.others i hi]
  · rw [h'.mem, busy, h.mem]
  · rw [h'.flight, now]
    simp only [flown, cellStall, h.flight, h.clk, List.map_append, List.append_assoc]
  · rw [h'.frz, now, ← h.frz]; rfl
  · rw [h'.stalls, now, ← h.stalls]; cases blk <;> rfl
  · rw [h'.d, now, ← h.d]; rfl
  · rw [h'.mem]; exact fresh (by rw [h.mem]; exact none)

/-! ### Loads -/

/-- What a load reads of a cistern of an admitting owner in its granted cycle, with clean check bits and no meeting (R71, R244). -/
theorem cellCisRead_clean {s : State} {k : Nat} {p : BitVec 20} (may : cisOwner s (cellCis k p) ≤ 4) (n : Nat) {e : OpEnv}
    (clean : e.ecc = .ok) (alone : e.coll = false) : cellCisRead s k p n e =
      (cisSeen s (cellCis k p * 65536 + p.toNat % 65536) (baseCycle s (domOf s (k / 68)) ((cellAt s k).cyc + 1 + n)), s) := by
  unfold cellCisRead cisCellMay
  simp [may, clean, alone, cisEcc]

section
variable {s : State} {k p am n : Nat} {blk : Bool} {a : BitVec 20} {np : Option (BitVec 20)}
  (addr : amAddr am (mget 0 (cellAt s k).z p) (mget 0 (cellAt s k).p p) (mget 0 (cellAt s k).i p) = some (a, np))
include addr

theorem doLoad_cistern_granted {u : State} {lost : Nat} (arbitrated : cisArbitrate (flyPointer s k p np) k blk (cellCis k a) false n = (some lost, u))
    (may : cisOwner u (cellCis k a) ≤ 4) (part d : Nat) : doLoad s k blk 2 part d p am { stalls := n } =
      flyTo u k (5 + lost) (.d d true true) (z72 (loadPart part (cisSeen u (cellCis k a * 65536 + a.toNat % 65536)
        (baseCycle u (domOf u (k / 68)) ((cellAt u k).cyc + 1 + lost))))) := by
  unfold doLoad
  simp only [addr]
  change (match cisArbitrate (flyPointer s k p np) k blk (cellCis k a) false n with | (none, s) => s | (some n, s) => _) = _
  rw [arbitrated]
  simp only [cellCisRead_clean may]

theorem doLoad_cistern_withdrawn {u : State} (arbitrated : cisArbitrate (flyPointer s k p np) k blk (cellCis k a) false n = (none, u))
    (part d : Nat) : doLoad s k blk 2 part d p am { stalls := n } = u := by
  unfold doLoad
  simp only [addr]
  change (match cisArbitrate (flyPointer s k p np) k blk (cellCis k a) false n with | (none, s) => s | (some n, s) => _) = _
  rw [arbitrated]

end

/-! ### The load commands -/

theorem Granted.ctl {s t : State} {k j lost : Nat} {blk : Bool} {ys : List Nat} (h : Granted s t k blk j ys lost) : t.ctl = s.ctl :=
  (congrArg State.ctl h.rest :)

theorem cisSeen_congr {s t : State} (same : t.mem = s.mem) (addr g : Nat) : cisSeen t addr g = cisSeen s addr g := by
  unfold cisSeen cisWord; rw [same]

/-- Dropping what an instruction has put in flight leaves what was in flight before it (R106). -/
theorem flown_filter_issued (c : Cell) (rs : List Flown) :
    (flown c rs).filter (fun l => l.issued != c.clk) = c.flight.filter (fun l => l.issued != c.clk) := by
  have none : (rs.map (fun r : Flown => (⟨c.clk, c.clk + r.1, r.2.1, r.2.2⟩ : Landing))).filter (fun l => l.issued != c.clk) = [] := by
    rw [List.filter_eq_nil_iff]
    intro l hl
    obtain ⟨r, -, rfl⟩ := List.mem_map.1 hl
    simp
  rw [flown, List.filter_append, none, List.append_nil]

section
variable {st : State} {k g p am n : Nat} {a : BitVec 20} {np : Option (BitVec 20)}
  (addr : amAddr am (mget 0 (cellNow st k g).z p) (mget 0 (cellNow st k g).p p) (mget 0 (cellNow st k g).i p) = some (a, np))
include addr

/-- A cistern load that its port grants in cycle `y` (R38, R71, R84, R85). -/
theorem cisternLoad_granted {part d y : Nat} (issued : st.issues k g (.load 2 part d p am)) (may : cisOwner st (cellCis k a) ≤ 4)
    (cycle : grantCycle st (cellCis k a) false ((cellNow st k g).cyc + 1 + n) = y)
    (won : (!(cellNow st k g).sample) = false ∨ (cellNow st k g).half = 1 ∨ y ≤ withdrawAfter (onCell st k (tickCell g)) k) :
    let t := cellRun st k g (.load 2 part d p am) { stalls := n }
    let lost := y - ((cellNow st k g).cyc + 1)
    Accessed st t k g (!(cellNow st k g).sample) (cellCis k a) [y] lost (pointerResult p np ++ [(5 + lost, .d d true true,
      z72 (loadPart part (cisSeen t (cellCis k a * 65536 + a.toNat % 65536) (baseCycle st (domOf st (k / 68)) y))))]) := by
  intro t lost
  have h := (issuedState_flies st k g (.load 2 part d p am))
  have hp := h.flyPointer p np
  obtain ⟨u, arbitrated, granted⟩ := cisArbitrate_granted (two := false)
    ((grantCycle_congr (congrArg MemSt.busy hp.mem) (cellCis k a) false _).trans (by rw [hp.cyc]; exact cycle))
    (won.imp_right fun w => w.imp (hp.half.trans ·) (hp.withdrawAfter ▸ ·))
  rw [hp.cyc] at arbitrated granted
  have owner : cisOwner u (cellCis k a) ≤ 4 := by
    unfold cisOwner rfld rget
    rw [granted.ctl, hp.ctl]; exact may
  have run : t = _ := (cellRun_issues _ _ _ _ _ issued).trans
    (doLoad_cistern_granted (blk := !(cellNow st k g).sample) ((h.amAddr am p).trans addr) arbitrated owner part d)
  have here : (cellNow st k g).cyc + 1 ≤ y := by
    rw [← cycle]; exact (Nat.le_add_right _ n).trans (grantCycle_first _ _ _ _).1
  have now : baseCycle u (domOf u (k / 68)) ((cellAt u k).cyc + 1 + lost) = baseCycle st (domOf st (k / 68)) y := by
    have base : ∀ m c, baseCycle u m c = baseCycle st m c := fun m c =>
      ((congrArg (fun v : State => baseCycle v m c) granted.rest :)).trans (hp.baseCycle m c)
    have dom : domOf u (k / 68) = domOf st (k / 68) :=
      ((congrArg (fun v : State => domOf v (k / 68)) granted.rest :)).trans (hp.domOf (k / 68))
    rw [base, dom, granted.cell, show (cellStall _ _ _).cyc = _ from hp.cyc]
    congr 1; omega
  rw [now] at run
  have seen : cisSeen t = cisSeen u := by
    funext addr' g'
    exact cisSeen_congr (by rw [run]; rfl) addr' g'
  rw [seen, run]
  exact hp.accessed granted ((Flies.refl u k).fly _ _ _)

/-- A cistern load of block code that its port has not granted by its last cycle (R108). -/
theorem cisternLoad_withdrawn {part d : Nat} (issued : st.issues k g (.load 2 part d p am)) (block : (cellNow st k g).sample = false)
    (handler : (cellNow st k g).half ≠ 1)
    (late : withdrawAfter (onCell st k (tickCell g)) k < grantCycle st (cellCis k a) false ((cellNow st k g).cyc + 1 + n))
    (own : (cellNow st k g).stale = []) (shared : st.mem.stale = []) :
    let t := cellRun st k g (.load 2 part d p am) { stalls := n }
    OnlyCell (rinc st (celBtaskA k) 8 8) t k ∧ (cellAt t k).npc = some (cellNow st k g).pc ∧ (cellAt t k).d = (cellNow st k g).d ∧
      (cellAt t k).flight = (cellNow st k g).flight.filter (fun l => l.issued != (cellNow st k g).clk) := by
  intro t
  have h := (issuedState_flies st k g (.load 2 part d p am))
  have hp := h.flyPointer p np
  generalize hs : flyPointer (issuedState st k g (.load 2 part d p am)) k p np = s at hp
  have arbitrated := cisArbitrate_withdrawn (s := s) (k := k) (j := cellCis k a) (two := false) (n := n) (blk := !(cellNow st k g).sample)
    (by rw [block]; rfl) (by rw [hp.half]; exact handler)
    (by rw [grantCycle_congr (congrArg MemSt.busy hp.mem), hp.cyc, hp.withdrawAfter]; exact late)
  have run : t = _ := (cellRun_issues _ _ _ _ _ issued).trans
    (doLoad_cistern_withdrawn (blk := !(cellNow st k g).sample) ((h.amAddr am p).trans addr) (by rw [hs]; exact arbitrated) part d)
  obtain ⟨⟨rest, others⟩, cell⟩ := dropInstr_of_fresh (s := rinc s (celBtaskA k) 8 8) (k := k) (hp.stale.trans own)
    ((congrArg MemSt.stale hp.mem).trans shared)
  generalize dropInstr (rinc s (celBtaskA k) 8 8) k = u at rest others cell run
  rw [run]
  refine ⟨⟨?_, fun i hi => ?_⟩, ?_⟩
  · exact (congrArg (fun v : State => { v with cells := st.cells }) rest).trans
      (congrArg (fun v : State => rinc v (celBtaskA k) 8 8) hp.rest)
  · rw [cellAt_onCell, if_neg hi, others i hi]; exact hp.others i hi
  · rw [cellAt_onCell_same, cell]
    refine ⟨congrArg some hp.pc, hp.d, ?_⟩
    change (cellAt s k).flight.filter (fun l => l.issued != (cellAt s k).clk) = _
    rw [hp.flight, hp.clk, flown_filter_issued]
end

/-- Settles O6: the port grants the first cycle in which it is free; a load granted in time delivers what stands there then, one that is
not is withdrawn with its instruction. -/
theorem cellCisternLoadsFly : Obligations.CellCisternLoadsFly := by
  intro st c s g d p am n a np opens k x j y lost last upd addr may
  have cis : cellCis k a = j := cellCis_slotKey c s a
  obtain ⟨from_, fits, before⟩ := grantCycle_first st j false (x.cyc + 1 + n)
  simp only [portFits_word] at fits before
  refine ⟨⟨from_, fits, before⟩, fun won => ?_, fun block handler late legal own shared => ?_⟩
  · intro ok
    have load : ∀ (i : Instr) (part : Nat), opFits x (.load 2 part d.val p.val am.val) = true →
        exec i st = .next (cellRun st k g (.load 2 part d.val p.val am.val) { stalls := n }) → ok i (loadPart part) := by
      intro i part legal run
      obtain ⟨rest, others, busy, flight, frz, stalls, d', -⟩ := cisternLoad_granted addr ⟨opens, legal⟩ (by rw [cis]; exact may)
        (by rw [cis]) (won.imp (by intro w; rw [w]; rfl) id)
      rw [cis] at busy flight
      rw [show k / 68 = c.val from slotKey_div c s] at flight
      refine ⟨_, run, rest, others, busy, ?_, frz, ?_, d'⟩
      · rw [flight, show pointerResult p.val np = upd by cases np <;> rfl]
      · rw [stalls]; cases x.sample <;> rfl
    exact ⟨fun legal => load _ 0 legal rfl, fun legal => load _ 1 legal rfl, fun legal => load _ 2 legal rfl⟩
  · exact ⟨_, rfl, cisternLoad_withdrawn addr ⟨opens, legal⟩ block handler (by rw [cis]; exact late) own shared⟩

end Sys2Proof.Machine
end

section
/-! Proofs: the store path and what a store writes (R63, R71, R83, R90–R93, R100, R244). -/

namespace Sys2Proof.Machine

/-! ### Fields of a store -/

theorem nbit_toNat {w : Nat} (v : BitVec w) (i : Nat) : nbit v.toNat i = v.getLsbD i := by
  rw [BitVec.getLsbD, Nat.testBit_eq_decide_div_mod_eq]
  unfold nbit nbits
  rw [pow_one]
  exact beq_eq_decide _ _

/-- A legal store has a source (R91). -/
theorem storeSource_of_legal {dst fmt src o x : Nat} (legal : storeLegal dst fmt src o x = true) (c : Cell) :
    ∃ vs f, storeSource c fmt src = some (vs, f) := by
  simp only [storeLegal, Bool.and_eq_true, Bool.or_eq_true, decide_eq_true_eq, beq_iff_eq, decide_eq_decide] at legal
  obtain ⟨⟨⟨⟨known, -⟩, -⟩, -⟩, -⟩ := legal
  have some : (storeSource c fmt src).isSome = true := by
    unfold storeSource
    split_ifs <;> simp <;> omega
  obtain ⟨⟨vs, f⟩, source⟩ := Option.isSome_iff_exists.1 some
  exact ⟨vs, f, source⟩

/-- Only the four values from 4 on dither (R93). -/
theorem dthDepth_of_lt_four {x : BitVec 20} (undithered : nbits x.toNat 10 3 < 4) : dthDepth x = none := by
  unfold dthDepth
  generalize nbits x.toNat 10 3 = dth at undithered
  interval_cases dth <;> rfl

/-- A legal store to a register: its operand's reserved bits are zero, it does not track by its extension word, it is not dithered (R90, R93). -/
theorem storeLegal_register {fmt src o : Nat} {x : BitVec 20} (legal : storeLegal 3 fmt src o x.toNat = true) :
    nbits o 1 2 = 0 ∧ nbit x.toNat 9 = false ∧ dthDepth x = none := by
  simp only [storeLegal, Bool.and_eq_true, beq_iff_eq] at legal
  obtain ⟨⟨⟨⟨-, reserved⟩, -⟩, untracked⟩, undithered⟩ := legal
  exact ⟨reserved, by simpa using untracked, dthDepth_of_lt_four (by simpa using undithered)⟩

/-! ### What the store path puts in flight -/

/-- ST.SAT, the block exponent and the pointer's update of a store go in flight (R83, R90, R95). -/
def flyStored (s : State) (k : Nat) (blk : Bool) (r : Stored) (trk : Bool) (p : Nat) (np : Option (BitVec 20)) : State :=
  let s := if r.sat then flyTo s k 4 (.stOr blk) 1 else s
  let s := if trk then flyTo s k 4 .bxMin (BitVec.ofNat 144 r.count) else s
  flyPointer s k p np

theorem Flies.flyStored {s t : State} {k g : Nat} {rs : List Flown} (h : Flies s t k g rs) (blk : Bool) (r : Stored) (trk : Bool) (p : Nat)
    (np : Option (BitVec 20)) :
    Flies s (flyStored t k blk r trk p np) k g (rs ++ storeResults blk r.sat trk r.count (np.map (fun v => (p, v)))) := by
  have flags := ((h.flyIf r.sat 4 (.stOr blk) 1).flyIf trk 4 .bxMin (BitVec.ofNat 144 r.count)).flyPointer p np
  have results : storeResults blk r.sat trk r.count (np.map (fun v => (p, v))) = (if r.sat then [(4, .stOr blk, 1)] else [])
      ++ (if trk then [(4, .bxMin, BitVec.ofNat 144 r.count)] else []) ++ pointerResult p np := by
    cases np <;> rfl
  rw [results, ← List.append_assoc, ← List.append_assoc]
  exact flags

/-! ### The three destinations -/

theorem mergeHalf_of_whole {fmt : Nat} (whole : (fmt == 1 || fmt == 2) = false) (old new : Word) : mergeHalf fmt old new = new := by
  unfold mergeHalf
  split <;> simp_all

section
variable {s : State} {k fmt src : Nat} {blk : Bool} {dop : BitVec 9} {vs : List Int} {f : Nat}
  (source : storeSource (cellAt s k) fmt src = some (vs, f))
include source

/-- A store to a register (R90). -/
theorem doStore_register {ext : Option (BitVec 20)} (legal : storeLegal 3 fmt src dop.toNat (ext.getD 0).toNat = true) (e : OpEnv) :
    let r := storePath vs f fmt (if ext.isSome then sext 7 (nbits (ext.getD 0).toNat 13 7) else 0) (rndOf (cellAt s k) blk) none
    doStore s k blk 3 fmt src dop ext e = flyTo (flyStored s k blk r (dop.getLsbD 3) 0 none) k 3
      (.d (nbits dop.toNat 4 5) (fmt ≠ 2) (fmt ≠ 1)) (z72 r.w) := by
  obtain ⟨reserved, untracked, plain⟩ := storeLegal_register legal
  intro r
  unfold doStore
  simp only [source, plain, reserved, untracked, nbit_toNat]
  simp [flyStored, flyPointer, r]

variable {a : BitVec 20} {np : Option (BitVec 20)}
  (addr : amAddr (nbits dop.toNat 2 3) (mget 0 (cellAt s k).z (nbits dop.toNat 5 4)) (mget 0 (cellAt s k).p (nbits dop.toNat 5 4))
    (mget 0 (cellAt s k).i (nbits dop.toNat 5 4)) = some (a, np))
include addr

/-- A store to state memory (R83, R90). -/
theorem doStore_state :
    let r := storePath vs f fmt 0 (rndOf (cellAt s k) blk) none
    let t := flyStored s k blk r (dop.getLsbD 1) (nbits dop.toNat 5 4) np
    doStore s k blk 0 fmt src dop none {} = stateStore t k (a.toNat % 4096)
      (mergeHalf fmt (cellWord t (stateSlot t k) (0x2000 + a.toNat % 4096)) r.w) (if fmt == 1 || fmt == 2 then 3 else 2) := by
  intro r t
  have plain : dthDepth ((none : Option (BitVec 20)).getD 0) = none := rfl
  have untracked : nbit ((none : Option (BitVec 20)).getD 0).toNat 9 = false := rfl
  unfold doStore
  simp only [source, addr, plain, untracked, nbit_toNat]
  cases half : (fmt == 1 || fmt == 2) <;> cases np <;> simp [half, flyStored, flyPointer, mergeHalf_of_whole, cellEcc, r, t]
/-- A store of sample code to a cistern, outside a crossfade, that its port grants `lost` cycles late (R71, R90, R244). -/
theorem doStore_cistern {n lost : Nat} {u : State} (settled : xfRuns s k = false)
    (arbitrated : cisArbitrate s k blk (cellCis k a) (fmt == 1 || fmt == 2) n = (some lost, u)) :
    let r := storePath vs f fmt 0 (rndOf (cellAt s k) blk) none
    let t := flyStored u k blk r (dop.getLsbD 1) (nbits dop.toNat 5 4) np
    let at_ := cellCis k a * 65536 + a.toNat % 65536
    let y := baseCycle t (domOf t (k / 68)) ((cellAt s k).cyc + 1 + lost)
    doStore s k blk 1 fmt src dop none { stalls := n } =
      if !cisCellMay t (cellCis k a) then cisErr t (cellCis k a) 4
      else cisStoreAt t at_ (y + if fmt == 1 || fmt == 2 then 3 else 2) (mergeHalf fmt (cisSeen t at_ y) r.w) (cellAt s k).clk k := by
  intro r t at_ y
  have plain : dthDepth ((none : Option (BitVec 20)).getD 0) = none := rfl
  have untracked : nbit ((none : Option (BitVec 20)).getD 0).toNat 9 = false := rfl
  unfold doStore
  simp only [source, addr, plain, untracked, settled, nbit_toNat]
  cases half : (fmt == 1 || fmt == 2) <;> rw [half] at arbitrated <;> cases np <;>
    simp [half, arbitrated, flyStored, flyPointer, mergeHalf_of_whole, cisEcc, r, t, at_, y]
end

/-! ### The commands -/

theorem Flies.rndOf {s t : State} {k g : Nat} {rs : List Flown} (h : Flies s t k g rs) (blk : Bool) :
    rndOf (cellAt t k) blk = rndOf (cellNow s k g) blk := by unfold Machine.rndOf; rw [h.stOf]

theorem Flies.storeSource {s t : State} {k g : Nat} {rs : List Flown} (h : Flies s t k g rs) (fmt src : Nat) :
    storeSource (cellAt t k) fmt src = storeSource (cellNow s k g) fmt src := by unfold Machine.storeSource; rw [h.d, h.a]

theorem Flies.xfRuns {s t : State} {k g : Nat} {rs : List Flown} (h : Flies s t k g rs) : xfRuns t k = xfRuns s k :=
  (congrArg (fun u : State => Machine.xfRuns u k) h.rest :)

/-- A store without an extension word, with clean check bits and good parity (R90). -/
theorem exec_storePathMove_plain {st : State} {c : Fin 16} {s : Fin 68} {dop : BitVec 9} (plain : dop.getLsbD 0 = false) (g n : Nat)
    (dst fmt : Fin 4) (src : Fin 64) : exec (.storePathMove c s g dst fmt src dop none n .ok [] [] false) st =
      .next (cellRun st (slotKey c s) g (.store dst.val fmt.val src.val dop none) { stalls := n }) := by
  have none_ : (if nbit dop.toNat 0 then some ((none : Option (BitVec 20)).getD 0) else none) = none := by
    rw [nbit_toNat, plain]; rfl
  change execStorePathMove c s g dst fmt src dop none n .ok [] [] false st = _
  unfold execStorePathMove
  rw [none_]; rfl

/-- Settles O12: the store path's value goes in flight to the register, behind ST.SAT and the block exponent. -/
theorem cellStoresToRegister : Obligations.CellStoresToRegister := by
  intro st c s g fmt src dop ext k x e issued
  have legal : storeLegal 3 fmt.val src.val dop.toNat (e.getD 0).toNat = true := opFields_of_fits issued.2
  obtain ⟨vs, f, source⟩ := storeSource_of_legal legal x
  have h := issuedState_flies st k g (.store 3 fmt.val src.val dop e)
  have run := (cellRun_issues st k g _ {} issued).trans (doStore_register (blk := !x.sample) ((h.storeSource _ _).trans source) legal {})
  have shift : (if e.isSome then sext 7 (nbits (e.getD 0).toNat 13 7) else 0) = if dop.getLsbD 0 then sext 7 (nbits ext.toNat 13 7) else 0 := by
    simp only [e, nbit_toNat]
    cases dop.getLsbD 0 <;> rfl
  rw [shift, h.rndOf] at run
  refine ⟨_, vs, f, rfl, source, ?_⟩
  intro r
  change Flies st (cellRun st k g (.store 3 fmt.val src.val dop e) {}) k g _
  rw [run]
  exact (h.flyStored (!x.sample) r (dop.getLsbD 3) 0 none).fly 3 _ _

theorem mergeHalf_eq (fmt : Fin 4) (old new : Word) :
    mergeHalf fmt.val old new = if fmt = 1 then Word.pack new.hi old.lo else if fmt = 2 then Word.pack old.hi new.lo else new := by
  match fmt with
  | 0 => rfl
  | 1 => rfl
  | 2 => rfl
  | 3 => rfl

/-- A store to state memory: its results go in flight, then it stores the word, with the half that it does not name as it was (R83, R90). -/
theorem storeRun_state {st : State} {k g fmt src : Nat} {dop : BitVec 9} {vs : List Int} {f : Nat} {a : BitVec 20}
    {np : Option (BitVec 20)} (issued : st.issues k g (.store 0 fmt src dop none))
    (source : storeSource (cellNow st k g) fmt src = some (vs, f))
    (addr : amAddr (nbits dop.toNat 2 3) (mget 0 (cellNow st k g).z (nbits dop.toNat 5 4)) (mget 0 (cellNow st k g).p (nbits dop.toNat 5 4))
      (mget 0 (cellNow st k g).i (nbits dop.toNat 5 4)) = some (a, np)) :
    let blk := !(cellNow st k g).sample
    let r := storePath vs f fmt 0 (rndOf (cellNow st k g) blk) none
    let m := if (cellNow st k g).ownState then k else (cellNow st k g).lender.getD k
    ∃ t, Flies st t k g (storeResults blk r.sat (dop.getLsbD 1) r.count (np.map (fun v => (nbits dop.toNat 5 4, v)))) ∧
      cellRun st k g (.store 0 fmt src dop none) {} = stateStore t k (a.toNat % 4096)
        (mergeHalf fmt (cellWord st m (0x2000 + a.toNat % 4096)) r.w) (if fmt == 1 || fmt == 2 then 3 else 2) := by
  intro blk r m
  have h := issuedState_flies st k g (.store 0 fmt src dop none)
  have flies := h.flyStored blk r (dop.getLsbD 1) (nbits dop.toNat 5 4) np
  refine ⟨_, flies, (cellRun_issues _ _ _ _ _ issued).trans ?_⟩
  rw [show m = stateSlot _ k from flies.stateSlot.symm, ← flies.cellWord]
  simp only [r, ← h.rndOf]
  exact doStore_state ((h.storeSource _ _).trans source) ((h.amAddr _ _).trans addr)

/-- Settles O13: the word, or the half the format names, is stored at the address, behind the results of the store path. -/
theorem cellStoresToState : Obligations.CellStoresToState := by
  intro st c s g fmt src dop vs f a np issued k x p plain source addr r m old w
  obtain ⟨t, flies, run⟩ := storeRun_state issued source addr
  rw [mergeHalf_eq] at run
  refine ⟨_, exec_storePathMove_plain plain g 0 0 fmt src, ?_⟩
  rw [show cellRun st (slotKey c s) g (.store (0 : Fin 4).val fmt.val src.val dop none) { stalls := 0 } = _ from run]
  obtain ⟨rest, others, flight, d, stored⟩ := flies.storesState (stateStore_stores t k _ w _)
  refine ⟨rest, others, flight, d, fun n => ?_⟩
  rw [stored, ← Nat.add_assoc, ← Nat.add_assoc]

end Sys2Proof.Machine
end

section
/-! Proofs: stores to a cistern, admitted or refused by its owner (R71, R90, R244, R249). -/

namespace Sys2Proof.Machine

/-! ### A refused access -/

/-- Setting one bit of a register is an OR. -/
theorem rsetBit_eq_or (s : State) (a : Nat) {i : Nat} (h : i < 32) : rsetBit s a i = rset s a (rget s a ||| BitVec.twoPow 32 i) := by
  have value : fput (rget s a) i 1 1 = rget s a ||| BitVec.twoPow 32 i := by
    refine BitVec.eq_of_getLsbD_eq fun b hb => ?_
    rw [fput_testBit _ _ _ _ _ (by omega), BitVec.getLsbD_or, BitVec.getLsbD_twoPow]
    by_cases here : b = i
    · simp [here, h]
    · rw [if_neg (by omega)]
      simp [Ne.symm here]
  exact congrArg (rset s a) value

theorem Settles.cells {s t : State} (h : Settles s t) : t.cells = s.cells := (congrArg State.cells h.rest :)
theorem Settles.mem {s t : State} (h : Settles s t) : t.mem = s.mem := (congrArg State.mem h.rest :)

/-- A flag of CIS_ERR of a cistern is set, and its cluster's event source settles (R244, R305). -/
theorem cisErr_settles (s : State) {j : Nat} (hj : j / 8 < 16) (bit : Nat) : Settles (rsetBit s (cisErrA j) bit) (cisErr s j bit) :=
  evClusterFlags_settles (Settles.refl _) (j / 8) hj

/-- A refusal in a state that differs from `st` in the cells and the memories alone. -/
theorem cisErr_settles_over {st t : State} (rest : { t with cells := st.cells, mem := st.mem } = st) {j : Nat} (hj : j / 8 < 16) {bit : Nat}
    (hbit : bit < 32) : Settles (rset st (cisErrA j) (rget st (cisErrA j) ||| BitVec.twoPow 32 bit))
      { cisErr t j bit with cells := st.cells, mem := st.mem } := by
  have kept := (cisErr_settles t hj bit).over (fun s => { s with cells := st.cells, mem := st.mem })
    (fun s => { s with cells := st.cells, mem := st.mem }) (fun _ => ⟨rfl, rfl⟩) (fun _ => rfl)
  have flag : ({ rsetBit t (cisErrA j) bit with cells := st.cells, mem := st.mem } : State)
      = rset st (cisErrA j) (rget st (cisErrA j) ||| BitVec.twoPow 32 bit) :=
    (congrArg (fun s : State => rsetBit s (cisErrA j) bit) rest).trans (rsetBit_eq_or st _ hbit)
  rw [← flag]; exact kept

/-! ### The store -/

theorem cisWord_cisStoreAt (s : State) (addr g : Nat) (w : Word) (clk slot z : Nat) :
    cisWord (cisStoreAt s addr g w clk slot) z = if z = addr then w else cisWord s z := mget_mset _ _ _ _ _

theorem cisSeen_of_none_stale {s : State} (none : s.mem.stale = []) (addr g : Nat) : cisSeen s addr g = cisWord s addr := by
  unfold cisSeen; rw [none]; rfl

theorem cellAt_congr {s t : State} (same : t.cells = s.cells) (i : Nat) : cellAt t i = cellAt s i := by
  unfold cellAt; rw [same]

/-- What a store to a cistern does behind its access, in the state `t`: it writes, or its owner refuses it (R71, R244). -/
theorem storeRun_cistern {st : State} {k g n fmt src y : Nat} {dop : BitVec 9} {vs : List Int} {f : Nat} {a : BitVec 20}
    {np : Option (BitVec 20)} (issued : st.issues k g (.store 1 fmt src dop none)) (sample : (cellNow st k g).sample = true)
    (settled : xfRuns st k = false) (source : storeSource (cellNow st k g) fmt src = some (vs, f))
    (addr : amAddr (nbits dop.toNat 2 3) (mget 0 (cellNow st k g).z (nbits dop.toNat 5 4)) (mget 0 (cellNow st k g).p (nbits dop.toNat 5 4))
      (mget 0 (cellNow st k g).i (nbits dop.toNat 5 4)) = some (a, np))
    (cycle : grantCycle st (cellCis k a) (fmt == 1 || fmt == 2) ((cellNow st k g).cyc + 1 + n) = y) :
    let r := storePath vs f fmt 0 (rndOf (cellNow st k g) false) none
    let at_ := cellCis k a * 65536 + a.toNat % 65536
    ∃ t g' g'' clk, Accessed st t k g false (cellCis k a) (if fmt == 1 || fmt == 2 then [y, y + 1] else [y]) (y - ((cellNow st k g).cyc + 1))
        (storeResults false r.sat (dop.getLsbD 1) r.count (np.map (fun v => (nbits dop.toNat 5 4, v)))) ∧
      cellRun st k g (.store 1 fmt src dop none) { stalls := n } = if !cisCellMay t (cellCis k a) then cisErr t (cellCis k a) 4
        else cisStoreAt t at_ g' (mergeHalf fmt (cisSeen t at_ g'') r.w) clk k := by
  intro r at_
  have h := issuedState_flies st k g (.store 1 fmt src dop none)
  have run := cellRun_issues _ _ _ _ { stalls := n } issued
  rw [sample] at run
  obtain ⟨u, arbitrated, granted⟩ := cisArbitrate_granted (blk := false) (y := y)
    ((grantCycle_congr (congrArg MemSt.busy h.mem) (cellCis k a) (fmt == 1 || fmt == 2) _).trans (by rw [h.cyc]; exact cycle)) (.inl rfl)
  have stored := doStore_cistern ((h.storeSource _ _).trans source) ((h.amAddr _ _).trans addr) (h.xfRuns.trans settled) arbitrated
  rw [h.cyc] at granted
  rw [h.rndOf] at stored
  have accessed := h.accessed granted ((Flies.refl u k).flyStored false r (dop.getLsbD 1) (nbits dop.toNat 5 4) np)
  exact ⟨_, _, _, _, accessed, run.trans stored⟩

/-- Settles O14: the store takes the first cycle in which its port is free; then the owner's admission decides whether it writes. -/
theorem cellStoresToCistern : Obligations.CellStoresToCistern := by
  intro st c s g n fmt src dop vs f a np issued k x p j at_ two y plain source sample settled addr r
  obtain ⟨from_, fits, -⟩ := grantCycle_first st j two (x.cyc + 1 + n)
  obtain ⟨free, free'⟩ := bankFree_of_portFits fits
  refine ⟨⟨from_, free, free'⟩, _, exec_storePathMove_plain plain g n 1 fmt src, ?_⟩
  have cis : cellCis k a = j := cellCis_slotKey c s a
  obtain ⟨t, g', g'', clk, accessed, run⟩ := storeRun_cistern (n := n) (y := y) issued sample settled source addr (by rw [cis])
  rw [cis] at accessed run
  obtain ⟨rest, others, busy, flight, frz, -, d, fresh⟩ := accessed
  rw [show cellRun st (slotKey c s) g (.store (1 : Fin 4).val fmt.val src.val dop none) { stalls := n } = _ from run]
  have cist : t.mem.cist = st.mem.cist := (congrArg (fun s : State => s.mem.cist) rest :)
  have owner : cisOwner t j = cisOwner st j := (congrArg (fun s : State => cisOwner s j) rest :)
  have stands : ∀ u : State, u.cells = t.cells → u.mem.busy = t.mem.busy → (∀ i, i ≠ k → cellAt u i = cellAt st i) ∧
      (cellAt u k).flight = flown x (storeResults false r.sat (dop.getLsbD 1) r.count (np.map (fun v => (p, v)))) ∧
      (cellAt u k).frz = x.frz + (y - (x.cyc + 1)) ∧ (cellAt u k).d = x.d ∧
      mget [] u.mem.busy j = mget [] st.mem.busy j ++ (if two then [y, y + 1] else [y]) := by
    intro u cells port
    refine ⟨fun i hi => (cellAt_congr cells i).trans (others i hi), ?_, ?_, ?_, ?_⟩
    · rw [cellAt_congr cells]; exact flight
    · rw [cellAt_congr cells]; exact frz
    · rw [cellAt_congr cells]; exact d
    · rw [port]; exact busy
  by_cases may : cisOwner st j ≤ 4
  case pos =>
    have admits : (!cisCellMay t j) = false := by simp [cisCellMay, owner, may]
    rw [admits, if_neg Bool.false_ne_true]
    obtain ⟨others', flight', frz', d', busy'⟩ := stands (cisStoreAt t (j * 65536 + a.toNat % 65536) g'
      (mergeHalf fmt.val (cisSeen t (j * 65536 + a.toNat % 65536) g'') r.w) clk k) rfl rfl
    refine ⟨others', flight', frz', d', busy', fun _ => ⟨?_, cisSeen t at_ g'', fun none => ?_, fun z => ?_⟩,
      fun refuses => absurd may (by omega)⟩
    · exact (congrArg (fun s : State => { s with mem := { s.mem with cist := st.mem.cist } }) rest :)
    · rw [cisSeen_of_none_stale (fresh none)]
      unfold cisWord; rw [cist]
    · rw [cisWord_cisStoreAt, mergeHalf_eq]
      unfold cisWord; rw [cist]
  case neg =>
    have refuses : (!cisCellMay t j) = true := by simp [cisCellMay, owner, may]
    rw [refuses, if_pos rfl]
    have cluster : j / 8 < 16 := by
      have half : nbits a.toNat 16 3 < 2 ^ 3 := Nat.mod_lt _ (by norm_num)
      change (8 * c.val + nbits a.toNat 16 3) / 8 < 16
      omega
    have settles := cisErr_settles t cluster 4
    obtain ⟨others', flight', frz', d', busy'⟩ := stands (cisErr t j 4) settles.cells (congrArg MemSt.busy settles.mem)
    refine ⟨others', flight', frz', d', busy', fun admits => absurd admits may, fun _ => ⟨?_, ?_⟩⟩
    · exact (congrArg MemSt.cist settles.mem).trans cist
    · exact cisErr_settles_over (bit := 4) (congrArg (fun s : State => { s with mem := st.mem }) rest :) cluster (by omega)

end Sys2Proof.Machine
end

section
/-! Proofs: an uncorrectable word of a cell's own memories (R73, R427, R430). -/

namespace Sys2Proof.Machine

/-! ### The fault of a running cell -/

/-- A cell whose first datapath fault is detected in cycle `d`: quenched from cycle `from_` to the tick's end, its effects held (R430). -/
def quenchedFrom (c : Cell) (d from_ : Nat) (zst : Bool) : Cell :=
  { c with quench := 1, qAt := from_, faultCyc := some (c.faultCyc.getD d), held := true, zst := c.zst || zst }

/-- The first datapath fault of an open slot, before the tick's last 64 cycles, is reported of the quenched cell (R427, R430). -/
theorem cellFault_quenches {s : State} {k d : Nat} (running : slotState s k = 1) (early : d + 64 < cellC s k)
    (opened : (cellAt s k).done = false) (unquenched : (cellAt s k).quench = 0) (from_ : Nat) (zst : Bool) :
    ∃ u, OnlyCell s u k ∧ cellAt u k = quenchedFrom (cellAt s k) d from_ zst ∧ cellFault s k d from_ zst = fltDetect u
      { cls := 1, sev := 1, unit := 0x1000 + logicalOf u k, hold := true, zst := zst, oslot := k % 68, btc := tickEndBtc u (domOf u (k / 68)),
        detail := rfld u (celErrA k) 16 6, cyc := some (baseCycle u (domOf u (k / 68)) d) } := by
  have notLate : decide (cellC s k ≤ d + 64) = false := decide_eq_false (by omega)
  have cell : quenchedFrom (cellAt s k) d from_ zst = { cellAt s k with
      quench := max 0 1, qAt := from_, faultCyc := some ((cellAt s k).faultCyc.getD d), held := (cellAt s k).held || true,
      zst := (cellAt s k).zst || zst } := by rw [Bool.or_true]; rfl
  refine ⟨setCell s k (quenchedFrom (cellAt s k) d from_ zst), onlyCell_setCell _ _ _, cellAt_setCell_same _ _ _, ?_⟩
  unfold cellFault
  simp only [notLate, opened, unquenched, running, Bool.not_false, Bool.and_self, Bool.or_true, beq_self_eq_true, if_true,
    Bool.false_eq_true, if_false, cell]

/-! ### The finding -/

/-- CEL_ERR with a finding of memory 2, the state memory, the first since it was last clear (R73). -/
def stateErrSet (s : State) (k : Nat) : State := rsetBit (rput s (celErrA k) 20 2 2) (celErrA k) 16

theorem cellEcc_state_double {s : State} {k : Nat} (first : rbit s (celErrA k) 16 = false) : cellEcc s k 2 .double =
    cellFault (stateErrSet s k) k (cellAt s k).cyc ((cellAt s k).cyc + 1) true := by
  unfold cellEcc
  simp only [first, Bool.false_eq_true, if_false]
  rfl

theorem rfld_stateErrSet (s : State) (k : Nat) {a : Nat} (other : a ≠ celErrA k) (lo w : Nat) : rfld (stateErrSet s k) a lo w = rfld s a lo w := by
  unfold rfld stateErrSet
  rw [rget_rsetBit_other _ _ _ _ other, rget_rput_other _ _ _ _ _ _ other]

theorem slotKey_mod (c : Fin 16) (s : Fin 68) : slotKey c s % 68 = s.val := by
  rw [slotKey, Nat.mul_comm, Nat.mul_add_mod, Nat.mod_eq_of_lt s.isLt]

section
variable (s : State) (c : Fin 16) (p : Fin 68)

theorem logicalOf_stateErrSet : logicalOf (stateErrSet s (slotKey c p)) (slotKey c p) = logicalOf s (slotKey c p) := by
  unfold logicalOf
  rw [rfld_stateErrSet _ _ (by unfold celSlotA celErrA; omega)]

theorem slotState_stateErrSet : slotState (stateErrSet s (slotKey c p)) (slotKey c p) = slotState s (slotKey c p) :=
  rfld_stateErrSet _ _ (by unfold celSlotA celErrA; omega) _ _

theorem domOf_stateErrSet (x : Nat) : domOf (stateErrSet s (slotKey c p)) x = domOf s x :=
  domOf_congr (rfld_stateErrSet _ _ (by unfold celErrA slotKey; omega) _ _)

end

/-! ### The load -/

theorem Flies.quench {s t : State} {k g : Nat} {rs : List Flown} (h : Flies s t k g rs) : (cellAt t k).quench = (cellNow s k g).quench :=
  h.same (·.quench) fun _ _ _ _ _ _ => rfl

/-- A load of state memory that updates no pointer puts a word in flight, then its check bits count (R73, R84). -/
theorem loadRun_state {st : State} {k g d p : Nat} (issued : st.issues k g (.load 0 0 d p 0)) (e : OpEnv) :
    ∃ t v, Flies st t k g [(3, .d d true true, v)] ∧ cellRun st k g (.load 0 0 d p 0) e = cellEcc t k 2 e.ecc :=
  ⟨_, _, (issuedState_flies st k g (.load 0 0 d p 0)).fly 3 (.d d true true) _, cellRun_issues _ _ _ _ _ issued⟩

/-- An uncorrectable word of the state memory, found behind results put in flight by a slot whose tick is not yet in its last 64 cycles and
which is not quenched (R73, R427, R430). -/
theorem cellEcc_state_quenches {st t : State} {c : Fin 16} {p : Fin 68} {g : Nat} {rs : List Flown} (h : Flies st t (slotKey c p) g rs)
    (running : slotState st (slotKey c p) = 1) (first : rbit st (celErrA (slotKey c p)) 16 = false)
    (opened : (cellNow st (slotKey c p) g).done = false) (unquenched : (cellNow st (slotKey c p) g).quench = 0)
    (early : (cellNow st (slotKey c p) g).cyc + 64 < cellC st (slotKey c p)) :
    let k := slotKey c p
    let d := (cellNow st k g).cyc
    ∃ u, OnlyCell (stateErrSet st k) u k ∧ cellAt u k = quenchedFrom (cellAt t k) d (d + 1) true ∧ cellEcc t k 2 .double = fltDetect u
      { cls := 1, sev := 1, unit := 0x1000 + logicalOf st k, hold := true, zst := true, oslot := p.val, btc := tickEndBtc st (domOf st c.val),
        detail := rfld u (celErrA k) 16 6, cyc := some (baseCycle st (domOf st c.val) d) } := by
  intro k d
  have found : { stateErrSet t k with cells := st.cells } = stateErrSet st k := congrArg (fun s : State => stateErrSet s k) h.rest
  have state : slotState (stateErrSet t k) k = 1 :=
    ((congrArg (fun s : State => slotState s k) found :)).trans ((slotState_stateErrSet st c p).trans running)
  have cycles : cellC (stateErrSet t k) k = cellC st k :=
    ((congrArg (fun s : State => cellC s k) found :)).trans (congrArg domC (domOf_stateErrSet st c p _))
  obtain ⟨u, ⟨rest, others⟩, cell, fault⟩ := cellFault_quenches state (by rw [cycles]; exact early) (h.done.trans opened)
    (h.quench.trans unquenched) (d + 1) true
  have rest' : { u with cells := st.cells } = stateErrSet st k :=
    (congrArg (fun s : State => { s with cells := st.cells }) rest).trans found
  have unit : logicalOf u k = logicalOf st k := ((congrArg (fun s : State => logicalOf s k) rest' :)).trans (logicalOf_stateErrSet st c p)
  have dom : domOf u c.val = domOf st c.val := ((congrArg (fun s : State => domOf s c.val) rest' :)).trans (domOf_stateErrSet st c p c.val)
  have btc : ∀ m, tickEndBtc u m = tickEndBtc st m := fun m => (congrArg (fun s : State => tickEndBtc s m) rest' :)
  have cyc : ∀ m y, baseCycle u m y = baseCycle st m y := fun m y => (congrArg (fun s : State => baseCycle s m y) rest' :)
  rw [unit, slotKey_div, slotKey_mod, dom, btc, cyc] at fault
  refine ⟨u, ⟨rest', fun j hj => (others j hj).trans (h.others j hj)⟩, cell, ?_⟩
  rw [cellEcc_state_double (by rw [rbit, rget, h.ctl]; exact first), h.cyc]
  exact fault

/-- Settles O21: the load's word goes in flight, and its finding quenches the cell and is reported. -/
theorem cellUncorrectableQuenches : Obligations.CellUncorrectableQuenches := by
  intro st c s g d p issued k x _ first unquenched opened early info
  have running : slotState st k = 1 := by
    obtain ⟨⟨on, -⟩, -⟩ := issued
    simp only [cellOn, Bool.and_eq_true, beq_iff_eq] at on
    exact on.1
  obtain ⟨t, v, h, run⟩ := loadRun_state issued { ecc := .double }
  obtain ⟨u, only, cell, fault⟩ := cellEcc_state_quenches h running first opened unquenched early
  refine ⟨_, u, rfl, only, ?_⟩
  rw [cell]
  refine ⟨rfl, rfl, rfl, Bool.or_true _, ⟨v, h.flight⟩, ?_⟩
  change Detects u (cellRun st k g (.load 0 0 d.val p.val 0) { ecc := .double }) _
  rw [run, fault]
  exact fltDetect_detects _ _

end Sys2Proof.Machine
end

section
/-! Proofs: register moves, compares, conditional moves and the shifted field (R84, R86, R87, R100). -/

namespace Sys2Proof.Machine

/-- An operation that fits its instruction does what it does where only the issue has been counted. -/
theorem cellRun_flies {st : State} {k g : Nat} {op : CellOp} {e : OpEnv} {rs : List Flown} (opens : st.open_ k g)
    (fits : opFits (cellNow st k g) op = true)
    (run : ∀ s, Flies st s k g [] → Flies st (cellOp s k (!(cellNow st k g).sample) op e) k g rs) : Flies st (cellRun st k g op e) k g rs :=
  Flies.of_run ⟨opens, fits⟩ (run _ (issuedState_flies st k g op))

/-! ### Moves -/

section
variable {st s : State} {k g : Nat} (h : Flies st s k g []) (blk : Bool) (e : OpEnv)
include h

theorem mov_flies (d n : Nat) : Flies st (cellOp s k blk (.mov d n) e) k g [(1, .d d true true, z72 (mget 0 (cellNow st k g).d n))] := by
  rw [← h.d]; exact h.fly 1 (.d d true true) _

theorem swaph_flies (d n : Nat) : Flies st (cellOp s k blk (.swaph d n) e) k g
    [(1, .d d true true, z72 (Word.pack (mget 0 (cellNow st k g).d n).lo (mget 0 (cellNow st k g).d n).hi))] := by
  rw [← h.d]; exact h.fly 1 (.d d true true) _

theorem clra_flies (a : Nat) :
    Flies st (cellOp s k blk (.clra a) e) k g [(2, .acc a true true true, 0), (2, .acc a false true true, 0)] :=
  h.flyAcc 2 2 a true true 0

theorem mva_flies (a n : Nat) : Flies st (cellOp s k blk (.mva a n) e) k g
    [(2, .acc a true true true, s72ToAcc (mget 0 (cellNow st k g).d n)), (2, .acc a false true true, s72ToAcc (mget 0 (cellNow st k g).d n))] := by
  rw [← h.d]; exact h.flyAcc 2 2 a true true _

theorem mvah_flies (a n : Nat) : Flies st (cellOp s k blk (.mvah a n) e) k g
    [(2, .acc a true true false, Acc.pack (mget 0 (cellNow st k g).d n) 0), (2, .acc a false true false, Acc.pack (mget 0 (cellNow st k g).d n) 0)] := by
  rw [← h.d]; exact h.flyAcc 2 2 a true false _

theorem mval_flies (a n : Nat) : Flies st (cellOp s k blk (.mval a n) e) k g
    [(2, .acc a true false true, Acc.pack 0 (mget 0 (cellNow st k g).d n)), (2, .acc a false false true, Acc.pack 0 (mget 0 (cellNow st k g).d n))] := by
  rw [← h.d]; exact h.flyAcc 2 2 a false true _
end

/-- Settles O1: each move reads its register in the cell as the issue finds it and puts its one result in flight. -/
theorem cellMovesFly : Obligations.CellMovesFly := by
  intro st c s g opens k x fits rd acc
  exact ⟨fun d n legal => ⟨_, rfl, cellRun_flies opens legal fun _ h => mov_flies h _ _ d.val n.val⟩,
    fun d n legal => ⟨_, rfl, cellRun_flies opens legal fun _ h => swaph_flies h _ _ d.val n.val⟩,
    fun a legal => ⟨_, rfl, cellRun_flies opens legal fun _ h => clra_flies h _ _ a.val⟩,
    fun a n legal => ⟨_, rfl, cellRun_flies opens legal fun _ h => mva_flies h _ _ a.val n.val⟩,
    fun a n legal => ⟨_, rfl, cellRun_flies opens legal fun _ h => mvah_flies h _ _ a.val n.val⟩,
    fun a n legal => ⟨_, rfl, cellRun_flies opens legal fun _ h => mval_flies h _ _ a.val n.val⟩⟩

/-! ### Compares, conditional moves, shifts -/

theorem Flies.cfOf {s t : State} {k g : Nat} {rs : List Flown} (h : Flies s t k g rs) (blk : Bool) (j : Nat) :
    cfOf (cellAt t k) blk j = cfOf (cellNow s k g) blk j := by unfold Machine.cfOf; rw [h.stOf]

/-- The relations of R86. -/
theorem cmpRel_eq (rel : Nat) (n m : Word) : cmpRel rel n m = match rel with
    | 0 => decide (n = m)
    | 1 => decide (n.toInt < m.toInt)
    | 2 => decide (n.toInt ≤ m.toInt)
    | _ => decide (n.toInt.natAbs < m.toInt.natAbs) := by
  match rel with
  | 0 => exact beq_eq_decide n m
  | 1 => rfl
  | 2 => rfl
  | _ + 3 => rfl

/-- Whether SHF has a result depends on its function and its shift alone (R87). -/
theorem shfValue_isSome_congr {fn : Nat} {sh : Int} {trunc trunc' : Bool} {w w' : Word} (some : (shfValue fn sh trunc w).isSome = true) :
    (shfValue fn sh trunc' w').isSome = true := by
  match fn with
  | 0 => rfl
  | 1 => rfl
  | 2 =>
    by_cases range : sh < -63 ∨ sh > 6
    · simp [shfValue, range] at some
    · simp [shfValue, range]
  | n + 3 =>
    by_cases zero : sh = 0
    · simp [shfValue, zero]
    · simp [shfValue, zero] at some

section
variable {st s : State} {k g : Nat} (h : Flies st s k g []) (blk : Bool) (e : OpEnv)
include h

theorem cmp_flies (n m rel j : Nat) : Flies st (cellOp s k blk (.cmp n m rel j) e) k g [(2, .st blk (BitVec.ofNat 8 (2 ^ (4 + j))),
    if cmpRel rel (mget 0 (cellNow st k g).d n) (mget 0 (cellNow st k g).d m) then 0xF0 else 0)] := by
  rw [← h.d]; exact h.fly 2 (.st blk _) _

theorem cmov_flies (d n j : Nat) (t : Bool) : Flies st (cellOp s k blk (.cmov d n j t) e) k g
    (if cfOf (cellNow st k g) blk j == t then [(1, .d d true true, z72 (mget 0 (cellNow st k g).d n))] else []) := by
  rw [← h.cfOf, ← h.d]; exact h.flyIf _ 1 (.d d true true) _

theorem shf_flies {d fn : Nat} {sh : BitVec 7} (legal : opFields (.shf d sh fn) = true) :
    ∃ w sat, shfValue fn sh.toInt (rndOf (cellNow st k g) blk) (mget 0 (cellNow st k g).d d) = some (w, sat) ∧
      Flies st (cellOp s k blk (.shf d sh fn) e) k g ((2, .d d true true, z72 w) :: (if sat then [(2, .stOr blk, 1)] else [])) := by
  obtain ⟨⟨w, sat⟩, value⟩ := Option.isSome_iff_exists.1 (shfValue_isSome_congr (trunc' := rndOf (cellNow st k g) blk)
    (w' := mget 0 (cellNow st k g).d d) (show (shfValue fn sh.toInt false 0).isSome = true from legal))
  have run : cellOp s k blk (.shf d sh fn) e =
      if sat then flyTo (flyTo s k 2 (.d d true true) (z72 w)) k 2 (.stOr blk) 1 else flyTo s k 2 (.d d true true) (z72 w) := by
    simp only [cellOp, h.rndOf, h.d, value]
  rw [run]
  exact ⟨w, sat, value, (h.fly 2 (.d d true true) (z72 w)).flyIf sat 2 (.stOr blk) 1⟩
end

/-- Settles O2: the flag holds the relation named, a conditional move moves where its flag agrees, a legal SHF has a value. -/
theorem cellConditionsFly : Obligations.CellConditionsFly := by
  intro st c s g opens k x blk fits rd
  refine ⟨fun n m rel j legal => ⟨_, rfl, ?cmp⟩, fun d n j legal => ⟨_, rfl, ?cmovT⟩, fun d n j legal => ⟨_, rfl, ?cmovF⟩,
    fun d sh fn legal => ?shf⟩
  case cmp =>
    intro holds
    rw [show holds = cmpRel rel.val (rd n) (rd m) from (cmpRel_eq rel.val (rd n) (rd m)).symm]
    exact cellRun_flies opens legal fun _ h => cmp_flies h blk _ n.val m.val rel.val j.val
  case cmovT =>
    have run := cellRun_flies (e := {}) opens legal fun _ h => cmov_flies h blk _ d.val n.val j.val true
    rw [beq_true] at run
    exact run
  case cmovF =>
    have run := cellRun_flies (e := {}) opens legal fun _ h => cmov_flies h blk _ d.val n.val j.val false
    rw [beq_false] at run
    change Flies st _ k g (if cfOf x blk j.val then _ else _)
    change Flies st _ k g (if !cfOf x blk j.val then _ else _) at run
    cases flag : cfOf x blk j.val <;> rw [flag] at run <;> exact run
  case shf =>
    obtain ⟨w, sat, value, run⟩ := shf_flies (issuedState_flies st k g _) blk {} (opFields_of_fits legal)
    exact ⟨_, w, sat, rfl, value, Flies.of_run ⟨opens, legal⟩ run⟩

end Sys2Proof.Machine
end

section
/-! Proofs: values of the shift functions (R87). -/

namespace Sys2Proof.Machine

/-- A clamp is to the two ends of the signed range. -/
theorem sclamp_eq (w : Nat) (v : Int) : sclamp w v = max (-(2 ^ (w - 1))) (min (2 ^ (w - 1) - 1) v) := by
  have positive : (0 : Int) < 2 ^ (w - 1) := by positivity
  unfold sclamp
  generalize (2 : Int) ^ (w - 1) = m at positive
  simp only
  split_ifs <;> omega

/-- The value of a word is in its own range. -/
theorem sclamp_toInt {w : Nat} (v : BitVec w) : sclamp w v.toInt = v.toInt := by
  have upper := v.toInt_lt
  have lower := v.le_toInt
  rw [sclamp_eq]
  omega

/-- Without a shift the store path gives back what it is given, in the format it came in (R63, R87). -/
theorem storeValue_zero {w : Nat} (v : BitVec w) (f : Nat) (trunc : Bool) : storeValue v.toInt f 0 0 trunc f f w = (v.toInt, false) := by
  have unrounded : (if trunc then v.toInt * 2 ^ 64 / 2 ^ 64 else rneShift (v.toInt * 2 ^ 64) 64) = v.toInt := by
    simp [rneShift]
  have scale : ((0 : Int) + 64).toNat = 64 := rfl
  unfold storeValue
  simp only [scale, Int.add_zero, Nat.add_sub_cancel_left, Nat.sub_self, pow_zero, mul_one, unrounded, sfits, sclamp_toInt, beq_self_eq_true,
    Bool.not_true]

/-- A clamp to fewer bits than a word's stays in the word. -/
theorem toInt_ofInt_sclamp {w : Nat} (narrow : w ≤ 72) (v : Int) : (BitVec.ofInt 72 (sclamp w v)).toInt = sclamp w v := by
  have positive : (0 : Int) < 2 ^ (w - 1) := by positivity
  have within : (2 : Int) ^ (w - 1) ≤ 2 ^ 71 := pow_le_pow_right₀ (by norm_num) (by omega)
  rw [sclamp_eq]
  exact BitVec.toInt_ofInt_eq_self (by omega) (by omega) (by omega)

/-- Function 2 clamps to one bit more than its shift names (R87). -/
theorem shfValue_two {sh : Int} (lower : -63 ≤ sh) (upper : sh ≤ 6) (trunc : Bool) (w : Word) : shfValue 2 sh trunc w =
    some (BitVec.ofInt 72 (sclamp ((sh + 64).toNat + 1) w.toInt), sclamp ((sh + 64).toNat + 1) w.toInt != w.toInt) :=
  if_neg (by omega)

/-- Function 3 takes the absolute value, clamped (R87). -/
theorem shfValue_three (trunc : Bool) (w : Word) :
    shfValue 3 0 trunc w = some (BitVec.ofInt 72 (sclamp 72 w.toInt.natAbs), !sfits 72 w.toInt.natAbs) := rfl

/-- Settles O3: the clamps end within the word, and a shift by 0 neither rounds nor clamps. -/
theorem shiftFunctionValues : Obligations.ShiftFunctionValues := by
  intro trunc w
  refine ⟨fun sh lower upper => ⟨_, shfValue_two lower upper trunc w, ?clamp⟩, ⟨_, shfValue_three trunc w, ?absolute⟩, ?word, ?halves⟩
  case clamp =>
    rw [toInt_ofInt_sclamp (by omega), sclamp_eq, Nat.add_sub_cancel]
    exact ⟨rfl, bne_iff_ne⟩
  case absolute =>
    have low := w.le_toInt
    have high := w.toInt_lt
    rw [toInt_ofInt_sclamp (le_refl 72)]
    simp only [sfits, Bool.not_eq_true', beq_eq_false_iff_ne, sclamp_eq]
    omega
  case word => simp only [shfValue, storeValue_zero, BitVec.ofInt_toInt]
  case halves => simp only [shfValue, storeValue_zero, BitVec.ofInt_toInt, pack_hi_lo, Bool.or_self]

end Sys2Proof.Machine
end

section
/-! Proofs: loads from a cell's own memories (R73, R83–R85, R100). -/

namespace Sys2Proof.Machine

/-! ### Corrected errors -/

/-- The state in which a correctable finding of a read's check bits has been counted (R73). -/
def corrected (s : State) (k : Nat) (e : Ecc) : State := if e = .single then rinc s (celErrA k) 0 16 else s

theorem cellEcc_correctable {e : Ecc} (correctable : e ≠ .double) (s : State) (k mem : Nat) : cellEcc s k mem e = corrected s k e := by
  cases e with
  | ok => rfl
  | single => rfl
  | double => exact absurd rfl correctable

@[simp] theorem cellAt_corrected (s : State) (k : Nat) (e : Ecc) (j : Nat) : cellAt (corrected s k e) j = cellAt s j := by
  unfold corrected; split <;> rfl

/-- A count in a control register, before and behind. -/
theorem Flies.rinc {st s : State} {k g : Nat} {rs : List Flown} (h : Flies st s k g rs) (a lo w : Nat) :
    Flies (rinc st a lo w) (rinc s a lo w) k g rs :=
  ⟨congrArg (fun u : State => Machine.rinc u a lo w) h.rest, h.others, h.cell, h.flight⟩

theorem Flies.corrected {st s : State} {k g : Nat} {rs : List Flown} (h : Flies st s k g rs) (e : Ecc) :
    Flies (corrected st k e) (corrected s k e) k g rs := by
  unfold Machine.corrected
  split
  · exact h.rinc _ _ _
  · exact h

/-! ### Loads -/

/-- A coefficient read delivers the active page's word (R70). -/
theorem coefRead_correctable {e : Ecc} (correctable : e ≠ .double) (s : State) (k off : Nat) :
    coefRead s k off e = (cellWord s (memSlot s k) (0x1000 + 0x800 * kpage s k + off % 2048), corrected s k e) := by
  unfold coefRead
  simp only [correctable, and_false, if_false, cellEcc_correctable correctable]

section
variable {st s : State} {k g : Nat} {rs : List Flown} (h : Flies st s k g rs)
include h

theorem Flies.memSlot : memSlot s k = (cellNow st k g).lender.getD k := by unfold Machine.memSlot; rw [h.lender]

/-- What a load of state memory sees stands while results are put in flight (R100). -/
theorem Flies.stateSeen (off : Nat) : stateSeen s k off =
    match (cellNow st k g).stale.find? (fun y => y.addr == off && decide ((cellNow st k g).clk < y.until_)) with
    | some y => y.old
    | none => Machine.cellWord st (if (cellNow st k g).ownState then k else (cellNow st k g).lender.getD k) (0x2000 + off) := by
  rw [← h.stale, ← h.clk, ← h.stateSlot, ← h.cellWord]
  rfl

end

section
variable {s : State} {k p am : Nat} {a : BitVec 20} {np : Option (BitVec 20)} {e : OpEnv} (correctable : e.ecc ≠ .double)
  (addr : amAddr am (mget 0 (cellAt s k).z p) (mget 0 (cellAt s k).p p) (mget 0 (cellAt s k).i p) = some (a, np))
include correctable addr

theorem doLoad_state (blk : Bool) (part d : Nat) : doLoad s k blk 0 part d p am e = corrected
    (flyTo (flyPointer s k p np) k 3 (.d d true true) (z72 (loadPart part (stateSeen (flyPointer s k p np) k (a.toNat % 4096))))) k e.ecc := by
  rw [← cellEcc_correctable correctable _ k 2]
  unfold doLoad
  simp only [addr]
  rfl

theorem doLoad_coef (blk : Bool) (part d : Nat) : doLoad s k blk 1 part d p am e = flyTo (corrected (flyPointer s k p np) k e.ecc) k 3
    (.d d true true) (z72 (loadPart part (cellWord (flyPointer s k p np) (memSlot (flyPointer s k p np) k)
      (0x1000 + 0x800 * kpage (flyPointer s k p np) k + a.toNat % 2048)))) := by
  unfold doLoad
  simp only [addr]
  change flyTo (coefRead (flyPointer s k p np) k a.toNat e.ecc).2 k 3 _ (z72 (loadPart part (coefRead (flyPointer s k p np) k a.toNat e.ecc).1)) = _
  rw [coefRead_correctable correctable]
end

section
variable {st s : State} {k g p am : Nat} {a : BitVec 20} {np : Option (BitVec 20)} (h : Flies st s k g []) {e : OpEnv}
  (correctable : e.ecc ≠ .double)
  (addr : amAddr am (mget 0 (cellNow st k g).z p) (mget 0 (cellNow st k g).p p) (mget 0 (cellNow st k g).i p) = some (a, np))
include h correctable addr

/-- A load of state memory with at most a single-bit error (R73, R84, R85). -/
theorem loadState_flies (blk : Bool) (part d : Nat) : Flies (corrected st k e.ecc) (cellOp s k blk (.load 0 part d p am) e) k g
    (pointerResult p np ++ [(3, .d d true true, z72 (loadPart part (stateSeen s k (a.toNat % 4096))))]) := by
  have pointer := h.flyPointer p np
  rw [show cellOp s k blk (.load 0 part d p am) e = _ from doLoad_state correctable ((h.amAddr am p).trans addr) blk part d,
    show stateSeen s k _ = stateSeen (flyPointer s k p np) k _ from (h.stateSeen _).trans (pointer.stateSeen _).symm]
  exact (pointer.fly 3 _ _).corrected e.ecc

/-- A load of coefficient memory with at most a single-bit error (R73, R84, R85). -/
theorem loadCoef_flies (blk : Bool) (part d : Nat) : Flies (corrected st k e.ecc) (cellOp s k blk (.load 1 part d p am) e) k g
    (pointerResult p np ++ [(3, .d d true true, z72 (loadPart part
      (cellWord st ((cellNow st k g).lender.getD k) (0x1000 + 0x800 * kpage st k + a.toNat % 2048))))]) := by
  have pointer := h.flyPointer p np
  rw [show cellOp s k blk (.load 1 part d p am) e = _ from doLoad_coef correctable ((h.amAddr am p).trans addr) blk part d,
    pointer.memSlot, pointer.kpage, pointer.cellWord]
  exact (pointer.corrected e.ecc).fly 3 _ _
end

/-- Settles O5: the address of the mode is read in either memory, and a corrected error is counted beside it. -/
theorem cellLoadsFly : Obligations.CellLoadsFly := by
  intro st c s g d p am e a np opens correctable k x m fits addr seen res state coef
  have results : ∀ w, res w = pointerResult p.val np ++ [(3, .d d.val true true, z72 w)] := fun w => by cases np <;> rfl
  have fromState : ∀ part, fits 0 part →
      Flies seen (cellRun st k g (.load 0 part d.val p.val am.val) { ecc := e }) k g (res (loadPart part state)) := by
    intro part legal
    have h := issuedState_flies st k g (.load 0 part d.val p.val am.val)
    have run := loadState_flies (e := { ecc := e }) h correctable addr (!x.sample) part d.val
    rw [h.stateSeen] at run
    rw [cellRun_issues _ _ _ _ _ ⟨opens, legal⟩, results]
    exact run
  have fromCoef : ∀ part, fits 1 part →
      Flies seen (cellRun st k g (.load 1 part d.val p.val am.val) { ecc := e }) k g (res (loadPart part coef)) := by
    intro part legal
    rw [cellRun_issues _ _ _ _ _ ⟨opens, legal⟩, results]
    exact loadCoef_flies (e := { ecc := e }) (issuedState_flies st k g _) correctable addr (!x.sample) part d.val
  exact ⟨fun legal => ⟨_, rfl, fromState 0 legal⟩, fun legal => ⟨_, rfl, fromState 1 legal⟩, fun legal => ⟨_, rfl, fromState 2 legal⟩,
    fun legal => ⟨_, rfl, fromCoef 0 legal⟩, fun legal => ⟨_, rfl, fromCoef 1 legal⟩, fun legal => ⟨_, rfl, fromCoef 2 legal⟩⟩

end Sys2Proof.Machine
end

section
/-! Proofs: status, block-exponent and loop operations, empty words, and instructions that are not legal (R73, R79, R95, R96, R99, R106). -/

namespace Sys2Proof.Machine

/-! ### What a legal operation is legal for -/

theorem opLegal_of_fits {c : Cell} {op : CellOp} (h : opFits c op = true) : opLegal (!c.sample) c.pc op = true :=
  (Bool.and_eq_true_iff.1 h).1

/-- A legal REP counts, and its body ends within the program (R104, R106). -/
theorem rep_of_fits {c : Cell} {op : CellOp} (h : opFits c op = true) : repNone op = false ∧ repPast c.pc op = false := by
  have legal := opLegal_of_fits h
  simp only [opLegal, Bool.and_eq_true, Bool.not_eq_true'] at legal
  obtain ⟨⟨⟨-, counts⟩, within⟩, -⟩ := legal
  exact ⟨counts, within⟩

/-! ### Loops -/

@[simp] theorem activeLoops_setLoops (c : Cell) (ls : List LoopRec) : activeLoops (setLoops c ls) = ls := by
  cases sample : c.sample
  · by_cases task : c.half = 0 <;> simp [setLoops, activeLoops, sample, task]
  · simp [setLoops, activeLoops, sample]

section
variable {st s : State} {k g : Nat} {rs : List Flown} (h : Flies st s k g rs)
include h

theorem Flies.activeLoops : activeLoops (cellAt s k) = activeLoops (cellNow st k g) := h.same _ fun _ _ _ _ _ _ => rfl

/-- What is done to the cell alone, behind results put in flight. -/
theorem Flies.onlyCell_onCell (f : Cell → Cell) : OnlyCell st (onCell s k f) k :=
  OnlyCell.onCell ⟨h.rest, h.others⟩ f
end

/-! ### Operations of the control field -/

section
variable {st s : State} {k g : Nat} (h : Flies st s k g []) (blk : Bool) (e : OpEnv)
include h

theorem stset_flies {m : BitVec 8} (legal : opFields (.stset m) = true) :
    Flies st (cellOp s k blk (.stset m) e) k g [(1, .st blk m, 0xFF)] := by
  have run : cellOp s k blk (.stset m) e = flyTo s k 1 (.st blk m) 0xFF := if_neg (by simpa [opFields] using legal)
  rw [run]; exact h.fly 1 _ _

theorem stclr_flies {m : BitVec 8} (legal : opFields (.stclr m) = true) :
    Flies st (cellOp s k blk (.stclr m) e) k g [(1, .st blk m, 0)] := by
  have run : cellOp s k blk (.stclr m) e = flyTo s k 1 (.st blk m) 0 := if_neg (by simpa [opFields] using legal)
  rw [run]; exact h.fly 1 _ _

theorem bxclr_flies : Flies st (cellOp s k blk .bxclr e) k g [(1, .bx, 0x7F)] := h.bxw.fly 1 .bx _

theorem rep_loops {lp len : Nat} {count : BitVec 16} (counts : repNone (.rep lp len count) = false)
    (within : repPast (cellNow st k g).pc (.rep lp len count) = false) :
    let x := cellNow st k g
    let t := cellOp s k blk (.rep lp len count) e
    OnlyCell st t k ∧ (cellAt t k).flight = flown x [(1, .lp lp, count.zeroExtend 144)] ∧ (cellAt t k).d = x.d ∧
      activeLoops (cellAt t k) = ⟨lp, x.pc + 1, x.pc + 1 + len⟩ :: activeLoops x := by
  intro x t
  have loads := h.fly 1 (.lp lp) (count.zeroExtend 144)
  have run : cellOp s k blk (.rep lp len count) e = onCell (flyTo s k 1 (.lp lp) (count.zeroExtend 144)) k
      (fun c => setLoops c (⟨lp, c.pc + 1, c.pc + 1 + len⟩ :: activeLoops c)) := by
    refine if_neg ?_
    rw [h.pc]
    simp only [repNone, repPast, beq_eq_false_iff_ne, decide_eq_false_iff_not] at counts within
    exact not_or.2 ⟨counts, within⟩
  rw [show t = _ from run]
  refine ⟨loads.onlyCell_onCell _, ?_, ?_, ?_⟩
  · rw [cellAt_onCell_same, setLoops_same (·.flight) fun _ _ _ _ => rfl]; exact loads.flight
  · rw [cellAt_onCell_same, setLoops_same (·.d) fun _ _ _ _ => rfl]; exact loads.d
  · rw [cellAt_onCell_same, activeLoops_setLoops, loads.activeLoops, loads.pc]
end

/-! ### Empty words -/

theorem progRead_correctable {e : Ecc} (correctable : e ≠ .double) (s : State) (k pc : Nat) :
    (progRead s k pc e).2 = corrected s k e := by
  rw [← cellEcc_correctable correctable s k 0]
  cases e with
  | ok => rfl
  | single => rfl
  | double => exact absurd rfl correctable

/-- An empty field or word issues; a finding that is corrected is counted (R73, R79). -/
theorem cellNop_flies {st : State} {k g : Nat} {e : Ecc} (opens : st.open_ k g) (correctable : e ≠ .double) :
    Flies (corrected st k e) (cellNop st k g e) k g [] := by
  have run : cellNop st k g e = corrected (issuedState st k g .nop) k e := by
    unfold cellNop
    simp only [opens.1, opens.2, Bool.not_true, Bool.false_eq_true, if_false, correctable, progRead_correctable correctable, cellAt_onCell_same]
    rfl
  rw [run]
  exact (issuedState_flies st k g .nop).corrected e

/-! ### Instructions that are not legal -/

/-- An operation that does not fit its instruction drops what the instruction has put in flight (R99, R106). -/
theorem cellRun_drops_fresh {st : State} {k g : Nat} {op : CellOp} {e : OpEnv} (opens : st.open_ k g)
    (unfit : opFits (cellNow st k g) op = false) (own : (cellNow st k g).stale = []) (shared : st.mem.stale = []) :
    let x := cellNow st k g
    let t := cellRun st k g op e
    OnlyCell st t k ∧ (cellAt t k).void = true ∧ (cellAt t k).d = x.d ∧ (cellAt t k).flight = x.flight.filter (fun l => l.issued != x.clk) := by
  intro x t
  have h := issuedState_flies st k g op
  obtain ⟨⟨rest, others⟩, cell⟩ := dropInstr_of_fresh (h.stale.trans own) ((congrArg MemSt.stale h.mem).trans shared)
  rw [show t = _ from cellRun_drops st k g op e opens unfit]
  generalize dropInstr (issuedState st k g op) k = u at rest others cell
  rw [cell]
  refine ⟨⟨?_, fun j hj => (others j hj).trans (h.others j hj)⟩, rfl, h.d, ?_⟩
  · exact (congrArg (fun u : State => { u with cells := st.cells }) rest).trans h.rest
  · change (cellAt _ k).flight.filter (fun l => l.issued != (cellAt _ k).clk) = _
    rw [h.flight, h.clk, flown_filter_issued]

/-- Settles O8: each legal operation puts its result in flight, REP pushes its loop; an operation that is not legal drops its instruction,
whichever it is. -/
theorem cellStatusLoopsAndNop : Obligations.CellStatusLoopsAndNop := by
  refine ⟨?_, ?_⟩
  · intro st c s g opens k x blk fits
    refine ⟨fun m legal => ⟨_, rfl, cellRun_flies opens legal fun _ h => stset_flies h blk _ (opFields_of_fits legal)⟩,
      fun m legal => ⟨_, rfl, cellRun_flies opens legal fun _ h => stclr_flies h blk _ (opFields_of_fits legal)⟩,
      fun legal => ⟨_, rfl, cellRun_flies opens legal fun _ h => bxclr_flies h blk _⟩,
      fun lp len count legal => ⟨_, rfl, ?rep⟩,
      ⟨_, rfl, cellNop_flies (e := .ok) opens (by simp)⟩, ⟨_, rfl, cellNop_flies (e := .single) opens (by simp)⟩⟩
    case rep =>
      obtain ⟨counts, within⟩ := rep_of_fits legal
      have h := issuedState_flies st k g (.rep lp.val len.val count)
      have run := rep_loops h blk {} counts within
      rw [← cellRun_issues _ _ _ _ _ ⟨opens, legal⟩] at run
      exact run
  · intro st c s g opens k x drops
    have dropped : ∀ (i : Instr) (op : CellOp) (e : OpEnv), exec i st = .next (cellRun st k g op e) → drops i op :=
      fun i op e run unfit own shared => ⟨_, run, cellRun_drops_fresh opens unfit own shared⟩
    exact ⟨fun _ _ => dropped _ _ {} rfl, fun _ _ _ _ _ => dropped _ _ {} rfl, fun _ _ _ => dropped _ _ {} rfl, fun _ _ _ => dropped _ _ {} rfl,
      fun _ _ _ _ => dropped _ _ {} rfl, fun _ _ _ => dropped _ _ {} rfl, fun _ _ => dropped _ _ {} rfl, fun _ => dropped _ _ {} rfl,
      fun _ => dropped _ _ {} rfl, fun _ _ _ => dropped _ _ {} rfl, fun _ _ => dropped _ _ {} rfl, fun _ _ => dropped _ _ {} rfl,
      dropped _ _ {} rfl, dropped _ _ {} rfl, dropped _ _ {} rfl, fun _ => dropped _ _ {} rfl, fun _ => dropped _ _ {} rfl,
      fun _ => dropped _ _ {} rfl⟩

end Sys2Proof.Machine
end

section
/-! Proofs: reads of the exchange's lanes (R91, R99, R100, R125). -/

namespace Sys2Proof.Machine

/-- Only sample code issues an operation of the exchange or END (R94, R99). -/
theorem sample_of_fits {c : Cell} {op : CellOp} (h : opFits c op = true) (sampleOnly : opSampleOnly op = true) : c.sample = true := by
  have legal := opLegal_of_fits h
  simp only [opLegal, sampleOnly, Bool.and_eq_true] at legal
  cases sample : c.sample
  · simp [sample] at legal
  · rfl

/-- What a lane shows stands while results are put in flight (R125). -/
theorem Flies.laneRead {s t : State} {k g : Nat} {rs : List Flown} (h : Flies s t k g rs) (c i lane u : Nat) (red : Bool) :
    laneRead t c i lane u red = laneRead s c i lane u red := (congrArg (fun v : State => Machine.laneRead v c i lane u red) h.rest :)

theorem Flies.logicalOf {s t : State} {k g : Nat} {rs : List Flown} (h : Flies s t k g rs) : logicalOf t k = logicalOf s k :=
  (congrArg (fun v : State => Machine.logicalOf v k) h.rest :)

/-- A lane shows its word to readers whose read set has it and whose kind it is (R125). -/
theorem laneRead_eq (s : State) (c i lane u : Nat) (red : Bool) : laneRead s c i lane u red =
    if (mget [] (liveTable s c).reads i).contains lane ∧ (ldKind (laneDesc s c lane) = 5 ↔ red = true) then laneWord (laneAt s c lane) i u else 0 := by
  unfold Machine.laneRead
  cases red <;> simp

section
variable {st s : State} {k g : Nat} (h : Flies st s k g []) (e : OpEnv)
include h

theorem xrd_flies (d lane : Nat) : Flies st (cellOp s k false (.xrd d lane) e) k g
    [(1, .d d true true, laneRead st (k / 68) (logicalOf st k % 64) lane (cellNow st k g).cyc false)] := by
  rw [← h.laneRead, ← h.logicalOf, ← h.cyc]
  exact h.fly 1 _ _

theorem xra_flies (a lane : Nat) : Flies st (cellOp s k false (.xra a lane) e) k g
    [(2, .acc a true true true, laneRead st (k / 68) (logicalOf st k % 64) lane (cellNow st k g).cyc true),
     (2, .acc a false true true, laneRead st (k / 68) (logicalOf st k % 64) lane (cellNow st k g).cyc true)] := by
  rw [← h.laneRead, ← h.logicalOf, ← h.cyc]
  exact h.flyAcc 2 2 a true true _
end

/-- Settles O10: the operation fits in sample code alone, and reads what the lane shows at its issue cycle. -/
theorem cellLaneReadsFly : Obligations.CellLaneReadsFly := by
  intro st c s g lane opens k x i kind word inSet
  have shown : ∀ red, laneRead st (k / 68) i lane.val x.cyc red = if inSet ∧ (kind = 5 ↔ red = true) then word else 0 := by
    intro red
    rw [laneRead_eq, slotKey_div]
  refine ⟨fun d legal => ⟨_, rfl, ?xrd⟩, fun a legal => ⟨_, rfl, ?xra⟩⟩
  case xrd =>
    have run := cellRun_flies (e := {}) opens legal fun _ h => by
      rw [sample_of_fits legal rfl]; exact xrd_flies h _ d.val lane.val
    rw [shown] at run
    simp only [Bool.false_eq_true, iff_false] at run
    exact run
  case xra =>
    have run := cellRun_flies (e := {}) opens legal fun _ h => by
      rw [sample_of_fits legal rfl]; exact xra_flies h _ a.val lane.val
    rw [shown] at run
    simp only [iff_true] at run
    exact run

end Sys2Proof.Machine
end

section
/-! Proofs: branches, jumps and END (R98, R99, R105). -/

namespace Sys2Proof.Machine

/-! ### What a landing leaves alone -/

/-- A landing writes registers alone (R75). -/
theorem landOne_same {α : Type} (f : Cell → α) (hf : ∀ c d a af p i z lp bx st bst saved,
      f { c with d := d, a := a, af := af, p := p, i := i, z := z, lp := lp, bx := bx, st := st, bst := bst, savedSt := saved } = f c)
    (c : Cell) (l : Landing) : f (landOne c l) = f c := by
  cases h : l.dst <;> simp only [landOne, h, putD, putA, stPut] <;> (repeat' split) <;> exact hf c _ _ _ _ _ _ _ _ _ _ _

/-- What decides where issue goes next, but for the loops (R97, R98). -/
def issueAddress (c : Cell) : Nat × Nat × Option Nat := (c.pc, c.dead, c.npc)

/-- Where issue goes next is no landing's. -/
theorem landDue_issue (c : Cell) : (landDue c).pc = c.pc ∧ (landDue c).dead = c.dead ∧ (landDue c).npc = c.npc := by
  have kept : ∀ x l, issueAddress (landOne x l) = issueAddress x :=
    landOne_same issueAddress fun _ _ _ _ _ _ _ _ _ _ _ _ => rfl
  have all : issueAddress (landDue c) = issueAddress c :=
    (List.foldl_hom issueAddress (g₂ := fun a _ => a) fun x l => (kept x l).symm).symm.trans (List.foldl_fixed _)
  simpa only [issueAddress, Prod.mk.injEq] using all

/-! ### Cycles with no issue -/

theorem tickOne_dead {c : Cell} {n : Nat} (dead : c.dead = n + 2) : (tickOne c).dead = n + 1 ∧ (tickOne c).npc = c.npc := by
  unfold tickOne
  rw [if_neg (by omega)]
  obtain ⟨-, dead', npc⟩ := landDue_issue { c with
    dead := c.dead - 1, clk := c.clk + 1, cyc := if c.atZero then c.cyc else c.cyc + 1 + c.frz, atZero := false, iss := [], void := false, frz := 0 }
  exact ⟨dead'.trans (by change c.dead - 1 = n + 1; omega), npc⟩

/-- The cycle after the last with no issue issues at the address that waits (R98). -/
theorem tickOne_redirects {c : Cell} {dst : Nat} (last : c.dead = 1) (waits : c.npc = some dst) :
    (tickOne c).pc = dst ∧ (tickOne c).dead = 0 := by
  unfold tickOne
  rw [if_pos (by omega)]
  obtain ⟨pc, dead, -⟩ := landDue_issue _
  refine ⟨pc.trans ?_, dead⟩
  simp only [nextPc, waits]

/-- Two cycles with no issue, then the target (R98). -/
theorem tickCell_redirects {c : Cell} {dst : Nat} (dead : c.dead = 3) (waits : c.npc = some dst) :
    (tickCell 1 c).dead = 2 ∧ (tickCell 2 c).dead = 1 ∧ (tickCell 3 c).pc = dst ∧ (tickCell 3 c).dead = 0 := by
  obtain ⟨first, npc⟩ := tickOne_dead (n := 1) dead
  obtain ⟨second, npc'⟩ := tickOne_dead (n := 0) first
  exact ⟨first, second, tickOne_redirects second (npc'.trans (npc.trans waits))⟩

/-- Nothing new issues in a cycle with no issue (R98). -/
theorem canIssue_of_dead {s : State} {k gap : Nat} (new : gap ≠ 0) (dead : (cellAt s k).dead ≠ 0) : canIssue s k gap = false := by
  unfold canIssue
  simp [new, dead]

/-! ### Branches and jumps -/

/-- Only block code issues a branch, a jump, BWAIT or YEND (R94, R99). -/
theorem block_of_fits {c : Cell} {op : CellOp} (h : opFits c op = true) (blockOnly : opBlockOnly op = true) : c.sample = false := by
  have legal := opLegal_of_fits h
  simp only [opLegal, blockOnly, Bool.and_eq_true] at legal
  cases sample : c.sample
  · rfl
  · simp [sample] at legal

/-- From `s` to `t` slot `k` branches to the address `dst`: nothing issues for two cycles, then the target, in the loops whose body has
it (R98). -/
structure Branches (s t : State) (k g dst : Nat) : Prop where
  only : OnlyCell s t k
  d : (cellAt t k).d = (cellNow s k g).d
  flight : (cellAt t k).flight = (cellNow s k g).flight
  waits : ∀ n, n = 1 ∨ n = 2 → canIssue (onCell t k (tickCell n)) k n = false
  target : (tickCell 3 (cellAt t k)).pc = dst
  resumes : (tickCell 3 (cellAt t k)).dead = 0
  loops : activeLoops (cellAt t k) = (activeLoops (cellNow s k g)).filter (fun l => decide (l.first ≤ dst) && decide (dst ≤ l.last))

theorem Flies.branchTo {st s : State} {k g : Nat} (h : Flies st s k g []) (dst : Nat) : Branches st (branchTo s k dst) k g dst := by
  have cell : cellAt (Machine.branchTo s k dst) k = setLoops { cellAt s k with npc := some dst, dead := 3 }
      ((Machine.activeLoops (cellAt s k)).filter (fun l => decide (l.first ≤ dst) && decide (dst ≤ l.last))) := cellAt_onCell_same _ _ _
  have kept : ∀ {α : Type} (f : Cell → α), (∀ c l b h, f { c with loops := l, bloops := b, hloops := h } = f c) →
      f (cellAt (Machine.branchTo s k dst) k) = f { cellAt s k with npc := some dst, dead := 3 } :=
    fun f hf => (congrArg f cell).trans (setLoops_same f hf _ _)
  obtain ⟨first, second, target, resumes⟩ := tickCell_redirects (kept (·.dead) fun _ _ _ _ => rfl) (kept (·.npc) fun _ _ _ _ => rfl)
  refine ⟨h.onlyCell_onCell _, (kept (·.d) fun _ _ _ _ => rfl).trans h.d,
    (kept (·.flight) fun _ _ _ _ => rfl).trans (h.flight.trans (List.append_nil _)), ?_, target, resumes, ?_⟩
  · rintro n (rfl | rfl)
    · exact canIssue_of_dead (by omega) (by rw [cellAt_onCell_same, first]; omega)
    · exact canIssue_of_dead (by omega) (by rw [cellAt_onCell_same, second]; omega)
  · rw [cell, activeLoops_setLoops, h.activeLoops]

/-- What a branch of block code that issues does, `taken` or not. -/
theorem branchRun {st : State} {k g dst : Nat} {op : CellOp} {taken : Bool} (opens : st.open_ k g) (fits : opFits (cellNow st k g) op = true)
    (run : ∀ s, Flies st s k g [] → cellOp s k true op {} = if taken then branchTo s k dst else s) (blockOnly : opBlockOnly op = true) :
    if taken then Branches st (cellRun st k g op {}) k g dst else Flies st (cellRun st k g op {}) k g [] := by
  have h := issuedState_flies st k g op
  have issued : cellRun st k g op {} = if taken then branchTo (issuedState st k g op) k dst else issuedState st k g op := by
    rw [cellRun_issues _ _ _ _ _ ⟨opens, fits⟩, block_of_fits fits blockOnly]
    exact run _ h
  rw [issued]
  cases taken
  · exact h
  · exact h.branchTo dst

/-- A conditional branch in the state in which it acts. -/
theorem branchIf_eq {st s : State} {k g : Nat} (h : Flies st s k g []) (off : BitVec 9) (j : Nat) :
    let dst := (((cellNow st k g).pc : Int) + 2048 + off.toInt).toNat % 2048
    let flag := (cellNow st k g).bst.getLsbD (4 + j)
    cellOp s k true (.brt j off) {} = (if flag then branchTo s k dst else s) ∧
      cellOp s k true (.brf j off) {} = if !flag then branchTo s k dst else s := by
  intro dst flag
  have same : cfOf (cellAt s k) true j = flag := h.cfOf true j
  simp only [cellOp, same, h.pc, true_and, Bool.not_eq_true']
  exact ⟨rfl, rfl⟩

/-! ### END -/

/-- END outside a crossfade ends the slot `pg.len` cycles and the tick's stalls after its phase (R105). -/
theorem end_ends {st s : State} {k g : Nat} (h : Flies st s k g []) (settled : xfRuns st k = false) (e : OpEnv) :
    let pg := mget {} st.mem.page ((cellNow st k g).lender.getD k * 2 + ppage st k)
    cellOp s k false .end_ e = onCell s k (fun c => { c with sample := false, done := true, slotEnd := pg.phase + pg.len + c.stalls }) := by
  intro pg
  have settled' : xfRuns s k = false := h.xfRuns.trans settled
  have page : pageOf s k = pg := by
    rw [pageOf_active (xfOld_of_not_xfRuns settled'), h.lender, h.mem, show ppage s k = ppage st k from (congrArg (fun u : State => ppage u k) h.rest :)]
  simp only [cellOp, settled', page, Bool.false_and, Bool.false_eq_true, if_false]

/-- Settles O16: a taken branch waits out two cycles and issues at its target, one not taken leaves its issue alone; END closes the slot. -/
theorem cellControlFlow : Obligations.CellControlFlow := by
  refine ⟨?branches, ?ends⟩
  case branches =>
    intro st c s g j off tgt p opens k x cf goes rel
    have went : ∀ {i : Instr} {op : CellOp} {taken : Bool} {dst : Nat}, exec i st = .next (cellRun st k g op {}) → opBlockOnly op = true →
        (∀ s, Flies st s k g [] → cellOp s k true op {} = if taken then branchTo s k dst else s) → goes i op taken dst := by
      intro i op taken dst executes blockOnly run fits
      have does := branchRun opens fits run blockOnly
      refine ⟨_, executes, ?_⟩
      cases taken
      case false => exact does
      case true =>
        obtain ⟨only, d, flight, waits, target, resumes, loops⟩ := does
        exact ⟨only, d, flight, waits, target, resumes, loops⟩
    exact ⟨went rfl rfl fun s h =>
        congrArg (fun pc : Nat => branchTo s k (((pc : Int) + 2048 + off.toInt).toNat % 2048)) h.pc, went rfl rfl fun s h => (branchIf_eq h off j.val).1,
      went rfl rfl fun s h => (branchIf_eq h off j.val).2, went rfl rfl fun s h => rfl, went rfl rfl fun s h =>
        congrArg (fun ps : SMap (BitVec 20) => branchTo s k ((mget 0 ps p.val).toNat % 2048)) h.p⟩
  case ends =>
    intro st c s g issued k x pg settled
    have h := issuedState_flies st k g .end_
    have run := cellRun_issues st k g .end_ {} issued
    rw [sample_of_fits issued.2 rfl, Bool.not_true, end_ends h settled] at run
    refine ⟨_, rfl, ?_⟩
    rw [show cellRun st (c.val * 68 + s.val) g .end_ {} = _ from run]
    refine ⟨h.onlyCell_onCell _, ?_⟩
    rw [cellAt_onCell_same]
    exact ⟨h.flight.trans (List.append_nil _), h.d, rfl, rfl, congrArg (pg.phase + pg.len + ·) h.stalls⟩

end Sys2Proof.Machine
end

section
/-! Proofs: BWAIT and YEND, by which a block task changes its state (R112, R116, R118). -/

namespace Sys2Proof.Machine

/-! ### The address of the next issue -/

/-- The address that waits, or else the one the loops decide on (R97, R98). -/
theorem nextPc_address (c : Cell) : (nextPc c).1 = c.npc.getD (loopNext c.pc c.lp (activeLoops c)).1 := by
  unfold nextPc
  cases c.npc <;> rfl

theorem Flies.nextAddress {s t : State} {k g : Nat} {rs : List Flown} (h : Flies s t k g rs) :
    (nextPc (cellAt t k)).1 = (nextPc (cellNow s k g)).1 := by
  rw [nextPc_address, nextPc_address]
  exact h.same (fun c => c.npc.getD (loopNext c.pc c.lp (Machine.activeLoops c)).1) fun _ _ _ _ _ _ => rfl

/-- A cell with an address that waits out two cycles issues nothing in them, then at the address (R98, R116). -/
theorem redirected_waits {s : State} {k dst : Nat} (dead : (cellAt s k).dead = 3) (waits : (cellAt s k).npc = some dst) :
    (tickCell 3 (cellAt s k)).pc = dst ∧ ∀ n, n = 1 ∨ n = 2 → canIssue (onCell s k (tickCell n)) k n = false := by
  obtain ⟨first, second, target, -⟩ := tickCell_redirects dead waits
  refine ⟨target, ?_⟩
  rintro n (rfl | rfl)
  · exact canIssue_of_dead (by omega) (by rw [cellAt_onCell_same, first]; omega)
  · exact canIssue_of_dead (by omega) (by rw [cellAt_onCell_same, second]; omega)

/-! ### The task's state -/

/-- A register written on both sides leaves the cell the only difference. -/
theorem OnlyCell.rput {s t : State} {k : Nat} (h : OnlyCell s t k) (a lo w v : Nat) : OnlyCell (rput s a lo w v) (rput t a lo w v) k :=
  ⟨congrArg (fun u : State => Machine.rput u a lo w v) h.1, h.2⟩

@[simp] theorem cellAt_setBstate (s : State) (k v j : Nat) : cellAt (setBstate s k v) j = cellAt s j := rfl

/-- The cell is changed and the block task of its slot enters the state `v` (R111). -/
theorem Flies.entersState {st s : State} {k g : Nat} {rs : List Flown} (h : Flies st s k g rs) (f : Cell → Cell) (v : Nat) :
    OnlyCell (rput st (celBtaskA k) 0 3 v) (setBstate (onCell s k f) k v) k :=
  (h.onlyCell_onCell f).rput _ 0 3 v

/-! ### The operations -/

/-- An operation of block code that fits its instruction runs as block code (R94, R99). -/
theorem cellRun_block {st : State} {k g : Nat} {op : CellOp} (opens : st.open_ k g) (fits : opFits (cellNow st k g) op = true)
    (blockOnly : opBlockOnly op = true) (e : OpEnv) : cellRun st k g op e = cellOp (issuedState st k g op) k true op e := by
  rw [cellRun_issues _ _ _ _ _ ⟨opens, fits⟩, block_of_fits fits blockOnly]
  rfl

/-- A block task that stops at BWAIT: its block PC is the next instruction's address (R118). -/
def waitingCell (c : Cell) : Cell := { (nextPc c).2 with bpc := (nextPc c).1, half := 0 }

/-- The cell after the YEND of the resume half: the block flags are restored as issue goes on at the block PC (R116). -/
def resumedCell (c : Cell) : Cell :=
  Machine.fly { c with half := 0, npc := some c.bpc, dead := 3 } 3 (.st true 0xF7) (c.savedSt.zeroExtend 144)

section
variable {st s : State} {k g : Nat} (h : Flies st s k g []) (e : OpEnv)
include h

theorem bwait_waits (outside : (cellNow st k g).half ≠ 1) :
    let x := cellNow st k g
    let t := cellOp s k true .bwait e
    OnlyCell (rput st (celBtaskA k) 0 3 2) t k ∧ (cellAt t k).bpc = (nextPc x).1 ∧ (cellAt t k).half = 0 ∧ (cellAt t k).flight = x.flight := by
  intro x t
  have run : t = setBstate (onCell s k waitingCell) k 2 := if_pos ⟨rfl, by rw [h.half]; exact outside⟩
  have cell : cellAt t k = waitingCell (cellAt s k) := by rw [run, cellAt_setBstate, cellAt_onCell_same]
  rw [cell, run]
  refine ⟨h.entersState waitingCell 2, h.nextAddress, rfl, ?_⟩
  exact (nextPc_same (·.flight) (fun _ _ _ _ _ _ => rfl) (cellAt s k)).trans (h.flight.trans (List.append_nil _))

theorem bwait_ignored (saves : (cellNow st k g).half = 1) : cellOp s k true .bwait e = s :=
  if_neg fun waits => waits.2 (h.half.trans saves)

theorem yend_yields (saves : (cellNow st k g).half = 1) :
    let t := cellOp s k true .yend e
    OnlyCell (rput st (celBtaskA k) 0 3 3) t k ∧ (cellAt t k).half = 0 ∧ (cellAt t k).flight = (cellNow st k g).flight := by
  intro t
  have run : t = setBstate (onCell s k (fun c => { c with half := 0 })) k 3 := by
    change doYend s k = _
    rw [doYend, h.half, saves]
    rfl
  rw [run, cellAt_setBstate, cellAt_onCell_same]
  exact ⟨h.entersState _ 3, rfl, h.flight.trans (List.append_nil _)⟩

theorem yend_resumes (resumes : (cellNow st k g).half = 2) :
    let x := cellNow st k g
    let t := cellOp s k true .yend e
    OnlyCell (rput st (celBtaskA k) 0 3 1) t k ∧ (cellAt t k).half = 0 ∧ (tickCell 3 (cellAt t k)).pc = x.bpc ∧
      (∀ n, n = 1 ∨ n = 2 → canIssue (onCell t k (tickCell n)) k n = false) ∧
      (cellAt t k).flight = flown x [(3, .st true 0xF7, x.savedSt.zeroExtend 144)] := by
  intro x t
  have run : t = setBstate (onCell s k resumedCell) k 1 := by
    change doYend s k = _
    rw [doYend, h.half, resumes]
    rfl
  have cell : cellAt t k = resumedCell (cellAt s k) := by rw [run, cellAt_setBstate, cellAt_onCell_same]
  have bpc : (cellAt s k).bpc = x.bpc := h.same (·.bpc) fun _ _ _ _ _ _ => rfl
  have saved : (cellAt s k).savedSt = x.savedSt := h.same (·.savedSt) fun _ _ _ _ _ _ => rfl
  obtain ⟨target, dead⟩ := redirected_waits (s := t) (k := k) (dst := x.bpc) (by rw [cell]; rfl) (by rw [cell, ← bpc]; rfl)
  refine ⟨run ▸ h.entersState resumedCell 1, by rw [cell]; rfl, target, dead, ?_⟩
  rw [cell, ← saved]
  simp only [resumedCell, Machine.fly, h.flight, h.clk, flown, List.map_nil, List.append_nil, List.map_cons, x]

theorem yend_ignored (neither : (cellNow st k g).half ≠ 1 ∧ (cellNow st k g).half ≠ 2) : cellOp s k true .yend e = s := by
  change doYend s k = s
  rw [← h.half] at neither
  unfold doYend
  split
  · next saves => exact absurd saves neither.1
  · next resumes => exact absurd resumes neither.2
  · rfl
end

/-- Settles O17: each half of the yield handler in which BWAIT or YEND may issue. -/
theorem cellTaskWaitsAndYields : Obligations.CellTaskWaitsAndYields := by
  intro st c s g opens k x task
  refine ⟨fun fits => ⟨cellRun st k g .bwait {}, rfl, ?bwait⟩, fun fits => ⟨cellRun st k g .yend {}, rfl, ?yend⟩⟩
  case bwait =>
    have h := issuedState_flies st k g .bwait
    rw [cellRun_block opens fits rfl]
    by_cases saves : x.half = 1
    · rw [if_pos saves, bwait_ignored h _ saves]; exact h
    · rw [if_neg saves]; exact bwait_waits h _ saves
  case yend =>
    have h := issuedState_flies st k g .yend
    rw [cellRun_block opens fits rfl]
    split
    · next saves => exact yend_yields h _ saves
    · next resumes => exact yend_resumes h _ resumes
    · next saves resumes => rw [yend_ignored h _ ⟨saves, resumes⟩]; exact h

end Sys2Proof.Machine
end

section
/-! Proofs: the yield lead, the yield overrun and the beginning of the resume half (R112–R117). -/

namespace Sys2Proof.Machine

/-! ### The page of the block task -/

/-- What decides on the page whose program issues: the slot's CEL_SLOT, a crossfade, the lending slot, the pages themselves. -/
theorem pageOf_congr {s t : State} {k : Nat} (slot : rget t (celSlotA k) = rget s (celSlotA k)) (cmt : t.cmt = s.cmt)
    (page : t.mem.page = s.mem.page) (lender : (cellAt t k).lender = (cellAt s k).lender) : pageOf t k = pageOf s k := by
  have unit : logicalOf t k = logicalOf s k := by unfold logicalOf rfld; rw [slot]
  have active : ppage t k = ppage s k := by unfold ppage rfld; rw [slot]
  unfold pageOf curPage xfOld memSlot
  rw [unit, active, cmt, page, lender]

/-- Outside a crossfade the block task's page is the one whose sample program issues (R109, R239). -/
theorem blockPage_of_settled {s : State} {k : Nat} (settled : xfRuns s k = false) : blockPage s k = pageOf s k :=
  (pageOf_active (xfOld_of_not_xfRuns settled)).symm

/-! ### The yield lead -/

@[simp] theorem stBlk_true_blk (c : Cell) : (stBlk c true).st.getLsbD 8 = true := by
  simp only [stBlk, if_true]
  rw [BitVec.getLsbD_append]
  simp

theorem landDue_bpc (c : Cell) : (landDue c).bpc = c.bpc := by
  have kept : ∀ x l, (landOne x l).bpc = x.bpc := landOne_same (·.bpc) fun _ _ _ _ _ _ _ _ _ _ _ _ => rfl
  exact (List.foldl_hom Cell.bpc (g₂ := fun a _ => a) fun x l => (kept x l).symm).symm.trans (List.foldl_fixed _)

theorem passTo_bpc (n : Nat) (c : Cell) : (passTo n c).bpc = c.bpc := by
  unfold passTo
  split
  · exact landDue_bpc _
  · rfl

/-- What is in flight at the yield lead lands by φ − 20 (R113). -/
theorem leadCell_lands (ph : Nat) (c : Cell) : ∀ l ∈ (leadCell ph c).flight, l.due ≤ c.clk + (ph - 20 - c.cyc) := by
  intro l hl
  obtain ⟨x, -, rfl⟩ := List.mem_map.1 hl
  exact Nat.min_le_right _ _

/-- The address at which a task in state `b` goes on behind the yield handler, and its cell with the loops' decision taken: a running task
goes on at its next instruction, a waiting one where it waits (R112, R118). -/
def taskAddress (b : Nat) (c : Cell) : Nat × Cell := if b = 1 then nextPc c else (c.bpc, c)

theorem taskAddress_same {α : Type} (f : Cell → α)
    (hf : ∀ c n lp l b h, f { c with npc := n, lp := lp, loops := l, bloops := b, hloops := h } = f c) (b : Nat) (c : Cell) :
    f (taskAddress b c).2 = f c := by
  unfold taskAddress
  split
  · exact nextPc_same f hf c
  · rfl

/-- The cell of a task in state `b` whose save half is to issue on the page `pg` (R112). -/
def savingCell (pg : PageInfo) (b : Nat) (c : Cell) : Cell :=
  let y := passTo (pg.phase - 25) c
  let q := taskAddress b y
  stBlk (leadCell pg.phase { q.2 with bpc := q.1, half := 1, hloops := [], savedSt := y.bst, redir := y.clk, npc := some pg.vYield }) true

/-- When the save half issues and when the results before it land, from the last cycle of block issue (R112, R113). -/
theorem savingCell_times (pg : PageInfo) (b : Nat) (c : Cell) :
    let y := passTo (pg.phase - 25) c
    (savingCell pg b c).dead = pg.phase + b2n y.atZero - 22 - y.cyc ∧
      ∀ l ∈ (savingCell pg b c).flight, l.due ≤ y.clk + (pg.phase - 20 - y.cyc) := by
  intro y
  have kept := taskAddress_same (fun c => (c.atZero, c.cyc, c.clk)) (fun _ _ _ _ _ _ => rfl) b y
  simp only [Prod.mk.injEq] at kept
  obtain ⟨atZero, cyc, clk⟩ := kept
  rw [← atZero, ← cyc, ← clk]
  exact ⟨rfl, leadCell_lands _ _⟩

theorem savingCell_bpc (pg : PageInfo) (b : Nat) (c : Cell) :
    (savingCell pg b c).bpc = if b = 1 then (nextPc (passTo (pg.phase - 25) c)).1 else c.bpc := by
  change (taskAddress b (passTo (pg.phase - 25) c)).1 = _
  unfold taskAddress
  split
  · rfl
  · exact passTo_bpc _ _

/-- The cell in which neither half of the yield handler issues any more (R115, R117). -/
def handlerStopped (c : Cell) : Cell := { c with half := 0, npc := none, dead := 0, iss := [], void := false }

section
variable {s : State} {k : Nat}

theorem yieldRedirect_saves (settled : xfRuns s k = false) (task : bstate s k = 1 ∨ bstate s k = 2) :
    yieldRedirect s k false = onCell s k (savingCell (pageOf s k) (bstate s k)) := by
  unfold yieldRedirect
  rw [blockPage_of_settled settled]
  exact if_pos task

theorem yieldRedirect_resuming (task : bstate s k = 4) :
    yieldRedirect s k false = setBstate (onCell s k (fun c => handlerStopped (landAll c))) k 3 := by
  unfold yieldRedirect
  simp only [task]
  rfl

theorem yieldRedirect_other (task : bstate s k = 0 ∨ bstate s k = 3 ∨ bstate s k = 5) : yieldRedirect s k false = s := by
  have neither : ¬ (bstate s k = 1 ∨ bstate s k = 2) := by omega
  have unresumed : bstate s k ≠ 4 := by omega
  unfold yieldRedirect
  simp only [neither, unresumed, Bool.false_eq_true, if_false]
end

/-! ### The yield overrun -/

/-- The state in which a yield overrun is reported: the save half stopped, the task faulted, CEL_ERR.YLD set (R115). -/
def overrunState (s : State) (k : Nat) : State := rsetBit (setBstate (onCell s k handlerStopped) k 5) (celErrA k) 19

theorem rget_overrunState (s : State) {k a : Nat} (task : a ≠ celBtaskA k) (err : a ≠ celErrA k) : rget (overrunState s k) a = rget s a :=
  (rget_rsetBit_other _ _ _ _ err).trans (rget_rput_other _ _ _ _ _ _ task)

theorem overrunState_cell (s : State) (k : Nat) : cellAt (overrunState s k) k = handlerStopped (cellAt s k) := cellAt_onCell_same _ _ _

theorem overrunState_onlyCell (s : State) (k : Nat) :
    OnlyCell (rsetBit (rput s (celBtaskA k) 0 3 5) (celErrA k) 19) (overrunState s k) k :=
  ((onlyCell_setCell s k (handlerStopped (cellAt s k))).rput _ 0 3 5).rput _ 19 1 1

section
variable (s : State) (c : Fin 16) (p : Fin 68)

theorem rget_slot_overrunState : rget (overrunState s (slotKey c p)) (celSlotA (slotKey c p)) = rget s (celSlotA (slotKey c p)) :=
  rget_overrunState s (by unfold celSlotA celBtaskA; omega) (by unfold celSlotA celErrA; omega)

theorem logicalOf_overrunState : logicalOf (overrunState s (slotKey c p)) (slotKey c p) = logicalOf s (slotKey c p) := by
  unfold logicalOf rfld
  rw [rget_slot_overrunState]

theorem pageOf_overrunState : pageOf (overrunState s (slotKey c p)) (slotKey c p) = pageOf s (slotKey c p) :=
  pageOf_congr (rget_slot_overrunState s c p) rfl rfl (by rw [overrunState_cell]; rfl)

theorem domOf_overrunState (x : Nat) : domOf (overrunState s (slotKey c p)) x = domOf s x :=
  domOf_congr (congrArg (fun v => fld v (2 * x) 2)
    (rget_overrunState s (by unfold celBtaskA slotKey; omega) (by unfold celErrA slotKey; omega)))

end

/-- A save half that still issues is reported in that state (R115, R427). -/
theorem yieldOverran_reports {s : State} {c : Fin 16} {p : Fin 68} (saves : (cellAt s (slotKey c p)).half = 1) :
    let k := slotKey c p
    yieldOverran s k = fltDetect (overrunState s k)
      { cls := 3, sev := 3, unit := 0x1000 + logicalOf s k, oslot := p.val, btc := tickEndBtc s (domOf s c.val),
        detail := rfld (overrunState s k) (celErrA k) 16 6, cyc := some (baseCycle s (domOf s c.val) ((pageOf s k).phase - 3)) } := by
  intro k
  rw [← logicalOf_overrunState, ← pageOf_overrunState, ← domOf_overrunState s c p, ← slotKey_div c p, ← slotKey_mod c p]
  exact if_neg (not_not_intro saves)

/-- Settles O19: the yield lead by the state of the task, and the overrun in the state in which it is reported. -/
theorem yieldPoints : Obligations.YieldPoints := by
  refine ⟨?redirection, ?overrun⟩
  case redirection =>
    intro st c s k x pg y settled
    have page : pageOf st k = pg := pageOf_active (xfOld_of_not_xfRuns settled)
    refine ⟨yieldRedirect st k false, rfl, fun task => ?saves, fun task => ?resuming, yieldRedirect_other⟩
    case saves =>
      rw [yieldRedirect_saves settled task, page, cellAt_onCell_same]
      obtain ⟨dead, lands⟩ := savingCell_times pg (bstate st k) x
      exact ⟨onlyCell_setCell _ _ _, rfl, rfl, dead, rfl, stBlk_true_blk _, savingCell_bpc _ _ _, lands⟩
    case resuming =>
      rw [yieldRedirect_resuming task, cellAt_setBstate, cellAt_onCell_same]
      exact ⟨(onlyCell_setCell st k _).rput _ 0 3 3, rfl, landAll_flight x⟩
  case overrun =>
    intro st c s saves k info
    refine ⟨yieldOverran st k, overrunState st k, rfl, ?_, overrunState_onlyCell st k, ?_⟩
    · rw [yieldOverran_reports saves]
      exact fltDetect_detects _ _
    · rw [overrunState_cell]
      exact ⟨rfl, rfl⟩

/-! ### The resume half -/

/-- The cell whose resume half is to issue on the page `pg`, in the cycle after `cyc` (R116). -/
def resumingCell (c : Cell) (pg : PageInfo) (cyc : Nat) : Cell :=
  stBlk { landAll c with half := 2, hloops := [], npc := some pg.vResume, dead := 0, iss := [], void := false, frz := 0, cyc := cyc } true

theorem blockResumed_resumes {s : State} {k : Nat} (yielded : bstate s k = 3) (closed : (cellAt s k).sample = false) (settled : xfRuns s k = false)
    (running : slotState s k = 1) (unquenched : (cellAt s k).quench = 0)
    (after : (cellAt s k).done = true → (cellAt s k).slotEnd + 64 < cellC s k)
    (before : (cellAt s k).done = false → (cellAt s k).cyc + 24 < (pageOf s k).phase ∨ (pageOf s k).present = false) :
    ∃ cyc, blockResumed s k = setBstate (setCell s k (resumingCell (cellAt s k) (pageOf s k) cyc)) k 4 := by
  have inTick : ¬ ((cellAt s k).done = true ∧ cellC s k ≤ (cellAt s k).slotEnd + 64) := fun late => absurd (after late.1) (by omega)
  have noLead : ¬ ((!(cellAt s k).done && decide ((pageOf s k).phase ≤ (cellAt s k).cyc + 24)) = true ∧ (pageOf s k).present = true) := by
    rintro ⟨lead, present⟩
    simp only [Bool.and_eq_true, Bool.not_eq_true', decide_eq_true_eq] at lead
    rcases before lead.1 with early | absent
    · omega
    · rw [present] at absent; exact absurd absent (by decide)
  unfold blockResumed
  rw [blockPage_of_settled settled]
  refine ⟨_, if_neg ?_⟩
  rintro (other | opened | ⟨crossing, -⟩ | idle | quenched | late | lead)
  · exact other yielded
  · rw [closed] at opened; exact absurd opened (by decide)
  · rw [xfOld_of_not_xfRuns settled] at crossing; exact absurd crossing (by decide)
  · exact idle running
  · exact quenched unquenched
  · exact inTick late
  · exact noLead lead

/-- Settles O20: none of the conditions under which BLOCK_RESUME waits holds. -/
theorem blockTaskResumes : Obligations.BlockTaskResumes := by
  intro st c s k x pg yielded closed settled running unquenched after before
  have page : pageOf st k = pg := pageOf_active (xfOld_of_not_xfRuns settled)
  rw [← page] at before
  obtain ⟨cyc, resumes⟩ := blockResumed_resumes yielded closed settled running unquenched after before
  refine ⟨blockResumed st k, rfl, ?_⟩
  rw [resumes, page, cellAt_setBstate, cellAt_setCell_same]
  exact ⟨(onlyCell_setCell st k _).rput _ 0 3 4, rfl, rfl, rfl, stBlk_true_blk _, landAll_flight x, rfl⟩

end Sys2Proof.Machine
end

section
/-! Proofs: words that cells and rate bridges put on a cluster's lanes, and sends that are dropped (R122, R124, R126, R136). -/

namespace Sys2Proof.Machine

/-! ### Arrivals -/

/-- The lane with one more word, of good parity, on its way to the arrival registers (R122). -/
def Lane.sending (l : Lane) (arr : Nat) (w : Acc) : Lane := { l with flight := l.flight ++ [⟨arr, w, []⟩] }

/-- Without an attached meter no sample is metered (R385). -/
theorem mtrLane_unmetered {s : State} (unmetered : s.mtr.mtr = []) (c lane : Nat) (w : Word) : mtrLane s c lane w = s := by
  unfold mtrLane mtrSample
  rw [unmetered]
  rfl

/-- A word of good parity on a lane without a meter changes the lane alone (R122). -/
theorem laneArrive_clean {s : State} (unmetered : s.mtr.mtr = []) (c lane arr : Nat) (w : Acc) (ring : Nat) :
    laneArrive s c lane arr w [] ring = setLane s c lane ((laneAt s c lane).sending arr w) :=
  mtrLane_unmetered (s := setLane s c lane ((laneAt s c lane).sending arr w)) unmetered _ _ _

/-! ### Rate bridges -/

theorem bridgeOutput_disabled {s : State} {c k : Nat} (disabled : bitOf (bridgeEntry s c k) 31 = false) (bad : List Nat) :
    bridgeOutput s c k bad = s :=
  if_pos (.inl (by rw [disabled]; rfl))

theorem bridgeOutput_enabled {s : State} {c k : Nat} (enabled : bitOf (bridgeEntry s c k) 31 = true)
    (kind : ldKind (laneDesc s c (fld (bridgeEntry s c k) 16 8)) = 6) (bad : List Nat) :
    bridgeOutput s c k bad = laneArrive s c (fld (bridgeEntry s c k) 16 8) 32 (z72 ((bridgeAt s c k).out.getD (domPos s (domOf s c)) 0)) bad 0 := by
  refine if_neg ?_
  rintro (off | other)
  · rw [enabled] at off; exact absurd off (by decide)
  · exact other kind

/-- Settles O29: an enabled channel's word arrives on its lane, which no meter watches. -/
theorem bridgeDrivesLane : Obligations.BridgeDrivesLane := by
  intro st c k unmetered e lane l w sent
  refine ⟨fun enabled kind => ?_, fun disabled => congrArg _ (bridgeOutput_disabled disabled _)⟩
  exact congrArg _ ((bridgeOutput_enabled enabled kind _).trans (laneArrive_clean unmetered _ _ _ _ _))

/-! ### Sends of cells -/

/-- A change of the exchange, before and behind. -/
theorem Flies.withExchange {st s : State} {k g : Nat} {rs : List Flown} (h : Flies st s k g rs) (x : ExchSt) :
    Flies { st with ex := x } { s with ex := x } k g rs :=
  ⟨congrArg (fun u : State => { u with ex := x }) h.rest, h.others, h.cell, h.flight⟩

/-- While results are put in flight, nothing but the cells changes. -/
theorem Flies.eq_withCells {st s : State} {k g : Nat} {rs : List Flown} (h : Flies st s k g rs) : ∃ cs, s = { st with cells := cs } :=
  ⟨s.cells, (congrArg (fun u : State => { u with cells := s.cells }) h.rest :)⟩

/-- A send by a non-driver sets XCH_ERR.UNSCH, lets the cluster's event source settle, and counts (R126, R305). -/
theorem unscheduled_drops {st s : State} {k g c : Nat} {rs : List Flown} (h : Flies st s k g rs) (hc : c < 16) :
    ∃ u v, Flies u (unscheduled s c) k g rs ∧ Settles (rset st (xchErrA c) (rget st (xchErrA c) ||| 4)) v ∧
      u = rinc v (xchLateA c) 16 16 := by
  have settles := (evClusterFlags_settles (Settles.refl (rsetBit s (xchErrA c) 2)) c hc)
  have before := settles.over (fun s => { s with cells := st.cells }) (fun s => { s with cells := st.cells })
    (fun _ => ⟨rfl, rfl⟩) (fun _ => rfl)
  have flag : ({ rsetBit s (xchErrA c) 2 with cells := st.cells } : State) = rset st (xchErrA c) (rget st (xchErrA c) ||| 4) :=
    (congrArg (fun s : State => rsetBit s (xchErrA c) 2) h.rest).trans (rsetBit_eq_or st _ (by omega))
  rw [flag] at before
  have cells : (unscheduled s c).cells = s.cells := settles.cells
  refine ⟨_, _, ⟨rfl, fun j hj => ?_, ?_, ?_⟩, before, rfl⟩
  · exact (cellAt_congr cells j).trans (h.others j hj)
  · rw [cellAt_congr cells]; exact h.cell
  · rw [cellAt_congr cells]; exact h.flight

/-- The driver's send on a local lane arrives 12 cycles on (R122, R124). -/
theorem laneSend_local {s : State} {c i lane : Nat} (unmetered : s.mtr.mtr = []) (kind : ldKind (laneDesc s c lane) = 1)
    (driver : ldDrv (laneDesc s c lane) = i) (w : Word) (cyc : Nat) (badThere : List Nat) (badPoint : Bool) :
    laneSend s c i lane w cyc [] badThere badPoint = setLane s c lane ((laneAt s c lane).sending (cyc + 12) (w.zeroExtend 144)) := by
  unfold laneSend
  rw [if_pos ⟨.inl kind, driver⟩, if_pos kind]
  exact laneArrive_clean unmetered _ _ _ _ _

theorem laneSend_undriven {s : State} {c i lane : Nat} (other : ldDrv (laneDesc s c lane) ≠ i) (w : Word) (cyc : Nat)
    (badHere badThere : List Nat) (badPoint : Bool) : laneSend s c i lane w cyc badHere badThere badPoint = unscheduled s c :=
  if_neg fun h => other h.2

/-- A store to a lane has no half-word format (R90). -/
theorem storeLegal_lane {fmt src o x : Nat} (legal : storeLegal 2 fmt src o x = true) : (fmt == 1 || fmt == 2) = false := by
  simp only [storeLegal, Bool.and_eq_true, Bool.or_eq_true, beq_iff_eq] at legal
  obtain ⟨⟨⟨⟨-, whole⟩, -⟩, -⟩, -⟩ := legal
  rcases whole with rfl | rfl <;> rfl

/-- A store of sample code to a lane, outside a crossfade (R90, R124). -/
theorem doStore_lane {s : State} {k fmt src : Nat} {dop : BitVec 9} {vs : List Int} {f : Nat} (source : storeSource (cellAt s k) fmt src = some (vs, f))
    (whole : (fmt == 1 || fmt == 2) = false) (settled : xfRuns s k = false) (e : OpEnv) :
    let r := storePath vs f fmt 0 (rndOf (cellAt s k) false) none
    let t := flyStored s k false r false 0 none
    doStore s k false 2 fmt src dop none e =
      laneSend t (k / 68) (logicalOf t k % 64) (nbits dop.toNat 1 8) r.w (cellAt s k).cyc e.badHere e.badThere e.badPoint := by
  intro r t
  have plain : dthDepth ((none : Option (BitVec 20)).getD 0) = none := rfl
  have untracked : nbit ((none : Option (BitVec 20)).getD 0).toNat 9 = false := rfl
  unfold doStore
  simp only [source, whole, plain, untracked, settled]
  simp [flyStored, flyPointer, r, t]

/-- A store to a lane: its results go in flight, then it sends the word (R90, R95, R124). -/
theorem storeRun_lane {st : State} {k g fmt src : Nat} {dop : BitVec 9} {vs : List Int} {f : Nat}
    (issued : st.issues k g (.store 2 fmt src dop none)) (source : storeSource (cellNow st k g) fmt src = some (vs, f))
    (settled : xfRuns st k = false) :
    let r := storePath vs f fmt 0 (rndOf (cellNow st k g) false) none
    ∃ t, Flies st t k g (storeResults false r.sat false r.count none) ∧
      cellRun st k g (.store 2 fmt src dop none) {} =
        laneSend t (k / 68) (logicalOf st k % 64) (nbits dop.toNat 1 8) r.w (cellNow st k g).cyc [] [] false := by
  intro r
  have h := issuedState_flies st k g (.store 2 fmt src dop none)
  have flies := h.flyStored false r false 0 none
  have sample : (cellNow st k g).sample = true := sample_of_fits issued.2 rfl
  have run := cellRun_issues st k g _ {} issued
  rw [sample] at run
  have whole : (fmt == 1 || fmt == 2) = false := storeLegal_lane (o := dop.toNat) (opFields_of_fits issued.2)
  have sent := doStore_lane (dop := dop) ((h.storeSource _ _).trans source) whole (h.xfRuns.trans settled) {}
  refine ⟨_, flies, run.trans ?_⟩
  rw [← flies.logicalOf, ← h.cyc]
  simp only [r, ← h.rndOf]
  exact sent

/-- Settles O15: the driver's word goes on its way behind the results of the store path, another cell's is dropped. -/
theorem cellSendsOnLane : Obligations.CellSendsOnLane := by
  intro st c s g fmt src dop vs f issued k x lane d l plain source settled unmetered r rs sent
  obtain ⟨t, flies, run⟩ := storeRun_lane issued source settled
  obtain ⟨cs, rfl⟩ := flies.eq_withCells
  rw [show k / 68 = c.val from slotKey_div c s] at run
  refine ⟨_, exec_storePathMove_plain plain g 0 2 fmt src, fun kind driver => ?driven, fun other => ?dropped⟩
  all_goals rw [show cellRun st (slotKey c s) g (.store (2 : Fin 4).val fmt.val src.val dop none) { stalls := 0 } = _ from run]
  case driven =>
    rw [laneSend_local (s := { st with cells := cs }) unmetered kind driver]
    exact flies.withExchange _
  case dropped =>
    rw [laneSend_undriven (s := { st with cells := cs }) other]
    exact unscheduled_drops flies c.isLt

end Sys2Proof.Machine
end

section
/-! Proofs: contributions to reduction chains, and the adds of their stops and homes (R126, R132, R133). -/

namespace Sys2Proof.Machine

/-! ### The adds -/

/-- A reduction add whose exact sum fits does not saturate (R132). -/
theorem redAdd_of_fits {a b : Acc} (fits : sfits 144 (a.toInt + b.toInt) = true) : redAdd a b = (a + b, false) := by
  have unclamped : sclamp 144 (a.toInt + b.toInt) = a.toInt + b.toInt := eq_of_beq fits
  have sum : BitVec.ofInt 144 (a.toInt + b.toInt) = a + b := by
    rw [BitVec.ofInt_add, BitVec.ofInt_toInt, BitVec.ofInt_toInt]
  unfold redAdd
  simp only [unclamped, sum, fits, Bool.not_true]

/-- The exchange once a stop has added: its contribution register is cleared, and what it added is kept (R133, R432). -/
def ExchSt.stopAdded (x : ExchSt) (key : Nat) (own : Acc) : ExchSt :=
  { x with lastContrib := mset 0 x.lastContrib key own, contrib := mset 0 x.contrib key 0,
           arrived := mset false x.arrived key false, added := mset false x.added key true }

/-- The counts of XCH_RING once the home of chain `ch` has handled a word of each arm that the chain has (R131, R132). -/
def homeWords (s : State) (ch c : Nat) : SMap Nat :=
  let up := if chUph (chainDesc s ch) = 0 then s.ex.rwords else mmod 0 s.ex.rwords (c * 2) (· + 1)
  if chDnh (chainDesc s ch) = 0 then up else mmod 0 up (c * 2 + 1) (· + 1)

/-- The exchange once the home of chain `ch` has added: no partial is in transit any more (R132). -/
def homeAdded (s : State) (ch c : Nat) : ExchSt :=
  { s.ex with part := mset 0 (mset 0 s.ex.part (ch * 2) 0) (ch * 2 + 1) 0,
              rwords := homeWords s ch c }.stopAdded (ch * 16 + c) (stopAdds s ch c)

theorem homeAdded_reads (s : State) (ch c : Nat) :
    mget 0 (homeAdded s ch c).part (ch * 2) = 0 ∧ mget 0 (homeAdded s ch c).part (ch * 2 + 1) = 0 ∧
      mget 0 (homeAdded s ch c).contrib (ch * 16 + c) = 0 ∧ mget 0 (homeAdded s ch c).lastContrib (ch * 16 + c) = stopAdds s ch c := by
  simp [homeAdded, ExchSt.stopAdded, mget_mset]

theorem countRing_unless (p : Prop) [Decidable p] (s : State) (c dir : Nat) : (if p then s else countRing s c dir) =
    { s with ex := { s.ex with rwords := if p then s.ex.rwords else mmod 0 s.ex.rwords (c * 2 + dir) (· + 1) } } := by
  split <;> rfl

/-- The partial that reaches a stop `h` hops before the home on an arm: none at the arm's first stop (R131, R132). -/
def arrivingPartial (s : State) (ch arm h : Nat) : Acc :=
  if h = (if arm = 0 then chUph (chainDesc s ch) else chDnh (chainDesc s ch)) then 0
  else if arm = 0 then mget 0 s.ex.part (ch * 2) else mget 0 s.ex.part (ch * 2 + 1)

section
variable {s : State} {ch c arm h : Nat} (sameDomain : domOf s (chHome (chainDesc s ch)) = domOf s c)
include sameDomain

/-- A stop before the home adds its contribution to the arm's partial and forwards the sum (R132, R133). -/
theorem chainAdd_forwards (place : chainPlace (chainDesc s ch) c = some (arm, h)) (stop : 0 < h)
    (fits : sfits 144 ((arrivingPartial s ch arm h).toInt + (stopAdds s ch c).toInt) = true) (bad : List Nat) :
    chainAdd s ch c false false bad = { s with ex := { s.ex with
      part := mset 0 s.ex.part (ch * 2 + arm) (arrivingPartial s ch arm h + stopAdds s ch c),
      rwords := mmod 0 s.ex.rwords (c * 2 + arm) (· + 1) }.stopAdded (ch * 16 + c) (stopAdds s ch c) } := by
  have arriving : (if (if arm = 0 then h = chUph (chainDesc s ch) else h = chDnh (chainDesc s ch)) then (0 : Acc)
      else if arm = 0 then mget 0 s.ex.part (ch * 2) else mget 0 s.ex.part (ch * 2 + 1)) = arrivingPartial s ch arm h := by
    unfold arrivingPartial
    by_cases up : arm = 0 <;> simp only [up, if_true, if_false]
  unfold chainAdd
  simp only [place, stop.ne', sameDomain, if_true, if_false, Bool.false_eq_true, ite_self, Bool.false_and]
  rw [arriving, redAdd_of_fits fits]
  rfl

/-- The home adds both arms' partials and its own contribution and delivers the sum 6 cycles after HADD (R132, R133). -/
theorem chainAdd_delivers (place : chainPlace (chainDesc s ch) c = some (arm, 0)) (bad : List Nat) :
    let up := mget 0 s.ex.part (ch * 2)
    let dn := mget 0 s.ex.part (ch * 2 + 1)
    sfits 144 (up.toInt + dn.toInt) = true → sfits 144 ((up + dn).toInt + (stopAdds s ch c).toInt) = true →
    chainAdd s ch c false false bad = forEach (deliveryLanes s c ch) { s with ex := homeAdded s ch c }
      (fun s' lane => laneArrive s' c lane (chHadd (chainDesc s ch) + 6) (up + dn + stopAdds s ch c) bad 1) := by
  intro up dn arms all
  unfold chainAdd
  simp only [place, sameDomain, if_true, Bool.false_eq_true, if_false]
  simp only [up, dn, redAdd_of_fits arms, redAdd_of_fits all, countRing_unless]
  rfl

end

/-- Settles O28: the sum of a stop goes on as the arm's partial, the sum of the home arrives on its delivery lane. -/
theorem chainStopsAdd : Obligations.ChainStopsAdd := by
  intro st ch c arm h d key own x up dn clear place sameDomain
  refine ⟨fun stop => ?stop, fun lane home => ?home⟩
  case stop =>
    intro inp fits
    exact congrArg Host.Outcome.next (chainAdd_forwards sameDomain place stop fits [])
  case home =>
    subst home
    intro arms all one unmetered
    have run := chainAdd_delivers sameDomain place [] arms all
    obtain ⟨noUp, noDn, cleared, kept⟩ := homeAdded_reads st ch.val c.val
    rw [one] at run
    have delivers := laneArrive_clean (s := { st with ex := homeAdded st ch.val c.val }) unmetered c.val lane (chHadd d + 6)
      (up + dn + own) 1
    exact ⟨_, congrArg Host.Outcome.next (run.trans delivers), rfl, noUp, noDn, cleared, kept, mget_mset_same _ _ _ _,
      fun n other => mget_mset_other _ _ _ _ _ other⟩

/-! ### Contributions -/

/-- The chain to which the next word launched on a lane belongs (R133). -/
def nextChain (s : State) (c lane : Nat) : Nat :=
  mget 0 (liveTable s c).chain (ldFirst (laneDesc s c lane) + (laneAt s c lane).sent) % 4096

/-- The exchange once a word launched on a lane stands in the contribution register of the lane's next chain (R133). -/
def contributed (s : State) (c lane : Nat) (w : Acc) : ExchSt :=
  { s.ex with lanes := mset {} s.ex.lanes (c * 256 + lane) { laneAt s c lane with sent := (laneAt s c lane).sent + 1 },
              contrib := mset 0 s.ex.contrib (nextChain s c lane * 16 + c) w,
              arrived := mset false s.ex.arrived (nextChain s c lane * 16 + c) true }

theorem chainLaunch_undriven {s : State} {c i lane : Nat} (other : ¬ (ldKind (laneDesc s c lane) = 4 ∧ ldDrv (laneDesc s c lane) = i))
    (w : Acc) (cyc : Nat) (bad : Bool) : chainLaunch s c i lane w cyc bad = unscheduled s c := if_neg other

/-- The driver's word of good parity that reaches its stop before the add cycle contributes (R132, R133). -/
theorem chainLaunch_contributes {s : State} {c i lane arm h cyc : Nat} (kind : ldKind (laneDesc s c lane) = 4)
    (driver : ldDrv (laneDesc s c lane) = i) (listed : (laneAt s c lane).sent < ldCnt (laneDesc s c lane))
    (place : chainPlace (chainDesc s (nextChain s c lane)) c = some (arm, h))
    (sameDomain : domOf s (chHome (chainDesc s (nextChain s c lane))) = domOf s c)
    (early : cyc + 6 ≤ chHadd (chainDesc s (nextChain s c lane)) - 4 * h)
    (waiting : mget false s.ex.added (nextChain s c lane * 16 + c) = false) (w : Acc) :
    chainLaunch s c i lane w cyc false = { s with ex := contributed s c lane w } := by
  have inTime : ¬ (domOf s (chHome (chainDesc s (nextChain s c lane))) ≠ domOf s c ∨
      cyc + 6 > chHadd (chainDesc s (nextChain s c lane)) - 4 * h ∨ mget false s.ex.added (nextChain s c lane * 16 + c) = true) := by
    rintro (otherDomain | late | added)
    · exact otherDomain sameDomain
    · omega
    · rw [waiting] at added; exact absurd added (by decide)
  unfold chainLaunch
  refine (if_pos ⟨kind, driver⟩).trans ((if_neg (by omega)).trans ?_)
  change (match chainPlace (chainDesc s (nextChain s c lane)) c with | none => _ | some (_, h) => _) = _
  rw [place]
  exact if_neg inTime

/-- XRED of sample code outside a crossfade launches the accumulator (R84, R133). -/
theorem xredRun {st : State} {k g a lane : Nat} (issued : st.issues k g (.xred a lane)) (settled : xfRuns st k = false) :
    ∃ cs, Flies st { st with cells := cs } k g [] ∧ cellRun st k g (.xred a lane) {} =
      chainLaunch { st with cells := cs } (k / 68) (logicalOf st k % 64) lane (mget 0 (cellNow st k g).a a) (cellNow st k g).cyc false := by
  have h := issuedState_flies st k g (.xred a lane)
  have run := cellRun_issues st k g _ {} issued
  rw [sample_of_fits issued.2 rfl] at run
  rw [← h.a, ← h.cyc, ← h.logicalOf]
  refine ⟨(issuedState st k g (.xred a lane)).cells, h, run.trans ?_⟩
  exact if_neg (by rw [h.xfRuns, settled]; decide)

/-- Settles O11: the driver's word contributes in time, another cell's is dropped. -/
theorem cellContributesToChain : Obligations.CellContributesToChain := by
  intro st c s g a lane issued k x i d l ch cd key settled
  obtain ⟨cs, flies, run⟩ := xredRun issued settled
  rw [show k / 68 = c.val from slotKey_div c s] at run
  refine ⟨fun arm h kind driver listed place sameDomain early waiting => ?contributes, fun other => ?dropped⟩
  case contributes =>
    rw [chainLaunch_contributes (s := { st with cells := cs }) kind driver listed place sameDomain early waiting] at run
    exact ⟨_, congrArg Host.Outcome.next run, flies.withExchange _⟩
  case dropped =>
    rw [chainLaunch_undriven (s := { st with cells := cs }) other] at run
    obtain ⟨u, v, flies', settles, counted⟩ := unscheduled_drops flies c.isLt
    exact ⟨u, _, congrArg Host.Outcome.next run, flies', v, settles, counted⟩

end Sys2Proof.Machine
end

section
/-! Proofs: the walk slot of a Wellhead tap (R151, R155–R158, R166, R249). -/

namespace Sys2Proof.Machine

theorem Settles.wel {s t : State} (h : Settles s t) : t.wel = s.wel := (congrArg State.wel h.rest :)

/-- A flag of WEL_ERR is set, and its cluster's event source settles (R305). -/
theorem welErr_settles (s : State) {c : Nat} (hc : c < 16) (bit : Nat) : Settles (rsetBit s (welErrA c) bit) (welErr s c bit) :=
  evClusterFlags_settles (Settles.refl _) c hc

/-! ### Banks taken -/

/-- The cycles in which ports are taken, once one access has taken each of the ports `js` in the cycles `ys` (R249). -/
def busyTaken (busy : SMap (List Nat)) (ys : List Nat) (js : List Nat) : SMap (List Nat) :=
  js.foldl (fun b j => mset [] b j (mget [] b j ++ ys)) busy

theorem forEach_bankTake (js ys : List Nat) (s : State) : forEach js s (fun s j => bankTake s j ys) =
    { s with mem := { s.mem with busy := busyTaken s.mem.busy ys js } } := by
  induction js generalizing s with
  | nil => rfl
  | cons j js ih => exact ih (bankTake s j ys)

/-- Each port that is taken once is held in the cycles `ys` more, every other as before. -/
theorem mget_busyTaken {js : List Nat} (once : js.Nodup) (busy : SMap (List Nat)) (ys : List Nat) (k : Nat) :
    mget [] (busyTaken busy ys js) k = mget [] busy k ++ (if k ∈ js then ys else []) := by
  induction js generalizing busy with
  | nil => simp [busyTaken]
  | cons j js ih =>
    obtain ⟨fresh, rest⟩ := List.nodup_cons.1 once
    refine (ih rest _).trans ?_
    rw [mget_mset]
    by_cases same : k = j
    · subst same; simp [fresh]
    · simp [same]

theorem nodup_eraseDups {α : Type} [BEq α] [LawfulBEq α] (l : List α) : l.eraseDups.Nodup := by
  match l with
  | [] => exact List.nodup_nil
  | a :: as =>
    rw [List.eraseDups_cons, List.nodup_cons, List.mem_eraseDups]
    exact ⟨by simp, nodup_eraseDups _⟩
termination_by l.length
decreasing_by exact Nat.lt_succ_of_le (List.length_filter_le _ _)

/-! ### The window -/

/-- The indexes of the window x[m+1], x[m], x[m−1], x[m−2] at delay `D` (R156). -/
def tapIndexes (tick D : Int) : List Int := [tick - D + 1, tick - D, tick - D - 1, tick - D - 2]

/-- Those of them whose words R151 lets a tap read. -/
def tapWindow (tick D : Int) : List Int := (tapIndexes tick D).filter (fun i => decide (i < tick))

/-- The places in the window of the words that R151 lets a tap read. -/
def tapReads (tick D : Int) : List Nat := (List.range 4).filter (fun j => decide ((tapIndexes tick D).getD j 0 < tick))

theorem map_tapReads (tick D : Int) : (tapReads tick D).map (fun j => (tapIndexes tick D).getD j 0) = tapWindow tick D :=
  (List.filter_map (f := fun j => (tapIndexes tick D).getD j 0) (p := fun i => decide (i < tick)) (l := List.range 4)).symm

/-- The window's samples where neither check bits nor a collision stand against them: a word that is not read counts as 0 (R151). -/
theorem foldl_tapWord_clean (js reads : List Nat) (idx : List Int) (c k : Nat) (d : W32) (tick : Int) (q : List Int × State) :
    js.foldl (fun (r : List Int × State) j =>
      if true && reads.contains j then
        let x := tapWord r.2 c k d tick (idx.getD j 0) (([] : List Ecc).getD j .ok) (([] : List Bool).getD j false)
        (r.1 ++ [x.1], x.2)
      else (r.1 ++ [0], r.2)) q =
    (q.1 ++ js.map (fun j => if j ∈ reads then (lineSample q.2 c k d tick (idx.getD j 0)).toInt else 0), q.2) := by
  induction js generalizing q with
  | nil => simp
  | cons j js ih =>
    rw [List.foldl_cons, ih]
    by_cases read : j ∈ reads <;> simp [read, tapWord]

/-! ### Read and add -/

/-- A sum lane's accumulator is written (R155). -/
def setSum (s : State) (key : Nat) (a : BitVec 80) : State := { s with wel := { s.wel with acc := mset 0 s.wel.acc key a } }

theorem setSum_of_wel {s : State} {w : WelSt} (same : s.wel = w) (key : Nat) (a : BitVec 80) :
    setSum s key a = { s with wel := { w with acc := mset 0 w.acc key a } } := by
  subst same; rfl

/-- A tap without interpolation, on time and with its delay in the line, whose window the Wellhead owns. -/
theorem tapRender_plain {s : State} {c slot delay : Nat} {t : TapEntry} (early : slot ≤ wccOf s c) (plain : teInterp t = 0)
    (lower : 1 ≤ delay / 2 ^ 40) (upper : delay / 2 ^ 40 ≤ 2 ^ lnK (lineOf s c (teLine t)) - 3) (gain : Dyadic) :
    let d := lineOf s c (teLine t)
    let tick : Int := (domTick s (domOf s c) : Nat)
    let D : Nat := delay / 2 ^ 40
    let cis := fun (i : Int) => clusterCis c (lineWordA d i)
    let u := { s with mem := { s.mem with busy := busyTaken s.mem.busy [slot] ((tapWindow tick D).map cis).eraseDups } }
    let sum := (mget 0 s.wel.acc (c * 1024 + teLane t)).toInt + (lineSample s c (teLine t) d tick (tick - D)).toInt * dyToC36 gain
    (∀ i ∈ tapWindow tick D, cisOwner s (cis i) = 1) →
    tapRender s c slot t delay gain [] [] =
      setSum (if sfits 80 sum then u else welErr u c 2) (c * 1024 + teLane t) (BitVec.ofInt 80 (sclamp 80 sum)) := by
  intro d tick D cis u sum owned
  unfold tapRender
  extract_lets -merge d' tick' lateN dmin dmax di clamped D' f s₁ m idx reads word s₂ own s₃ s₄ q s₅ value p key r s₆
  have onTime : lateN = 0 := if_pos early
  have least : dmin = 1 := by simp [dmin, plain, onTime]
  have inLine : ¬ (D < dmin ∨ D > dmax) := by rw [least]; exact fun out => out.elim (Nat.not_lt.2 lower) (Nat.not_lt.2 upper)
  have delayed : D' = D := (if_neg (mt Or.inl inLine)).trans (if_neg (mt Or.inr inLine))
  have unclamped : s₁ = s := if_neg inLine
  have middle : m = tick - D := by
    change tick + (lateN : Int) - (D' : Int) = tick - D
    rw [onTime, delayed]; omega
  have indexes : idx = tapIndexes tick D := by simp only [idx, middle]; rfl
  have places : reads = tapReads tick D := by simp only [reads, indexes]; rfl
  have cisterns : reads.map (fun j => clusterCis c (word j)) = (tapWindow tick D).map cis := by
    rw [← map_tapReads, List.map_map, places]; simp only [word, indexes]; rfl
  have taken : s₂ = u := by simp only [s₂, cisterns, unclamped, forEach_bankTake]; rfl
  have owns : own = true := by
    have all : ∀ k ∈ reads.map (fun j => clusterCis c (word j)), cisOwner s₂ k = 1 := by
      rw [cisterns, taken]; exact List.forall_mem_map.2 owned
    simpa [own] using all
  have admitted : s₃ = u := (if_pos owns).trans taken
  have checked : s₄ = u := by simp only [s₄, owns, admitted]; exact forEach_unchanged _ _
  have sampled : q = ((List.range 4).map (fun j => if j ∈ reads then (lineSample u c (teLine t) d tick (idx.getD j 0)).toInt else 0), u) := by
    simp only [q, owns, checked]; exact foldl_tapWord_clean _ _ _ _ _ _ _ _
  have center : 1 ∈ reads := by simp [places, tapReads, tapIndexes]; omega
  have weighed : p = (lineSample s c (teLine t) d tick (tick - D)).toInt * dyToC36 gain := by
    have read : q.1.getD 1 0 = (lineSample s c (teLine t) d tick m).toInt := by rw [sampled]; exact if_pos center
    rw [middle] at read
    rw [← read]
    simp only [p, value, plain]
    rfl
  have added : r = (BitVec.ofInt 80 (sclamp 80 sum), !sfits 80 sum) := by simp only [r, s₅, sampled, weighed, key]; rfl
  have flagged : s₆ = if sfits 80 sum then u else welErr u c 2 := by
    simp only [s₆, added, s₅, sampled]
    cases sfits 80 sum <;> rfl
  exact congrArg₂ (fun w a => setSum w key a) flagged (congrArg Prod.fst added)

/-! ### The walk slot -/

/-- The running state of entry `e` as its primary head issues (R158). -/
def tapRunning (s : State) (c e : Nat) : TapRun := tapAdvance (mget {} s.wel.run (c * 32768 + e)) (entOf s c e)

/-- The running states of the taps, once entry `e` has issued (R158). -/
def tapIssued (s : State) (c e : Nat) : State :=
  { s with wel := { s.wel with run := mset {} s.wel.run (c * 32768 + e) (tapRunning s c e) } }

/-- The primary head of an enabled tap outside a crossfade renders at the running delay with the running gain. -/
theorem welTap_primary {s u : State} {c e : Nat} (live : welLive s c = true) (ticks : domOf s c ≠ 0) (enabled : teEn (entOf s c e) = true)
    (settled : (tapRunning s c e).xf = false) {win : List Ecc} {coll : List Bool}
    (renders : tapRender (tapIssued s c e) c (entSlot s.wel.ent c e) (entOf s c e) (tapRunning s c e).delay (tapRunning s c e).gain win coll = u)
    (unasked : mget false u.wel.cap c = false) : welTap s c e false .ok win coll = u := by
  have walks : ¬ ((!welLive s c) = true ∨ domOf s c = 0 ∨ (!teEn (entOf s c e)) = true ∨ (false = true ∧ teDgm (entOf s c e) ≠ 2)) := by
    simp [live, ticks, enabled]
  unfold welTap
  extract_lets -merge t m slot s₁ key r₀ r w s₂ g s₃
  have clean : s₁ = s := if_neg (by decide)
  have running : r = tapRunning s c e := by simp only [r, r₀, clean]; rfl
  have issued : s₂ = tapIssued s c e := by simp only [s₂, w, running, clean]; rfl
  have whole : g = (tapRunning s c e).gain := by simp only [g, running, settled]; rfl
  have rendered : s₃ = u := by simp only [s₃, issued, running, whole]; exact renders
  rw [if_neg walks, if_neg (by decide), if_neg (by decide), rendered, unasked]
  rfl

/-- Settles O30: the primary head renders in the state in which its entry has issued; a sum that does not fit sets WEL_ERR.SAT besides. -/
theorem tapAddsToSumLane : Obligations.TapAddsToSumLane := by
  intro st c e tap r d tick D lane sum w live ticks enabled plain settled early lower upper window cis owned unasked
  have rendered := tapRender_plain (s := tapIssued st c.val e.val) early plain lower upper r.gain owned
  have walked {u : State} := welTap_primary (u := u) (win := []) (coll := []) live ticks enabled settled
  let b := busyTaken st.mem.busy [entSlot st.wel.ent c.val e.val] (window.map cis).eraseDups
  refine ⟨b, fun k => ?busy, fun fits => ?fits, fun exceeds => ?clamps⟩
  case busy => exact (mget_busyTaken (nodup_eraseDups _) _ _ k).trans (by simp only [List.mem_eraseDups])
  case fits => exact congrArg Host.Outcome.next (walked (rendered.trans (congrArg (setSum · _ _) (if_pos fits))) unasked)
  case clamps =>
    have clamps : ¬ sfits 80 sum = true := by rw [exceeds]; exact Bool.false_ne_true
    let x := { tapIssued st c.val e.val with mem := { st.mem with busy := b } }
    have settles : Settles (rsetBit x (welErrA c.val) 2) (welErr x c.val 2) := welErr_settles x c.isLt 2
    have flagged := settles.over (fun s => { s with wel := st.wel }) (fun s => { s with wel := st.wel }) (fun _ => ⟨rfl, rfl⟩) (fun _ => rfl)
    rw [rsetBit_eq_or x _ (by decide)] at flagged
    have render := rendered.trans (congrArg (setSum · _ _) (if_neg clamps))
    have summed := setSum_of_wel settles.wel lane (BitVec.ofInt 80 (sclamp 80 sum))
    exact ⟨_, flagged, congrArg Host.Outcome.next (walked (render.trans summed) unasked)⟩

end Sys2Proof.Machine
end

section
/-! Proofs: the close of the sum lanes, Wellhead lanes and write slots (R124, R148, R153, R155, R166, R249). -/

namespace Sys2Proof.Machine

/-! ### Tables taken apart by index -/

section
variable {α : Type} (z : α)

theorem mget_cons (j k : Nat) (v : α) (m : SMap α) : mget z ((j, v) :: m) k = if j = k then v else mget z m k := rfl

theorem mget_filter_index (p : Nat → Bool) (m : SMap α) (k : Nat) :
    mget z (m.filter (fun e => p e.1)) k = if p k then mget z m k else z := by
  induction m with
  | nil => exact (ite_self z).symm
  | cons e m ih =>
    obtain ⟨j, v⟩ := e
    rw [List.filter_cons, mget_cons]
    by_cases kept : p j <;> by_cases here : j = k
    · subst here; simp [kept, mget_cons]
    · simp [kept, mget_cons, here, ih]
    · subst here; simp [kept, ih]
    · simp [kept, here, ih]

variable [DecidableEq α] {z}

/-- A canonical table lists nothing below its least index. -/
theorem mget_below {m : SMap α} {lo k : Nat} (wf : mwfFrom (fun _ => z) lo m = true) (below : k < lo) : mget z m k = z := by
  induction m generalizing lo with
  | nil => rfl
  | cons e m ih =>
    obtain ⟨j, v⟩ := e
    simp only [mwfFrom, Bool.and_eq_true, decide_eq_true_eq] at wf
    obtain ⟨⟨from_, -⟩, rest⟩ := wf
    rw [mget_cons, if_neg (by omega), ih rest (by omega)]

/-- Writing every entry of a canonical table over another: what it lists is read from it. -/
theorem mget_foldl_mset {es : SMap α} {lo : Nat} (wf : mwfFrom (fun _ => z) lo es = true) (m : SMap α) (k : Nat) :
    mget z (es.foldl (fun m e => mset z m e.1 e.2) m) k = if mget z es k = z then mget z m k else mget z es k := by
  induction es generalizing lo m with
  | nil => exact (if_pos rfl).symm
  | cons e es ih =>
    obtain ⟨j, v⟩ := e
    simp only [mwfFrom, Bool.and_eq_true, decide_eq_true_eq] at wf
    obtain ⟨⟨-, listed⟩, rest⟩ := wf
    rw [List.foldl_cons, ih rest, mget_mset, mget_cons]
    by_cases here : j = k
    · subst here; simp [mget_below rest (Nat.lt_succ_self j), listed]
    · simp [here, Ne.symm here]

end

/-! ### The close -/

/-- The Wellheads once cluster `c` has closed its sum lanes (R155). -/
def WelSt.closing (w : WelSt) (c : Nat) : WelSt :=
  { w with close := (w.acc.filter (fun e => e.1 / 1024 == c)).foldl (fun m e => mset 0 m e.1 e.2) (w.close.filter (fun e => e.1 / 1024 != c)),
           acc := w.acc.filter (fun e => e.1 / 1024 != c), closed := mset false w.closed c true }

theorem welClose_unmetered {s : State} {c : Nat} (live : welLive s c = true) (ticks : domOf s c ≠ 0) (unmetered : s.mtr.mtr = []) :
    welClose s c = { s with wel := s.wel.closing c } := by
  have runs : ¬ ((!welLive s c) = true ∨ domOf s c = 0) := by simp [live, ticks]
  unfold welClose
  refine (if_neg runs).trans ?_
  extract_lets -merge accs keep w s₁ lanes
  have none : lanes = [] := by simp only [lanes, s₁, unmetered]; rfl
  rw [none]
  rfl

/-- The accumulators of the cluster itself start again, the others stand. -/
theorem mget_closing_acc (w : WelSt) (c n : Nat) : mget 0 (w.closing c).acc n = if n / 1024 = c then 0 else mget 0 w.acc n := by
  refine (mget_filter_index 0 (fun k => k / 1024 != c) w.acc n).trans ?_
  by_cases own : n / 1024 = c <;> simp [own]

theorem mget_closing_close {w : WelSt} (wf : mwf 0 w.acc = true) {c n : Nat} (own : n / 1024 = c) :
    mget 0 (w.closing c).close n = mget 0 w.acc n := by
  have sums := mget_filter_index 0 (fun k => k / 1024 == c) w.acc n
  have old := mget_filter_index 0 (fun k => k / 1024 != c) w.close n
  simp only [own, bne_self_eq_false, beq_self_eq_true, if_true, Bool.false_eq_true, if_false] at sums old
  refine (mget_foldl_mset (mwfFrom_filter _ _ _ 0 wf) _ n).trans ?_
  rw [sums, old]
  split <;> simp_all

/-! ### Wellhead lanes -/

theorem closeS72_of_fits {v : BitVec 80} (fits : sfits 72 v.toInt = true) : closeS72 v = (BitVec.ofInt 72 v.toInt, false) := by
  have unclamped : sclamp 72 v.toInt = v.toInt := eq_of_beq fits
  unfold closeS72
  rw [unclamped, fits]
  rfl

/-- A word of good parity that needs no clamp goes out on an unmetered Wellhead lane (R124, R155). -/
theorem welDrive_clean {s : State} {c lane : Nat} (unmetered : s.mtr.mtr = []) (kind : ldKind (laneDesc s c lane) = 7)
    (left : mget 0 s.wel.drive (c * 256 + lane) < ldCnt (laneDesc s c lane)) :
    let n := mget 0 s.wel.drive (c * 256 + lane)
    let v := mget 0 s.wel.close (c * 1024 + (ldFirst (laneDesc s c lane) + n) % 1024)
    sfits 72 v.toInt = true → welDrive s c lane [] = setLane { s with wel := { s.wel with drive := mset 0 s.wel.drive (c * 256 + lane) (n + 1) } } c lane
      ((laneAt s c lane).sending (ldCyc (laneDesc s c lane) + n + 8) (z72 (BitVec.ofInt 72 v.toInt))) := by
  intro n v fits
  unfold welDrive
  refine (if_neg (by rintro (other | done); exacts [other kind, by omega])).trans ?_
  rw [closeS72_of_fits fits]
  exact laneArrive_clean (s := { s with wel := { s.wel with drive := mset 0 s.wel.drive (c * 256 + lane) (n + 1) } }) unmetered _ _ _ _ _

/-! ### Write slots -/

/-- The state once a line's captured inlet sample stands in its half of the word at `addr` (R148). -/
def inletWritten (s : State) (addr key : Nat) (d : W32) : State :=
  { s with
    mem := { s.mem with cist := mset 0 s.mem.cist addr (if lnHalf d then Word.pack (cisWord s addr).hi (mget 0 s.wel.inlet key)
      else Word.pack (mget 0 s.wel.inlet key) (cisWord s addr).lo) },
    wel := { s.wel with inletWait := mset false s.wel.inletWait key false } }

theorem inletWritten_rest (s : State) (j : Nat) (ys : List Nat) (addr key : Nat) (d : W32) :
    let t := inletWritten (bankTake s j ys) addr key d
    { t with mem := { t.mem with cist := s.mem.cist, busy := s.mem.busy }, wel := { t.wel with inletWait := s.wel.inletWait } } = s := by
  rfl

/-- A write slot of a line that has its region alone, of a cistern that the Wellhead owns. -/
theorem welWriteSlot_alone {s : State} {c line : Nat} (live : welLive s c = true) (ticks : domOf s c ≠ 0) :
    let d := lineOf s c line
    let a := lineWordA d ((domTick s (domOf s c) : Int) - 1)
    let key := c * 1024 + line
    lnEn d = true → lnWrt d = false → cisOwner s (clusterCis c a) = 1 → mget false s.wel.inletWait key = true →
    (s.wel.line.filterMap (fun x => if x.1 / 1024 = c ∧ lnEn x.2 ∧ lnWrt x.2 = false ∧ lnBase x.2 = lnBase d ∧ lnK x.2 = lnK d
      then some (x.1, x.2) else none)) = [(key, d)] →
    welWriteSlot s c line .ok =
      inletWritten (bankTake s (clusterCis c a) [writeSlot s c line, writeSlot s c line + 1]) (clusterAddr c a) key d := by
  intro d a key enabled inlet owned waits alone
  have runs : ¬ ((!welLive s c) = true ∨ domOf s c = 0 ∨ (!lnEn d) = true ∨ lnWrt d = true) := by simp [live, ticks, enabled, inlet]
  unfold welWriteSlot
  refine (if_neg runs).trans ((if_neg (not_not.2 owned)).trans ((if_neg (by decide)).trans ?_))
  rw [alone]
  exact if_pos waits

/-- Settles O31: the close moves the cluster's own sums, a drive sends a close register, a write slot writes one line's sample. -/
theorem wellheadClosesDrivesWrites : Obligations.WellheadClosesDrivesWrites := by
  intro st c live ticks unmetered
  refine ⟨fun wf => ?closes, fun lane kind left fits => ?drives, fun line alone enabled inlet owned waits => ?writes⟩
  case closes =>
    exact ⟨_, congrArg Host.Outcome.next (welClose_unmetered live ticks unmetered), rfl, mget_mset_same false st.wel.closed c.val true,
      fun n => ⟨fun own => ⟨mget_closing_close wf own, (mget_closing_acc _ _ _).trans (if_pos own)⟩,
        fun other => (mget_closing_acc _ _ _).trans (if_neg other)⟩⟩
  case drives => exact congrArg Host.Outcome.next (welDrive_clean unmetered kind left fits)
  case writes =>
    exact ⟨_, congrArg Host.Outcome.next (welWriteSlot_alone live ticks enabled inlet owned waits alone), mget_mset_same _ _ _ _,
      inletWritten_rest _ _ _ _ _ _, mget_mset_same false st.wel.inletWait _ false, fun y => mget_mset 0 st.mem.cist _ y _⟩

end Sys2Proof.Machine
end

section
/-! Proofs: the Wellhead's tables through their shadows, and its load engine (R164, R169, R170). -/

namespace Sys2Proof.Machine

/-! ### Shadows -/

theorem entShadow_congr {s t : State} (same : t.wel = s.wel) (c n : Nat) : entShadow t c n = entShadow s c n := by
  unfold entShadow entOf; rw [same]

theorem entShadow_entPut (s : State) (c e : Nat) (t : TapEntry) (n : Nat) :
    entShadow (entPut s c e t) c n = if n = e then t else entShadow s c n := by
  have index : c * 32768 + n = c * 32768 + e ↔ n = e := Nat.add_left_cancel_iff
  simp only [entShadow, entPut, mget_mset, index]
  split <;> rfl

theorem lineShadow_linePut (s : State) (c k : Nat) (v : W32) (n : Nat) :
    lineShadow (linePut s c k v) c n = if n = k then v &&& 0xFFFF7FFF else lineShadow s c n := by
  have index : c * 1024 + n = c * 1024 + k ↔ n = k := Nat.add_left_cancel_iff
  simp only [lineShadow, linePut, mget_mset, index]
  split <;> rfl

/-- No register decides on the admission of a write to a pending copy (R221, R228). -/
theorem memberRefused_rset (s : State) (a : Nat) (v : W32) (m : Nat) (lock : LoadRun → Bool) :
    memberRefused (rset s a v) m lock = (memberRefused s m lock).map (rset · a v) := by
  have claimed : sealedBy (rset s a v) m = sealedBy s m := rfl
  unfold memberRefused
  rw [claimed, load_rset]
  cases sealedBy s m with
  | some g => rfl
  | none =>
    cases s.load.run with
    | none => rfl
    | some r =>
      dsimp only
      cases lock r <;> rfl

/-! ### D0–D4 -/

theorem entFromData_congr {s t : State} {c : Nat} (same : ∀ k, rget t (welEntA c + 4 + 4 * k) = rget s (welEntA c + 4 + 4 * k)) :
    entFromData t c = entFromData s c := by
  simp only [entFromData, same]

theorem forN_rset_wel (s : State) (n a : Nat) (f : Nat → W32) : (forN n s (fun s k => rset s (a + 4 * k) (f k))).wel = s.wel :=
  forN_induction (P := fun t _ => t.wel = s.wel) _ n rfl fun _ _ _ h => h

/-- Registers written in ascending order each hold their value. -/
theorem rget_forN_rset (s : State) (n a : Nat) (f : Nat → W32) :
    ∀ k, k < n → rget (forN n s (fun s k => rset s (a + 4 * k) (f k))) (a + 4 * k) = f k := by
  refine forN_induction (P := fun t n => ∀ k, k < n → rget t (a + 4 * k) = f k) _ n (by omega) fun t i _ h k hk => ?_
  rw [rget_rset]
  split
  · rw [show k = i by omega]
  · exact h k (by omega)

/-- A word put together again from its top byte and its two lower registers. -/
theorem append_topByte (w : Word) : (w.extractLsb' 64 8 ++ w.extractLsb' 32 32) ++ w.extractLsb' 0 32 = w := by
  rw [BitVec.extractLsb'_append_extractLsb'_eq_extractLsb' (by omega), BitVec.extractLsb'_append_extractLsb'_eq_extractLsb' (by omega)]
  exact BitVec.extractLsb'_eq_self

/-- D4 holds the top bytes of both words. -/
theorem topBytes_extract (u w : Word) :
    let d4 := BitVec.ofNat 32 (nbits u.toNat 64 8 + nbits w.toNat 64 8 * 256)
    d4.extractLsb' 0 8 = u.extractLsb' 64 8 ∧ d4.extractLsb' 8 8 = w.extractLsb' 64 8 := by
  intro d4
  have byte (x : Word) : nbits x.toNat 64 8 < 256 := Nat.mod_lt _ (by decide)
  have top (x : Word) : (x.extractLsb' 64 8).toNat = nbits x.toNat 64 8 := by
    rw [BitVec.extractLsb'_toNat, Nat.shiftRight_eq_div_pow, nbits]
  have both : d4.toNat = nbits u.toNat 64 8 + nbits w.toNat 64 8 * 256 :=
    Nat.mod_eq_of_lt (by have := byte u; have := byte w; omega)
  constructor <;> refine BitVec.eq_of_toNat_eq ?_ <;> rw [top, BitVec.extractLsb'_toNat, both, Nat.shiftRight_eq_div_pow]
  · have := byte u; omega
  · have := byte u; have := byte w; omega

/-- What D0–D4 of an entry spell is the entry (R170). -/
theorem entFromData_of_entData {s : State} {c : Nat} {t : TapEntry} (data : ∀ k, k < 5 → rget s (welEntA c + 4 + 4 * k) = (entData t).getD k 0) :
    entFromData s c = t := by
  obtain ⟨top0, top1⟩ := topBytes_extract t.w0 t.w1
  have w0 := append_topByte t.w0
  have w1 := append_topByte t.w1
  simp only [entFromData, data _ (by decide : 0 < 5), data _ (by decide : 1 < 5), data _ (by decide : 2 < 5), data _ (by decide : 3 < 5),
    data _ (by decide : 4 < 5)]
  rw [← top0] at w0
  rw [← top1] at w1
  exact congrArg₂ TapEntry.mk w0 w1

/-! ### The commands -/

/-- WEL_ENT_IDX.WR of an admitted entry (R164, R170). -/
theorem welEntIdx_writes {s : State} {c e : Nat} (admitted : memberRefused s (memWel c) (lockEnt (c * 32768 + e)) = none) :
    welEntIdx s c e true false = entPut (rput s (welEntA c) 0 15 e) c e (entFromData s c) := by
  have still : memberRefused (rput s (welEntA c) 0 15 e) (memWel c) (lockEnt (c * 32768 + e)) = none := by
    rw [rput, memberRefused_rset, admitted]; rfl
  have data : entFromData (rput s (welEntA c) 0 15 e) c = entFromData s c :=
    entFromData_congr fun k => rget_rput_other _ _ _ _ _ _ (by omega)
  unfold welEntIdx
  simp only [still, data, if_true, Bool.false_eq_true, if_false]

/-- WEL_ENT_IDX.RD (R170). -/
theorem welEntIdx_reads (s : State) (c e : Nat) : welEntIdx s c e false true =
    forN 5 (rput s (welEntA c) 0 15 e) (fun t k => rset t (welEntA c + 4 + 4 * k) ((entData (entShadow s c e)).getD k 0)) := rfl

theorem welLineWrite_admitted {s : State} {c k : Nat} (admitted : memberRefused s (memWel c) (lockLine (c * 1024 + k)) = none) (v : W32) :
    welLineWrite s c k v = linePut s c k v := by
  unfold welLineWrite; rw [admitted]

/-! ### The load engine -/

/-- The entries that GO names (R170): COUNT 0 is 32,768. -/
def ldCount (s : State) (c : Nat) : Nat := if rfld s (welLdA c + 4) 16 16 = 0 then 32768 else rfld s (welLdA c + 4) 16 16

section
variable {s : State} {c : Nat} (idle : rbit s (welLdA c + 8) 30 = false)
include idle

theorem welLdGo_starts (inTable : rfld s (welLdA c + 4) 0 15 + ldCount s c ≤ 32768) :
    welLdGo s c = rput (rsetBit { s with wel := { s.wel with
      ld := mset (0, 0, 0) s.wel.ld c (rfld s (welLdA c) 0 23, rfld s (welLdA c + 4) 0 15, ldCount s c) } } (welLdA c + 8) 30) (welLdA c + 8) 28 2 0 := by
  have whole : min (ldCount s c) 32768 = ldCount s c := by omega
  have listed : ¬ (rfld s (welLdA c + 4) 0 15 + min (ldCount s c) 32768 > 32768 ∨ rfld s (welLdA c + 4) 16 16 > 32768) := by
    unfold ldCount at *; split_ifs at * <;> omega
  unfold welLdGo
  refine (if_neg (by rw [idle]; exact Bool.false_ne_true)).trans ((if_neg listed).trans ?_)
  rw [← whole]
  rfl

theorem welLdGo_refuses (beyond : 32768 < rfld s (welLdA c + 4) 0 15 + ldCount s c) :
    welLdGo s c = evRaise (rput s (welLdA c + 8) 28 2 2) (82 + c) := by
  have past : rfld s (welLdA c + 4) 0 15 + min (ldCount s c) 32768 > 32768 ∨ rfld s (welLdA c + 4) 16 16 > 32768 := by
    unfold ldCount at *; split_ifs at * <;> omega
  unfold welLdGo
  exact (if_neg (by rw [idle]; exact Bool.false_ne_true)).trans (if_pos past)

end

/-- The load engine may read the cistern: it is powered, and its owner is CTL, HST or PMP (R170). -/
def ldReads (s : State) (j : Nat) : Prop := cisDown s j = false ∧ 4 ≤ cisOwner s j ∧ cisOwner s j ≤ 6

/-- The copy of one admitted entry from words that the engine may read. -/
theorem welLoadLoop_one {s : State} {c src first : Nat} (admitted : memberRefused s (memWel c) (lockEnt (c * 32768 + first)) = none)
    (inFabric : src + 1 < 0x800000) (reads0 : ldReads s (src / 65536)) (reads1 : ldReads s ((src + 1) / 65536)) :
    welLoadLoop 1 s c src first 0 none = (entPut s c first ⟨cisWord s src, cisWord s (src + 1)⟩, 0) := by
  obtain ⟨up0, lower0, upper0⟩ := reads0
  obtain ⟨up1, lower1, upper1⟩ := reads1
  have k0 : src / 65536 % 128 = src / 65536 := by omega
  have k1 : (src + 1) / 65536 % 128 = (src + 1) / 65536 := by omega
  have inside : ¬ src + 1 ≥ 0x800000 := by omega
  simp [welLoadLoop, k0, k1, inside, up0, up1, lower0, upper0, lower1, upper1, admitted]

theorem Settles.rbit {s t : State} (h : Settles s t) {x : Nat} (other : ¬ evReg x) (i : Nat) : rbit t x i = rbit s x i := by
  unfold Machine.rbit; rw [h.regs x other]

theorem Settles.rfld {s t : State} (h : Settles s t) {x : Nat} (other : ¬ evReg x) (lo w : Nat) : rfld t x lo w = rfld s x lo w := by
  unfold Machine.rfld; rw [h.regs x other]

/-- The end of a copy: BUSY clears, STATUS is its code, and the tables are as the copy left them. -/
theorem welLoadDone_ends {s t : State} {c src first n status : Nat} (hc : c < 16) (busy : rbit s (welLdA c + 8) 30 = true)
    (go : mget (0, 0, 0) s.wel.ld c = (src, first, n)) (copied : welLoadLoop n s c src first 0 none = (t, status)) :
    rbit (welLoadDone s c none) (welLdA c + 8) 30 = false ∧ rfld (welLoadDone s c none) (welLdA c + 8) 28 2 = status % 2 ^ 2 ∧
      (welLoadDone s c none).wel = t.wel := by
  have run : welLoadDone s c none = evRaise (rput (rputBit t (welLdA c + 8) 30 false) (welLdA c + 8) 28 2 status) (82 + c) := by
    unfold welLoadDone
    refine (if_neg (by rw [busy]; decide)).trans ?_
    simp only [go, copied]
  have own : ¬ evReg (welLdA c + 8) := by unfold evReg welLdA; omega
  have settles := evRaise_settles (Settles.refl (rput (rputBit t (welLdA c + 8) 30 false) (welLdA c + 8) 28 2 status)) (82 + c) (by omega)
  rw [← run] at settles
  refine ⟨?_, ?_, settles.wel⟩
  · rw [settles.rbit own, rbit_rput _ _ _ _ _ _ _ (by decide), if_neg (by omega), rbit_rputBit _ _ _ _ _ _ (by decide), if_pos ⟨rfl, rfl⟩]
  · rw [settles.rfld own, rfld_rput_same _ _ _ _ _ (by decide)]

/-! ### The running-state capture -/

theorem rget_withWel (s : State) (w : WelSt) (x : Nat) : rget { s with wel := w } x = rget s x := rfl

/-- WEL_RUN_IDX with CAP (R169). -/
theorem welRunIdx_asks (s : State) (c e : Nat) : welRunIdx s c e true =
    { rputBit (rput s (welRunA c) 0 15 e) (welRunA c + 16) 31 false with wel := { s.wel with cap := mset false s.wel.cap c true } } := rfl

/-- The index stands, the valid bit is clear. -/
theorem welRunIdx_regs (s : State) (c : Nat) {e : Nat} (he : e < 2 ^ 15) :
    rfld (welRunIdx s c e true) (welRunA c) 0 15 = e ∧ rbit (welRunIdx s c e true) (welRunA c + 16) 31 = false := by
  let t := rputBit (rput s (welRunA c) 0 15 e) (welRunA c + 16) 31 false
  have regs (x : Nat) : rget (welRunIdx s c e true) x = rget t x := by rw [welRunIdx_asks, rget_withWel]
  have index : rfld (welRunIdx s c e true) (welRunA c) 0 15 = rfld t (welRunA c) 0 15 := congrArg (fld · 0 15) (regs _)
  have valid : rbit (welRunIdx s c e true) (welRunA c + 16) 31 = rbit t (welRunA c + 16) 31 := congrArg (bitOf · 31) (regs _)
  constructor
  · rw [index]; simp only [t]
    rw [rputBit, rfld_rput_other _ _ _ _ _ _ _ _ (by decide) (.inl (by omega)), rfld_rput_same _ _ _ _ _ (by decide)]
    exact Nat.mod_eq_of_lt he
  · rw [valid, rbit_rputBit _ _ _ _ _ _ (by decide), if_pos ⟨rfl, rfl⟩]

/-- Settles O32: each access is an `entPut` or `linePut`, or leaves the tables alone; the copy of one entry ends the load. -/
theorem wellheadTablesAccessed : Obligations.WellheadTablesAccessed := by
  intro st c e k v live ld
  refine ⟨fun admitted => ?entry, fun admitted => ?line, fun src first admitted busy go inFabric up0 up1 lower0 upper0 lower1 upper1 => ?load,
    ?read, fun idle => ⟨fun inTable => ?starts, fun beyond => ?refuses⟩, ?capture⟩
  case entry =>
    exact ⟨_, congrArg Host.Outcome.next (welEntIdx_writes admitted), (entShadow_entPut _ _ _ _ _).trans (if_pos rfl), ⟨rfl, rfl⟩,
      fun n other _ => (entShadow_entPut _ _ _ _ _).trans (if_neg other)⟩
  case line =>
    exact ⟨_, congrArg Host.Outcome.next (welLineWrite_admitted admitted v), (lineShadow_linePut _ _ _ _ _).trans (if_pos rfl), ⟨rfl, rfl⟩,
      fun n other _ => (lineShadow_linePut _ _ _ _ _).trans (if_neg other)⟩
  case load =>
    have copied := welLoadLoop_one admitted inFabric ⟨up0, lower0, upper0⟩ ⟨up1, lower1, upper1⟩
    obtain ⟨idle, status, wel⟩ := welLoadDone_ends c.isLt busy go copied
    refine ⟨_, rfl, idle, status, ⟨(congrArg WelSt.ent wel :), (congrArg WelSt.line wel :)⟩, ?_⟩
    exact (entShadow_congr wel _ _).trans ((entShadow_entPut _ _ _ _ _).trans (if_pos rfl))
  case read =>
    have run := welEntIdx_reads st c.val e.val
    have wel := forN_rset_wel (rput st (welEntA c.val) 0 15 e.val) 5 (welEntA c.val + 4) ((entData (entShadow st c.val e.val)).getD · 0)
    refine ⟨_, congrArg Host.Outcome.next run, entFromData_of_entData (rget_forN_rset _ 5 _ _), ?_⟩
    exact ⟨congrArg WelSt.ent wel, congrArg WelSt.line wel⟩
  case starts => exact congrArg Host.Outcome.next (welLdGo_starts idle inTable)
  case refuses => exact ⟨_, congrArg Host.Outcome.next (welLdGo_refuses idle beyond), evRaise_settles (Settles.refl _) _ (by omega)⟩
  case capture =>
    obtain ⟨index, clear⟩ := welRunIdx_regs st c.val e.isLt
    exact ⟨_, rfl, mget_mset_same false st.wel.cap c.val true, index, clear, ⟨rfl, rfl⟩, rfl⟩

end Sys2Proof.Machine
end

section
/-! Proofs: the grains and heads of a Glacier stream (R173, R176, R178, R179, R183). -/

namespace Sys2Proof.Machine

/-! ### Rounds and lists -/

theorem foldl_range_induction {β : Type} {P : β → Nat → Prop} (f : β → Nat → β) (n : Nat) {b : β} (first : P b 0)
    (round : ∀ x k, k < n → P x k → P (f x k) (k + 1)) : P ((List.range n).foldl f b) n := by
  induction n with
  | zero => exact first
  | succ n ih =>
    rw [List.range_succ, List.foldl_append]
    exact round _ n (by omega) (ih fun x k hk => round x k (by omega))

theorem getD_map_range {α : Type} (f : Nat → α) {n k : Nat} (hk : k < n) (z : α) : ((List.range n).map f).getD k z = f k := by
  simp [hk]

/-! ### A stream's buffers -/

/-- Fabric address of index `i` in a buffer of 64 words of cluster `c` from word `b` on (R176). -/
def bufWord (c b i : Nat) : Nat := clusterAddr c (b + i % 64)

/-- The controller may read and write that word (R150, R176, R244). -/
def BufAdmits (s : State) (c b i : Nat) : Prop :=
  cisDown s (clusterCis c (b + i % 64)) = false ∧ cisTMay s (clusterCis c (b + i % 64)) 7 = true

/-- The words of one grain are apart. -/
theorem bufWord_inj {c b i j k : Nat} (hj : j < 12) (hk : k < 12)
    (same : bufWord c b (i + j) = bufWord c b (i + k)) : j = k := by
  unfold bufWord clusterAddr clusterCis at same; omega

theorem BufAdmits.congr {s t : State} {c b i : Nat} (h : BufAdmits s c b i) (same : ∀ x, 0x180000 ≤ x → rget t x = rget s x) :
    BufAdmits t c b i := by
  have stat := same (cisStatA (clusterCis c (b + i % 64))) (by unfold cisStatA; omega)
  have owner := same (cisOwnerA (clusterCis c (b + i % 64))) (by unfold cisOwnerA; omega)
  unfold BufAdmits cisDown cisTMay cisOwner rbit rfld at h ⊢
  rwa [stat, owner]

theorem glcCisRead_admitted {s : State} {c b i : Nat} (admitted : BufAdmits s c b i) :
    glcCisRead s c (b + i % 64) .ok .none = (some (cisWord s (bufWord c b i)), s) := by
  simp [glcCisRead, cisTRead, admitted.1, cisEcc, bufWord, clusterAddr]

theorem glcCisPut_admitted {s : State} {c b i : Nat} (admitted : BufAdmits s c b i) (w : Word) :
    glcCisPut s c (b + i % 64) w .none = cisPut s (bufWord c b i) w := by
  simp [glcCisPut, cisTWrite, admitted.1, admitted.2, bufWord, clusterAddr]

theorem cisWord_cisPut (s : State) (a : Nat) (w : Word) (y : Nat) : cisWord (cisPut s a w) y = if y = a then w else cisWord s y :=
  mget_mset _ _ _ _ _

/-! ### Run states and blocks -/

theorem runOf_setRun {s t : State} (same : t.glc.run = s.glc.run) (g : Nat) (r : StrRun) (j : Nat) :
    runOf (setRun t g r) j = if j = g then r else runOf s j := by
  unfold runOf; rw [← same]; exact mget_mset _ _ _ _ _

@[simp] theorem runOf_setRun_same (s : State) (g : Nat) (r : StrRun) : runOf (setRun s g r) g = r :=
  (runOf_setRun rfl g r g).trans (if_pos rfl)

theorem dram_putBlock {s t : State} (same : t.glc.dram = s.glc.dram) (n : Nat) (b : DramBlock) (m : Nat) :
    mget none (putBlock t n b).glc.dram m = if m = n then some b else mget none s.glc.dram m := by
  rw [← same]; exact mget_mset none t.glc.dram n m (some b)

/-! ### The collection of a grain -/

/-- The half word that a write-buffer word is rounded to, and that it had to be clamped (R178). -/
def grainSample (s : State) (a : Nat) : Int × Bool := storeValue (cisWord s a).toInt 64 0 0 false 32 32 36

/-- From `s` to `t` the first `n` words of a grain, at the addresses `addr`, are taken into `xs` and read zero then. -/
structure Collects (s t : State) (addr : Nat → Nat) (xs : List Half) (n : Nat) : Prop where
  halves : xs = (List.range n).map (fun k => BitVec.ofInt 36 (grainSample s (addr k)).1)
  words : ∀ y, cisWord t y = if (List.range n).any (fun k => y == addr k) then 0 else cisWord s y
  flag : rbit t 0x160008 6 = (rbit s 0x160008 6 || (List.range n).any (fun k => (grainSample s (addr k)).2))
  regs : ∀ x, x ≠ 0x160008 → rget t x = rget s x
  rest : { t with ctl := s.ctl, mem := { t.mem with cist := s.mem.cist } } = s

/-- One word more, which lies apart from those before it. -/
theorem Collects.next {s t : State} {addr : Nat → Nat} {xs : List Half} {n : Nat} (h : Collects s t addr xs n)
    (apart : ∀ k, k < n → addr n ≠ addr k) :
    let v := grainSample t (addr n)
    let u := cisPut t (addr n) 0
    Collects s (if v.2 then glcErr u 6 else u) addr (xs ++ [BitVec.ofInt 36 v.1]) (n + 1) := by
  intro v u
  have untaken : cisWord t (addr n) = cisWord s (addr n) := by
    rw [h.words, if_neg]
    simpa using apart
  have value : v = grainSample s (addr n) := by simp only [v, grainSample, untaken]
  have halves : xs ++ [BitVec.ofInt 36 v.1] = (List.range (n + 1)).map (fun k => BitVec.ofInt 36 (grainSample s (addr k)).1) := by
    rw [List.range_succ, List.map_append, ← h.halves, value]; rfl
  have words (y : Nat) : cisWord u y = if (List.range (n + 1)).any (fun k => y == addr k) then 0 else cisWord s y := by
    rw [cisWord_cisPut, h.words, List.range_succ, List.any_append]
    by_cases last : y = addr n <;> simp [last]
  cases clamped : v.2 with
  | false =>
    refine ⟨halves, words, ?_, h.regs, h.rest⟩
    rw [List.range_succ, List.any_append, ← Bool.or_assoc, ← h.flag, List.any_cons, ← value, clamped]
    exact (Bool.or_false _).symm
  | true =>
    refine ⟨halves, words, ?_, fun x other => (rget_rsetBit_other _ _ _ _ other).trans (h.regs x other), h.rest⟩
    rw [List.range_succ, List.any_append, ← Bool.or_assoc, List.any_cons, ← value, clamped]
    exact (rbit_rsetBit u _ _ _ _ (by decide)).trans (by simp)

/-- The controller takes the 12 words of a grain (R178, step 2). -/
theorem glcCollect_collects {s : State} {d : StrDesc} {t0 : Nat}
    (admits : ∀ k, k < 12 → BufAdmits s (sdCl d) (sdWbuf d) (t0 + k)) :
    Collects s (glcCollect s d t0 []).2 (fun k => bufWord (sdCl d) (sdWbuf d) (t0 + k)) (glcCollect s d t0 []).1 12 := by
  refine foldl_range_induction (P := fun (q : List Half × State) n => Collects s q.2 _ q.1 n) _ 12
    ⟨rfl, fun _ => rfl, (Bool.or_false _).symm, fun _ _ => rfl, rfl⟩ ?_
  intro q k hk taken
  have admitted := (admits k hk).congr (fun x hx => taken.regs x (by omega))
  have next := taken.next (fun j hj same => by have := bufWord_inj hk (by omega) same; omega)
  have read : glcCisRead q.2 (sdCl d) (sdWbuf d + (t0 + k) % 64) (accEcc [] k) (accMeet [] k 0) = _ := glcCisRead_admitted admitted
  have cleared : glcCisPut q.2 (sdCl d) (sdWbuf d + (t0 + k) % 64) 0 (accMeet [] k 1) = _ := glcCisPut_admitted admitted 0
  simp only [read, cleared]
  exact next

/-! ### The fill of a head buffer -/

/-- From `s` to `t` the first `n` samples of a grain stand in the head words `addr`, and those of the indices `i` that are `due` still are
marked in the map, which was `good` and is `marks` then. -/
structure Fills (s t : State) (addr i : Nat → Nat) (due : Nat → Prop) (xs : Nat → Half) (good marks : SMap Bool) (n : Nat) : Prop where
  heads : ∀ k, k < n → cisWord t (addr k) = Word.pack (xs k) 0
  words : ∀ y, (∀ k, k < n → y ≠ addr k) → cisWord t y = cisWord s y
  marked : ∀ k, k < n → due k → mget false marks (i k) = true
  unmarked : ∀ j, (∀ k, k < n → due k → j ≠ i k) → mget false marks j = mget false good j
  rest : { t with mem := { t.mem with cist := s.mem.cist } } = s

/-- One sample more, whose head word lies apart from those before it. -/
theorem Fills.next {s t : State} {addr i : Nat → Nat} {due : Nat → Prop} [DecidablePred due] {xs : Nat → Half} {good marks : SMap Bool}
    {n : Nat} (h : Fills s t addr i due xs good marks n) (apart : ∀ k, k < n → addr k ≠ addr n) :
    Fills s (cisPut t (addr n) (Word.pack (xs n) 0)) addr i due xs good (if due n then mset false marks (i n) true else marks) (n + 1) := by
  have mark (j : Nat) : mget false (if due n then mset false marks (i n) true else marks) j =
      if due n ∧ j = i n then true else mget false marks j := by
    by_cases dueNow : due n <;> simp [dueNow, mget_mset]
  refine ⟨fun k hk => ?heads, fun y hy => ?words, fun k hk dueK => ?marked, fun j hj => ?unmarked, h.rest⟩
  case heads =>
    rw [cisWord_cisPut]
    rcases Nat.lt_succ_iff_lt_or_eq.mp hk with before | rfl
    · rw [if_neg (apart k before), h.heads k before]
    · exact if_pos rfl
  case words =>
    rw [cisWord_cisPut, if_neg (hy n (by omega)), h.words y fun k hk => hy k (by omega)]
  case marked =>
    rw [mark]
    rcases Nat.lt_succ_iff_lt_or_eq.mp hk with before | rfl
    · rw [h.marked k before dueK, ite_self]
    · exact if_pos ⟨dueK, rfl⟩
  case unmarked =>
    rw [mark, if_neg fun now => hj n (by omega) now.1 now.2, h.unmarked j fun k hk => hj k (by omega)]

/-- The samples of a grain that was read and checked go to the head words of their indices (R178). -/
theorem glcFill_fills {s : State} {g n : Nat} {xs : Nat → Half} (admits : ∀ k, k < 12 →
      BufAdmits s (sdCl (strOf s g)) (sdHbuf (strOf s g)) ((runOf s g).t0 + 12 * n + sdB (strOf s g) + k)) :
    let d := strOf s g
    let r := runOf s g
    let base := r.t0 + 12 * n + sdB d
    ∃ t marks, glcFill s g n ((List.range 12).map (fun k => some (xs k))) [] = setRun t g { r with good := marks, gr := n + 1 } ∧
      Fills s t (fun k => bufWord (sdCl d) (sdHbuf d) (base + k)) (fun k => (base + k) % 64) (fun k => r.t0 + r.ix ≤ base + k) xs
        r.good marks 12 := by
  intro d r base
  refine ⟨_, _, rfl, ?_⟩
  refine foldl_range_induction (P := fun (q : State × SMap Bool) n => Fills s q.1 _ _ _ xs r.good q.2 n) _ 12
    ⟨fun _ hk => absurd hk (by omega), fun _ _ => rfl, fun _ hk => absurd hk (by omega), fun _ _ => rfl, rfl⟩ ?_
  intro q k hk filled
  have admitted := (admits k hk).congr (t := q.1) (fun x _ => (congrArg (fun u : State => rget u x) filled.rest :))
  have next := filled.next (fun j hj same => by have := bufWord_inj (by omega) hk same; omega)
  simp only [getD_map_range _ hk, List.getD_nil, glcCisPut_admitted admitted]
  exact next

/-! ### Writes and reads of a grain -/

/-- Where the write window of a stream's next grain begins, and the block of that grain (R173, R178). -/
def writeStart (s : State) (g : Nat) : Nat := (runOf s g).t0 + 12 * (runOf s g).gw
def writeBlock (s : State) (g : Nat) : Nat := sdRbase (strOf s g) + (runOf s g).gw % sdNb (strOf s g)
/-- The first index of the grain a stream reads next, and its block (R173, R178). -/
def readStart (s : State) (g : Nat) : Nat := (runOf s g).t0 + 12 * (runOf s g).gr + sdB (strOf s g)
def readBlock (s : State) (g : Nat) : Nat := sdRbase (strOf s g) + (runOf s g).gr % sdNb (strOf s g)

/-- The block of a grain of the samples `xs` (R173). -/
def grainBlock (s : State) (g : Nat) (xs : Nat → Half) : DramBlock :=
  { words := (List.range 6).map (fun k => Word.pack (xs (2 * k)) (xs (2 * k + 1)))
    lap := if sdKind (strOf s g) = 1 then (runOf s g).gw / sdNb (strOf s g) % 16 else 0, blk := writeBlock s g }

theorem packed_halves {xs : List Half} {x : Nat → Half} (halves : xs = (List.range 12).map x) :
    (List.range 6).map (fun k => Word.pack (xs.getD (2 * k) 0) (xs.getD (2 * k + 1) 0)) =
      (List.range 6).map (fun k => Word.pack (x (2 * k)) (x (2 * k + 1))) := by
  refine List.map_congr_left fun k hk => ?_
  have hk := List.mem_range.mp hk
  rw [halves, getD_map_range x (by omega), getD_map_range x (by omega)]

/-- The run state behind a grain that was written (R177). -/
def grainWritten (s : State) (g : Nat) : StrRun :=
  { runOf s g with
    gw := (runOf s g).gw + 1, wg := (runOf s g).wg + 1
    done := sdKind (strOf s g) == 2 && sdOne (strOf s g) && decide (sdNb (strOf s g) ≤ (runOf s g).wg + 1) }

/-- Sample `k` of a block (R173). -/
def blockHalf (b : DramBlock) (k : Nat) : Half := if k % 2 = 0 then (b.words.getD (k / 2) 0).hi else (b.words.getD (k / 2) 0).lo
/-- The run state behind a checked sample that was delivered from its head word (R179, R183). -/
def delivered (s : State) (g : Nat) : StrRun :=
  { runOf s g with
    ix := (runOf s g).ix + 1, good := mset false (runOf s g).good (((runOf s g).t0 + (runOf s g).ix) % 64) false
    last := (cisWord s (bufWord (sdCl (strOf s g)) (sdHbuf (strOf s g)) ((runOf s g).t0 + (runOf s g).ix))).hi, concl := false }

theorem forEach_glcEcc_clean {e : List Ecc} (clean : ∀ q ∈ e, q = .ok) (s : State) (u n : Nat) : forEach e s (fun s q => glcEcc s u n q) = s := by
  induction e with
  | nil => rfl
  | cons q e ih =>
    obtain rfl := clean q List.mem_cons_self
    exact ih fun q hq => clean q (List.mem_cons_of_mem _ hq)

theorem getD_ok_of_clean {e : List Ecc} (clean : ∀ q ∈ e, q = .ok) (k : Nat) : e.getD k .ok = .ok := by
  rw [List.eq_replicate_of_mem clean]; simp

section
variable {s : State} {g : Nat} (enabled : sdEn (strOf s g) = true)
include enabled

/-- A grain in its write window (R178). -/
theorem glcGrainWrite_in_window (kind : sdKind (strOf s g) = 1 ∨ sdKind (strOf s g) = 2) (running : (runOf s g).done = false)
    (opened : writeStart s g + 12 ≤ strTick s (strOf s g)) (inTime : strTick s (strOf s g) ≤ writeStart s g + 35) (ready : glcState s = 3)
    (admits : ∀ k, k < 12 → BufAdmits s (sdCl (strOf s g)) (sdWbuf (strOf s g)) (writeStart s g + k)) :
    let addr := fun k => bufWord (sdCl (strOf s g)) (sdWbuf (strOf s g)) (writeStart s g + k)
    ∃ u xs, glcGrainWrite s g [] = setRun (putBlock u (writeBlock s g)
        (grainBlock s g (fun k => BitVec.ofInt 36 (grainSample s (addr k)).1))) g (grainWritten s g) ∧ Collects s u addr xs 12 := by
  have runs : ¬ ((!sdEn (strOf s g)) = true ∨ sdKind (strOf s g) = 3 ∨ sdKind (strOf s g) = 0 ∨ (runOf s g).done = true ∨
      strTick s (strOf s g) < writeStart s g + 12 ∨ strTick s (strOf s g) > writeStart s g + 35 ∨ glcState s ≠ 3) := by
    simp only [enabled, running, ready, Bool.not_true, Bool.false_eq_true, ne_eq, not_true, false_or, or_false]; omega
  have collects := glcCollect_collects admits
  have block := congrArg (DramBlock.mk · (grainBlock s g fun _ => 0).lap (writeBlock s g)) (packed_halves collects.halves)
  exact ⟨_, _, (if_neg runs).trans (congrArg (fun b => setRun (putBlock _ _ b) g (grainWritten s g)) block), collects⟩

theorem glcWriteMiss_counts (kind : sdKind (strOf s g) = 1 ∨ sdKind (strOf s g) = 2) (running : (runOf s g).done = false)
    (closed : writeStart s g + 35 ≤ strTick s (strOf s g)) :
    glcWriteMiss s g = setRun (rinc (glcErr s 5) 0x160010 0 16) g { runOf s g with gw := (runOf s g).gw + 1 } := by
  have runs : ¬ ((!sdEn (strOf s g)) = true ∨ sdKind (strOf s g) = 3 ∨ sdKind (strOf s g) = 0 ∨ (runOf s g).done = true ∨
      strTick s (strOf s g) < writeStart s g + 35) := by
    simp only [enabled, running, Bool.not_true, Bool.false_eq_true, false_or]; omega
  exact if_neg runs

theorem glcHeadLate_counts (kind : sdKind (strOf s g) = 1 ∨ sdKind (strOf s g) = 3) (late : readStart s g ≤ strTick s (strOf s g) + 1)
    (first : (runOf s g).hl ≤ (runOf s g).gr) :
    glcHeadLate s g = setRun (rinc (glcErr s 3) 0x160010 16 16) g { runOf s g with hl := (runOf s g).gr + 1 } := by
  have runs : ¬ ((!sdEn (strOf s g)) = true ∨ sdKind (strOf s g) = 2 ∨ sdKind (strOf s g) = 0 ∨
      strTick s (strOf s g) + 1 < readStart s g ∨ (runOf s g).hl > (runOf s g).gr) := by
    simp only [enabled, Bool.not_true, Bool.false_eq_true, false_or]; omega
  exact if_neg runs

/-- A block whose tag, lap and check bits agree (R178, R184). -/
theorem glcGrainRead_checked (kind : sdKind (strOf s g) = 1 ∨ sdKind (strOf s g) = 3)
    (opened : readStart s g - 25 ≤ strTick s (strOf s g)) (ready : glcState s = 3)
    (tag : (blockOf s (readBlock s g)).blk = readBlock s g)
    (lap : sdKind (strOf s g) = 1 → (blockOf s (readBlock s g)).lap = (runOf s g).gr / sdNb (strOf s g) % 16)
    (admits : ∀ k, k < 12 → BufAdmits s (sdCl (strOf s g)) (sdHbuf (strOf s g)) (readStart s g + k))
    {e : List Ecc} (clean : ∀ q ∈ e, q = .ok) :
    ∃ t marks, glcGrainRead s g e [] = setRun t g { runOf s g with good := marks, gr := (runOf s g).gr + 1 } ∧
      Fills s t (fun k => bufWord (sdCl (strOf s g)) (sdHbuf (strOf s g)) (readStart s g + k)) (fun k => (readStart s g + k) % 64)
        (fun k => (runOf s g).t0 + (runOf s g).ix ≤ readStart s g + k) (blockHalf (blockOf s (readBlock s g))) (runOf s g).good marks 12 := by
  have runs : ¬ ((!sdEn (strOf s g)) = true ∨ sdKind (strOf s g) = 2 ∨ sdKind (strOf s g) = 0 ∨
      strTick s (strOf s g) < readStart s g - 25) := by
    simp only [enabled, Bool.not_true, Bool.false_eq_true, false_or]; omega
  have tagged : ((blockOf s (readBlock s g)).blk != readBlock s g) = false := by simp [tag]
  have lapped : (sdKind (strOf s g) == 1 && (blockOf s (readBlock s g)).lap != (runOf s g).gr / sdNb (strOf s g) % 16) = false := by
    simpa using lap
  have checked (k : Nat) : (e.getD k .ok == Ecc.double) = false := by rw [getD_ok_of_clean clean]; rfl
  have run : glcGrainRead s g e [] =
      glcFill s g (runOf s g).gr ((List.range 12).map (fun k => some (blockHalf (blockOf s (readBlock s g)) k))) [] := by
    unfold glcGrainRead
    refine (if_neg runs).trans ((if_neg (not_not.2 ready)).trans ?_)
    simp only [readBlock] at tagged lapped
    simp only [forEach_glcEcc_clean clean, tagged, lapped, checked, Bool.or_self, Bool.false_eq_true, if_false]
    rfl
  rw [run]
  exact glcFill_fills admits

/-- A checked sample stays in its head word where the stream has no line (R179). -/
theorem glcLineCopy_checked (kind : sdKind (strOf s g) = 1 ∨ sdKind (strOf s g) = 3) (noLine : sdLinev (strOf s g) = false)
    (due : (runOf s g).t0 + 12 * (((runOf s g).ix - sdB (strOf s g)) / 12) + sdB (strOf s g) ≤ strTick s (strOf s g) + 1)
    (reached : sdB (strOf s g) ≤ (runOf s g).ix) (good : mget false (runOf s g).good (((runOf s g).t0 + (runOf s g).ix) % 64) = true)
    (head line : Access) : glcLineCopy s g head line = setRun s g (delivered s g) := by
  have dueTick : glcDueTick (strOf s g) (runOf s g).t0 (runOf s g).ix =
      (runOf s g).t0 + 12 * (((runOf s g).ix - sdB (strOf s g)) / 12) + sdB (strOf s g) - 1 :=
    if_neg (by rw [noLine]; rintro (line | early); exacts [Bool.false_ne_true line, by omega])
  have runs : ¬ ((!sdEn (strOf s g)) = true ∨ sdKind (strOf s g) = 2 ∨ sdKind (strOf s g) = 0 ∨
      strTick s (strOf s g) < glcDueTick (strOf s g) (runOf s g).t0 (runOf s g).ix) := by
    simp only [enabled, dueTick, Bool.not_true, Bool.false_eq_true, false_or]; omega
  have notEarly : decide ((runOf s g).ix < sdB (strOf s g)) = false := by simpa using reached
  unfold glcLineCopy
  refine (if_neg runs).trans ?_
  simp [notEarly, good, noLine, delivered, bufWord, b2n]

end

/-- A missed window or deadline that GLC_ERR shows and a counter of GLC_MISS counts (R183). -/
theorem missCounted (s : State) (g : Nat) (r : StrRun) {bit lo : Nat} (hbit : bit < 32) (hlo : lo + 16 ≤ 32) :
    let t := setRun (rinc (glcErr s bit) 0x160010 lo 16) g r
    (∀ j, runOf t j = if j = g then r else runOf s j) ∧ rbit t 0x160008 bit = true ∧
      rfld t 0x160010 lo 16 = min 65535 (rfld s 0x160010 lo 16 + 1) ∧ (∀ x, x ≠ 0x160008 → x ≠ 0x160010 → rget t x = rget s x) ∧
      { t with ctl := s.ctl, glc := { t.glc with run := s.glc.run } } = s := by
  intro t
  have flagged : rfld (glcErr s bit) 0x160010 lo 16 = rfld s 0x160010 lo 16 :=
    rfld_rput_other _ _ _ _ _ _ _ _ (by omega) (.inl (by decide))
  have width : rfld s 0x160010 lo 16 < 2 ^ 16 := Nat.mod_lt _ (by decide)
  refine ⟨runOf_setRun rfl g r, ?_, ?_, fun x err miss => ?_, rfl⟩
  · change rbit (rput (rsetBit s 0x160008 bit) _ _ _ _) _ _ = _
    rw [rbit_rput _ _ _ _ _ _ _ hlo, if_neg (by omega), rbit_rsetBit _ _ _ _ _ hbit, if_pos ⟨rfl, rfl⟩]
  · change rfld (rput (glcErr s bit) _ _ _ _) _ _ _ = _
    rw [rfld_rput_same _ _ _ _ _ hlo, flagged]; unfold satInc; split <;> omega
  · exact (rget_rinc_other _ _ _ _ _ miss).trans (rget_rsetBit_other _ _ _ _ err)

/-! ### The statement -/

/-- Settles O38: in its window a grain is collected and written, out of it counted; a checked block fills the head buffer, and without a
line its samples stay there. -/
theorem glacierGrainsMove : Obligations.GlacierGrainsMove := by
  intro st g m d r tick wb head run w0 r0 bw br smp half admits enabled
  refine ⟨fun kind running => ⟨fun opened inTime ready admitted => ?write, fun closed => ?miss⟩,
    fun kind => ⟨fun e clean opened ready tag lap admitted => ?read, fun late first => ?late, fun noLine due reached good => ?deliver⟩⟩
  case write =>
    obtain ⟨u, xs, run, taken⟩ := glcGrainWrite_in_window enabled kind running opened inTime ready admitted
    have glc : u.glc = st.glc := (congrArg State.glc taken.rest :)
    exact ⟨_, congrArg Host.Outcome.next run, taken.words, dram_putBlock (congrArg GlcSt.dram glc) _ _,
      runOf_setRun (congrArg GlcSt.run glc :) _ _, taken.flag, taken.regs, (congrArg State.cells taken.rest :),
      (congrArg (fun v : State => v.mem.cell) taken.rest :), (congrArg State.wel taken.rest :), (congrArg State.flt taken.rest :)⟩
  case miss =>
    exact ⟨_, congrArg Host.Outcome.next (glcWriteMiss_counts enabled kind running closed), missCounted _ _ _ (by decide) (by decide)⟩
  case read =>
    obtain ⟨t, marks, run, fills⟩ := glcGrainRead_checked enabled kind opened ready tag lap admitted
      (e := e.take 6) (fun q hq => clean q (List.mem_of_mem_take hq))
    have glc : t.glc = st.glc := (congrArg State.glc fills.rest :)
    refine ⟨_, congrArg Host.Outcome.next run,
      (congrArg (fun v : State => { v with glc := { v.glc with run := st.glc.run } }) fills.rest :),
      fun k hk => ⟨fills.heads k hk, fun due => ?_⟩, fun i hi => ?_, fills.words, ?_⟩ <;> rw [runOf_setRun_same]
    · exact fills.marked k hk due
    · exact fills.unmarked i hi
    · exact runOf_setRun (congrArg GlcSt.run glc) _ _
  case late =>
    exact ⟨_, congrArg Host.Outcome.next (glcHeadLate_counts enabled kind late first), missCounted _ _ _ (by decide) (by decide)⟩
  case deliver =>
    have run := glcLineCopy_checked enabled kind noLine due reached good m.head m.line
    refine ⟨_, congrArg Host.Outcome.next run, rfl, ?_, ?_⟩ <;> rw [runOf_setRun_same]
    · exact runOf_setRun rfl _ _
    · exact mget_mset_same false r.good _ false

end Sys2Proof.Machine
end

section
/-! Proofs: the retrain of the Glacier controller and the fault manager's work (R188, R427). -/

namespace Sys2Proof.Machine

/-- A recovering controller whose Glacier work waits while the fault manager handles nothing. -/
def waitingWork : State := { State.reset with ctl := [(0x160000, 4 * 2 ^ 13)], flt := { queue := [⟨7, 2, 0xA000⟩] } }

theorem glcState_waitingWork (fitted : glcChans ≠ 0) : glcState waitingWork = 4 := (if_neg fitted).trans (by decide)

theorem glcRetrained_fails {s : State} (recovering : glcState s = 4) (step time : Nat) : glcRetrained s false step time =
    fltWorkDone (setGlcState (rput (glcShow s 0 step time) 0x160000 20 3 0) 5) 7 0xA000 := if_neg (not_not.2 recovering)

/-- A retrain also ends Glacier work that waits, or is suspended, while nothing is handled (R427), where O39 has it change registers
alone: with memory fitted O39 fails. Whether memory is fitted the straps say, a constant without a body. -/
theorem glacierControllerActs_iff_unfitted : Obligations.GlacierControllerActs ↔ glcChans = 0 := by
  refine ⟨fun acts => by_contra fun fitted => ?_, fun unfitted _ _ fitted => absurd unfitted fitted⟩
  obtain ⟨-, -, -, -, -, failed, -⟩ := acts waitingWork 0 fitted
  have recovering := glcState_waitingWork fitted
  have run : Host.Outcome.next (glcRetrained waitingWork false 0 0) = _ := failed recovering rfl 0 0
  have queue := congrArg (fun s : State => s.flt.queue) (Host.Outcome.next.inj run)
  rw [glcRetrained_fails recovering] at queue
  exact absurd queue (by decide)

end Sys2Proof.Machine
end

section
/-! Proofs: little-endian fields of byte strings, and tables written as a whole (R190, R191, R210). -/

namespace Sys2Proof.Machine

/-! ### Byte fields -/

theorem leNat_append_zeros (bs : List Byte) (n : Nat) : leNat (bs ++ List.replicate n 0) = leNat bs := by
  induction bs with
  | cons b bs ih => exact congrArg (b.toNat + 256 * ·) ih
  | nil =>
    induction n with
    | zero => rfl
    | succ n ih => exact (Nat.zero_add _).trans (congrArg (256 * ·) ih)

/-- The zeros a field is read with beyond the end of the bytes do not count. -/
theorem leAt_eq_leNat (bs : List Byte) (o n : Nat) : leAt bs o n = leNat ((bs.drop o).take n) := leNat_append_zeros _ _

theorem leAt_drop (bs : List Byte) (k o n : Nat) : leAt (bs.drop k) o n = leAt bs (k + o) n := by
  rw [leAt_eq_leNat, leAt_eq_leNat, List.drop_drop]

/-- A field that reaches the end of the bytes has the value of a longer one. -/
theorem leAt_past_end {bs : List Byte} {o m n : Nat} (ends : bs.length ≤ o + n) (longer : n ≤ m) : leAt bs o m = leAt bs o n := by
  have short : (bs.drop o).length ≤ n := by rw [List.length_drop]; omega
  rw [leAt_eq_leNat, leAt_eq_leNat, List.take_of_length_le (short.trans longer), List.take_of_length_le short]

theorem slice_whole (bs : List Byte) : slice bs 0 bs.length = bs := by simp [slice]

theorem chunk_eq_map (n sz : Nat) (bs : List Byte) : chunk n sz bs = (List.range n).map (fun i => (bs.drop (sz * i)).take sz) := by
  induction n generalizing bs with
  | zero => rfl
  | succ n ih => simp [chunk, ih, List.range_succ_eq_map, List.drop_drop, Function.comp_def, Nat.mul_succ, Nat.add_comm]

theorem words9_eq_map (n : Nat) (bs : List Byte) : words9 n bs = (List.range n).map (fun i => BitVec.ofNat 72 (leAt bs (9 * i) 9)) := by
  simp [words9, chunk_eq_map, leAt_eq_leNat, Function.comp_def]

/-! ### Tables written as a whole -/

section
variable {α : Type} [DecidableEq α] (z : α)

/-- The entries of a list, from index `i` on, written over a table from `base + i` on: an item that reads as unlisted leaves the table's. -/
theorem mget_foldl_zipIdx (l : List α) (i base : Nat) (m : SMap α) (j : Nat) :
    mget z (((l.zipIdx i).filterMap (fun x => if x.1 = z then none else some (x.2, x.1))).foldl (fun a e => mset z a (base + e.1) e.2) m) j
      = if base + i ≤ j ∧ l.getD (j - (base + i)) z ≠ z then l.getD (j - (base + i)) z else mget z m j := by
  induction l generalizing i m with
  | nil => simp
  | cons v l ih =>
    rw [List.zipIdx_cons, List.filterMap_cons]
    obtain before | rfl | after : j < base + i ∨ j = base + i ∨ base + i < j := by omega
    · have lower : ¬ base + (i + 1) ≤ j ∧ ¬ base + i ≤ j ∧ j ≠ base + i := by omega
      by_cases empty : v = z <;> simp [empty, ih, mget_mset, lower]
    · by_cases empty : v = z <;> simp [empty, ih]
    · have next : j - (base + i) = j - (base + (i + 1)) + 1 := by omega
      have upper : base + (i + 1) ≤ j ∧ base + i ≤ j ∧ j ≠ base + i := by omega
      by_cases empty : v = z <;> simp [empty, ih, mget_mset, next, upper]

theorem index_lt_of_mem_listMap {l : List α} {e : Nat × α} (mem : e ∈ listMap z l) : e.1 < l.length := by
  obtain ⟨⟨v, i⟩, at_, kept⟩ := List.mem_filterMap.1 mem
  have bound := (List.mem_zipIdx at_).2.1
  split at kept
  · cases kept
  · cases kept; simpa using bound

/-- A range that takes a list holds the list's items, and the rest of the table stands. -/
theorem mget_mputRange_listMap (m : SMap α) (lo : Nat) (l : List α) (j : Nat) : mget z (mputRange z m lo l.length (listMap z l)) j
    = if lo ≤ j ∧ j < lo + l.length then l.getD (j - lo) z else mget z m j := by
  have whole : (listMap z l).filter (fun e => decide (e.1 < l.length)) = listMap z l :=
    List.filter_eq_self.2 fun e mem => decide_eq_true (index_lt_of_mem_listMap z mem)
  have cleared := mget_filter_index z (fun k => decide (k < lo) || decide (lo + l.length ≤ k)) m j
  rw [mputRange, whole, listMap, mget_foldl_zipIdx, mclearRange, cleared, Nat.add_zero]
  by_cases inside : lo ≤ j ∧ j < lo + l.length
  · by_cases empty : l.getD (j - lo) z = z
    · rw [if_neg fun h => h.2 empty, if_pos inside, empty, if_neg]
      simp only [Bool.or_eq_true, decide_eq_true_eq]
      omega
    · rw [if_pos ⟨inside.1, empty⟩, if_pos inside]
  · have beyond : lo ≤ j → l.getD (j - lo) z = z := fun above => by
      rw [List.getD_eq_getElem?_getD, List.getElem?_eq_none (by omega), Option.getD_none]
    rw [if_neg fun h => h.2 (beyond h.1), if_neg inside, if_pos]
    simp only [Bool.or_eq_true, decide_eq_true_eq]
    omega

end

/-- Items of which none is left out are all written. -/
theorem mget_foldl_range_some (f : Nat → Nat) (skip : Nat) (m : SMap (Option Nat)) {n k : Nat} (listed : ∀ k, k < n → f k ≠ skip)
    (hk : k < n) : mget none ((List.range n).foldl (fun m k => if f k = skip then m else mset none m k (some (f k))) m) k = some (f k) := by
  refine foldl_range_induction (P := fun m i => ∀ k, k < i → mget none m k = some (f k)) _ n (fun k h => absurd h (by omega))
    (fun m i hi written k below => ?_) k hk
  rw [if_neg (listed i hi), mget_mset]
  split
  · next here => rw [here]
  · exact written k (by omega)

/-! ### The staging cistern -/

/-- Staged bytes stand nine to a word in their half of the staging cistern; every other word stands as before (R210). -/
theorem cisWord_stage (s : State) (r : LoadRun) (half : Nat) (b : List Byte) (y : Nat) : cisWord (stage s r half b) y =
    if r.stag * 65536 + half * 32768 ≤ y ∧ y < r.stag * 65536 + half * 32768 + (b.length + 8) / 9
    then BitVec.ofNat 72 (leAt b (9 * (y - (r.stag * 65536 + half * 32768))) 9) else cisWord s y := by
  have count : (words9 ((b.length + 8) / 9) b).length = (b.length + 8) / 9 := by simp [words9_eq_map]
  have staged := mget_mputRange_listMap (0 : Word) s.mem.cist (r.stag * 65536 + half * 32768) (words9 ((b.length + 8) / 9) b) y
  rw [count] at staged
  refine staged.trans ?_
  split
  · next inside => rw [words9_eq_map, getD_map_range _ (by omega)]
  · rfl

end Sys2Proof.Machine
end

section
/-! Proofs: how the checks of an image load answer (R192–R194, R197, R198, R210–R212, R214, R216, R217, R303). -/

namespace Sys2Proof.Machine

/-! ### The command's end -/

theorem agent_of_opOf {s : State} {a h opc : Nat} {o : CmdOp} (found : opOf s a h opc = some o) : o.agent = a := by
  have sought := List.find?_some found
  simp only [Bool.and_eq_true, beq_iff_eq] at sought
  exact sought.1.1

/-- An operation of an agent that answers ends with its completion alone (R290). -/
theorem opEnd_of_answers {s : State} {o : CmdOp} (answers : s.answers o.agent) (status detail : Nat) (result : List Byte) :
    opEnd s o status detail result = finished s o status detail result := by
  obtain ⟨awake, untaken⟩ := answers
  have taken (ops : List CmdOp) : histTakers { s with host := { s.host with ops := ops } } 3 o.agent = [] := untaken
  have asleep (host : HostSt) : agSt { s with host := host } o.agent ≠ 2 := awake
  by_cases lost : o.lost
  · simp [opEnd, finished, lost]
  · simp [opEnd, finished, lost, histCommand, taken, asleep]

/-- The load is over, and its command ends (R303). -/
theorem loadEnd_of_answers {s : State} {r : LoadRun} {o : CmdOp} (found : opOf s r.agent r.handle 0x10 = some o) (answers : s.answers r.agent)
    (status detail : Nat) (result : List Byte) :
    loadEnd s r status detail result = finished { s with load := { s.load with run := none } } o status detail result := by
  rw [← agent_of_opOf found] at answers
  have found' : opOf { s with load := { s.load with run := none } } r.agent r.handle 0x10 = some o := found
  have answers' : State.answers { s with load := { s.load with run := none } } o.agent := answers
  simp only [loadEnd, found']
  exact opEnd_of_answers answers' status detail result

/-- The record of a rejected load in its completion (R216, R303). -/
def Rej.record (j : Rej) (sect : Nat) : List Byte := leBytes 2 j.code ++ leBytes 2 sect ++ leBytes 4 j.off ++ leBytes 4 j.item

/-! ### A load that has written nothing -/

/-- At the header a partial load has nothing to restore. -/
theorem loadRestore_at_header {s : State} {r : LoadRun} (partial_ : r.full = false) (header : r.phase = 0) (fresh : r.undo = {}) :
    loadRestore s r = s := by
  simp [loadRestore, partial_, header, fresh, shadowRestore, putBack]

/-- A load that has written no item leaves at most other non-member items pending. -/
theorem loadRestore_of_fresh {s : State} {r : LoadRun} (fresh : r.undo = {}) :
    ∃ pend, loadRestore s r = { s with cmt := { s.cmt with pend := pend } } := by
  by_cases full : r.full
  · exact ⟨mset {} s.cmt.pend 256 {}, by simp [loadRestore, full, fresh, fullDrop, shadowRestore, putBack, pendDone]⟩
  · by_cases header : r.phase = 0
    · exact ⟨_, loadRestore_at_header (by simpa using full) header fresh⟩
    · exact ⟨mset {} s.cmt.pend r.group {}, by simp [loadRestore, full, header, fresh, shadowRestore, putBack, onPend]⟩

theorem loadReject_at_header {s : State} {r : LoadRun} {o : CmdOp} (partial_ : r.full = false) (header : r.phase = 0) (fresh : r.undo = {})
    (found : opOf s r.agent r.handle 0x10 = some o) (answers : s.answers r.agent) (sect : Nat) (j : Rej) :
    loadReject s r sect j = finished { s with load := { s.load with run := none } } o 1 0 (j.record sect) := by
  rw [loadReject, loadRestore_at_header partial_ header fresh, loadEnd_of_answers found answers, Rej.record]

theorem loadReject_of_fresh {s : State} {r : LoadRun} {o : CmdOp} (fresh : r.undo = {})
    (found : opOf s r.agent r.handle 0x10 = some o) (answers : s.answers r.agent) (sect : Nat) (j : Rej) :
    ∃ pend, loadReject s r sect j
      = finished { s with cmt := { s.cmt with pend := pend }, load := { s.load with run := none } } o 1 0 (j.record sect) := by
  obtain ⟨pend, restored⟩ := loadRestore_of_fresh (s := s) fresh
  refine ⟨pend, ?_⟩
  rw [loadReject, restored]
  exact loadEnd_of_answers (s := { s with cmt := { s.cmt with pend := pend } }) found answers _ _ _

/-- From `s` to `t` the load has ended with the record of a reject; cells and registers stand (R216, R222). -/
structure Rejects (s t : State) (o : CmdOp) (record : List Byte) : Prop where
  run : t.load.run = none
  fin : t.host.fin = (finished { s with load := { s.load with run := none } } o 1 0 record).host.fin
  cells : t.cells = s.cells
  ctl : t.ctl = s.ctl

/-- Staged bytes do not show in a reject. -/
theorem loadReject_staged {s : State} {r : LoadRun} {o : CmdOp} (fresh : r.undo = {})
    (found : opOf s r.agent r.handle 0x10 = some o) (answers : s.answers r.agent) (half : Nat) (b : List Byte) (sect : Nat) (j : Rej) :
    Rejects s (loadReject (stage s r half b) r sect j) o (j.record sect) := by
  obtain ⟨pend, ends⟩ := loadReject_of_fresh (s := stage s r half b) fresh found answers sect j
  rw [ends]
  exact ⟨rfl, rfl, rfl, rfl⟩

/-! ### The first check that fails -/

theorem firstRej_nil : firstRej [] = none := rfl

theorem firstRej_cons (fails : Bool) (j : Rej) (cs : List (Bool × Rej)) :
    firstRej ((fails, j) :: cs) = if fails then some j else firstRej cs := by
  cases fails <;> simp [firstRej]

theorem firstRej_eq_none {cs : List (Bool × Rej)} : firstRej cs = none ↔ ∀ c ∈ cs, c.1 = false := by
  simp [firstRej]

theorem firstRej_append_eq_none {cs ds : List (Bool × Rej)} : firstRej (cs ++ ds) = none ↔ firstRej cs = none ∧ firstRej ds = none := by
  simp only [firstRej_eq_none, List.forall_mem_append]

/-! ### The header -/

/-- A load from host memory stands at its header. -/
structure AtHeader (s : State) (r : LoadRun) : Prop where
  run : s.load.run = some r
  phase : r.phase = 0
  host : r.net = false

/-- The load once its partial image's header has passed (R192, R212). -/
def LoadRun.pastPartialHeader (r : LoadRun) (s : State) (b : List Byte) : LoadRun :=
  let tlen := leAt b 8 4
  let hm := nbit (leAt b 0x10 4) 1
  { r with phase := if tlen - (if hm then 40 else 8) ≤ 64 then 2 else 1, bytes := b, feed := r.feed.drop 64, full := false, hmac := hm,
           nsec := leAt b 0xC 4, sq := leAt b 0x18 8, start := leAt b 0x20 8, group := leAt b 0x28 2,
           undo := { r.undo with pend := mget {} s.cmt.pend (leAt b 0x28 2) } }

section
variable {s : State} {r : LoadRun} (at_ : AtHeader s r)
include at_

theorem imageHeader_no_bytes : imageHeader s none = loadReject s r noSect ⟨0x010E, 0, 0⟩ := by
  obtain ⟨run, phase, host⟩ := at_
  simp [imageHeader, run, phase, host]

theorem imageHeader_rejects {bs : List Byte} {j : Rej}
    (fails : firstRej (headerChecks r (slice bs 0 64) ++ stateChecks s r (slice bs 0 64)) = some j) :
    imageHeader s (some bs) = loadReject s r noSect j := by
  obtain ⟨run, phase, host⟩ := at_
  simp [imageHeader, run, phase, host, fails]

theorem imageHeader_passes {bs : List Byte}
    (passes : firstRej (headerChecks r (slice bs 0 64) ++ stateChecks s r (slice bs 0 64)) = none)
    (partial_ : nbit (leAt (slice bs 0 64) 0x10 4) 0 = true) :
    imageHeader s (some bs) = emit { s with load := { s.load with run := some (r.pastPartialHeader s (slice bs 0 64)) } }
      (.hostRead (r.addr + 64) (r.len - 64)) := by
  obtain ⟨run, phase, host⟩ := at_
  simp [imageHeader, run, phase, host, passes, partial_, LoadRun.pastPartialHeader, trailerAt]

end

/-! ### A section -/

/-- The head of the section whose bytes stand at image offset `q` (R194). -/
def secHeadAt (q : Nat) (bs : List Byte) : SecHead := ⟨q, leAt bs 0 1, leAt bs 2 2, leAt bs 4 4, leAt bs 8 4⟩

/-- A load from host memory takes the next section, all of whose bytes `bs` have come. -/
structure AtSection (s : State) (r : LoadRun) (bs : List Byte) : Prop where
  run : s.load.run = some r
  phase : r.phase = 1
  host : r.net = false
  powered : powerWaits s r = false
  admitted : stageRefused s r = false
  counted : r.secs < r.nsec
  sized : 16 + (leAt bs 4 4 + 7) / 8 * 8 = bs.length
  small : bs.length ≤ 262144
  room : r.bytes.length + bs.length ≤ trailerAt r

/-- A load once a section has been written; `last`: the trailer comes next (R195, R212). -/
def LoadRun.pastSection (r : LoadRun) (h : SecHead) (bs : List Byte) (last : Bool) : LoadRun :=
  { r with bytes := r.bytes ++ bs, feed := if r.net then r.feed.drop bs.length else r.feed, secs := r.secs + 1, lastT := h.typ,
           lastG := (secKey h).1, lastE := (secKey h).2.2, hadDom := r.hadDom || h.typ == 1, hadOwn := r.hadOwn || h.typ == 2,
           named := r.named ++ secNames h, phase := if last then 2 else r.phase }

theorem onRun_onRun (s : State) (f g : LoadRun → LoadRun) : onRun (onRun s f) g = onRun s (fun r => g (f r)) := by
  cases run : s.load.run <;> simp [onRun, run]

/-- The first check that the section whose bytes are `bs` fails once it is staged (R212 step 3). -/
def sectionFinding (s : State) (r : LoadRun) (bs : List Byte) : Option Rej :=
  let h := secHeadAt r.bytes.length bs
  firstRej (sectionChecks r h bs ++ localChecks (stage s r (r.secs % 2) bs) r h ((bs.drop 16).take h.slen))

/-- The section is staged and checked: the first check that fails rejects the load, else its items are written. -/
theorem imageSection_eq {s : State} {r : LoadRun} {bs : List Byte} (at_ : AtSection s r bs) :
    let h := secHeadAt r.bytes.length bs
    let staged := stage s r (r.secs % 2) bs
    imageSection s (some bs) = (sectionFinding s r bs).elim
      (onRun (putSection staged r h ((bs.drop 16).take h.slen))
        (fun x => x.pastSection h bs (decide (trailerAt r ≤ r.bytes.length + bs.length))))
      (loadReject staged r r.secs) := by
  intro h staged
  obtain ⟨run, phase, host, powered, admitted, counted, sized, small, room⟩ := at_
  have whole : ¬ trailerAt r - r.bytes.length < bs.length := by omega
  have headed : ¬ trailerAt r - r.bytes.length < 16 ∧ ¬ trailerAt r < r.bytes.length + 16 := by omega
  by_cases last : trailerAt r ≤ r.bytes.length + bs.length <;>
    cases checked : sectionFinding s r bs <;> unfold sectionFinding secHeadAt at checked <;>
    simp [imageSection, run, phase, host, powered, admitted, sized, slice_whole, Nat.not_le.2 counted, Nat.not_lt.2 small,
      Nat.not_lt.2 room, headed, whole, firstRej_cons, firstRej_nil, checked, last, onRun_onRun, LoadRun.pastSection, h, secHeadAt, staged]

theorem imageSection_rejects {s : State} {r : LoadRun} {o : CmdOp} {bs : List Byte} {j : Rej} (at_ : AtSection s r bs) (fresh : r.undo = {})
    (found : opOf s r.agent r.handle 0x10 = some o) (answers : s.answers r.agent) (fails : sectionFinding s r bs = some j) :
    Rejects s (imageSection s (some bs)) o (j.record r.secs) := by
  rw [imageSection_eq at_, fails]
  exact loadReject_staged fresh found answers _ _ _ _

/-! ### A cistern section -/

/-- A cistern section of a full image with every byte in order passes (R194, R195, R201). -/
theorem sectionFinding_cisterns {s : State} {r : LoadRun} {bs : List Byte} (full : r.full = true) (whole : bs.length = 528)
    (slen : leAt bs 4 4 = 512) (crc : crc32c (bs.take 12 ++ bs.drop 16) = leAt bs 12 4) (typ : leAt bs 0 1 = 2) (reserved : leAt bs 1 1 = 0)
    (tgt : leAt bs 2 2 = 0) (aux : leAt bs 8 4 = 0) (order : 0 < r.secs → r.lastT < 2)
    (owners : ∀ k, k < 128 → leAt bs (17 + 4 * k) 3 = 0 ∧ leAt bs (16 + 4 * k) 1 ≤ 6) : sectionFinding s r bs = none := by
  have local_ (s : State) (q : Nat) : localChecks s r (secHeadAt q bs) ((bs.drop 16).take (secHeadAt q bs).slen)
      = secCisterns r (secHeadAt q bs) (bs.drop 16) := by
    simp [localChecks, secHeadAt, typ, slen, List.take_of_length_le, whole]
  rw [sectionFinding, local_, firstRej_append_eq_none]
  constructor
  · have padded : bs.drop (16 + 512) = [] := List.drop_eq_nil_of_le (by omega)
    have later : ¬ (0 < r.secs ∧ 2 < r.lastT) ∧ ¬ (0 < r.secs ∧ 2 = r.lastT) := by omega
    simp [sectionChecks, secHeadAt, typ, slen, tgt, aux, crc, reserved, maxTarget, firstRej_cons, firstRej_nil, padded, later]
  · rw [firstRej_eq_none]
    intro c listed
    simp only [secCisterns, secHeadAt, slen, full, leAt_drop, List.mem_cons, List.mem_flatMap, List.mem_range] at listed
    obtain rfl | ⟨k, hk, listed⟩ := listed
    · rfl
    · obtain ⟨zero, owner⟩ := owners k hk
      rw [show 17 + 4 * k = 16 + (4 * k + 1) by omega] at zero
      have named : leAt bs (16 + 4 * k) 1 ≠ 15 ∧ ¬ 6 < leAt bs (16 + 4 * k) 1 := by omega
      obtain rfl | rfl | rfl | rfl | none_ := listed
      · simp [zero]
      · simp [named]
      · simp [named]
      · simp
      · cases none_

theorem imageSection_cisterns {s : State} {r : LoadRun} {bs : List Byte} (at_ : AtSection s r bs) (typ : leAt bs 0 1 = 2)
    (slen : leAt bs 4 4 = 512) (whole : bs.length = 528) (passes : sectionFinding s r bs = none) :
    let u := putCisterns (stage s r (r.secs % 2) bs) r (bs.drop 16)
    let x := r.pastSection (secHeadAt r.bytes.length bs) bs (decide (trailerAt r ≤ r.bytes.length + bs.length))
    imageSection s (some bs) = { u with load := { u.load with run := some x } } := by
  intro u x
  have items (q : Nat) : putSection (stage s r (r.secs % 2) bs) r (secHeadAt q bs) ((bs.drop 16).take (secHeadAt q bs).slen) = u := by
    simp [putSection, secHeadAt, typ, slen, List.take_of_length_le, whole, u]
  have runs : u.load.run = some r := at_.run
  rw [imageSection_eq at_, passes, Option.elim, items, onRun, runs]

/-- A full image's owners wait for the start, each cistern's as the section gives it (R199, R201). -/
theorem own_putCisterns {s : State} {r : LoadRun} {bs : List Byte} (full : r.full = true) (owners : ∀ k, k < 128 → leAt bs (16 + 4 * k) 1 ≤ 6)
    {k : Nat} (hk : k < 128) : mget none (mget {} (putCisterns s r (bs.drop 16)).cmt.pend 256).own k = some (leAt bs (16 + 4 * k) 1) := by
  have written := mget_foldl_range_some (fun k => leAt bs (16 + 4 * k) 1) 15 (mget {} s.cmt.pend 256).own
    (fun k below => by have := owners k below; omega) hk
  simp only [putCisterns, onPend, loadKey, full, if_true, mget_mset_same, leAt_drop]
  exact written

/-! ### The trailer -/

/-- A load from host memory takes its trailer. -/
structure AtTrailer (s : State) (r : LoadRun) : Prop where
  run : s.load.run = some r
  phase : r.phase = 2
  host : r.net = false
  powered : powerWaits s r = false
  admitted : stageRefused s r = false

/-- What a trailer `b` is checked for: the sections (R195, R197), its reserved bytes, ICRC, DIGEST (R193, R198). -/
def trailerChecks (r : LoadRun) (b : List Byte) : List (Bool × Rej) :=
  [(r.secs != r.nsec, ⟨0x010F, 0xC, 0⟩), (r.full && !(r.hadDom && r.hadOwn), ⟨0x0106, noOff, 0⟩),
   (leAt b 4 4 != 0, ⟨0x0108, r.bytes.length + 4, 0⟩), (crc32c r.bytes != leAt b 0 4, ⟨0x010A, r.bytes.length, 0⟩),
   (r.hmac && hmacSha256 (r.key.getD []) (r.bytes ++ b.take 8) != b.drop 8, ⟨0x010B, r.bytes.length + 8, 0⟩)]

/-- Behind its sections and reserved bytes a trailer is held to the ICRC, then to the DIGEST (R193, R198). -/
theorem firstRej_trailerChecks {r : LoadRun} {b : List Byte} (counted : r.secs = r.nsec)
    (complete : r.full = true → r.hadDom = true ∧ r.hadOwn = true) (reserved : leAt b 4 4 = 0) :
    firstRej (trailerChecks r b) = if crc32c r.bytes ≠ leAt b 0 4 then some ⟨0x010A, r.bytes.length, 0⟩
      else if r.hmac = true ∧ hmacSha256 (r.key.getD []) (r.bytes ++ b.take 8) ≠ b.drop 8 then some ⟨0x010B, r.bytes.length + 8, 0⟩
      else none := by
  have domains : ¬ (r.full = true ∧ (r.hadDom = false ∨ r.hadOwn = false)) := fun ⟨full, missing⟩ => by simp [complete full] at missing
  simp [trailerChecks, firstRej_cons, firstRej_nil, counted, domains, reserved]

/-- The trailer is staged and checked, then the structure the load would make live: what fails rejects the load. -/
theorem imageTrailer_eq {s : State} {r : LoadRun} (at_ : AtTrailer s r) (bs : List Byte) :
    let b := slice bs 0 (if r.hmac then 40 else 8)
    let staged := stage s r (r.secs % 2) b
    imageTrailer s (some bs) = (firstRej (trailerChecks r b)).elim
      ((loadVerdict staged r).elim (loadDone staged r) (fun f => loadReject staged r noSect ⟨f.code, noOff, f.item⟩))
      (loadReject staged r noSect) := by
  intro b staged
  obtain ⟨run, phase, host, powered, admitted⟩ := at_
  cases checked : firstRej (trailerChecks r b) <;> unfold trailerChecks at checked <;> cases valid : loadVerdict staged r <;>
    simp only [imageTrailer, run, phase, host, powered, admitted, ne_eq, not_true, false_and, Bool.false_eq_true, or_self, if_false,
      checked, valid, b, staged, Option.elim]

/-- A full image that has passed is armed to start, and its command ends (R214, R303). -/
theorem loadDone_of_full {s : State} {r : LoadRun} {o : CmdOp} (full : r.full = true) (found : opOf s r.agent r.handle 0x10 = some o)
    (answers : s.answers r.agent) :
    let start := max r.start (s.btc.toNat + 5)
    loadDone s r = finished { s with load := { s.load with run := none, arm := some r }, cmt := { s.cmt with start := some start } } o 0 0
      (leBytes 8 r.sq ++ leBytes 8 start ++ leBytes 4 r.refused) := by
  simp [loadDone, full, loadEnd_of_answers found answers, finished]

section
variable {s : State} {r : LoadRun} {o : CmdOp} {bs : List Byte} (at_ : AtTrailer s r) (found : opOf s r.agent r.handle 0x10 = some o)
  (answers : s.answers r.agent)
include at_ found answers

theorem imageTrailer_rejects {j : Rej} (fresh : r.undo = {})
    (fails : firstRej (trailerChecks r (slice bs 0 (if r.hmac then 40 else 8))) = some j) :
    Rejects s (imageTrailer s (some bs)) o (j.record noSect) := by
  rw [imageTrailer_eq at_, fails]
  exact loadReject_staged fresh found answers _ _ _ _

theorem imageTrailer_arms (full : r.full = true) (passes : firstRej (trailerChecks r (slice bs 0 (if r.hmac then 40 else 8))) = none)
    (valid : loadVerdict (stage s r (r.secs % 2) (slice bs 0 (if r.hmac then 40 else 8))) r = none) :
    let staged := stage s r (r.secs % 2) (slice bs 0 (if r.hmac then 40 else 8))
    let start := max r.start (s.btc.toNat + 5)
    imageTrailer s (some bs)
      = finished { staged with load := { s.load with run := none, arm := some r }, cmt := { s.cmt with start := some start } } o 0 0
        (leBytes 8 r.sq ++ leBytes 8 start ++ leBytes 4 r.refused) := by
  intro staged start
  rw [imageTrailer_eq at_, passes, Option.elim, valid]
  exact loadDone_of_full (s := staged) full found answers

end

/-! ### The feed -/

theorem feedStall_of_host {s : State} {r : LoadRun} (run : s.load.run = some r) (host : r.net = false) : feedStall s = s := by
  simp [feedStall, run, host]

/-- A network feed that stalls before the header ends a partial load (R302). -/
theorem feedStall_at_header {s : State} {r : LoadRun} {o : CmdOp} (run : s.load.run = some r) (net : r.net = true) (header : r.phase = 0)
    (partial_ : r.full = false) (fresh : r.undo = {}) (found : opOf s r.agent r.handle 0x10 = some o) (answers : s.answers r.agent) :
    feedStall s = finished { s with load := { s.load with run := none } } o 4 1
      (leBytes 2 0x010E ++ leBytes 2 noSect ++ leBytes 4 (r.bytes.length + r.feed.length) ++ leBytes 4 0) := by
  simp only [feedStall, run, net, Bool.not_true, Bool.false_eq_true, if_false]
  rw [loadRestore_at_header partial_ header fresh, loadEnd_of_answers found answers, header]
  rfl

/-- Settles O40: each check's answer is one equation of the command, and the findings of a header are the model's list of checks. -/
theorem imageChecksAnswer : Obligations.ImageChecksAnswer := by
  intro st r o bs run found answers clean off record b flags part hm tlen g finding q halfAt owner trailer b0
  refine ⟨fun phase host partial_ fresh => ?_, fun phase host powered admitted full counted whole slen room => ?_,
    fun phase host powered admitted counted reserved complete => ?_, fun net header partial_ fresh => ?_, fun host => ?_⟩
  · have at_ : AtHeader st r := ⟨run, phase, host⟩
    have first : firstRej (headerChecks r b ++ stateChecks st r b) = finding.map (fun f => ⟨f.1, f.2, 0⟩) := by
      simp [headerChecks, stateChecks, finding, apply_ite (Option.map _), firstRej_cons, firstRej_nil, part, flags, hm, tlen, g, noOff, or_assoc]
    have ends (j : Rej) := loadReject_at_header partial_ phase fresh.1 found answers noSect j
    refine ⟨fun f hf => ?_, ?_, fun none_ partial_ => ?_⟩
    · rw [hf] at first
      exact congrArg Host.Outcome.next ((imageHeader_rejects at_ first).trans (ends _))
    · exact congrArg Host.Outcome.next ((imageHeader_no_bytes at_).trans (ends _))
    · rw [none_] at first
      refine congrArg Host.Outcome.next ((imageHeader_passes at_ first partial_).trans ?_)
      simp only [LoadRun.pastPartialHeader, fresh.1]
      rfl
  · have at_ : AtSection st r bs := ⟨run, phase, host, powered, admitted, counted, by omega, by omega, by omega⟩
    refine ⟨fun fresh wrong => ?_, fun crc typ reserved tgt aux order owners => ?_⟩
    · have fails : sectionFinding st r bs = some ⟨0x0109, q + 12, 0⟩ := by
        rw [sectionFinding, sectionChecks, List.cons_append, firstRej_cons, if_pos (bne_iff_ne.2 wrong)]
        rfl
      obtain ⟨idle, fin, cells, ctl⟩ := imageSection_rejects at_ fresh.1 found answers fails
      exact ⟨_, rfl, idle, fin, cells, ctl⟩
    · have staged := cisWord_stage st r (r.secs % 2) bs
      rw [whole] at staged
      have passes := sectionFinding_cisterns (s := st) full whole slen crc typ reserved tgt aux order owners
      refine ⟨_, congrArg Host.Outcome.next (imageSection_cisterns at_ typ slen whole passes),
        fun k => own_putCisterns full (fun k hk => (owners k hk).2), fun w hw => ?_, ?_, fun y hy => ?_, ?_, rfl, rfl, rfl, rfl⟩
      · refine (staged _).trans ((if_pos (by omega)).trans ?_)
        rw [Nat.add_sub_cancel_left]
      · refine (staged _).trans ((if_pos (by omega)).trans ?_)
        rw [Nat.add_sub_cancel_left, leAt_past_end (n := 6) (by omega) (by omega)]
      · exact (staged y).trans (if_neg (by omega))
      · simp [LoadRun.pastSection, secHeadAt, secKey, secNames, typ, tgt, host, phase, whole, q]
  · have at_ : AtTrailer st r := ⟨run, phase, host, powered, admitted⟩
    have first : firstRej (trailerChecks r trailer) = _ := firstRej_trailerChecks counted complete reserved
    refine ⟨fun fresh wrong => ?_, fun fresh crc signed wrong => ?_, fun crc digest full valid => ?_⟩
    · rw [if_pos wrong] at first
      obtain ⟨idle, fin, -, -⟩ := imageTrailer_rejects at_ found answers fresh.1 first
      exact ⟨_, rfl, idle, fin⟩
    · rw [if_neg (not_not.2 crc), if_pos ⟨signed, wrong⟩] at first
      obtain ⟨idle, fin, -, -⟩ := imageTrailer_rejects at_ found answers fresh.1 first
      exact ⟨_, rfl, idle, fin⟩
    · rw [if_neg (not_not.2 crc), if_neg fun h => h.2 (digest h.1)] at first
      exact ⟨_, congrArg Host.Outcome.next (imageTrailer_arms at_ found answers full first valid), rfl, rfl, rfl, rfl, rfl, rfl, rfl⟩
  · exact congrArg Host.Outcome.next (feedStall_at_header run net header partial_ fresh.1 found answers)
  · exact congrArg Host.Outcome.next (feedStall_of_host run host)

end Sys2Proof.Machine
end

section
/-! Proofs: how the ARM of a commit group answers (R229–R231). -/

namespace Sys2Proof.Machine

/-! ### Groups -/

theorem groupOf_setGroup (s : State) (g : Nat) (x : Group) (h : Nat) : groupOf (setGroup s g x) h = if h = g then x else groupOf s h :=
  mget_mset _ _ _ _ _

@[simp] theorem groupOf_setGroup_same (s : State) (g : Nat) (x : Group) : groupOf (setGroup s g x) g = x := mget_mset_same _ _ _ _

/-! ### ARM -/

/-- The group is open, and no CLEAR is outstanding (R231). -/
def GroupFree (s : State) (g : Nat) : Prop :=
  (groupOf s g).state = 0 ∧ s.cmt.clearAt = none ∧ s.host.ops.all (fun o => o.opc != 0x11) = true

theorem not_groupFree_iff (s : State) (g : Nat) : ¬ GroupFree s g ↔
    ((groupOf s g).state ≠ 0 ∨ s.cmt.clearAt.isSome ∨ s.host.ops.any (fun o => o.opc == 0x11)) := by
  have clears : s.host.ops.all (fun o => o.opc != 0x11) = !s.host.ops.any (fun o => o.opc == 0x11) := List.not_any_eq_all_not.symm
  rw [GroupFree, clears, not_and_or, not_and_or, Bool.not_eq_true, Bool.not_eq_false', Option.isSome_iff_ne_none]

/-- An ARM that is refused (R231). -/
def armRefused (s : State) (g r : Nat) : State := setGroup s g { groupOf s g with armr := r }

/-- An ARM that is accepted, with the target `b` (R229, R231). -/
def groupArmed (s : State) (g b : Nat) : State :=
  setGroup { s with cmt := { s.cmt with seq := s.cmt.seq + 1 } } g
    { groupOf s g with armr := 0, state := 1, rbtc := b, moved := false, refused := 0, assumed := [], seq := s.cmt.seq + 1 }

/-- The target a group's trigger names (R229, R230). -/
def armTarget (s : State) (x : Group) : Option Nat :=
  match x.trig with
  | 1 => some (x.ta.toNat + x.tb.toNat * 2 ^ 32)
  | 2 => if mapValid s then some (ptpTarget s (groupNs x)) else none
  | _ => some 0

theorem armTarget_next_tick {s : State} {x : Group} (trig : x.trig = 0) : armTarget s x = some 0 := by simp [armTarget, trig]

theorem armTarget_tick {s : State} {x : Group} (trig : x.trig = 1) : armTarget s x = some (x.ta.toNat + x.tb.toNat * 2 ^ 32) := by
  simp [armTarget, trig]

theorem armTarget_time {s : State} {x : Group} (trig : x.trig = 2) :
    armTarget s x = if mapValid s then some (ptpTarget s (groupNs x)) else none := by
  simp [armTarget, trig]

/-- An ARM that nothing but its target refuses (R229, R231). -/
def armAt (s : State) (g : Nat) : Option Nat → State
  | none => armRefused s g 3
  | some b => if (groupOf s g).trig ≠ 0 ∧ b ≤ s.btc.toNat + 2 then armRefused s g 2 else groupArmed s g b

section
variable {s : State} {g : Nat}

theorem groupArm_of_not_free (taken : ¬ GroupFree s g) : groupArm s g = armRefused s g 1 :=
  if_pos ((not_groupFree_iff s g).1 taken)

variable (free : GroupFree s g)
include free

theorem groupArm_of_free : groupArm s g = if (groupOf s g).trig = 3 then armRefused s g 5
    else if groupBusy s g then armRefused s g 4 else armAt s g (armTarget s (groupOf s g)) :=
  if_neg (fun taken => (not_groupFree_iff s g).2 taken free)

theorem groupArm_of_reserved (trig : (groupOf s g).trig = 3) : groupArm s g = armRefused s g 5 :=
  (groupArm_of_free free).trans (if_pos trig)

variable (trig : (groupOf s g).trig ≠ 3)
include trig

theorem groupArm_of_busy (busy : groupBusy s g = true) : groupArm s g = armRefused s g 4 :=
  (groupArm_of_free free).trans ((if_neg trig).trans (if_pos busy))

theorem groupArm_of_still (still : groupBusy s g = false) : groupArm s g = armAt s g (armTarget s (groupOf s g)) :=
  (groupArm_of_free free).trans ((if_neg trig).trans (if_neg (by simp [still])))

end

/-- Settles O23: an ARM is refused by the first condition that holds, and otherwise takes the target of its trigger. -/
theorem groupArmAnswers : Obligations.GroupArmAnswers := by
  intro st g x free late at_ refused armed
  refine ⟨fun taken => congrArg Host.Outcome.next (groupArm_of_not_free taken),
    fun free trig => congrArg Host.Outcome.next (groupArm_of_reserved free trig),
    fun free trig busy => congrArg Host.Outcome.next (groupArm_of_busy free (Nat.ne_of_lt trig) busy), fun free still => ?_⟩
  have arms (trig : x.trig ≠ 3) {target : Option Nat} (named : armTarget st x = target) : exec .cmtGCtlArm st = .next (armAt st g target) :=
    congrArg Host.Outcome.next (named ▸ groupArm_of_still free trig still)
  have timed {b : Nat} (immediate : x.trig ≠ 0) (trig : x.trig ≠ 3) (named : armTarget st x = some b) :
      if late b then refused 2 else armed b := by
    split
    · next tooLate => exact (arms trig named).trans (congrArg Host.Outcome.next (if_pos ⟨immediate, tooLate⟩))
    · next inTime => exact (arms trig named).trans (congrArg Host.Outcome.next (if_neg (fun h => inTime h.2)))
  have ne {a b : Nat} (trig : x.trig = a) (h : a ≠ b) : x.trig ≠ b := trig ▸ h
  refine ⟨fun trig => ?_, fun trig => timed (ne trig (by decide)) (ne trig (by decide)) (armTarget_tick trig), fun trig => ?_⟩
  · exact (arms (ne trig (by decide)) (armTarget_next_tick trig)).trans (congrArg Host.Outcome.next (if_neg (fun h => h.1 trig)))
  · have named : armTarget st x = _ := armTarget_time trig
    split
    · next unmapped => exact arms (ne trig (by decide)) (named.trans (if_neg (by simp [unmapped])))
    · next mapped => exact timed (ne trig (by decide)) (ne trig (by decide)) (named.trans (if_pos (by simpa using mapped)))

end Sys2Proof.Machine
end

section
/-! Proofs: the standing lists of commit groups (R227, R241). -/

namespace Sys2Proof.Machine

/-! ### The lists -/

/-- Group `g` with another standing list. -/
def withMembers (s : State) (g : Nat) (mem : List Nat) : State := setGroup s g { groupOf s g with mem := mem }

/-- Another standing list holds the member (R227). -/
def heldElsewhere (s : State) (g m : Nat) : Bool := s.cmt.groups.any (fun e => e.1 != g && e.2.mem.contains m)

theorem groupOf_withMembers (s : State) (g : Nat) (mem : List Nat) (h : Nat) :
    groupOf (withMembers s g mem) h = if h = g then { groupOf s g with mem := mem } else groupOf s h := groupOf_setGroup _ _ _ _

@[simp] theorem rget_withMembers (s : State) (g : Nat) (mem : List Nat) (a : Nat) : rget (withMembers s g mem) a = rget s a := rfl

theorem memAdd_eq (s : State) (g m : Nat) : memAdd s g m =
    if (groupOf s g).state = 0 ∧ memberValid s m = true ∧ heldElsewhere s g m = false
      then (false, if (groupOf s g).mem.contains m then s else withMembers s g ((groupOf s g).mem ++ [m]))
      else (true, s) := by
  have refused : ((groupOf s g).state ≠ 0 ∨ (!memberValid s m) = true ∨ heldElsewhere s g m = true) ↔
      ¬ ((groupOf s g).state = 0 ∧ memberValid s m = true ∧ heldElsewhere s g m = false) := by
    rw [not_and_or, not_and_or, Bool.not_eq_false, Bool.not_eq_true, Bool.not_eq_true']
  exact (if_congr refused rfl rfl).trans (ite_not _ _ _)

theorem memRem_eq (s : State) (g m : Nat) : memRem s g m =
    if (groupOf s g).state = 0 ∧ (groupOf s g).mem.contains m = true
      then (false, withMembers s g ((groupOf s g).mem.filter (· != m))) else (true, s) := by
  have refused : ((groupOf s g).state ≠ 0 ∨ (!(groupOf s g).mem.contains m) = true) ↔
      ¬ ((groupOf s g).state = 0 ∧ (groupOf s g).mem.contains m = true) := by
    rw [not_and_or, Bool.not_eq_true, Bool.not_eq_true']
  exact (if_congr refused rfl rfl).trans (ite_not _ _ _)

/-! ### CMT_MEM_CTL -/

theorem memberValid_rset (s : State) {a : Nat} (other : a ≠ 0x20000C) (v : W32) (m : Nat) : memberValid (rset s a v) m = memberValid s m := by
  have dom (c : Nat) : domOf (rset s a v) c = domOf s c := domOf_congr (by rw [rfld, rget_rset_other _ _ _ _ other.symm]; rfl)
  simp only [memberValid, dom]

/-- CMT_MEM_CTL names a kind, a group and an ID (R241). -/
def memNamed (s : State) (kind g id : Nat) : State := rput (rput (rput s 0x200120 24 4 kind) 0x200120 16 8 g) 0x200120 0 16 id

theorem memberValid_memNamed (s : State) (kind g id m : Nat) : memberValid (memNamed s kind g id) m = memberValid s m := by
  have other : 0x200120 ≠ 0x20000C := by decide
  rw [memNamed, rput, memberValid_rset _ other, rput, memberValid_rset _ other, rput, memberValid_rset _ other]

theorem rget_memNamed_other (s : State) (kind g id : Nat) {a : Nat} (other : a ≠ 0x200120) : rget (memNamed s kind g id) a = rget s a := by
  rw [memNamed, rget_rput_other _ _ _ _ _ _ other, rget_rput_other _ _ _ _ _ _ other, rget_rput_other _ _ _ _ _ _ other]

@[simp] theorem groupOf_memNamed (s : State) (kind g id h : Nat) : groupOf (memNamed s kind g id) h = groupOf s h := rfl

@[simp] theorem heldElsewhere_memNamed (s : State) (kind g id h m : Nat) :
    heldElsewhere (memNamed s kind g id) h m = heldElsewhere s h m := rfl

@[simp] theorem groupOf_rputBit (s : State) (a i : Nat) (b : Bool) (h : Nat) : groupOf (rputBit s a i b) h = groupOf s h := rfl

/-- What CMT_MEM_CTL leaves: ERR in the register, and group `g` with the list `mem`; nothing else changes (R227, R241). -/
structure MemAnswers (s t : State) (g : Nat) (err : Bool) (mem : List Nat) : Prop where
  rest : { t with ctl := s.ctl, cmt := s.cmt } = s
  cmt : t.cmt = { s.cmt with groups := t.cmt.groups }
  regs : ∀ a, a ≠ 0x200120 → rget t a = rget s a
  err : rbit t 0x200120 28 = err
  list : groupOf t g = { groupOf s g with mem := mem }
  others : ∀ h, h ≠ g → groupOf t h = groupOf s h

section
variable (s : State) (kind g id : Nat) (err : Bool)

theorem memAnswers_kept : MemAnswers s (rputBit (memNamed s kind g id) 0x200120 28 err) g err (groupOf s g).mem := by
  refine ⟨by simp [memNamed], rfl, fun a other => ?_, ?_, ?_, fun h _ => ?_⟩
  · rw [rget_rputBit_other _ _ _ _ _ other, rget_memNamed_other _ _ _ _ other]
  · exact (rbit_rputBit _ _ _ _ _ _ (by decide)).trans (if_pos ⟨rfl, rfl⟩)
  · rw [groupOf_rputBit, groupOf_memNamed]
  · rw [groupOf_rputBit, groupOf_memNamed]

theorem memAnswers_changed (mem : List Nat) :
    MemAnswers s (rputBit (withMembers (memNamed s kind g id) g mem) 0x200120 28 err) g err mem := by
  have list (h : Nat) : groupOf (rputBit (withMembers (memNamed s kind g id) g mem) 0x200120 28 err) h
      = if h = g then { groupOf s g with mem := mem } else groupOf s h := by
    rw [groupOf_rputBit, groupOf_withMembers, groupOf_memNamed, groupOf_memNamed]
  refine ⟨?_, ?_, fun a other => ?_, ?_, ?_, ?_⟩
  · simp [withMembers, setGroup, memNamed]
  · simp [withMembers, setGroup, memNamed]
  · rw [rget_rputBit_other _ _ _ _ _ other, rget_withMembers, rget_memNamed_other _ _ _ _ other]
  · exact (rbit_rputBit _ _ _ _ _ _ (by decide)).trans (if_pos ⟨rfl, rfl⟩)
  · exact (list g).trans (if_pos rfl)
  · exact fun h other => (list h).trans (if_neg other)

end

section
variable (s : State) (kind g id : Nat)

theorem memCtl_add :
    let m := kind * 65536 + id
    let x := groupOf s g
    let takes := x.state = 0 ∧ memberValid s m = true ∧ heldElsewhere s g m = false
    (takes → MemAnswers s (memCtl s kind g id true) g false (if x.mem.contains m then x.mem else x.mem ++ [m])) ∧
    (¬ takes → MemAnswers s (memCtl s kind g id true) g true x.mem) := by
  intro m x takes
  have ctl : memCtl s kind g id true
      = rputBit (memAdd (memNamed s kind g id) g m).2 0x200120 28 (memAdd (memNamed s kind g id) g m).1 := rfl
  rw [ctl, memAdd_eq, groupOf_memNamed, memberValid_memNamed, heldElsewhere_memNamed]
  refine ⟨fun h => ?_, fun h => ?_⟩
  · rw [if_pos h]
    by_cases listed : x.mem.contains m
    · rw [if_pos listed, if_pos listed]
      exact memAnswers_kept s kind g id false
    · rw [if_neg listed, if_neg listed]
      exact memAnswers_changed s kind g id false _
  · rw [if_neg h]
    exact memAnswers_kept s kind g id true

theorem memCtl_rem :
    let m := kind * 65536 + id
    let x := groupOf s g
    let takes := x.state = 0 ∧ x.mem.contains m = true
    (takes → MemAnswers s (memCtl s kind g id false) g false (x.mem.filter (· != m))) ∧
    (¬ takes → MemAnswers s (memCtl s kind g id false) g true x.mem) := by
  intro m x takes
  have ctl : memCtl s kind g id false
      = rputBit (memRem (memNamed s kind g id) g m).2 0x200120 28 (memRem (memNamed s kind g id) g m).1 := rfl
  rw [ctl, memRem_eq, groupOf_memNamed]
  refine ⟨fun h => ?_, fun h => ?_⟩
  · rw [if_pos h]
    exact memAnswers_changed s kind g id false _
  · rw [if_neg h]
    exact memAnswers_kept s kind g id true

end

/-- Settles O25: each command changes the one list where it is taken, and sets ERR alone where it is not. -/
theorem memberListsChange : Obligations.MemberListsChange := by
  intro st kind g id m x other answers
  have answered (i : Instr) {t : State} (runs : exec i st = .next t) {err : Bool} {mem : List Nat}
      (h : MemAnswers st t g.val err mem) : answers i err mem :=
    ⟨t, runs, h.rest, h.cmt, h.regs, h.err, h.list, h.others⟩
  have add := memCtl_add st kind.val g.val id.toNat
  have rem := memCtl_rem st kind.val g.val id.toNat
  constructor
  · split
    · next takes => exact answered (.cmtMemCtlAdd kind g id) rfl (add.1 takes)
    · next refuses => exact answered (.cmtMemCtlAdd kind g id) rfl (add.2 refuses)
  · split
    · next takes => exact answered (.cmtMemCtlRem kind g id) rfl (rem.1 takes)
    · next refuses => exact answered (.cmtMemCtlRem kind g id) rfl (rem.2 refuses)

end Sys2Proof.Machine
end

section
/-! Proofs: glide descriptors, and the end of a resynchronisation (R225, R235, R241). -/

namespace Sys2Proof.Machine

/-! ### Glide descriptors -/

/-- CMT_GLD_IDX names a cell, a slot and a table (R241). -/
def gldNamed (s : State) (cell slot : Nat) (live : Bool) : State :=
  rputBit (rput (rput s 0x200140 6 10 cell) 0x200140 0 6 slot) 0x200140 28 live

theorem rget_gldNamed_other (s : State) (cell slot : Nat) (live : Bool) {a : Nat} (other : a ≠ 0x200140) :
    rget (gldNamed s cell slot live) a = rget s a := by
  rw [gldNamed, rget_rputBit_other _ _ _ _ _ other, rget_rput_other _ _ _ _ _ _ other, rget_rput_other _ _ _ _ _ _ other]

theorem memberRefused_gldNamed {s : State} {m : Nat} {lock : LoadRun → Bool} (admitted : memberRefused s m lock = none) (cell slot : Nat)
    (live : Bool) : memberRefused (gldNamed s cell slot live) m lock = none := by
  rw [gldNamed, rputBit, rput, memberRefused_rset, rput, memberRefused_rset, rput, memberRefused_rset, admitted]
  rfl

/-- A descriptor written (R235). -/
def CellCmt.glided (c : CellCmt) (slot : Nat) (d : W32) : CellCmt :=
  { c with gPend := mset 0 c.gPend slot d, gMark := mset false c.gMark slot true }

theorem gldIdx_writes {s : State} {cell : Nat} (admitted : memberRefused s (memCell cell) (fun _ => false) = none) (slot : Nat) (live : Bool) :
    gldIdx s cell slot live true false = onCmtCell (gldNamed s cell slot live) cell (·.glided slot (rget s 0x200144)) := by
  have admitted' := memberRefused_gldNamed admitted cell slot live
  have d : rget (gldNamed s cell slot live) 0x200144 = rget s 0x200144 := rget_gldNamed_other s cell slot live (by decide)
  rw [← d]
  change (match memberRefused (gldNamed s cell slot live) (memCell cell) (fun _ => false) with | some t => t | none => _) = _
  rw [admitted']
  rfl

theorem gldIdx_reads_pending (s : State) (cell slot : Nat) : gldIdx s cell slot false false true =
    rset (gldNamed s cell slot false) 0x200144 (mget 0 (cmtCell s cell).gPend slot) := rfl

theorem gldIdx_reads_active (s : State) (cell slot : Nat) : ∃ progress, gldIdx s cell slot true false true =
    rset (rset (gldNamed s cell slot true) 0x200144 (mget 0 (cmtCell s cell).gAct slot)) 0x200148 progress := ⟨_, rfl⟩

theorem cmtCell_onCmtCell (s : State) (l : Nat) (f : CellCmt → CellCmt) (j : Nat) :
    cmtCell (onCmtCell s l f) j = if j = l then f (cmtCell s l) else cmtCell s j := mget_mset _ _ _ _ _

/-! ### A page copied -/

section
variable {α : Type} [DecidableEq α] {z : α}

/-- The entries of a canonical table, all from index `k` on, written over another from index `j` on. -/
theorem mget_foldl_mset_shifted {es : SMap α} {lo : Nat} (wf : mwfFrom (fun _ => z) lo es = true) {k : Nat} (from_ : ∀ e ∈ es, k ≤ e.1)
    (j : Nat) (m : SMap α) (i : Nat) : mget z (es.foldl (fun m e => mset z m (e.1 - k + j) e.2) m) i =
      if j ≤ i ∧ mget z es (i - j + k) ≠ z then mget z es (i - j + k) else mget z m i := by
  induction es generalizing lo m with
  | nil => exact (if_neg (fun h => h.2 rfl)).symm
  | cons e es ih =>
    obtain ⟨n, v⟩ := e
    simp only [mwfFrom, Bool.and_eq_true, decide_eq_true_eq] at wf
    obtain ⟨⟨-, listed⟩, rest⟩ := wf
    have first : k ≤ n := from_ (n, v) List.mem_cons_self
    rw [List.foldl_cons, ih rest (fun e he => from_ e (List.mem_cons_of_mem _ he)), mget_mset, mget_cons]
    by_cases here : j ≤ i ∧ n = i - j + k
    · obtain ⟨after, index⟩ := here
      have written : i = n - k + j := by omega
      have unlisted : mget z es (i - j + k) = z := by rw [← index]; exact mget_below rest (Nat.lt_succ_self n)
      rw [if_neg (fun h => h.2 unlisted), if_pos written, if_pos index, if_pos ⟨after, listed⟩]
    · have other : i ≠ n - k + j := by omega
      rw [if_neg other]
      by_cases after : j ≤ i
      · rw [if_neg (show ¬ n = i - j + k from fun h => here ⟨after, h⟩)]
      · rw [if_neg (fun h => after h.1), if_neg (fun h => after h.1)]

theorem mget_mcopyRange {src : SMap α} (wf : mwf z src = true) (m : SMap α) (k j n i : Nat) : mget z (mcopyRange z src m k j n) i =
    if j ≤ i ∧ i < j + n then mget z src (i - j + k) else mget z m i := by
  have part (x : Nat) : mget z (src.filter (fun e => decide (k ≤ e.1) && decide (e.1 < k + n))) x =
      if k ≤ x ∧ x < k + n then mget z src x else z := by
    simpa using mget_filter_index z (fun x => decide (k ≤ x) && decide (x < k + n)) src x
  have cleared : mget z (mclearRange m j n) i = if i < j ∨ j + n ≤ i then mget z m i else z := by
    simpa [mclearRange] using mget_filter_index z (fun x => decide (x < j) || decide (j + n ≤ x)) m i
  rw [mcopyRange, mget_foldl_mset_shifted (mwfFrom_filter _ _ _ 0 wf) (fun e he => by simpa using And.left (by simpa using (List.mem_filter.1 he).2)),
    part, cleared]
  by_cases inside : j ≤ i ∧ i < j + n
  · rw [if_pos inside, if_pos (show k ≤ i - j + k ∧ i - j + k < k + n by omega), if_neg (show ¬ (i < j ∨ j + n ≤ i) by omega)]
    split
    · rfl
    · next h => exact (not_not.1 (fun d => h ⟨inside.1, d⟩)).symm
  · rw [if_neg inside, if_pos (show i < j ∨ j + n ≤ i by omega), if_neg]
    rintro ⟨after, h⟩
    exact h (if_neg (by omega))

theorem mem_iff_mget {m : SMap α} {lo k : Nat} {v : α} (wf : mwfFrom (fun _ => z) lo m = true) (other : v ≠ z) :
    (k, v) ∈ m ↔ mget z m k = v := by
  induction m generalizing lo with
  | nil => exact ⟨fun h => absurd h List.not_mem_nil, fun h => absurd h.symm other⟩
  | cons e m ih =>
    obtain ⟨n, w⟩ := e
    simp only [mwfFrom, Bool.and_eq_true, decide_eq_true_eq] at wf
    obtain ⟨-, rest⟩ := wf
    rw [List.mem_cons, ih rest, mget_cons, Prod.mk.injEq]
    by_cases here : n = k
    · subst here
      simp [mget_below rest (Nat.lt_succ_self n), Ne.symm other, eq_comm]
    · simp [here, Ne.symm here]

end

/-! ### The end of a resynchronisation -/

theorem mem_marksIn {s : State} (wf : s.memWf) (k lo n a : Nat) :
    a ∈ marksIn s k lo n ↔ (lo ≤ a ∧ a < lo + n) ∧ mget false s.mem.mark (k * 0x4000 + a) = true := by
  obtain ⟨-, -, -, marks⟩ := wf
  rw [← mem_iff_mget marks (Bool.noConfusion : true ≠ false), marksIn, List.mem_filterMap]
  constructor
  · rintro ⟨⟨i, v⟩, listed, h⟩
    split at h
    · next inside =>
      obtain ⟨from_, below, marked⟩ := inside
      have index : i = k * 0x4000 + a := by simp at h; omega
      simp only at from_ below marked
      subst index marked
      exact ⟨by omega, listed⟩
    · cases h
  · rintro ⟨inside, listed⟩
    refine ⟨_, listed, ?_⟩
    simp only
    rw [if_pos ⟨by omega, by omega, trivial⟩, Nat.add_sub_cancel_left]

/-- The words of a page of slot `k` written over another (R225). -/
def pageCopied (s : State) (k act pen : Nat) : State :=
  { s with mem := { s.mem with cell := mcopyRange 0 s.mem.cell s.mem.cell (k * 0x4000 + act) (k * 0x4000 + pen) 0x800 } }

/-- Words at offsets `l` of slot `k`'s memories. -/
def wordsPut (s : State) (k : Nat) (f : Nat → Word) (l : List Nat) : State :=
  forEach (l.map (fun a => (a, f a))) s (fun s e => cellPut s k e.1 e.2)

theorem mget_wordsPut (s : State) (k : Nat) (f : Nat → Word) (l : List Nat) (i : Nat) : mget 0 (wordsPut s k f l).mem.cell i =
    if k * 0x4000 ≤ i ∧ i - k * 0x4000 ∈ l then f (i - k * 0x4000) else mget 0 s.mem.cell i := by
  induction l generalizing s with
  | nil => simp [wordsPut]
  | cons a l ih =>
    refine (ih (cellPut s k a (f a))).trans ?_
    rw [mget_cellPut]
    by_cases later : k * 0x4000 ≤ i ∧ i - k * 0x4000 ∈ l
    · rw [if_pos later, if_pos ⟨later.1, List.mem_cons_of_mem _ later.2⟩]
    · rw [if_neg later]
      by_cases here : i = k * 0x4000 + a
      · subst here; simp
      · rw [if_neg here, if_neg]
        rintro ⟨from_, h⟩
        rcases List.mem_cons.1 h with h | h
        · omega
        · exact later ⟨from_, h⟩

theorem resyncPage_alone {s : State} {k : Nat} (alone : (cellAt s k).lender = none) (act pen : Nat) :
    resyncPage s k act pen = wordsPut (pageCopied s k act pen) k (cellWord s k) (marksIn s k pen 0x800) := by
  have slots : memSlots s k = [k] := by simp [memSlots, memSlot, alone]
  unfold resyncPage
  rw [slots]
  rfl

/-- The copy of a page keeps its marked words (R225). -/
theorem mget_resyncPage {s : State} {k : Nat} (wf : s.memWf) (alone : (cellAt s k).lender = none) (act pen i : Nat) :
    mget 0 (resyncPage s k act pen).mem.cell i =
      if (k * 0x4000 + pen ≤ i ∧ i < k * 0x4000 + pen + 0x800) ∧ mget false s.mem.mark i = false
        then mget 0 s.mem.cell (i - (k * 0x4000 + pen) + (k * 0x4000 + act)) else mget 0 s.mem.cell i := by
  have copied : mget 0 (pageCopied s k act pen).mem.cell i = _ := mget_mcopyRange wf.2.2.1 s.mem.cell (k * 0x4000 + act) (k * 0x4000 + pen) 0x800 i
  rw [resyncPage_alone alone, mget_wordsPut, copied]
  simp only [mem_marksIn wf]
  by_cases inside : k * 0x4000 + pen ≤ i ∧ i < k * 0x4000 + pen + 0x800
  · have index : k * 0x4000 + (i - k * 0x4000) = i := by omega
    rw [index, cellWord, index]
    cases marked : mget false s.mem.mark i
    · simp [inside]
    · rw [if_pos ⟨by omega, ⟨by omega, by omega⟩, rfl⟩, if_neg (fun h => Bool.noConfusion h.2)]
  · have unlisted : ¬ (k * 0x4000 ≤ i ∧ (pen ≤ i - k * 0x4000 ∧ i - k * 0x4000 < pen + 0x800) ∧
        mget false s.mem.mark (k * 0x4000 + (i - k * 0x4000)) = true) := by
      rintro ⟨from_, within, -⟩
      omega
    rw [if_neg unlisted, if_neg inside, if_neg (fun h => inside h.1)]

/-- Asking every group again changes their targets alone. -/
theorem cmtResolveAll_rest (s : State) : ∃ gs, cmtResolveAll s = { s with cmt := { s.cmt with groups := gs } } := by
  unfold cmtResolveAll
  generalize s.cmt.groups.map (fun e => e.1) = l
  induction l generalizing s with
  | nil => exact ⟨_, rfl⟩
  | cons g l ih =>
    obtain ⟨gs, rest⟩ := ih (cmtResolve s g)
    refine ⟨gs, rest.trans ?_⟩
    unfold cmtResolve
    dsimp only
    split <;> rfl

theorem mem_cmtResolveAll (s : State) : (cmtResolveAll s).mem = s.mem := by
  obtain ⟨gs, rest⟩ := cmtResolveAll_rest s
  rw [rest]

theorem cmtCell_cmtResolveAll (s : State) (l : Nat) : cmtCell (cmtResolveAll s) l = cmtCell s l := by
  obtain ⟨gs, rest⟩ := cmtResolveAll_rest s
  rw [rest, cmtCell]
  rfl

/-- A resynchronisation of the coefficient page alone ends (R225). -/
theorem resyncDone_coefficients {s : State} {l : Nat} (coef : (cmtCell s l).rsK = true) (prog : (cmtCell s l).rsP = false) :
    resyncDone s l = cmtResolveAll (onCmtCell (resyncPage s (mapSlot s l) (0x1000 + 0x800 * kpage s (mapSlot s l))
      (0x1000 + 0x800 * (1 - kpage s (mapSlot s l)))) l (fun c => { c with rsK := false })) := by
  simp only [resyncDone, coef, prog, if_true, Bool.false_eq_true, false_and, if_false]

/-- The memories after it: the pending page's words that are not marked are the active page's (R225). -/
theorem cellWord_resyncDone {s : State} {l k pen : Nat} (wf : s.memWf) (slot : k = mapSlot s l) (pending : pen = 0x1000 + 0x800 * (1 - kpage s k))
    (coef : (cmtCell s l).rsK = true) (prog : (cmtCell s l).rsP = false) (alone : (cellAt s k).lender = none) (j off : Nat) :
    cellWord (resyncDone s l) j off =
      if (k * 0x4000 + pen ≤ j * 0x4000 + off ∧ j * 0x4000 + off < k * 0x4000 + pen + 0x800) ∧ mget false s.mem.mark (j * 0x4000 + off) = false
        then mget 0 s.mem.cell (j * 0x4000 + off - (k * 0x4000 + pen) + (k * 0x4000 + (0x1000 + 0x800 * kpage s k)))
        else cellWord s j off := by
  subst slot pending
  rw [resyncDone_coefficients coef prog, cellWord, mem_cmtResolveAll, mem_onCmtCell]
  exact mget_resyncPage wf alone _ _ _

/-- Settles O26: each access of CMT_GLD_IDX is one update behind the index register; a resynchronisation is the copy of the active page
that keeps the marked words. -/
theorem glidesAndResync : Obligations.GlidesAndResync := by
  refine ⟨fun st cell slot => ?_, fun st cell a wf => ?_⟩
  · intro c
    refine ⟨fun admitted =>
        ⟨_, congrArg Host.Outcome.next (gldIdx_writes admitted slot.val false), ?_, fun l other => ?_, fun a other => ?_, ?_⟩,
      ⟨_, congrArg Host.Outcome.next (gldIdx_reads_pending st cell.val slot.val), rget_rset_same _ _ _, fun a index data => ?_, ?_⟩, ?_⟩
    · exact (cmtCell_onCmtCell _ _ _ _).trans (if_pos rfl)
    · exact (cmtCell_onCmtCell _ _ _ _).trans (if_neg other)
    · rw [rget_onCmtCell, rget_gldNamed_other _ _ _ _ other]
    · simp [gldNamed, onCmtCell, setCmtCell]
    · rw [rget_rset_other _ _ _ _ data, rget_gldNamed_other _ _ _ _ index]
    · simp [gldNamed]
    · obtain ⟨progress, reads⟩ := gldIdx_reads_active st cell.val slot.val
      refine ⟨_, congrArg Host.Outcome.next reads, ?_, fun a index data progress' => ?_, ?_⟩
      · rw [rget_rset_other _ _ _ _ (by decide), rget_rset_same]
      · rw [rget_rset_other _ _ _ _ progress', rget_rset_other _ _ _ _ data, rget_gldNamed_other _ _ _ _ index]
      · simp [gldNamed]
  · intro l k pen coef prog alone page inside
    have word := cellWord_resyncDone wf (show k = mapSlot st l from rfl) (show pen = 0x1000 + 0x800 * (1 - kpage st k) from rfl) coef prog alone
    refine ⟨_, rfl, ?_, ?_, fun off outside j within => ?_⟩
    · rw [resyncDone_coefficients coef prog, cmtCell_cmtResolveAll, cmtCell_onCmtCell, if_pos rfl]
    · have index : k * 0x4000 + (pen + a) - (k * 0x4000 + pen) + (k * 0x4000 + (0x1000 + 0x800 * kpage st k))
          = k * 0x4000 + (0x1000 + 0x800 * kpage st k + a) := by omega
      refine (word k (pen + a)).trans ?_
      rw [index, ← Nat.add_assoc (k * 0x4000) pen a]
      cases mget false st.mem.mark (k * 0x4000 + pen + a)
      · rw [if_pos ⟨by omega, rfl⟩, if_neg Bool.false_ne_true, cellWord]
      · rw [if_neg (fun h => absurd h.2.symm Bool.false_ne_true), if_pos rfl]
    · refine (word j off).trans (if_neg ?_)
      have below : pen + 0x800 ≤ 0x4000 := by omega
      rintro ⟨within', -⟩
      omega

end Sys2Proof.Machine
end

section
/-! Proofs: validation, deadline and cancel of a commit group, with its record (R231–R234, R242). -/

namespace Sys2Proof.Machine

/-! ### What the control side of commit groups leaves alone -/

/-- From `s` to `t` nothing changes but the commit groups, what the event controller does of itself, the count of lost records and the
pending owners of cisterns (R231, R242, R246). -/
structure CmtOnly (s t : State) : Prop where
  rest : { offEv t with cmt := s.cmt } = offEv s
  regs : ∀ x, ¬ evReg x → x ≠ 0x200150 → x < 0x180000 ∨ 0x180200 ≤ x → rget t x = rget s x

theorem CmtOnly.trans {a b c : State} (h : CmtOnly a b) (k : CmtOnly b c) : CmtOnly a c :=
  ⟨(congrArg (fun u : State => { u with cmt := a.cmt }) k.rest).trans h.rest,
    fun x settled lost owners => (k.regs x settled lost owners).trans (h.regs x settled lost owners)⟩

theorem Settles.cmtOnly {s t : State} (h : Settles s t) : CmtOnly s t :=
  ⟨congrArg (fun u : State => { u with cmt := s.cmt }) h.rest, fun x settled _ _ => h.regs x settled⟩

theorem CmtOnly.of_cmt (s : State) (c : CmtSt) : CmtOnly s { s with cmt := c } := ⟨rfl, fun _ _ _ _ => rfl⟩

theorem CmtOnly.setGroup (s : State) (g : Nat) (x : Group) : CmtOnly s (setGroup s g x) := .of_cmt s _

section
variable {s t : State} (h : CmtOnly s t)
include h

theorem CmtOnly.cells : t.cells = s.cells := (congrArg State.cells h.rest :)
theorem CmtOnly.mem : t.mem = s.mem := (congrArg State.mem h.rest :)
theorem CmtOnly.btc : t.btc = s.btc := (congrArg State.btc h.rest :)
theorem CmtOnly.mtr : t.mtr = s.mtr := (congrArg State.mtr h.rest :)
theorem CmtOnly.ops : t.host.ops = s.host.ops := (congrArg (fun u : State => u.host.ops) h.rest :)
theorem CmtOnly.fin : t.host.fin = s.host.fin := (congrArg (fun u : State => u.host.fin) h.rest :)

theorem CmtOnly.agSt {a : Nat} (agent : a < 8) : agSt t a = agSt s a := by
  have page : rget t (pageA a) = rget s (pageA a) := h.regs _ (by unfold evReg pageA; omega) (by unfold pageA; omega) (by unfold pageA; omega)
  have session : 4 ≤ a → rget t (nsA a) = rget s (nsA a) := fun _ =>
    h.regs _ (by unfold evReg nsA; omega) (by unfold nsA; omega) (by unfold nsA; omega)
  unfold Machine.agSt rfld
  split
  · rw [page]
  · rw [session (by omega)]

theorem CmtOnly.answers {a : Nat} (agent : a < 8) (answers : s.answers a) : t.answers a := by
  obtain ⟨awake, untaken⟩ := answers
  refine ⟨by rwa [h.agSt agent], ?_⟩
  rw [histTakers, h.mtr]
  exact untaken

end

/-! ### The record of a group's end -/

/-- The record of a group that ends (R242). -/
def groupRecord (s : State) (g result reason m code : Nat) (fence : Bool) : CmtRec where
  w0 := BitVec.ofNat 32 (result * 2 ^ 28 + reason * 2 ^ 24 + m / 65536 % 16 * 2 ^ 20 + b2n fence * 2 ^ 19 + b2n (groupOf s g).moved * 2 ^ 18
    + b2n (decide ((groupOf s g).refused > 0)) * 2 ^ 17 + g)
  w1 := BitVec.ofNat 32 (groupOf s g).rbtc
  w2 := BitVec.ofNat 32 (code * 65536 + m % 65536)

theorem b2n_le (b : Bool) : b2n b ≤ 1 := by cases b <;> decide

theorem groupRecord_fields (s : State) {g result reason : Nat} (m code : Nat) (fence : Bool) (hg : g < 256) (hresult : result < 16)
    (hreason : reason < 16) :
    let r := groupRecord s g result reason m code fence
    r.w0.toNat / 2 ^ 28 = result ∧ r.w0.toNat / 2 ^ 24 % 16 = reason ∧ r.w0.toNat % 256 = g ∧ r.w2.toNat / 65536 = code % 65536 := by
  have hfence := b2n_le fence
  have hmoved := b2n_le (groupOf s g).moved
  have hrefused := b2n_le (decide ((groupOf s g).refused > 0))
  simp only [groupRecord, BitVec.toNat_ofNat]
  omega

theorem Settles.cmt {s t : State} (h : Settles s t) : t.cmt = s.cmt := (congrArg State.cmt h.rest :)

/-- A record that is lost is counted, one that fits stands behind the others (R242). -/
theorem cmtRecord_cases (s : State) (r : CmtRec) : CmtOnly s (cmtRecord s r) ∧ (cmtRecord s r).cmt =
    if s.cmt.recs.length < 32 then { s.cmt with recs := s.cmt.recs ++ [r] } else s.cmt := by
  unfold cmtRecord
  split
  · next full =>
    rw [if_neg (Nat.not_lt.2 full)]
    exact ⟨⟨rfl, fun x _ lost _ => (rget_rinc_other _ _ _ _ _ lost).trans (rget_rsetBit_other _ _ _ _ lost)⟩, rfl⟩
  · next room =>
    rw [if_pos (Nat.not_le.1 room)]
    have raised := evRaise_settles (Settles.refl { s with cmt := { s.cmt with recs := s.cmt.recs ++ [r] } }) 81 (by decide)
    exact ⟨(CmtOnly.of_cmt s _).trans raised.cmtOnly, raised.cmt⟩

theorem cmtRecord_groups (s : State) (r : CmtRec) : (cmtRecord s r).cmt.groups = s.cmt.groups := by
  rw [(cmtRecord_cases s r).2]
  split <;> rfl

theorem cmtRecord_recs {s : State} (room : s.cmt.recs.length < 32) (r : CmtRec) : (cmtRecord s r).cmt.recs = s.cmt.recs ++ [r] := by
  rw [(cmtRecord_cases s r).2, if_pos room]

/-! ### The end of a group -/

theorem cisGroupDiscard_only (s : State) (g : Nat) : CmtOnly s (cisGroupDiscard s g) ∧ (cisGroupDiscard s g).cmt = s.cmt := by
  refine forN_induction (P := fun t _ => CmtOnly s t ∧ t.cmt = s.cmt) _ 128 ⟨.of_cmt s s.cmt, rfl⟩ fun t k hk h => ?_
  split
  · refine ⟨h.1.trans ⟨rfl, fun x _ _ owners => ?_⟩, h.2⟩
    have other : x ≠ cisOwnerA k := by unfold cisOwnerA; omega
    exact (rget_rput_other _ _ _ _ _ _ other).trans (rget_rputBit_other _ _ _ _ _ other)
  · exact h

theorem cmtWaiters_of_none {s : State} (unwaited : ∀ o ∈ s.host.ops, o.opc ≠ 0x20) (g result reason : Nat) (r : CmtRec) (b : Nat) :
    cmtWaiters s g result reason r b = s := by
  have none : s.host.ops.filter (fun o => o.opc == 0x20 && o.started && o.arg == g) = [] := by
    rw [List.filter_eq_nil_iff]
    intro o ho
    simp [unwaited o ho]
  unfold cmtWaiters
  rw [none]
  rfl

theorem mem_minsert {α : Type} (m : SMap α) (k : Nat) (v : α) (e : Nat × α) : e ∈ minsert m k v ↔ e = (k, v) ∨ e ∈ m := by
  induction m with
  | nil => simp [minsert]
  | cons f m ih =>
    unfold minsert
    split
    · rw [List.mem_cons, ih, List.mem_cons]; exact or_left_comm
    · exact List.mem_cons

/-- An index written is listed with the value written alone. -/
theorem eq_of_mem_mset {α : Type} [DecidableEq α] {z : α} {m : SMap α} {k : Nat} {v w : α} (listed : (k, w) ∈ mset z m k v) : w = v := by
  have dropped (u : α) : (k, u) ∉ mdrop m k := fun h => by simpa using (List.mem_filter.1 h).2
  unfold mset msetD at listed
  split at listed
  · exact absurd listed (dropped w)
  · rcases (mem_minsert _ _ _ _).1 listed with h | h
    · exact congrArg Prod.snd h
    · exact absurd h (dropped w)

/-- The groups that assumed `g` (R232). -/
def assumers (s : State) (g : Nat) : List Nat :=
  s.cmt.groups.filterMap (fun e => if e.2.state = 2 ∧ e.2.assumed.contains g then some e.1 else none)

theorem revalidate_only (s : State) (g : Nat) : CmtOnly s (revalidate s g) ∧ (revalidate s g).cmt.recs = s.cmt.recs ∧
    ∀ h, h ∉ assumers s g → groupOf (revalidate s g) h = groupOf s h := by
  have rounds (l : List Nat) (s : State) : let t := forEach l s (fun s h => setGroup s h { groupOf s h with state := 1 })
      CmtOnly s t ∧ t.cmt.recs = s.cmt.recs ∧ ∀ h, h ∉ l → groupOf t h = groupOf s h := by
    induction l generalizing s with
    | nil => exact ⟨.of_cmt s s.cmt, rfl, fun _ _ => rfl⟩
    | cons j l ih =>
      obtain ⟨only, recs, kept⟩ := ih (setGroup s j { groupOf s j with state := 1 })
      refine ⟨(CmtOnly.setGroup s j _).trans only, recs, fun h other => ?_⟩
      rw [List.mem_cons, not_or] at other
      exact (kept h other.2).trans ((groupOf_setGroup _ _ _ _).trans (if_neg other.1))
  exact rounds (assumers s g) s

/-- From `s` to `t` group `g` ends with a result and its record (R231, R242). -/
structure GroupEnds (s t : State) (g result : Nat) (r : CmtRec) : Prop where
  only : CmtOnly s t
  group : groupOf t g = { groupOf s g with state := 0, last := result, rbtc := 0, assumed := [] }
  recs : s.cmt.recs.length < 32 → t.cmt.recs = s.cmt.recs ++ [r]

/-- The group is open again, its requests of cisterns discarded where the result says so (R231, R246). -/
def groupReopened (s : State) (g result : Nat) : State :=
  let t := setGroup s g { groupOf s g with state := 0, last := result, rbtc := 0, assumed := [] }
  if result = 3 ∨ result = 4 then cisGroupDiscard t g else t

theorem groupReopened_only (s : State) (g result : Nat) : CmtOnly s (groupReopened s g result) ∧
    (groupReopened s g result).cmt
      = (setGroup s g { groupOf s g with state := 0, last := result, rbtc := 0, assumed := [] }).cmt := by
  unfold groupReopened
  dsimp only
  split
  · exact ⟨(CmtOnly.setGroup s g _).trans (cisGroupDiscard_only _ g).1, (cisGroupDiscard_only _ g).2⟩
  · exact ⟨.setGroup s g _, rfl⟩

theorem groupResult_ends {s : State} (unwaited : ∀ o ∈ s.host.ops, o.opc ≠ 0x20) (g result reason m code : Nat) (fence : Bool) :
    GroupEnds s (revalidate (groupResult s g result reason m code fence) g) g result (groupRecord s g result reason m code fence) := by
  obtain ⟨only, cmt⟩ := groupReopened_only s g result
  generalize hr : groupRecord s g result reason m code fence = r
  have only' : CmtOnly s (cmtRecord (groupReopened s g result) r) := only.trans (cmtRecord_cases _ r).1
  have groups : (cmtRecord (groupReopened s g result) r).cmt.groups = _ := (cmtRecord_groups _ r).trans (congrArg CmtSt.groups cmt)
  have ends : groupResult s g result reason m code fence = cmtRecord (groupReopened s g result) r := by
    have shape : groupResult s g result reason m code fence = cmtWaiters (cmtRecord (groupReopened s g result)
        (groupRecord s g result reason m code fence)) g result reason (groupRecord s g result reason m code fence) (groupOf s g).rbtc := rfl
    rw [shape, hr]
    refine cmtWaiters_of_none (fun o ho => unwaited o ?_) _ _ _ _ _
    rwa [only'.ops] at ho
  obtain ⟨again, recs, kept⟩ := revalidate_only (cmtRecord (groupReopened s g result) r) g
  rw [ends]
  refine ⟨only'.trans again, (kept g fun assumes => ?_).trans ?_, fun room => recs.trans ((cmtRecord_recs ?_ r).trans ?_)⟩
  · obtain ⟨⟨j, x⟩, listed, h⟩ := List.mem_filterMap.1 assumes
    rw [groups] at listed
    split at h
    · next armed =>
      cases h
      have ended := eq_of_mem_mset listed
      rw [ended] at armed
      exact absurd armed.1 (by simp)
    · cases h
  · rw [groupOf, groups]; exact mget_mset_same _ _ _ _
  · rw [cmt]; exact room
  · rw [cmt]; rfl

/-! ### Validation -/

/-- The finding a group's validation reports (R215, R232). -/
def groupVerdict (s : State) (g : Nat) : Option Finding :=
  let gs := groupsBefore s g ++ [g]
  let t := wouldBe s gs
  verdict (allFindings s t (crossArmed s t) (idleMarked s t (gs.flatMap (claims s))) [])

theorem cmtResolve_of_timed {s : State} {g : Nat} (timed : (groupOf s g).trig ≠ 0) : cmtResolve s g = s :=
  if_neg (fun h => timed h.2.1)

section
variable {s : State} {g : Nat}

theorem validateGroup_of_not_validating (other : (groupOf s g).state ≠ 1) : validateGroup s g = s := by
  rw [validateGroup, if_pos other]

variable (validating : (groupOf s g).state = 1)
include validating

theorem validateGroup_passes (timed : (groupOf s g).trig ≠ 0) (clean : groupVerdict s g = none) :
    validateGroup s g = setGroup s g { groupOf s g with state := 2, assumed := groupsBefore s g } := by
  unfold groupVerdict at clean
  simp only [validateGroup, validating, ne_eq, not_true_eq_false, if_false, clean]
  exact cmtResolve_of_timed (by rwa [groupOf_setGroup_same])

theorem validateGroup_fails {f : Finding} (found : groupVerdict s g = some f) :
    validateGroup s g = revalidate (groupResult s g 3 0 (findMember f) f.code false) g := by
  unfold groupVerdict at found
  simp only [validateGroup, validating, ne_eq, not_true_eq_false, if_false, found]

end

/-! ### Deadline and cancel -/

section
variable {s : State} {g : Nat}

theorem groupDeadline_waits (early : (groupOf s g).rbtc = 0 ∨ s.btc.toNat + 2 < (groupOf s g).rbtc) : groupDeadline s g = s := if_pos early

section
variable (resolved : 0 < (groupOf s g).rbtc) (reached : (groupOf s g).rbtc ≤ s.btc.toNat + 2)
include resolved reached

theorem groupDeadline_due (armed : (groupOf s g).state = 2) (ready : (claims s g).all (memberReady s) = true) :
    groupDeadline s g = setGroup s g { groupOf s g with state := 3 } := by
  have none : (claims s g).find? (fun m => !memberReady s m) = none := by simpa using ready
  refine (if_neg (by omega)).trans ((if_neg (by omega)).trans ((if_pos armed).trans ?_))
  rw [none]

theorem groupDeadline_misses (validating : (groupOf s g).state = 1) :
    groupDeadline s g = revalidate (groupResult s g 2 1 ((claims s g).headD 0) 0 false) g :=
  (if_neg (by omega)).trans (if_pos validating)

end

theorem groupCancel_refused (taken : (groupOf s g).state = 0 ∨ (groupOf s g).state = 3) :
    groupCancel s g = setGroup s g { groupOf s g with armr := 1 } := if_pos taken

theorem groupCancel_ends (unwaited : ∀ o ∈ s.host.ops, o.opc ≠ 0x20) (ending : (groupOf s g).state = 1 ∨ (groupOf s g).state = 2) :
    GroupEnds (setGroup s g { groupOf s g with armr := 0 }) (groupCancel s g) g 4
      (groupRecord (setGroup s g { groupOf s g with armr := 0 }) g 4 0 0 0 false) := by
  have cancels : groupCancel s g = revalidate (groupResult (setGroup s g { groupOf s g with armr := 0 }) g 4 0 0 0 false) g :=
    if_neg (by omega)
  rw [cancels]
  exact groupResult_ends (s := setGroup s g { groupOf s g with armr := 0 }) unwaited g 4 0 0 0 false

end

/-- Settles O24: what each command does with the group is one case of it, and every end is that of `GroupEnds`. -/
theorem groupValidatesAndEnds : Obligations.GroupValidatesAndEnds := by
  intro st n idle g x ends hs v
  have unwaited : ∀ o ∈ st.host.ops, o.opc ≠ 0x20 := by simp [idle]
  have ended (i : Instr) {s t : State} (runs : exec i st = .next t) (only : CmtOnly st s) (recs : s.cmt.recs = st.cmt.recs)
      {result reason m code : Nat} (bounds : result < 16 ∧ reason < 16)
      (h : GroupEnds s t g result (groupRecord s g result reason m code false)) : ends i result reason (code % 65536) := by
    refine ⟨t, runs, ?_, ?_, (only.trans h.only).cells, (only.trans h.only).mem, (only.trans h.only).btc, fun room => ⟨_, ?_,
      groupRecord_fields s m code false n.isLt bounds.1 bounds.2⟩⟩
    · rw [h.group]
    · rw [h.group]
    · rw [h.recs (by rwa [recs]), recs]
  have cancels (selected : rfld st 0x200100 0 8 = g) : exec .cmtGCtlCancel st = .next (groupCancel st g) := by rw [← selected]; rfl
  have here : CmtOnly st st := .of_cmt st st.cmt
  refine ⟨fun other => congrArg Host.Outcome.next (validateGroup_of_not_validating other),
    fun validating timed clean => congrArg Host.Outcome.next (validateGroup_passes validating timed clean),
    fun f validating found => ?_, fun early => congrArg Host.Outcome.next (groupDeadline_waits early),
    fun armed resolved reached ready => congrArg Host.Outcome.next (groupDeadline_due resolved reached armed ready),
    fun validating resolved reached => ?_, fun selected taken => ?_, fun selected ending => ?_⟩
  · exact ended (.commitValidationDone n) (congrArg Host.Outcome.next (validateGroup_fails validating found)) here rfl (by decide)
      (groupResult_ends unwaited _ _ _ _ _ _)
  · exact ended (.commitDeadline n) (congrArg Host.Outcome.next (groupDeadline_misses resolved reached validating)) here rfl (by decide)
      (groupResult_ends unwaited _ _ _ _ _ _)
  · exact (cancels selected).trans (congrArg Host.Outcome.next (groupCancel_refused taken))
  · exact ended .cmtGCtlCancel (cancels selected) (.setGroup st g _) rfl (by decide) (groupCancel_ends unwaited ending)

end Sys2Proof.Machine
end

section
/-! Proofs: host commands on commit groups, memberships and registers (R227, R231, R302, R303, R323). -/

namespace Sys2Proof.Machine

/-! ### The command at hand -/

theorem withOp_of_found {s : State} {a h opc : Nat} {o : CmdOp} (found : opOf s a h opc = some o) (f : State → CmdOp → State) :
    withOp s a h opc f = f s o := by
  rw [withOp, found]

theorem opc_of_opOf {s : State} {a h opc : Nat} {o : CmdOp} (found : opOf s a h opc = some o) : o.opc = opc := by
  have sought := List.find?_some found
  simp only [Bool.and_eq_true, beq_iff_eq] at sought
  exact sought.2

/-! ### COMMIT -/

/-- The group with the trigger a COMMIT names (R303). -/
def commitAsked (x : Group) (o : CmdOp) : Group :=
  if o.flags % 4 = 1 then { x with trig := 1, ta := BitVec.ofNat 32 (leAt o.params 0 4), tb := BitVec.ofNat 32 (leAt o.params 4 4), tc := 0 }
  else if o.flags % 4 = 2 then
    { x with trig := 2, ta := BitVec.ofNat 32 (leAt o.params 0 4), tb := BitVec.ofNat 32 (leAt o.params 4 2),
             tc := BitVec.ofNat 32 (leAt o.params 8 4) }
  else { x with trig := o.flags % 4 }

/-- The state once a COMMIT has asked for its group's ARM (R231, R303). -/
def commitArmed (s : State) (o : CmdOp) : State :=
  groupArm (if (groupOf s o.arg).state = 0 then setGroup s o.arg (commitAsked (groupOf s o.arg) o) else s) o.arg

theorem commitCmd_of_started {s : State} {o : CmdOp} (started : o.started = true) : commitCmd s o = s := if_pos started

theorem commitCmd_of_fresh {s : State} {o : CmdOp} (fresh : o.started = false) : commitCmd s o =
    if (groupOf (commitArmed s o) o.arg).armr ≠ 0 then opEnd (commitArmed s o) o 2 (groupOf (commitArmed s o) o.arg).armr []
    else if nbit o.flags 2 then opStart (commitArmed s o) o
    else opEnd (commitArmed s o) o 0 0 (leBytes 8 (groupOf (commitArmed s o) o.arg).rbtc) := by
  unfold commitCmd commitArmed commitAsked
  simp only [fresh, Bool.false_eq_true, if_false, ne_eq, ite_not]
  by_cases one : o.flags % 4 = 1
  · simp only [one, if_true]
  · by_cases two : o.flags % 4 = 2
    · simp only [two, if_true, OfNat.ofNat_ne_one, if_false]
    · simp only [one, two, if_false]

theorem groupArm_only (s : State) (g : Nat) : CmtOnly s (groupArm s g) := by
  by_cases free : GroupFree s g
  · by_cases reserved : (groupOf s g).trig = 3
    · rw [groupArm_of_reserved free reserved]; exact .setGroup s g _
    · cases still : groupBusy s g
      · rw [groupArm_of_still free reserved still]
        cases armTarget s (groupOf s g) with
        | none => exact .setGroup s g _
        | some b =>
          rw [armAt]
          split
          · exact .setGroup s g _
          · exact .of_cmt s _
      · rw [groupArm_of_busy free reserved still]; exact .setGroup s g _
  · rw [groupArm_of_not_free free]; exact .setGroup s g _

theorem commitArmed_only (s : State) (o : CmdOp) : CmtOnly s (commitArmed s o) := by
  refine CmtOnly.trans ?_ (groupArm_only _ o.arg)
  split
  · exact .setGroup s o.arg _
  · exact .of_cmt s s.cmt

/-! ### Registers -/

/-- The reads of a REG_RD one after another are those upward from its address. -/
theorem foldl_reads (ctx n a : Nat) (bs : List Byte) (s : State) :
    (List.range n).foldl (fun (q : List Byte × State) (i : Nat) =>
      (q.1 ++ leBytes 4 (readAny q.2 ctx (a + 4 * i) 4).1.toNat, (readAny q.2 ctx (a + 4 * i) 4).2)) (bs, s)
      = (bs ++ (readsUp ctx n a s).1, (readsUp ctx n a s).2) := by
  induction n generalizing a bs s with
  | zero => simp [readsUp]
  | succ n ih =>
    have next (i : Nat) : a + 4 * (i + 1) = a + 4 + 4 * i := by omega
    simp only [List.range_succ_eq_map, List.foldl_cons, List.foldl_map, next, Nat.mul_zero, Nat.add_zero, ih, readsUp, List.append_assoc]

theorem forN_writes (ctx : Nat) (f : WrFacts) (n a : Nat) (v : Nat → W32) (s : State) :
    forN n s (fun s i => writeAny s ctx f (a + 4 * i) 4 (v i)) = writesUp ctx f ((List.range n).map v) a s := by
  unfold forN
  induction n generalizing a v s with
  | zero => rfl
  | succ n ih =>
    have next (i : Nat) : a + 4 * (i + 1) = a + 4 + 4 * i := by omega
    have rest := ih (a + 4) (fun i => v (i + 1)) (writeAny s ctx f a 4 (v 0))
    simp only [List.range_succ_eq_map, List.foldl_cons, List.foldl_map, next, Nat.mul_zero, Nat.add_zero, rest, List.map_cons,
      List.map_map, writesUp]
    rfl

theorem regRd_reads (s : State) (o : CmdOp) : regRd s o =
    opEnd (readsUp o.agent o.arg (leAt o.params 0 4) s).2 o 0 0 (readsUp o.agent o.arg (leAt o.params 0 4) s).1 := by
  have reads := foldl_reads o.agent o.arg (leAt o.params 0 4) [] s
  unfold regRd
  dsimp only
  rw [reads, List.nil_append]

/-- Writes that leave the command standing end it with its completion (R285, R303). -/
theorem regWr_of_kept {s t : State} {o : CmdOp} {f : WrFacts} (written : writesUp o.agent { f with fw := false }
      ((List.range o.arg).map (fun i => BitVec.ofNat 32 (leAt o.params (4 + 4 * i) 4))) (leAt o.params 0 4) s = t)
    (kept : t.host.ops.contains o = true) : regWr s o f = opEnd t o 0 0 [] := by
  unfold regWr
  dsimp only
  rw [forN_writes o.agent { f with fw := false } o.arg _ (fun i => BitVec.ofNat 32 (leAt o.params (4 + 4 * i) 4)), written, if_pos kept]

/-! ### COMMIT_CANCEL and COMMIT_MEMBER -/

theorem commitCancel_refused {s : State} {o : CmdOp} (taken : (groupOf s o.arg).state = 0 ∨ (groupOf s o.arg).state = 3) :
    commitCancel s o = opEnd (setGroup s o.arg { groupOf s o.arg with armr := 1 }) o 2 1 [] := by
  unfold commitCancel
  dsimp only
  rw [groupCancel_refused taken, groupOf_setGroup_same]
  exact if_pos Nat.one_ne_zero

theorem commitCancel_ends {s : State} {o : CmdOp} (unwaited : ∀ o ∈ s.host.ops, o.opc ≠ 0x20)
    (ending : (groupOf s o.arg).state = 1 ∨ (groupOf s o.arg).state = 2) : commitCancel s o = opEnd (groupCancel s o.arg) o 0 0 [] := by
  have accepted : (groupOf (groupCancel s o.arg) o.arg).armr = 0 := by
    rw [(groupCancel_ends unwaited ending).group, groupOf_setGroup_same]
  unfold commitCancel
  dsimp only
  rw [accepted]
  exact if_neg (not_not.2 rfl)

/-- The member a COMMIT_MEMBER names (R209). -/
def memberNamed (o : CmdOp) : Nat := leAt o.params 0 1 * 65536 + leAt o.params 2 2

theorem withMembers_only (s : State) (g : Nat) (mem : List Nat) : CmtOnly s (withMembers s g mem) := .setGroup s g _

theorem commitMember_adds {s : State} {o : CmdOp} (add : nbit o.flags 0 = false) : commitMember s o =
    if (groupOf s o.arg).state = 0 ∧ memberValid s (memberNamed o) = true ∧ heldElsewhere s o.arg (memberNamed o) = false
      then opEnd (if (groupOf s o.arg).mem.contains (memberNamed o) then s
        else withMembers s o.arg ((groupOf s o.arg).mem ++ [memberNamed o])) o 0 0 []
      else opEnd s o 1 0 [] := by
  have acts : commitMember s o
      = opEnd (memAdd s o.arg (memberNamed o)).2 o (if (memAdd s o.arg (memberNamed o)).1 then 1 else 0) 0 [] := by
    unfold commitMember
    dsimp only
    rw [add]
    rfl
  rw [acts, memAdd_eq]
  split
  · rfl
  · rfl

theorem commitMember_removes {s : State} {o : CmdOp} (rem : nbit o.flags 0 = true) : commitMember s o =
    if (groupOf s o.arg).state = 0 ∧ (groupOf s o.arg).mem.contains (memberNamed o) = true
      then opEnd (withMembers s o.arg ((groupOf s o.arg).mem.filter (· != memberNamed o))) o 0 0 []
      else opEnd s o 1 0 [] := by
  have acts : commitMember s o
      = opEnd (memRem s o.arg (memberNamed o)).2 o (if (memRem s o.arg (memberNamed o)).1 then 1 else 0) 0 [] := by
    unfold commitMember
    dsimp only
    rw [rem]
    rfl
  rw [acts, memRem_eq]
  split
  · rfl
  · rfl

/-! ### Memberships -/

/-- The memberships a NET_JOIN names, one on each port named (R302, R323). -/
def joinsNamed (o : CmdOp) : List Member :=
  ((List.range 2).filter (fun k => nbit (leAt o.params 0 1) k)).map
    (fun k => { port := k, group := slice o.params 8 16, src := slice o.params 24 16, flow := o.arg })

theorem mem_joinsNamed (o : CmdOp) (y : Member) : y ∈ joinsNamed o ↔ ∃ k : Fin 2, nbit (leAt o.params 0 1) k.val = true ∧
    y = { port := k.val, group := slice o.params 8 16, src := slice o.params 24 16, flow := o.arg } := by
  simp only [joinsNamed, List.mem_map, List.mem_filter, List.mem_range]
  constructor
  · rintro ⟨k, ⟨hk, named⟩, rfl⟩
    exact ⟨⟨k, hk⟩, named, rfl⟩
  · rintro ⟨k, named, rfl⟩
    exact ⟨k.val, ⟨k.isLt, named⟩, rfl⟩

/-- The device with other memberships. -/
def withJoins (s : State) (joins : List Member) : State := { s with net := { s.net with joins := joins } }

theorem answers_withJoins {s : State} {a : Nat} (answers : s.answers a) (joins : List Member) : (withJoins s joins).answers a := answers

theorem netJoin_leaves {s : State} {o : CmdOp} (leave : nbit o.flags 0 = true) :
    netJoin s o = opEnd (withJoins s (s.net.joins.filter (fun m => !(joinsNamed o).contains m))) o 0 0 [] := if_pos leave

/-- With fewer than 2,048 memberships in all, every one named fits (R323). -/
theorem netJoin_joins {s : State} {o : CmdOp} (join : nbit o.flags 0 = false) (room : s.net.joins.length < 2048) :
    netJoin s o = opEnd (withJoins s (s.net.joins ++ (joinsNamed o).filter (fun m => !s.net.joins.contains m))) o 0 0 [] := by
  have fits (l : List Member) : l.filter (fun m => decide ((s.net.joins.filter (fun x => x.port == m.port)).length < 2048)) = l := by
    rw [List.filter_eq_self]
    intro m _
    exact decide_eq_true (Nat.lt_of_le_of_lt (List.length_filter_le _ _) room)
  unfold netJoin
  dsimp only
  rw [if_neg (by simp [join]), fits, if_pos rfl]
  rfl

/-! ### The statement -/

/-- Settles O34: each command is its group's operation, its lists' change or its accesses, with the one completion of an operation whose
agent answers. -/
theorem hostCommandsAct : Obligations.HostCommandsAct := by
  intro st a h o f answers is p g x asked u r m held withMembers port reg vals
  have runs {opc : Nat} (found : is opc) {cmd : State → CmdOp → State} {t : State} (acts : cmd st o = t) :
      Host.Outcome.next (withOp st a.val h.toNat opc cmd) = (.next t : Res) := by rw [withOp_of_found found, acts]
  have ends {opc : Nat} (found : is opc) {t : State} (answers : t.answers a.val) (status detail : Nat) (result : List Byte) :
      opEnd t o status detail result = finished t o status detail result :=
    opEnd_of_answers (by rwa [agent_of_opOf found]) status detail result
  have armed : u.answers a.val := (commitArmed_only st o).answers a.isLt answers
  refine ⟨fun found fresh refused => ?_, fun found fresh accepted wait => ?_, fun found fresh accepted wait => ?_, fun found started => ?_,
    fun found taken => ?_, fun found ending alone => ?_, fun found add => ?_, fun found rem => ?_, fun found leave => ?_,
    fun found join room => ?_, fun found after => ?_, fun found => ?_⟩
  · exact runs found ((commitCmd_of_fresh fresh).trans ((if_pos refused).trans (ends found armed _ _ _)))
  · exact runs found ((commitCmd_of_fresh fresh).trans ((if_neg (not_not.2 accepted)).trans ((if_neg (by simp [wait])).trans
      (ends found armed _ _ _))))
  · exact runs found ((commitCmd_of_fresh fresh).trans ((if_neg (not_not.2 accepted)).trans (if_pos wait)))
  · exact runs found (commitCmd_of_started started)
  · exact runs found ((commitCancel_refused taken).trans (ends found ((CmtOnly.setGroup st g _).answers a.isLt answers) _ _ _))
  · have unwaited : ∀ q ∈ st.host.ops, q.opc ≠ 0x20 := by
      intro q hq
      rw [alone, List.mem_singleton] at hq
      rw [hq, opc_of_opOf found]
      decide
    have ended := groupCancel_ends unwaited ending
    have only : CmtOnly st (groupCancel st g) := (CmtOnly.setGroup st g _).trans ended.only
    refine ⟨_, runs found ((commitCancel_ends unwaited ending).trans (ends found (only.answers a.isLt answers) _ _ _)), ?_, ?_, ?_, ?_,
      only.cells, only.mem, only.btc⟩
    · exact congrArg Group.state ended.group
    · exact congrArg Group.last ended.group
    · simp [finished, only.ops, alone]
    · simp [finished, only.fin]
  · refine runs found ((commitMember_adds add).trans ?_)
    by_cases takes : x.state = 0 ∧ memberValid st m = true ∧ held = false
    · refine (if_pos takes).trans (Eq.trans ?_ (if_pos takes).symm)
      by_cases listed : x.mem.contains m
      · rw [if_pos listed, if_pos (show (groupOf st o.arg).mem.contains (memberNamed o) = true from listed), ends found answers]
        exact congrArg (finished · o 0 0 []) (if_pos rfl).symm
      · rw [if_neg listed, if_neg (show ¬ (groupOf st o.arg).mem.contains (memberNamed o) = true from listed),
          ends found ((withMembers_only st _ _).answers a.isLt answers)]
        exact congrArg (finished · o 0 0 []) (if_neg (by simp)).symm
    · exact (if_neg takes).trans ((ends found answers _ _ _).trans (if_neg takes).symm)
  · refine runs found ((commitMember_removes rem).trans ?_)
    by_cases takes : x.state = 0 ∧ x.mem.contains m = true
    · exact (if_pos takes).trans ((ends found ((withMembers_only st _ _).answers a.isLt answers) _ _ _).trans (if_pos takes).symm)
    · exact (if_neg takes).trans ((ends found answers _ _ _).trans (if_neg takes).symm)
  · refine ⟨_, runs found ((netJoin_leaves leave).trans (ends found (answers_withJoins answers _) _ _ _)), rfl, fun y => ?_⟩
    simp only [withJoins, List.mem_filter, Bool.not_eq_true', List.contains_eq_mem, decide_eq_false_iff_not, mem_joinsNamed, not_exists,
      not_and, ne_eq]
    rfl
  · refine ⟨_, runs found ((netJoin_joins join room).trans (ends found (answers_withJoins answers _) _ _ _)), rfl, fun y => ?_⟩
    simp only [withJoins, List.mem_append, List.mem_filter, Bool.not_eq_true', List.contains_eq_mem, decide_eq_false_iff_not, mem_joinsNamed]
    rw [and_comm, or_and_left, and_iff_right (Classical.em _)]
  · have reads := regRd_reads st o
    rw [agent_of_opOf found] at reads
    exact runs found (reads.trans (ends found after _ _ _))
  · intro w kept after
    have writes : regWr st o f = opEnd w o 0 0 [] := regWr_of_kept (by rw [agent_of_opOf found]) kept
    exact runs found (cmd := fun s o => regWr s o f) (writes.trans (ends found after _ _ _))

end Sys2Proof.Machine
end

section
/-! Proofs: cistern ownership, cluster power and clearing (R245, R246, R248, R256, R257, R440, R467). -/

namespace Sys2Proof.Machine

/-! ### Cleared ranges and registers -/

theorem mget_mclearRange {α : Type} (z : α) (m : SMap α) (k n j : Nat) :
    mget z (mclearRange m k n) j = if k ≤ j ∧ j < k + n then z else mget z m j := by
  refine (mget_filter_index z (fun i => decide (i < k) || decide (k + n ≤ i)) m j).trans ?_
  by_cases inside : k ≤ j ∧ j < k + n
  · rw [if_pos inside, if_neg (by simp only [Bool.or_eq_true, decide_eq_true_eq]; omega)]
  · rw [if_neg inside, if_pos (by simp only [Bool.or_eq_true, decide_eq_true_eq]; omega)]

/-- The part `c` of a table cut into parts of `n` indexes, cleared. -/
theorem mget_mclearRange_part {α : Type} (z : α) (m : SMap α) {n : Nat} (positive : 0 < n) (c j : Nat) :
    mget z (mclearRange m (c * n) n) j = if j / n = c then z else mget z m j := by
  rw [mget_mclearRange]
  exact if_congr (by rw [Nat.div_eq_iff positive]; omega) rfl rfl

theorem rget_forEach_zeroed (l : List Nat) (s : State) (o x : Nat) :
    rget (forEach l s (fun s b => rset s (b + o) 0)) x = if x ∈ l.map (· + o) then 0 else rget s x := by
  induction l generalizing s with
  | nil => rfl
  | cons b l ih =>
    refine (ih (rset s (b + o) 0)).trans ?_
    rw [rget_rset, List.map_cons, ← ite_or]
    exact if_congr (by rw [List.mem_cons, or_comm]) rfl rfl

/-- CEL_ERR, CEL_FLAG, CEL_BVEC and CEL_BTASK of slot `k` (R78). -/
def slotRegs (k : Nat) : List Nat := [0x100400, 0x100600, 0x100800, 0x100A00, 0x100C00].map (· + (0x1000 * (k / 68) + 4 * (k % 68)))

theorem celErrA_mem_slotRegs (k : Nat) : celErrA k ∈ slotRegs k := by simp [slotRegs, celErrA, Nat.add_assoc]

theorem celBtaskA_mem_slotRegs (k : Nat) : celBtaskA k ∈ slotRegs k := by simp [slotRegs, celBtaskA, Nat.add_assoc]

theorem celSlotA_notMem_slotRegs (k : Nat) : celSlotA k ∉ slotRegs k := by
  simp only [slotRegs, celSlotA, List.map_cons, List.map_nil, List.mem_cons, List.not_mem_nil, or_false, not_or]
  omega

theorem lt_of_mem_slotRegs {k x : Nat} (slot : k < 16 * 68) (mem : x ∈ slotRegs k) : x < 0x111000 := by
  simp only [slotRegs, List.map_cons, List.map_nil, List.mem_cons, List.not_mem_nil, or_false] at mem
  omega

theorem rget_wipeSlotRegs (s : State) (k x : Nat) : rget (wipeSlotRegs s k) x = if x ∈ slotRegs k then 0 else rget s x :=
  rget_forEach_zeroed _ _ _ _

/-- From `s` to `t` nothing but control registers changes. -/
structure OnlyRegs (s t : State) : Prop where
  rest : { t with ctl := s.ctl } = s

theorem OnlyRegs.refl (s : State) : OnlyRegs s s := ⟨rfl⟩

theorem OnlyRegs.trans {a b c : State} (h : OnlyRegs a b) (k : OnlyRegs b c) : OnlyRegs a c :=
  ⟨(congrArg (fun u : State => { u with ctl := a.ctl }) k.rest).trans h.rest⟩

theorem OnlyRegs.rset (s : State) (a : Nat) (v : W32) : OnlyRegs s (rset s a v) := ⟨rfl⟩
theorem OnlyRegs.rputBit (s : State) (a i : Nat) (b : Bool) : OnlyRegs s (rputBit s a i b) := ⟨rfl⟩

theorem OnlyRegs.forEach {α : Type} {f : State → α → State} (round : ∀ t x, OnlyRegs t (f t x)) (l : List α) (s : State) :
    OnlyRegs s (forEach l s f) := by
  induction l generalizing s with
  | nil => exact .refl s
  | cons x l ih => exact (round s x).trans (ih (f s x))

theorem OnlyRegs.forN {f : State → Nat → State} (round : ∀ t x, OnlyRegs t (f t x)) (n : Nat) (s : State) : OnlyRegs s (forN n s f) :=
  .forEach round (List.range n) s

section
variable {s t : State} (h : OnlyRegs s t)
include h

theorem OnlyRegs.out : t.out = s.out := (congrArg State.out h.rest :)
theorem OnlyRegs.btc : t.btc = s.btc := (congrArg State.btc h.rest :)
theorem OnlyRegs.cells : t.cells = s.cells := (congrArg State.cells h.rest :)
theorem OnlyRegs.mem : t.mem = s.mem := (congrArg State.mem h.rest :)
theorem OnlyRegs.ex : t.ex = s.ex := (congrArg State.ex h.rest :)
theorem OnlyRegs.host : t.host = s.host := (congrArg State.host h.rest :)
theorem OnlyRegs.flt : t.flt = s.flt := (congrArg State.flt h.rest :)
theorem OnlyRegs.pwr : t.pwr = s.pwr := (congrArg State.pwr h.rest :)

end

theorem wipeSlotRegs_onlyRegs (s : State) (k : Nat) : OnlyRegs s (wipeSlotRegs s k) := .forEach (fun t _ => .rset t _ 0) _ s

/-! ### Owners -/

theorem cisOwnerWrite_locked {s : State} {fw : Bool} (closed : ¬ (fw = true ∨ rbit s 0x180A00 0 = true)) (k : Nat) (v : W32) (late : Bool) :
    cisOwnerWrite s fw k v late = s := if_pos (by simpa using closed)

theorem cisOwnerWrite_admitted {s : State} {fw : Bool} (may : fw = true ∨ rbit s 0x180A00 0 = true) (k : Nat) (v : W32) (late : Bool) :
    cisOwnerWrite s fw k v late = cisRequest s k (fld v 0 4) (bitOf v 23) (fld v 24 8) late :=
  if_neg (by simpa [or_iff_not_imp_left] using may)

/-- The request's AT and CG, put down in CIS_OWNER (R246). -/
def cisAsked (s : State) (k : Nat) (at_ : Bool) (cg : Nat) : State := rput (rputBit s (cisOwnerA k) 23 at_) (cisOwnerA k) 24 8 cg

theorem cisOwner_cisAsked (s : State) (k : Nat) (at_ : Bool) (cg : Nat) : cisOwner (cisAsked s k at_ cg) k = cisOwner s k := by
  unfold cisOwner cisAsked rputBit
  rw [rfld_rput_other _ _ _ _ _ _ _ _ (by decide) (by omega), rfld_rput_other _ _ _ _ _ _ _ _ (by decide) (by omega)]

section
variable {s : State} {k o : Nat} {at_ : Bool} (cg : Nat) (late : Bool)

theorem cisRequest_refused (bad : o > 6 ∨ (o ≤ 1 ∧ rbit s (cisStatA k) 30 = false)) : cisRequest s k o at_ cg late = cisErr s k 5 :=
  if_pos (by simpa using bad)

theorem cisRequest_accepted (good : ¬ (o > 6 ∨ (o ≤ 1 ∧ rbit s (cisStatA k) 30 = false))) : cisRequest s k o at_ cg late =
    if (!at_ && !cisFabricMove (cisAsked s k at_ cg) k o) = true then cisSetOwner (cisAsked s k at_ cg) k o
    else { rput (rsetBit (cisAsked s k at_ cg) (cisOwnerA k) 22) (cisOwnerA k) 16 4 o with cisLate := mset false s.cisLate k (late && !at_) } :=
  if_neg (by simpa using good)

/-- An accepted request takes effect where neither owner is the fabric or the Wellhead and no group is waited for (R246). -/
theorem takesEffect_iff : (!at_ && !cisFabricMove (cisAsked s k at_ cg) k o) = true ↔ at_ = false ∧ 2 ≤ cisOwner s k ∧ 2 ≤ o := by
  simp [cisFabricMove, cisOwner_cisAsked, Nat.succ_le_iff]

theorem cisRequest_takes_effect (good : ¬ (o > 6 ∨ (o ≤ 1 ∧ rbit s (cisStatA k) 30 = false)))
    (transfer : at_ = false ∧ 2 ≤ cisOwner s k ∧ 2 ≤ o) : cisRequest s k o at_ cg late = cisSetOwner (cisAsked s k at_ cg) k o :=
  (cisRequest_accepted cg late good).trans (if_pos ((takesEffect_iff cg).2 transfer))

theorem cisRequest_pends (good : ¬ (o > 6 ∨ (o ≤ 1 ∧ rbit s (cisStatA k) 30 = false)))
    (waits : ¬ (at_ = false ∧ 2 ≤ cisOwner s k ∧ 2 ≤ o)) : cisRequest s k o at_ cg late =
      { rput (rsetBit (cisAsked s k at_ cg) (cisOwnerA k) 22) (cisOwnerA k) 16 4 o with cisLate := mset false s.cisLate k (late && !at_) } :=
  (cisRequest_accepted cg late good).trans (if_neg fun effect => waits ((takesEffect_iff cg).1 effect))

end

/-! ### Power of a cluster's cisterns -/

theorem setCisPower_onlyRegs (s : State) (c : Nat) (clr pwr : Bool) : OnlyRegs s (setCisPower s c clr pwr) :=
  .forN (fun t _ => (OnlyRegs.rputBit t _ 31 clr).trans (.rputBit _ _ 30 pwr)) 8 s

theorem rbit_setCisPower (s : State) (c : Nat) (clr pwr : Bool) : ∀ j, j < 8 →
    rbit (setCisPower s c clr pwr) (cisStatA (8 * c + j)) 31 = clr ∧ rbit (setCisPower s c clr pwr) (cisStatA (8 * c + j)) 30 = pwr := by
  refine forN_induction (P := fun t n => ∀ j, j < n → rbit t (cisStatA (8 * c + j)) 31 = clr ∧ rbit t (cisStatA (8 * c + j)) 30 = pwr)
    _ 8 (by omega) fun t i _ h j hj => ?_
  simp only [rbit_rputBit _ _ _ _ _ _ (show 31 < 32 by decide), rbit_rputBit _ _ _ _ _ _ (show 30 < 32 by decide)]
  by_cases last : j = i
  · simp [last]
  · have other : cisStatA (8 * c + j) ≠ cisStatA (8 * c + i) := by unfold cisStatA; omega
    simpa [other] using h j (by omega)

theorem rget_setCisPower_other (s : State) (c : Nat) (clr pwr : Bool) {x : Nat} (outside : x < cisStatA (8 * c) ∨ cisStatA (8 * c + 8) ≤ x) :
    rget (setCisPower s c clr pwr) x = rget s x := by
  refine forN_induction (P := fun t _ => rget t x = rget s x) _ 8 rfl fun t i hi h => ?_
  have other : x ≠ cisStatA (8 * c + i) := by unfold cisStatA at *; omega
  rw [rget_rputBit_other _ _ _ _ _ other, rget_rputBit_other _ _ _ _ _ other, h]

/-! ### The lift of an isolation -/

/-- Cluster `c` has left the queue and is in step 2 of R467. -/
def clearingBegun (s : State) (c : Nat) : State := onPwr (setPwrStep s c 2) (fun p => { p with queue := p.queue.tail })

theorem isolationLift_first {s : State} {c : Nat} (step : pwrStep s c = 1) (first : s.pwr.queue.head? = some c) :
    isolationLift s c = setCisPower (clearingBegun s c) c true true := if_pos ⟨first, step⟩

theorem isolationLift_other {s : State} {c : Nat} (other : pwrStep s c ≠ 1 ∨ s.pwr.queue.head? ≠ some c) : isolationLift s c = s :=
  if_neg fun ⟨first, step⟩ => other.elim (· step) (· first)

theorem isolationLift_pwr {s : State} {c : Nat} (step : pwrStep s c = 1) (first : s.pwr.queue.head? = some c) :
    (isolationLift s c).pwr = (clearingBegun s c).pwr := by
  rw [isolationLift_first step first]
  exact (setCisPower_onlyRegs _ c true true).pwr

theorem pwrStep_isolationLift {s : State} {c : Nat} (step : pwrStep s c = 1) (first : s.pwr.queue.head? = some c) (j : Nat) :
    pwrStep (isolationLift s c) j = if j = c then 2 else pwrStep s j := by
  unfold pwrStep
  rw [isolationLift_pwr step first]
  exact mget_mset 0 s.pwr.step c j 2

theorem isolationLift_rest {s : State} {c : Nat} (step : pwrStep s c = 1) (first : s.pwr.queue.head? = some c) :
    { isolationLift s c with ctl := s.ctl, pwr := s.pwr } = s := by
  rw [isolationLift_first step first]
  exact congrArg (fun t : State => { t with ctl := s.ctl, pwr := s.pwr }) (setCisPower_onlyRegs (clearingBegun s c) c true true).rest

/-! ### The clearing of a cluster -/

theorem Settles.pwr {s t : State} (h : Settles s t) : t.pwr = s.pwr := (congrArg State.pwr h.rest :)
theorem Settles.flt {s t : State} (h : Settles s t) : t.flt = s.flt := (congrArg State.flt h.rest :)
theorem Settles.btc {s t : State} (h : Settles s t) : t.btc = s.btc := (congrArg State.btc h.rest :)

/-- What cluster `c` holds beside its registers, cleared (R18, R256). -/
def contentsWiped (s : State) (c : Nat) : State :=
  { s with mem := memWipe s.mem c, cells := mclearRange s.cells (c * 68) 68, ex := exchWipe s.ex c, wel := welWipe s.wel c }

/-- The registers of a cluster's slots, cleared (R54). -/
def slotRegsWiped (s : State) (c : Nat) : State := forN 68 s (fun s j => wipeSlotRegs s (c * 68 + j))

theorem slotRegsWiped_onlyRegs (s : State) (c : Nat) : OnlyRegs s (slotRegsWiped s c) :=
  .forN (fun t j => wipeSlotRegs_onlyRegs t (c * 68 + j)) 68 s

theorem rget_slotRegsWiped_other (s : State) {c x : Nat} (hc : c < 16) (above : 0x111000 ≤ x) : rget (slotRegsWiped s c) x = rget s x := by
  refine forN_induction (P := fun t _ => rget t x = rget s x) _ 68 rfl fun t j hj h => ?_
  have other : x ∉ slotRegs (c * 68 + j) := fun mem => absurd (lt_of_mem_slotRegs (by omega) mem) (by omega)
  exact (rget_wipeSlotRegs t _ x).trans ((if_neg other).trans h)

/-- Cluster `c` cleared, but for what its fence flag does. -/
def clusterWiped (s : State) (c : Nat) : State :=
  rputBit (rputBit (slotRegsWiped (contentsWiped s c) c) (0x120000 + 0x1000 * c) 0 false) (welStatA c) 0 false

theorem wipeCluster_eq (s : State) (c : Nat) : wipeCluster s c = fenceFlag (clusterWiped s c) c := rfl

theorem clusterWiped_onlyRegs (s : State) (c : Nat) : OnlyRegs (contentsWiped s c) (clusterWiped s c) :=
  (slotRegsWiped_onlyRegs (contentsWiped s c) c).trans ((OnlyRegs.rputBit _ _ 0 false).trans (.rputBit _ _ 0 false))

theorem liveTable_clusterWiped (s : State) (c : Nat) : liveTable (clusterWiped s c) c = {} := by
  have ex : (clusterWiped s c).ex = exchWipe s.ex c := (clusterWiped_onlyRegs s c).ex
  unfold liveTable
  rw [ex]
  exact congrArg (·.getD {}) (mget_mset_same none s.ex.live c none)

theorem rbit_clusterWiped_fence (s : State) {c : Nat} (hc : c < 16) : rbit (clusterWiped s c) (xchErrA c) 3 = rbit s (xchErrA c) 3 := by
  have notWel : xchErrA c ≠ welStatA c := by unfold xchErrA welStatA; omega
  have notXch : xchErrA c ≠ 0x120000 + 0x1000 * c := by unfold xchErrA; omega
  have above : 0x111000 ≤ xchErrA c := by unfold xchErrA; omega
  unfold rbit clusterWiped
  rw [rget_rputBit_other _ _ _ _ _ notWel, rget_rputBit_other _ _ _ _ _ notXch, rget_slotRegsWiped_other _ hc above]
  rfl

/-- Without lanes no driver is fenced. -/
theorem fenceFlag_of_no_table {s : State} {c : Nat} (unlaned : liveTable s c = {}) : fenceFlag s c =
    if rbit s (xchErrA c) 3 = false then s else evClusterFlags (rputBit s (xchErrA c) 3 false) c := by
  unfold fenceFlag
  rw [unlaned]
  rfl

theorem wipeCluster_unfenced {s : State} {c : Nat} (hc : c < 16) (unfenced : rbit s (xchErrA c) 3 = false) :
    wipeCluster s c = clusterWiped s c :=
  (fenceFlag_of_no_table (liveTable_clusterWiped s c)).trans (if_pos ((rbit_clusterWiped_fence s hc).trans unfenced))

/-- A cleared cluster settles from a state that holds nothing of it. -/
theorem wipeCluster_settles (s : State) {c : Nat} (hc : c < 16) :
    ∃ u, OnlyRegs (contentsWiped s c) u ∧ Settles u (wipeCluster s c) := by
  by_cases fenced : rbit (clusterWiped s c) (xchErrA c) 3 = false
  · refine ⟨clusterWiped s c, clusterWiped_onlyRegs s c, ?_⟩
    rw [wipeCluster_eq, fenceFlag_of_no_table (liveTable_clusterWiped s c), if_pos fenced]
    exact .refl _
  · refine ⟨rputBit (clusterWiped s c) (xchErrA c) 3 false, (clusterWiped_onlyRegs s c).trans (.rputBit _ _ 3 false), ?_⟩
    rw [wipeCluster_eq, fenceFlag_of_no_table (liveTable_clusterWiped s c), if_neg fenced]
    exact evClusterFlags_settles (.refl _) c hc

theorem clearingDone_clears {s : State} {c : Nat} (step : pwrStep s c = 2) :
    clearingDone s c = rsetBit (setCisPower (wipeCluster (setPwrStep s c 3) c) c false true) 0x480000 c := if_pos step

theorem clearingDone_other {s : State} {c : Nat} (other : pwrStep s c ≠ 2) : clearingDone s c = s := if_neg other

/-- From `s` to `t`, cluster `c` has been cleared and is powered (R256, R467). -/
structure ClusterCleared (s t : State) (c : Nat) : Prop where
  mem : t.mem = memWipe s.mem c
  cells : t.cells = mclearRange s.cells (c * 68) 68
  pwr : t.pwr = (setPwrStep s c 3).pwr
  flt : t.flt = s.flt
  btc : t.btc = s.btc
  clon : rbit t 0x480000 c = true
  stat : ∀ j, j < 8 → rbit t (cisStatA (8 * c + j)) 31 = false ∧ rbit t (cisStatA (8 * c + j)) 30 = true

theorem clearingDone_onlyRegs {s : State} {c : Nat} (step : pwrStep s c = 2) :
    OnlyRegs (wipeCluster (setPwrStep s c 3) c) (clearingDone s c) := by
  rw [clearingDone_clears step]
  exact (setCisPower_onlyRegs _ c false true).trans (.rputBit _ _ c true)

theorem clearingDone_clusterCleared {s : State} {c : Nat} (hc : c < 16) (step : pwrStep s c = 2) : ClusterCleared s (clearingDone s c) c := by
  obtain ⟨u, wiped, settles⟩ := wipeCluster_settles (setPwrStep s c 3) hc
  have only := clearingDone_onlyRegs step
  refine ⟨only.mem.trans (settles.mem.trans wiped.mem), only.cells.trans (settles.cells.trans wiped.cells),
    only.pwr.trans (settles.pwr.trans wiped.pwr), only.flt.trans (settles.flt.trans wiped.flt),
    only.btc.trans (settles.btc.trans wiped.btc), ?_, fun j hj => ?_⟩
  · rw [clearingDone_clears step, rbit_rsetBit _ _ _ _ _ (by omega), if_pos ⟨rfl, rfl⟩]
  · have other : cisStatA (8 * c + j) ≠ 0x480000 := by unfold cisStatA; omega
    rw [clearingDone_clears step, rbit_rsetBit _ _ _ _ _ (by omega), rbit_rsetBit _ _ _ _ _ (by omega), if_neg (other ·.1), if_neg (other ·.1)]
    exact rbit_setCisPower _ c false true j hj

/-- A cluster with no fence flag set is cleared without an event. -/
theorem clearingDone_silent {s : State} {c : Nat} (hc : c < 16) (step : pwrStep s c = 2) (unfenced : rbit s (xchErrA c) 3 = false) :
    (clearingDone s c).host = s.host ∧ (clearingDone s c).out = s.out := by
  have only := clearingDone_onlyRegs step
  have wiped := clusterWiped_onlyRegs (setPwrStep s c 3) c
  rw [wipeCluster_unfenced (s := setPwrStep s c 3) hc unfenced] at only
  exact ⟨only.host.trans wiped.host, only.out.trans wiped.out⟩

section
variable {s t : State} {c : Nat} (h : ClusterCleared s t c)
include h

theorem ClusterCleared.cisWord (y : Nat) : cisWord t y = if y / 0x80000 = c then 0 else cisWord s y := by
  unfold Machine.cisWord
  rw [h.mem]
  exact mget_mclearRange_part 0 s.mem.cist (by decide) c y

theorem ClusterCleared.cellWords (y : Nat) : mget 0 t.mem.cell y = if y / 0x4000 / 68 = c then 0 else mget 0 s.mem.cell y := by
  have part := mget_mclearRange_part 0 s.mem.cell (n := 68 * 0x4000) (by decide) c y
  rw [← Nat.mul_assoc, Nat.mul_comm 68 0x4000, ← Nat.div_div_eq_div_mul] at part
  rw [h.mem]
  exact part

theorem ClusterCleared.cellAt (j : Nat) : cellAt t j = if j / 68 = c then {} else cellAt s j := by
  unfold Machine.cellAt
  rw [h.cells]
  exact mget_mclearRange_part {} s.cells (n := 68) (by decide) c j

theorem ClusterCleared.pwrStep : pwrStep t c = 3 := by
  unfold Machine.pwrStep
  rw [h.pwr]
  exact mget_mset_same 0 s.pwr.step c 3

end

/-! ### The clearing of a slot -/

theorem slotCleared_clears {s : State} {k : Nat} (clearing : slotState s k = 4) : slotCleared s k = wipeSlot s k := if_pos clearing

theorem slotCleared_other {s : State} {k : Nat} (other : slotState s k ≠ 4) : slotCleared s k = s := if_neg other

/-- What slot `k` holds beside its registers, cleared (R54). -/
def slotContentsWiped (s : State) (k : Nat) : State :=
  { s with cells := mset {} s.cells k {},
           mem := { s.mem with cell := mclearRange s.mem.cell (k * 0x4000) 0x4000, mark := mclearRange s.mem.mark (k * 0x4000) 0x4000,
                               page := mclearRange s.mem.page (k * 2) 2 } }

theorem wipeSlot_onlyRegs (s : State) (k : Nat) : OnlyRegs (slotContentsWiped s k) (wipeSlot s k) := wipeSlotRegs_onlyRegs _ k

theorem wipeSlot_rest (s : State) (k : Nat) : { wipeSlot s k with ctl := s.ctl, cells := s.cells, mem := s.mem } = s :=
  congrArg (fun u : State => { u with ctl := s.ctl, cells := s.cells, mem := s.mem }) (wipeSlot_onlyRegs s k).rest

theorem rget_wipeSlot (s : State) (k x : Nat) : rget (wipeSlot s k) x = if x ∈ slotRegs k then 0 else rget s x :=
  rget_wipeSlotRegs (slotContentsWiped s k) k x

theorem slotState_wipeSlot (s : State) (k : Nat) : slotState (wipeSlot s k) k = slotState s k := by
  unfold slotState rfld
  rw [rget_wipeSlot, if_neg (celSlotA_notMem_slotRegs k)]

theorem rget_wipeSlot_celErrA (s : State) (k : Nat) : rget (wipeSlot s k) (celErrA k) = 0 :=
  (rget_wipeSlot s k _).trans (if_pos (celErrA_mem_slotRegs k))

theorem rget_wipeSlot_celBtaskA (s : State) (k : Nat) : rget (wipeSlot s k) (celBtaskA k) = 0 :=
  (rget_wipeSlot s k _).trans (if_pos (celBtaskA_mem_slotRegs k))

theorem cellAt_wipeSlot (s : State) (k j : Nat) : cellAt (wipeSlot s k) j = if j = k then {} else cellAt s j := by
  unfold cellAt
  rw [(wipeSlot_onlyRegs s k).cells]
  exact mget_mset {} s.cells k j {}

theorem cell_wipeSlot (s : State) (k y : Nat) : mget 0 (wipeSlot s k).mem.cell y = if y / 0x4000 = k then 0 else mget 0 s.mem.cell y := by
  rw [(wipeSlot_onlyRegs s k).mem]
  exact mget_mclearRange_part 0 s.mem.cell (by decide) k y

/-! ### The statement -/

/-- Settles O41: an owner's write is one request, a lift and a clearing each run in their own step of R467 alone, and what they clear
is a range of each table. -/
theorem cisternsOwnedAndCleared : Obligations.CisternsOwnedAndCleared := by
  unfold Obligations.CisternsOwnedAndCleared
  intro st k c s v fw late a o may bad asked transfer q
  have runs : exec (.cisOwnerWrite fw k v late) st = .next (cisOwnerWrite st fw k.val v late) := rfl
  have request : may → exec (.cisOwnerWrite fw k v late) st = .next (cisRequest st k.val o (bitOf v 23) (fld v 24 8) late) :=
    fun open_ => runs.trans (congrArg _ (cisOwnerWrite_admitted open_ k.val v late))
  refine ⟨fun closed => ?_, fun open_ refused => ?_, fun open_ good moves => ?_, fun open_ good waits => ?_, rfl, fun step first => ?_,
    fun other => ?_, fun step => ?_, fun other => ?_, fun clearing => ?_, fun other => ?_⟩
  · exact runs.trans (congrArg _ (cisOwnerWrite_locked closed k.val v late))
  · exact ⟨_, (request open_).trans (congrArg _ (cisRequest_refused _ _ refused)), cisErr_settles st (by omega) 5⟩
  · exact (request open_).trans (congrArg _ (cisRequest_takes_effect _ _ good moves))
  · exact (request open_).trans (congrArg _ (cisRequest_pends _ _ good waits))
  · have lifted := isolationLift_first step first
    have steps := pwrStep_isolationLift step first
    refine ⟨isolationLift st c.val, rfl, (steps _).trans (if_pos rfl), isolationLift_rest step first, ?_, fun j other => (steps j).trans (if_neg other),
      congrArg PwrSt.queue (isolationLift_pwr step first), fun x outside => ?_⟩
    · rw [lifted]
      exact rbit_setCisPower _ _ true true
    · rw [lifted]
      exact rget_setCisPower_other _ _ _ _ outside
  · exact congrArg Host.Outcome.next (isolationLift_other other)
  · have cleared := clearingDone_clusterCleared c.isLt step
    exact ⟨_, rfl, cleared.pwrStep, cleared.clon, cleared.stat, cleared.cisWord, cleared.cellWords, cleared.cellAt, cleared.flt, cleared.btc,
      clearingDone_silent c.isLt step⟩
  · exact congrArg Host.Outcome.next (clearingDone_other other)
  · refine ⟨wipeSlot st q, congrArg Host.Outcome.next (slotCleared_clears clearing), (slotState_wipeSlot st q).trans clearing,
      (cellAt_wipeSlot st q q).trans (if_pos rfl), fun j other => (cellAt_wipeSlot st q j).trans (if_neg other), cell_wipeSlot st q,
      (congrArg MemSt.cist (wipeSlot_onlyRegs st q).mem :), rget_wipeSlot_celErrA st q, rget_wipeSlot_celBtaskA st q, wipeSlot_rest st q⟩
  · exact congrArg Host.Outcome.next (slotCleared_other other)

end Sys2Proof.Machine
end
